-- ==== Sys2Proof/Word.lean ====
section
/-!
DEFINITION. The word types of the PX2416: 32-bit register and memory words, 64-bit ring words,
bytes, and the plain arithmetic on them.
-/

namespace Sys2Proof

/-- A 32-bit word: a register (R348), a thread register (R21) or a memory word (R27). -/
abbrev Word := BitVec 32

/-- A byte of memory. -/
abbrev Byte := BitVec 8

/-- The 64 data bits of a ring word (R184). -/
abbrev DWord := BitVec 64

/-- A thread number T0 to T31 (R20). -/
abbrev Tid := Fin 32

/-- A ticket slot k0 to k15 (R36). -/
abbrev SlotNo := Fin 16

/-- A UHF port U0 to U15 (R9). -/
abbrev UPortNo := Fin 16

/-- An HF port H0 to H7 (R9). -/
abbrev HPortNo := Fin 8

/-- A ring number by R41: 0 to 15 are I0 to I15, 16 to 31 are E0 to E15. -/
abbrev RingNo := Fin 32

/-- A local oscillator LO0 to LO3 (R11). -/
abbrev LoNo := Fin 4

end Sys2Proof
end

