-- ==== Sys2Proof/Syntax.lean ====
section
/-!
DEFINITION. The commands of the PX2416, one constructor of `Instr` per row of spec/opcode_table.json,
with the operands each row carries.  A thread instruction carries the thread that issues it and the
fields of its format (R31); a register write carries the value written; an event carries what the
outside world (the air, a pin, a supply, the clock) supplies with it.
-/

namespace Sys2Proof

/-- One issue slot of a thread: the thread, whether the program-store or XIP line it fetches from fails its
parity check (R30, R222), whether a data, descriptor or ring word it reads does (R30, R184, R321), and
whether the register bus (R45) or the descriptor copy of the air engine (R37) is contended in this slot. -/
structure Issue where
  thread    : Tid
  fetchErr  : Bool := false
  dataErr   : Bool := false
  contended : Bool := false
deriving DecidableEq, Repr

/-- Format A of R31: rd, ra, rb and fn. -/
structure AFields where
  rd : BitVec 4
  ra : BitVec 4
  rb : BitVec 4
  fn : BitVec 14
deriving DecidableEq, Repr

/-- Formats I, M and K of R31: two register or slot fields and an 18-bit immediate. -/
structure IFields where
  rd  : BitVec 4
  ra  : BitVec 4
  imm : BitVec 18
deriving DecidableEq, Repr

/-- Format B of R31: cond and off22. -/
structure BFields where
  cond : BitVec 4
  off  : BitVec 22
deriving DecidableEq, Repr

/-- An air operation is named by its thread and ticket slot (R36). -/
structure OpId where
  thread : Tid
  slot   : SlotNo
deriving DecidableEq, Repr

/-- The party that makes a register-bus access (R45, R308, R348). -/
inductive Agent where
  | host
  | thread (t : Tid)
  | tap
deriving DecidableEq, Repr

/-- What happens at the ends of a select besides its words: whether the device was ready (the select
began at least tRDY after the previous one, R211), whether the host clocked the reply to its CRC
word (R218), and whether it ended at a word boundary (R217, R218). -/
structure SelectInfo where
  ready    : Bool := true
  full     : Bool := true
  boundary : Bool := false
deriving DecidableEq, Repr

/-- A host frame of R205 as it arrives: alive value, flags, body and CRC word. -/
structure HostFrame where
  alive : BitVec 8
  flags : BitVec 8
  body  : List Word
  crc   : Word
  sel   : SelectInfo := {}
deriving DecidableEq, Repr

/-- What one port measures on a reply's preamble (R100, R109): the reply power at URXn in 1/16 dBm, its SNR in
1/8 dB, and the carrier phase in 1/1024 cycle before the receive correction of R87. -/
structure PortRx where
  power : Int := -3200
  snr   : Int := -800
  phase : BitVec 10 := 0
deriving DecidableEq, Repr

/-- The end of a reply preamble on a beam (R99, R100, R109): the link frequency measured from it in Hz, and what
each port measures, entry n for Un. -/
structure PreambleData where
  freq : Nat
  rx   : List PortRx
deriving DecidableEq, Repr

/-- A backscatter reply at its end (R99, R100, R107): its bits between preamble and dummy 1, first on the air
first; when replies overlapped, the lead of the strongest over the sum of the others in 1/8 dB; and by how many Hz
its link frequency drifted. -/
structure ReplyData where
  bits   : List Bool
  lead   : Option Int := none
  drift  : Nat := 0
  poison : Bool := false   -- a residue recomputation left it unrecoverable (R324)
deriving DecidableEq, Repr

/-- An HF reply (R143, R144, R146): its data bits as demodulated, SOF and EOF of the coding aside, first on the air
first, Type A's parity bits among them; the first bit that collided, if any; the ticks since the detection of its
start of frame, and the duration of that start in carrier cycles at the measured rate; and whether its end of frame
has come. -/
structure HfReply where
  bits   : List Bool
  coll   : Option Nat := none
  det    : Nat
  sof    : Nat
  eof    : Bool := true
  poison : Bool := false   -- a residue recomputation left it unrecoverable (R324)
deriving DecidableEq, Repr

/-- What an HF port's monitors show, and for how many carrier cycles they have shown it (R156): the driver current in
mA peak, the antenna voltage in mV peak to peak, the DC of HTXPn and HTXNn in thousandths of the driver rail and
whether it is at the rail, and the DC of HRXPn and HRXNn in thousandths of VDDA18. -/
structure HfSense where
  cycles  : Nat
  current : Nat
  vant    : Nat
  txDc    : Nat := 500
  atRail  : Bool := true
  rxDc    : Nat := 500
deriving DecidableEq, Repr

/-- One burst of a card-watch scan (R152): the port and the complex mean x of its response, and the
change M = 4,096 |x - b| / |b| of R152 (a real number, supplied rounded down). -/
structure WatchSample where
  port : HPortNo
  xi   : BitVec 16
  xq   : BitVec 16
  m    : Nat
deriving DecidableEq, Repr

/-- What the air and the sensors show in the first 50 µs of a K.CAL run (R273): the strongest foreign carrier
within ±20 MHz of the LO at URXn and, in a K.CAL DPD, UFBn during the settle, both in 0.25 dBm. -/
structure CalChecks where
  foreign : Int := -400
  fb      : Int := 0
deriving DecidableEq, Repr

/-- What a K.CAL measurement found (R270 to R275): the quality figure in 1/16 of its unit, the new values, and
what the sensors and the air showed meanwhile. LBT, HDI and TSN compute their quality from the
values. -/
structure CalResult where
  quality : BitVec 16 := 0
  values  : List Int := []
  sensors : List Int := []   -- TSN: the 8 trimmed sensors, 1/16 °C (R275)
  foreign : Int := -400      -- the strongest foreign carrier, 0.25 dBm (R274)
  before  : BitVec 16 := 0   -- DPD: ACPR without DPD, 1/16 dBc (R275)
  fb      : Int := 0         -- DPD: UFBn over the capture, 0.25 dBm (R92)
  follows : Bool := false    -- DPD: that level follows the reflection and not the drive (R92)
  opposed : Bool := false    -- HDI: the receive phase sign is opposite to the drive (R156)
  tunes   : List (Option Nat) := []   -- LBT: VTUNE of each entry in %, none where it did not lock (R275)
  poison  : Bool := false    -- a residue mismatch fell within it (R324)
deriving DecidableEq, Repr

/-- What a UHF port's monitors show, and for how many µs they have shown it (R92): the return loss in 1/16 dB
and its phase at the antenna plane, the DC of UTXn and URXn in thousandths of VDDRF, the driver current in % of
that expected for its level, and the level at UFBn in 0.25 dBm with whether it follows the reflection. -/
structure UhfSense where
  us      : Nat
  rl      : Nat := 320
  phase   : BitVec 10 := 0
  txDc    : Nat := 500
  rxDc    : Nat := 500
  current : Nat := 100
  fb      : Int := 0
  follows : Bool := false
deriving DecidableEq, Repr

/-- A mains frame as it was received (R232 to R236): its 96 frame-control bits, whether its preamble appeared
negated, the signal power of carriers 76 to 1057 measured on it (none of a frame too damaged to give one), and its
segments of 128 words as decoded. -/
structure MlFrame where
  fc      : BitVec 96
  negated : Bool
  level   : List Nat
  segs    : List (List Word)
deriving DecidableEq, Repr

/-- What a station sends at its opportunity (R242, R243): the kind of frame, and the egress ring for data. -/
inductive MlTxKind where
  | data (ring : Fin 16)
  | management
  | sounding
  | sack
deriving DecidableEq, Repr

/-- One opportunity to transmit on the mains link; `bad` names the ring words the frame takes that fail their parity
check (R184), and `seen` says whether the station saw its own preamble (R326). -/
structure MlTx where
  kind : MlTxKind
  bad  : List Nat
  seen : Bool
deriving DecidableEq, Repr

/-- The items of the nonvolatile store whose CRC fails at a start-up (R122, R315, R320): the Atlas, the newer
profile bank, the snapshot, the stored band tables, and calibration sets by their place in the store. -/
structure StoreFaults where
  atlas : Bool := false
  bank  : Bool := false
  snap  : Bool := false
  bands : Bool := false
  sets  : List Nat := []
deriving DecidableEq, Repr

/-- The commands of the PX2416, one per row of spec/opcode_table.json, in the table's order. -/
inductive Instr where
  -- Benlon thread instructions (R31 to R52)
  | add (i : Issue) (f : AFields)
  | sub (i : Issue) (f : AFields)
  | and (i : Issue) (f : AFields)
  | or (i : Issue) (f : AFields)
  | xor (i : Issue) (f : AFields)
  | shl (i : Issue) (f : AFields)
  | shr (i : Issue) (f : AFields)
  | sar (i : Issue) (f : AFields)
  | mul (i : Issue) (f : AFields)
  | min (i : Issue) (f : AFields)
  | max (i : Issue) (f : AFields)
  | cmp (i : Issue) (f : AFields)
  | addi (i : Issue) (f : IFields)
  | andi (i : Issue) (f : IFields)
  | ori (i : Issue) (f : IFields)
  | lui (i : Issue) (f : IFields)
  | ld (i : Issue) (f : IFields)
  | st (i : Issue) (f : IFields)
  | ldio (i : Issue) (f : IFields)
  | stio (i : Issue) (f : IFields)
  | b (i : Issue) (f : BFields)
  | call (i : Issue) (f : BFields)
  | ret (i : Issue) (f : AFields)
  | air (i : Issue) (f : IFields)
  | waitk (i : Issue) (f : IFields)
  | testk (i : Issue) (f : IFields)
  | waitany (i : Issue) (f : IFields)
  | canck (i : Issue) (f : IFields)
  | push (i : Issue) (f : AFields)
  | pop (i : Issue) (f : AFields)
  | crcw (i : Issue) (f : AFields)
  | crcf (i : Issue) (f : AFields)
  | tbr (i : Issue) (f : AFields)
  | sleepu (i : Issue) (f : IFields)
  | evw (i : Issue) (f : AFields)
  | evs (i : Issue) (f : AFields)
  | halt (i : Issue) (f : AFields)
  | trap (i : Issue) (f : IFields)
  | nop (i : Issue) (x : BitVec 26)
  -- thread transitions and THREAD registers
  | waitConditionMet (t : Tid) (dataErr : Bool)
  | sleepuExpiry (t : Tid)
  | waitanyTimeout (t : Tid)
  | evwTimeout (t : Tid)
  | threadReset (t : Tid) (v : Word)
  | threadHalt (t : Tid) (v : Word)
  | threadStart (t : Tid) (v : Word)
  | evsetWrite (t : Tid) (v : Word)
  | semaphoreRead (k : Fin 32)
  | semaphoreRelease (k : Fin 32)
  | registerWrite (by_ : Agent) (addr v : Word)
  | refetchLineRewritten (line : BitVec 13) (data : List Word) (failed : Bool)
  -- the air engine
  | startTimeReached (o : OpId)
  | operationDispatch (o : OpId)
  | operationExpiry (o : OpId)
  | cancelall (v : Word)
  | heldItemWritten (o : OpId)
  | uSelect (o : OpId)
  | uRound (o : OpId)
  | uAccess (o : OpId)
  | uRaw (o : OpId)
  | hField (o : OpId)
  | hActivate (o : OpId)
  | hFrame (o : OpId) (parityErr : Bool)
  | hWatch (o : OpId)
  | cListen (o : OpId)
  | cSend (o : OpId) (parityErr : Bool)
  | sFix (o : OpId)
  | kCalCnc (o : OpId)
  | kCalIqr (o : OpId)
  | kCalDpd (o : OpId)
  | kCalPph (o : OpId)
  | kCalLbt (o : OpId)
  | kCalHdi (o : OpId)
  | kCalHro (o : OpId)
  | kCalMag (o : OpId)
  | kCalTsn (o : OpId)
  | calPreconditionsEnd (o : OpId) (c : CalChecks)
  | spareSwitch (o : OpId)
  | calMeasurementEnd (o : OpId) (r : CalResult)
  | trimApplyStep
  | calNvWriteDone (o : OpId)
  | temperatureRecompute
  -- UHF ports and the backscatter engine
  | carrierSettled (o : OpId) (dt : Nat)
  | holdoverExpiry (p : UPortNo)
  | lbtListenEnd (o : OpId) (levels : List Int)
  | replyPreambleDetected (o : OpId) (dt : Nat) (d : PreambleData)
  | noReplyDecision (o : OpId) (energy : List Int)
  | collisionDecision (o : OpId) (onset : Nat) (energy : List Int)
  | replyEnd (o : OpId) (dt : Nat) (r : ReplyData)
  | dwellBoundary (o : OpId) (dt : Nat)
  | meterResume (o : OpId)
  | solveComplete (o : OpId) (poison : Bool)
  | uhfPortFault (p : UPortNo) (m : UhfSense)
  | uhfFaultProbe (p : UPortNo) (pass : Bool)
  | uhfFaultClear (p : UPortNo) (v : Word)
  | uhfPortDisable (p : UPortNo) (v : Word)
  | cancellerTrimStep (p : UPortNo) (di dq : Int) (resid : Byte)
  | agcStepDown (p : UPortNo) (clips : Nat)
  | agcStepUp (p : UPortNo) (peak resid : Int) (us : Nat)
  | agcOverloadStep (p : UPortNo) (clips : Nat)
  | agcUnfreeze (p : UPortNo)
  -- HF cluster
  | hfReplyReceived (o : OpId) (dt : Nat) (r : HfReply)
  | hfReplyWindowClose (o : OpId)
  | hfFieldSettled (o : OpId)
  | hfWatchScan (o : OpId) (xs : List WatchSample)
  | watchStateScan (xs : List WatchSample)
  | rebase (v : Word)
  | hfPortFault (p : HPortNo) (m : HfSense)
  | hfFaultProbe (p : HPortNo) (pass : Bool)
  | hfFaultClear (p : HPortNo) (v : Word)
  -- chirp link
  | chirpDetection (p : UPortNo) (chan : Fin 16) (so : Fin 7) (dt : Nat) (level tracked : Int)
  | reanchor (d : Fin 16) (dt : Nat) (level : Int)
  | headerVerdict (d : Fin 16) (bits : BitVec 24)
  | preempted (d : Fin 16) (dt : Nat) (level tracked : Int)
  | payloadVerdict (d : Fin 16) (dt : Nat) (bytes : List Byte) (poison : Bool)
  | listenWindowClose (o : OpId)
  | cSendClaim (o : OpId)
  | cSendFrameEnd (o : OpId)
  | dutyBucketRoll
  -- rings and scheduler
  | ringEnable (n : RingNo) (v : Word)
  | ringDisable (n : RingNo) (v : Word)
  | flush (n : RingNo) (v : Word)
  | ringPointerReset (n : RingNo)
  | transferRequest (x : Fin 4)
  | transferMove (x : Fin 4) (bad : List Bool)
  | egressDecision (bad : List Bool)
  | shaperRefill
  | deficitReplenish
  | meterColourChange (t : Tid) (us : Nat)
  | meterEnable (t : Tid) (v : Word)
  | ingressMeterEnable (i : Fin 16) (v : Word)
  | latencySample
  | snap (v : Word)
  | clear (v : Word)
  -- host serial port
  | regrd (f : HostFrame)
  | regwr (f : HostFrame)
  | ringwr (f : HostFrame)
  | ringrd (f : HostFrame)
  | resend (f : HostFrame)
  | stop (f : HostFrame)
  | enclave (f : HostFrame)
  | enclaveFetch (f : HostFrame)
  | load (f : HostFrame)
  | loadRepair (f : HostFrame)
  | noframe (sel : SelectInfo)
  | truncated (hdr : Word) (sel : SelectInfo)
  | splitFrameTimeout
  | hostSilentTimeout
  -- memory and peripheral serial ports
  | xipLineFill (line : BitVec 19) (flash : List Word)
  | inval (v : Word)
  | msDcmdGo (v : Word)
  | directCommandDone (rx : DWord)
  | psQentWrite (v : Word)
  | pspWordDone (rx : BitVec 24)
  | contbrk
  | psRxRead
  | psFlush (v : Word)
  -- mains link
  | zcEdge (dt : Nat)
  | zcLost
  | cycleStart
  | backoffExpiry (draw : Nat)
  | mlFrameTransmit (dt : Nat) (x : MlTx)
  | beacon (dt : Nat) (f : MlFrame)
  | dataFrame (dt : Nat) (f : MlFrame)
  | sack (dt : Nat) (f : MlFrame)
  | sackMissing
  | sounding (dt : Nat) (f : MlFrame)
  | segmentGiveUp (src : BitVec 7) (link : BitVec 4) (broadcast : Bool)
  | assocReq (dt : Nat) (f : MlFrame)
  | assocRsp (dt : Nat) (f : MlFrame)
  | assocConf (dt : Nat) (f : MlFrame)
  | tmap (dt : Nat) (f : MlFrame)
  | soundReq (dt : Nat) (f : MlFrame)
  | allocReq (dt : Nat) (f : MlFrame)
  | key (dt : Nat) (f : MlFrame)
  | pairReq (dt : Nat) (f : MlFrame)
  | pairRsp (dt : Nat) (f : MlFrame)
  | pairConf (dt : Nat) (f : MlFrame)
  | leave (dt : Nat) (f : MlFrame)
  | mlAdmitWrite (v : Word)
  | associationTimeout (idx : BitVec 3)
  | tmapPeriodExpiry (src : BitVec 7)
  | controlFrame (dt : Nat) (f : MlFrame)
  | beaconMissed
  | beaconLoss10s
  | lineShort
  | lineOpen
  -- clocks
  | referenceQualified (refin : Bool)
  | refloss
  | mpllLocked
  | mpllUnlock
  | mpllSettleDone
  | relockslow
  | loUnlock (n : LoNo)
  | loRelockEnd (n : LoNo) (dt : Nat) (band : BitVec 7) (vtune : Byte) (errs : Option (List Int))
  | loStepEnd (n : LoNo) (dt : Nat) (errs : List Int)
  | epochTick
  | epochiEdge (dt : Nat)
  | epochlost
  | realign (v : Word)
  | clkoutConfig (k : Fin 4) (v : Word)
  -- timebase and timers
  | arm (v : Word)
  | timerWrap (u : Fin 8)
  | compareMatch (u : Fin 8) (k : Fin 4)
  | captureEdge (u : Fin 8) (k : Fin 2) (rising : Bool) (dt : Nat)
  | swcap (u : Fin 8) (k : Fin 2)
  | timerClr (u : Fin 8) (v : Word)
  | check (c : Fin 8) (v : Word)
  | initnow (c : Fin 8) (v : Word)
  | ccStateRestore (c : Fin 8) (v : Word)
  -- resets, start-up and power
  | poweron
  | resetn
  | brownout
  | softwareReset (v : Word)
  | debugReset
  | debugHalt (t : Tid)
  | bootImageReady (image : List Word)
  | ready (bad : StoreFaults)
  | powerReqRun
  | powerReqIdle
  | powerReqWatch
  | powerReqHibernate
  | powerReqHibernateClocked
  | powerStateEntry
  | wake
  | acokWake
  | wakeCounterExpiry
  | hkAdcSequence (xs : List (BitVec 16))
  | railWarning (rail : Fin 7) (below : Bool)
  | acokLossConfirmed
  | acokRestoreConfirmed
  | shedLevelEntry
  | shedRestore
  | discard (v : Word)
  -- Saffron
  | go (by_ : Agent) (v : Word)
  | done (by_ : Agent) (v : Word)
  | getCert
  | sign
  | getProfile
  | change (nvFail : Bool)
  | imageSig
  | mailboxResponseReady
  | mailboxResponseDiscard
  | profileCommit
  -- residue checks, pads, and the rows added at the end of the table
  | residueMismatch (source : Fin 32)
  | recomputationDone (source : Fin 32) (again : Bool)
  | iopad (source : BitVec 6) (persists : Bool)
  | resetRelease (boot : BitVec 2)
  | identifierEnd (d : Fin 16) (dt : Nat) (netid : BitVec 12) (rssi snr : BitVec 16) (offset : Word)
  | tunewarn (n : LoNo) (vtune : Byte)
  | silentWindow (noise : List Nat)
  | replyCap (o : OpId)
deriving DecidableEq, Repr

end Sys2Proof
end

