-- ==== Sys2Proof/Decode.lean ====
section
/-!
DEFINITION. Words that spell commands. The opcode table gives its rows no bits, so `decodeTableWord` reads none;
the program store holds Benlon instructions as words, which `decodeBenlon` and `encodeBenlon` read and write
(R31 to R34).
-/

namespace Sys2Proof

/-- The command a word spells by the table's bits; the table gives no row any. -/
def decodeTableWord (_nbits _w : Nat) : Option Instr := none

/-! ### Fields of a Benlon word (R31) -/

/-- Format A. -/
def aFields (w : Word) : AFields :=
  { rd := w.extractLsb' 22 4, ra := w.extractLsb' 18 4, rb := w.extractLsb' 14 4, fn := w.extractLsb' 0 14 }

/-- Formats I, M and K. -/
def iFields (w : Word) : IFields := { rd := w.extractLsb' 22 4, ra := w.extractLsb' 18 4, imm := w.extractLsb' 0 18 }

/-- Format B. -/
def bFields (w : Word) : BFields := { cond := w.extractLsb' 22 4, off := w.extractLsb' 0 22 }

/-- A word of format A. -/
def aWord (op : BitVec 6) (f : AFields) : Word := op ++ f.rd ++ f.ra ++ f.rb ++ f.fn

/-- A word of formats I, M and K. -/
def iWord (op : BitVec 6) (f : IFields) : Word := op ++ f.rd ++ f.ra ++ f.imm

/-- A word of format B. -/
def bWord (op : BitVec 6) (f : BFields) : Word := op ++ f.cond ++ f.off

/-! ### Benlon words (R34) -/

/-- The instruction a word spells; none for the opcodes that R34 does not list, which trap ILLEGAL (R32). -/
def decodeBenlon (i : Issue) (w : Word) : Option Instr :=
  match (w.extractLsb' 26 6).toNat with
  | 0x01 => some (.add i (aFields w))
  | 0x02 => some (.sub i (aFields w))
  | 0x03 => some (.and i (aFields w))
  | 0x04 => some (.or i (aFields w))
  | 0x05 => some (.xor i (aFields w))
  | 0x06 => some (.shl i (aFields w))
  | 0x07 => some (.shr i (aFields w))
  | 0x08 => some (.sar i (aFields w))
  | 0x09 => some (.mul i (aFields w))
  | 0x0A => some (.min i (aFields w))
  | 0x0B => some (.max i (aFields w))
  | 0x0C => some (.cmp i (aFields w))
  | 0x10 => some (.addi i (iFields w))
  | 0x11 => some (.andi i (iFields w))
  | 0x12 => some (.ori i (iFields w))
  | 0x13 => some (.lui i (iFields w))
  | 0x18 => some (.ld i (iFields w))
  | 0x19 => some (.st i (iFields w))
  | 0x1A => some (.ldio i (iFields w))
  | 0x1B => some (.stio i (iFields w))
  | 0x20 => some (.b i (bFields w))
  | 0x21 => some (.call i (bFields w))
  | 0x22 => some (.ret i (aFields w))
  | 0x28 => some (.air i (iFields w))
  | 0x29 => some (.waitk i (iFields w))
  | 0x2A => some (.testk i (iFields w))
  | 0x2B => some (.waitany i (iFields w))
  | 0x2C => some (.canck i (iFields w))
  | 0x30 => some (.push i (aFields w))
  | 0x31 => some (.pop i (aFields w))
  | 0x32 => some (.crcw i (aFields w))
  | 0x33 => some (.crcf i (aFields w))
  | 0x34 => some (.tbr i (aFields w))
  | 0x35 => some (.sleepu i (iFields w))
  | 0x36 => some (.evw i (aFields w))
  | 0x37 => some (.evs i (aFields w))
  | 0x38 => some (.halt i (aFields w))
  | 0x39 => some (.trap i (iFields w))
  | 0x3E => some (.nop i (w.extractLsb' 0 26))
  | _ => none

/-- The word of a Benlon instruction with its issue slot; none for a command that is no instruction. -/
def encodeBenlon (c : Instr) : Option (Issue × Word) :=
  match c with
  | .add i f => some (i, aWord 0x01 f)
  | .sub i f => some (i, aWord 0x02 f)
  | .and i f => some (i, aWord 0x03 f)
  | .or i f => some (i, aWord 0x04 f)
  | .xor i f => some (i, aWord 0x05 f)
  | .shl i f => some (i, aWord 0x06 f)
  | .shr i f => some (i, aWord 0x07 f)
  | .sar i f => some (i, aWord 0x08 f)
  | .mul i f => some (i, aWord 0x09 f)
  | .min i f => some (i, aWord 0x0A f)
  | .max i f => some (i, aWord 0x0B f)
  | .cmp i f => some (i, aWord 0x0C f)
  | .addi i f => some (i, iWord 0x10 f)
  | .andi i f => some (i, iWord 0x11 f)
  | .ori i f => some (i, iWord 0x12 f)
  | .lui i f => some (i, iWord 0x13 f)
  | .ld i f => some (i, iWord 0x18 f)
  | .st i f => some (i, iWord 0x19 f)
  | .ldio i f => some (i, iWord 0x1A f)
  | .stio i f => some (i, iWord 0x1B f)
  | .b i f => some (i, bWord 0x20 f)
  | .call i f => some (i, bWord 0x21 f)
  | .ret i f => some (i, aWord 0x22 f)
  | .air i f => some (i, iWord 0x28 f)
  | .waitk i f => some (i, iWord 0x29 f)
  | .testk i f => some (i, iWord 0x2A f)
  | .waitany i f => some (i, iWord 0x2B f)
  | .canck i f => some (i, iWord 0x2C f)
  | .push i f => some (i, aWord 0x30 f)
  | .pop i f => some (i, aWord 0x31 f)
  | .crcw i f => some (i, aWord 0x32 f)
  | .crcf i f => some (i, aWord 0x33 f)
  | .tbr i f => some (i, aWord 0x34 f)
  | .sleepu i f => some (i, iWord 0x35 f)
  | .evw i f => some (i, aWord 0x36 f)
  | .evs i f => some (i, aWord 0x37 f)
  | .halt i f => some (i, aWord 0x38 f)
  | .trap i f => some (i, iWord 0x39 f)
  | .nop i x => some (i, 0x3E#6 ++ x)
  | _ => none

end Sys2Proof
end

