-- ==== Sys2Proof/Config.lean ====
section
/-!
DEFINITION. What one device or board fixes, and what the spec leaves open: constants with no body, so
that no proof can see their value.  Each is named in a row of notes/assumptions.
-/

namespace Sys2Proof.Config

/-- The per-unit identity of the Legend page (R307): unique ID. -/
opaque legendUid : BitVec 96

/-- The part is a PX2416-I and not a PX2416-C (R1): Legend GRADE shows 0x49 or 0x43 (R307). -/
opaque gradeI : Bool

/-- Legend MAJOR and MINOR (R307). -/
opaque legendStepping : BitVec 8

/-- The device public key, X then Y, most significant word first (R307). -/
opaque legendKey : BitVec 512

/-- The DER certificates of the chain, index 0 to 2, as (length in bytes, words) (R307, R309). -/
opaque certificate : Nat → Nat × List Word

/-- Whether a VDDIO bank runs at 3.3 V (false: VDDIOA, true: VDDIOB), a choice of the board (R331). -/
opaque bankIs33 : Bool → Bool

/-- The phase corrections of a spare chain for the balls of UHF port `n`, laid out as UPn_PHCORR (R95): a per-unit
value that no K.CAL code measures (assumption 65). -/
opaque sparePhase : Nat → Word

/-- Free words: values the spec leaves open, one per use (assumption 5). -/
opaque freeWord : Nat → Word

/-- r and s of a signature of the device key over a digest, the second argument telling one signature from
the next (R3); uninterpreted (assumptions 5 and 6). -/
opaque sign : BitVec 256 → Nat → BitVec 512

/-- SHA-256 of a list of bytes (R3); uninterpreted (assumption 6). -/
opaque sha256 : List Byte → BitVec 256

/-- ECDSA P-256 verification of a digest under a public key (R3); uninterpreted (assumption 6). -/
opaque ecdsaVerify : BitVec 512 → BitVec 256 → BitVec 512 → Bool

/-- The ephemeral public key number n of this station's mains link, X then Y (R246); a free value
(assumption 5). -/
opaque ephemeral : Nat → BitVec 512

/-- The ECDH secret of ephemeral key number n and a peer's public key (R246); uninterpreted (assumption 6). -/
opaque ecdh : Nat → BitVec 512 → BitVec 256

/-- The group key number n that a head makes (R246); a free value (assumption 5). -/
opaque groupKey : Nat → BitVec 128

/-- AES-128 encryption of one block under a key (R3, R223); uninterpreted (assumption 6). -/
opaque aes128 : BitVec 128 → BitVec 128 → BitVec 128

/-- The ECDH secret of the device key and a public key (R311); uninterpreted (assumption 6). -/
opaque deviceEcdh : BitVec 512 → BitVec 256

end Sys2Proof.Config
end

