-- ==== Sys2Proof/Machine/RegMap.lean ====
section
/-!
DEFINITION. The register map of R352 (and R17, R18): an address function for every register under
the manual's own name, and the table of what each register's fields do when written (R4) and what
they reset to, from the register tables of the chapters.
-/

namespace Sys2Proof.Machine

/-- One row of the register map: the address of the register's first instance, the (stride, count)
pairs of its instances, the masks of its RW, W1C, W1S and WO bits (R4; every other bit is RO or
reserved), and its reset value. -/
structure RegRow where
  base  : Nat
  dims  : List (Nat × Nat)
  rw    : Word
  w1c   : Word
  w1s   : Word
  wo    : Word
  reset : Word
deriving DecidableEq, Repr

/-- Whether an offset from a row's base is one of the instances the pairs span. -/
def RegRow.spans : List (Nat × Nat) → Nat → Bool
  | [], o => o == 0
  | (stride, count) :: ds, o => decide (o / stride < count) && RegRow.spans ds (o % stride)

/-- Whether an address is an instance of the row. -/
def RegRow.covers (r : RegRow) (a : Nat) : Bool :=
  decide (r.base ≤ a) && RegRow.spans r.dims (a - r.base)

/-- The port block address of Un (R18). -/
def upBase (n : Nat) : Nat :=
  if n < 8 then 0x20000 + 0x1000 * (n + 1) else 0x30000 + 0x1000 * (n - 7)

/-- The port block address of Hn (R18). -/
def hpBase (n : Nat) : Nat := 0x40000 + 0x1000 * (n + 1)

/-- SYS_STATUS (R352). -/
def SYS_STATUS : Nat := 0x1000

/-- SYS_PWRCTL (R352). -/
def SYS_PWRCTL : Nat := 0x1004

/-- SYS_RSTCAUSE (R352). -/
def SYS_RSTCAUSE : Nat := 0x1008

/-- SYS_RST (R352). -/
def SYS_RST : Nat := 0x100C

/-- SYS_WAKECNT (R352). -/
def SYS_WAKECNT : Nat := 0x1010

/-- SYS_SHED (R352). -/
def SYS_SHED : Nat := 0x1014

/-- SYS_SHEDTIME (R352). -/
def SYS_SHEDTIME : Nat := 0x1018

/-- SYS_SNAP (R352). -/
def SYS_SNAP : Nat := 0x101C

/-- SYS_KEEPk (R352). -/
def SYS_KEEP (i : Nat) : Nat := 0x1020 + 0x4 * i

/-- SYS_HKk (R352). -/
def SYS_HK (i : Nat) : Nat := 0x1040 + 0x4 * i

/-- LG_UID0 (R352). -/
def LG_UID0 : Nat := 0x0

/-- LG_UID1 (R352). -/
def LG_UID1 : Nat := 0x4

/-- LG_UID2 (R352). -/
def LG_UID2 : Nat := 0x8

/-- LG_PART (R352). -/
def LG_PART : Nat := 0xC

/-- LG_PUBk (R352). -/
def LG_PUB (i : Nat) : Nat := 0x20 + 0x4 * i

/-- The rows of the sys block (R352). -/
def sysRows : List RegRow := [
  ⟨0x1000, [], 0x0, 0x0, 0x0, 0x0, 0x0⟩,  -- SYS_STATUS
  ⟨0x1004, [], 0x7, 0x0, 0x0, 0x0, 0x0⟩,  -- SYS_PWRCTL
  ⟨0x1008, [], 0x0, 0x0, 0x0, 0x0, 0x1⟩,  -- SYS_RSTCAUSE
  ⟨0x100C, [], 0x0, 0x0, 0x0, 0xFF, 0x0⟩,  -- SYS_RST
  ⟨0x1010, [], 0xFFFFFFFF, 0x0, 0x0, 0x0, 0x3E8⟩,  -- SYS_WAKECNT
  ⟨0x1014, [], 0x0, 0x0, 0x0, 0x0, 0x0⟩,  -- SYS_SHED
  ⟨0x1018, [], 0x3FFFFFFF, 0x0, 0x0, 0x0, 0x1C408102⟩,  -- SYS_SHEDTIME
  ⟨0x101C, [], 0x0, 0x0, 0x0, 0x1, 0x0⟩,  -- SYS_SNAP
  ⟨0x1020, [(0x4, 8)], 0xFFFFFFFF, 0x0, 0x0, 0x0, 0x0⟩,  -- SYS_KEEPk
  ⟨0x1040, [(0x4, 16)], 0x0, 0x0, 0x0, 0x0, 0x0⟩,  -- SYS_HKk
  ⟨0x0, [], 0x0, 0x0, 0x0, 0x0, 0x0⟩,  -- LG_UID0
  ⟨0x4, [], 0x0, 0x0, 0x0, 0x0, 0x0⟩,  -- LG_UID1
  ⟨0x8, [], 0x0, 0x0, 0x0, 0x0, 0x0⟩,  -- LG_UID2
  ⟨0xC, [], 0x0, 0x0, 0x0, 0x0, 0x24160000⟩,  -- LG_PART
  ⟨0x20, [(0x4, 16)], 0x0, 0x0, 0x0, 0x0, 0x0⟩ ]  -- LG_PUBk

/-- CK_STATUS (R352). -/
def CK_STATUS : Nat := 0x10000

/-- CK_FLAGS (R352). -/
def CK_FLAGS : Nat := 0x10004

/-- CK_CNT (R352). -/
def CK_CNT : Nat := 0x10008

/-- CK_EPOCH (R352). -/
def CK_EPOCH : Nat := 0x10010

/-- CK_CLKOUTk (R352). -/
def CK_CLKOUT (i : Nat) : Nat := 0x10040 + 0x4 * i

/-- CK_LOn_CFG (R352). -/
def CK_LO_CFG (i : Nat) : Nat := 0x10100 + 0x20 * i

/-- CK_LOn_STATUS (R352). -/
def CK_LO_STATUS (i : Nat) : Nat := 0x10104 + 0x20 * i

/-- CK_LOn_FREQ (R352). -/
def CK_LO_FREQ (i : Nat) : Nat := 0x10108 + 0x20 * i

/-- CK_LOn_CNT (R352). -/
def CK_LO_CNT (i : Nat) : Nat := 0x1010C + 0x20 * i

/-- CK_BTAn_b (R352). -/
def CK_BTA (i : Nat) (j : Nat) : Nat := 0x11000 + 0x200 * i + 0x8 * j

/-- CK_BTBn_b (R352). -/
def CK_BTB (i : Nat) (j : Nat) : Nat := 0x11004 + 0x200 * i + 0x8 * j

/-- The rows of the clk block (R352). -/
def clkRows : List RegRow := [
  ⟨0x10000, [], 0x0, 0x0, 0x0, 0x0, 0x0⟩,  -- CK_STATUS
  ⟨0x10004, [], 0x0, 0x1FFF0F, 0x0, 0x0, 0x0⟩,  -- CK_FLAGS
  ⟨0x10008, [], 0xFFFF0000, 0x0, 0x0, 0x0, 0x0⟩,  -- CK_CNT
  ⟨0x10010, [], 0xC000000F, 0x0, 0x0, 0x20000000, 0x0⟩,  -- CK_EPOCH
  ⟨0x10040, [(0x4, 4)], 0xFFF00000, 0x0, 0x0, 0x0, 0x400000⟩,  -- CK_CLKOUTk
  ⟨0x10100, [(0x20, 4)], 0x8000FFFF, 0x0, 0x0, 0x0, 0x80000001⟩,  -- CK_LOn_CFG
  ⟨0x10104, [(0x20, 4)], 0x0, 0x0, 0x0, 0x0, 0x0⟩,  -- CK_LOn_STATUS
  ⟨0x10108, [(0x20, 4)], 0x0, 0x0, 0x0, 0x0, 0x0⟩,  -- CK_LOn_FREQ
  ⟨0x1010C, [(0x20, 4)], 0xFFFFFFFF, 0x0, 0x0, 0x0, 0x0⟩,  -- CK_LOn_CNT
  ⟨0x11000, [(0x200, 4), (0x8, 64)], 0xFFFFFFFF, 0x0, 0x0, 0x0, 0x0⟩,  -- CK_BTAn_b
  ⟨0x11004, [(0x200, 4), (0x8, 64)], 0xFF, 0x0, 0x0, 0x0, 0x0⟩ ]  -- CK_BTBn_b

/-- UPn_CTRL (R352). -/
def UP_CTRL (n : Nat) : Nat := upBase n + 0x0

/-- UPn_STATUS (R352). -/
def UP_STATUS (n : Nat) : Nat := upBase n + 0x4

/-- UPn_FLAGS (R352). -/
def UP_FLAGS (n : Nat) : Nat := upBase n + 0x8

/-- UPn_TXCFG (R352). -/
def UP_TXCFG (n : Nat) : Nat := upBase n + 0xC

/-- UPn_PACTRL (R352). -/
def UP_PACTRL (n : Nat) : Nat := upBase n + 0x10

/-- UPn_BEAMW (R352). -/
def UP_BEAMW (n : Nat) : Nat := upBase n + 0x14

/-- UPn_FBCFG (R352). -/
def UP_FBCFG (n : Nat) : Nat := upBase n + 0x18

/-- UPn_CNC (R352). -/
def UP_CNC (n : Nat) : Nat := upBase n + 0x1C

/-- UPn_AGC_CTRL (R352). -/
def UP_AGC_CTRL (n : Nat) : Nat := upBase n + 0x20

/-- UPn_AGC_STAT (R352). -/
def UP_AGC_STAT (n : Nat) : Nat := upBase n + 0x24

/-- UPn_CLIPCNT (R352). -/
def UP_CLIPCNT (n : Nat) : Nat := upBase n + 0x28

/-- UPn_FAULT (R352). -/
def UP_FAULT (n : Nat) : Nat := upBase n + 0x2C

/-- UPn_RLOSS (R352). -/
def UP_RLOSS (n : Nat) : Nat := upBase n + 0x30

/-- UPn_IQCORR (R352). -/
def UP_IQCORR (n : Nat) : Nat := upBase n + 0x34

/-- UPn_PHCORR (R352). -/
def UP_PHCORR (n : Nat) : Nat := upBase n + 0x38

/-- UPn_DPDCTRL (R352). -/
def UP_DPDCTRL (n : Nat) : Nat := upBase n + 0x3C

/-- UPn_DPDCk (R352). -/
def UP_DPDC (n : Nat) (i : Nat) : Nat := upBase n + 0x100 + 0x4 * i

/-- UPn_AGCGk (R352). -/
def UP_AGCG (n : Nat) (i : Nat) : Nat := upBase n + 0x180 + 0x4 * i

/-- The rows of the uhf block (R352). -/
def uhfRows : List RegRow := [
  ⟨0x21000, [(0x10000, 2), (0x1000, 8)], 0x1F, 0x0, 0x0, 0x0, 0x10⟩,  -- UPn_CTRL
  ⟨0x21004, [(0x10000, 2), (0x1000, 8)], 0x0, 0x0, 0x0, 0x0, 0x0⟩,  -- UPn_STATUS
  ⟨0x21008, [(0x10000, 2), (0x1000, 8)], 0x0, 0xF, 0x0, 0x0, 0x0⟩,  -- UPn_FLAGS
  ⟨0x2100C, [(0x10000, 2), (0x1000, 8)], 0xFFFFFFFF, 0x0, 0x0, 0x0, 0x960C⟩,  -- UPn_TXCFG
  ⟨0x21010, [(0x10000, 2), (0x1000, 8)], 0xBF3F, 0x0, 0x0, 0x0, 0x804⟩,  -- UPn_PACTRL
  ⟨0x21014, [(0x10000, 2), (0x1000, 8)], 0x3FF00FF, 0x0, 0x0, 0x0, 0xFF⟩,  -- UPn_BEAMW
  ⟨0x21018, [(0x10000, 2), (0x1000, 8)], 0xFFFF, 0x0, 0x0, 0x0, 0x7818⟩,  -- UPn_FBCFG
  ⟨0x2101C, [(0x10000, 2), (0x1000, 8)], 0x3, 0x0, 0x0, 0x0, 0x1⟩,  -- UPn_CNC
  ⟨0x21020, [(0x10000, 2), (0x1000, 8)], 0xFFF9, 0x0, 0x0, 0x0, 0x860⟩,  -- UPn_AGC_CTRL
  ⟨0x21024, [(0x10000, 2), (0x1000, 8)], 0x0, 0x0, 0x0, 0x0, 0x70000⟩,  -- UPn_AGC_STAT
  ⟨0x21028, [(0x10000, 2), (0x1000, 8)], 0xFFFFFFFF, 0x0, 0x0, 0x0, 0x0⟩,  -- UPn_CLIPCNT
  ⟨0x2102C, [(0x10000, 2), (0x1000, 8)], 0xFF0000, 0x0, 0x0, 0x1, 0x0⟩,  -- UPn_FAULT
  ⟨0x21030, [(0x10000, 2), (0x1000, 8)], 0x0, 0x0, 0x0, 0x0, 0x0⟩,  -- UPn_RLOSS
  ⟨0x21034, [(0x10000, 2), (0x1000, 8)], 0x0, 0x0, 0x0, 0x0, 0x0⟩,  -- UPn_IQCORR
  ⟨0x21038, [(0x10000, 2), (0x1000, 8)], 0x0, 0x0, 0x0, 0x0, 0x0⟩,  -- UPn_PHCORR
  ⟨0x2103C, [(0x10000, 2), (0x1000, 8)], 0x0, 0x0, 0x0, 0x0, 0x0⟩,  -- UPn_DPDCTRL
  ⟨0x21100, [(0x10000, 2), (0x1000, 8), (0x4, 30)], 0x0, 0x0, 0x0, 0x0, 0x0⟩,  -- UPn_DPDCk
  ⟨0x21180, [(0x10000, 2), (0x1000, 8), (0x4, 8)], 0x0, 0x0, 0x0, 0x0, 0x0⟩ ]  -- UPn_AGCGk

/-- HC_STATUS (R352). -/
def HC_STATUS : Nat := 0x40000

/-- HC_PWR (R352). -/
def HC_PWR : Nat := 0x40004

/-- HC_VHF (R352). -/
def HC_VHF : Nat := 0x40008

/-- HC_ACTCFG (R352). -/
def HC_ACTCFG : Nat := 0x4000C

/-- HC_ATTRIB (R352). -/
def HC_ATTRIB : Nat := 0x40010

/-- HC_WATCHCFG (R352). -/
def HC_WATCHCFG : Nat := 0x40014

/-- HC_WAKESRC (R352). -/
def HC_WAKESRC : Nat := 0x40018

/-- HC_WATCHEV (R352). -/
def HC_WATCHEV : Nat := 0x4001C

/-- HC_SERCNT (R352). -/
def HC_SERCNT : Nat := 0x40020

/-- The rows of the hc block (R352). -/
def hcRows : List RegRow := [
  ⟨0x40000, [], 0x0, 0x0, 0x0, 0x0, 0x0⟩,  -- HC_STATUS
  ⟨0x40004, [], 0x3FF, 0x0, 0x0, 0x0, 0x190⟩,  -- HC_PWR
  ⟨0x40008, [], 0x0, 0x0, 0x0, 0x0, 0x0⟩,  -- HC_VHF
  ⟨0x4000C, [], 0xC70F, 0x0, 0x0, 0x0, 0x4003⟩,  -- HC_ACTCFG
  ⟨0x40010, [], 0xFFFFFFFF, 0x0, 0x0, 0x0, 0x80100⟩,  -- HC_ATTRIB
  ⟨0x40014, [], 0xFFFFFF02, 0x0, 0x0, 0x1, 0xFA0000⟩,  -- HC_WATCHCFG
  ⟨0x40018, [], 0x0, 0x0, 0x0, 0x0, 0x0⟩,  -- HC_WAKESRC
  ⟨0x4001C, [], 0x9F0F, 0x0, 0x0, 0x0, 0x0⟩,  -- HC_WATCHEV
  ⟨0x40020, [], 0xFFFFFFFF, 0x0, 0x0, 0x0, 0x0⟩ ]  -- HC_SERCNT

/-- HPn_CTRL (R352). -/
def HP_CTRL (n : Nat) : Nat := hpBase n + 0x0

/-- HPn_STATUS (R352). -/
def HP_STATUS (n : Nat) : Nat := hpBase n + 0x4

/-- HPn_FLAGS (R352). -/
def HP_FLAGS (n : Nat) : Nat := hpBase n + 0x8

/-- HPn_FIELD (R352). -/
def HP_FIELD (n : Nat) : Nat := hpBase n + 0xC

/-- HPn_FAULT (R352). -/
def HP_FAULT (n : Nat) : Nat := hpBase n + 0x10

/-- HPn_FAULTCFG (R352). -/
def HP_FAULTCFG (n : Nat) : Nat := hpBase n + 0x14

/-- HPn_ANT (R352). -/
def HP_ANT (n : Nat) : Nat := hpBase n + 0x18

/-- HPn_WATCH (R352). -/
def HP_WATCH (n : Nat) : Nat := hpBase n + 0x1C

/-- HPn_WATCH2 (R352). -/
def HP_WATCH2 (n : Nat) : Nat := hpBase n + 0x20

/-- HPn_WBASE (R352). -/
def HP_WBASE (n : Nat) : Nat := hpBase n + 0x24

/-- HPn_WMAG (R352). -/
def HP_WMAG (n : Nat) : Nat := hpBase n + 0x28

/-- HPn_WCNT (R352). -/
def HP_WCNT (n : Nat) : Nat := hpBase n + 0x2C

/-- HPn_RXCORR (R352). -/
def HP_RXCORR (n : Nat) : Nat := hpBase n + 0x30

/-- HPn_HDI (R352). -/
def HP_HDI (n : Nat) : Nat := hpBase n + 0x34

/-- HPn_COMPk (R352). -/
def HP_COMP (n : Nat) (i : Nat) : Nat := hpBase n + 0x40 + 0x4 * i

/-- The rows of the hp block (R352). -/
def hpRows : List RegRow := [
  ⟨0x41000, [(0x1000, 8)], 0x3, 0x0, 0x0, 0x0, 0x2⟩,  -- HPn_CTRL
  ⟨0x41004, [(0x1000, 8)], 0x0, 0x0, 0x0, 0x0, 0x0⟩,  -- HPn_STATUS
  ⟨0x41008, [(0x1000, 8)], 0x0, 0x7, 0x0, 0x0, 0x0⟩,  -- HPn_FLAGS
  ⟨0x4100C, [(0x1000, 8)], 0x1FFFF7F, 0x0, 0x0, 0x0, 0x143200⟩,  -- HPn_FIELD
  ⟨0x41010, [(0x1000, 8)], 0xFF0000, 0x0, 0x0, 0x1, 0x0⟩,  -- HPn_FAULT
  ⟨0x41014, [(0x1000, 8)], 0xFFFF, 0x0, 0x0, 0x0, 0x9619⟩,  -- HPn_FAULTCFG
  ⟨0x41018, [(0x1000, 8)], 0x0, 0x0, 0x0, 0x0, 0x0⟩,  -- HPn_ANT
  ⟨0x4101C, [(0x1000, 8)], 0xFFFFFFFF, 0x0, 0x0, 0x0, 0x14260052⟩,  -- HPn_WATCH
  ⟨0x41020, [(0x1000, 8)], 0xFFFFFFFF, 0x0, 0x0, 0x0, 0x14⟩,  -- HPn_WATCH2
  ⟨0x41024, [(0x1000, 8)], 0xFFFFFFFF, 0x0, 0x0, 0x0, 0x0⟩,  -- HPn_WBASE
  ⟨0x41028, [(0x1000, 8)], 0x0, 0x0, 0x0, 0x0, 0x0⟩,  -- HPn_WMAG
  ⟨0x4102C, [(0x1000, 8)], 0xFFFFFFFF, 0x0, 0x0, 0x0, 0x0⟩,  -- HPn_WCNT
  ⟨0x41030, [(0x1000, 8)], 0x0, 0x0, 0x0, 0x0, 0x0⟩,  -- HPn_RXCORR
  ⟨0x41034, [(0x1000, 8)], 0x0, 0x0, 0x0, 0x0, 0x0⟩,  -- HPn_HDI
  ⟨0x41040, [(0x1000, 8), (0x4, 8)], 0x0, 0x0, 0x0, 0x0, 0x0⟩ ]  -- HPn_COMPk

/-- CH_STATUS (R352). -/
def CH_STATUS : Nat := 0x50000

/-- CH_CFG (R352). -/
def CH_CFG : Nat := 0x50004

/-- CH_CNT0 (R352). -/
def CH_CNT0 : Nat := 0x50010

/-- CH_CNT1 (R352). -/
def CH_CNT1 : Nat := 0x50014

/-- CH_CNT2 (R352). -/
def CH_CNT2 : Nat := 0x50018

/-- CH_CNT3 (R352). -/
def CH_CNT3 : Nat := 0x5001C

/-- CH_DUTYk (R352). -/
def CH_DUTY (i : Nat) : Nat := 0x50040 + 0x8 * i

/-- CH_DUTYLIMk (R352). -/
def CH_DUTYLIM (i : Nat) : Nat := 0x50044 + 0x8 * i

/-- CH_FREQk (R352). -/
def CH_FREQ (i : Nat) : Nat := 0x50100 + 0x8 * i

/-- CH_CHCFGk (R352). -/
def CH_CHCFG (i : Nat) : Nat := 0x50104 + 0x8 * i

/-- The rows of the chirp block (R352). -/
def chirpRows : List RegRow := [
  ⟨0x50000, [], 0x0, 0x0, 0x0, 0x0, 0x0⟩,  -- CH_STATUS
  ⟨0x50004, [], 0xF00, 0x0, 0x0, 0x0, 0x600⟩,  -- CH_CFG
  ⟨0x50010, [], 0xFFFFFFFF, 0x0, 0x0, 0x0, 0x0⟩,  -- CH_CNT0
  ⟨0x50014, [], 0xFFFFFFFF, 0x0, 0x0, 0x0, 0x0⟩,  -- CH_CNT1
  ⟨0x50018, [], 0xFFFFFFFF, 0x0, 0x0, 0x0, 0x0⟩,  -- CH_CNT2
  ⟨0x5001C, [], 0xFFFFFFFF, 0x0, 0x0, 0x0, 0x0⟩,  -- CH_CNT3
  ⟨0x50040, [(0x8, 4)], 0x0, 0x0, 0x0, 0x0, 0x0⟩,  -- CH_DUTYk
  ⟨0x50044, [(0x8, 4)], 0x0, 0x0, 0x0, 0x0, 0x0⟩,  -- CH_DUTYLIMk
  ⟨0x50100, [(0x8, 16)], 0xFFFFFFFF, 0x0, 0x0, 0x0, 0x0⟩,  -- CH_FREQk
  ⟨0x50104, [(0x8, 16)], 0x80000003, 0x0, 0x0, 0x0, 0x0⟩ ]  -- CH_CHCFGk

/-- SV_STATUS (R352). -/
def SV_STATUS : Nat := 0x60000

/-- SV_LINK (R352). -/
def SV_LINK : Nat := 0x60004

/-- SV_CFG (R352). -/
def SV_CFG : Nat := 0x60008

/-- SV_CNT (R352). -/
def SV_CNT : Nat := 0x6000C

/-- SV_ATLASw (R352). -/
def SV_ATLAS (i : Nat) : Nat := 0x68000 + 0x4 * i

/-- The rows of the survey block (R352). -/
def surveyRows : List RegRow := [
  ⟨0x60000, [], 0x0, 0x0, 0x0, 0x0, 0x0⟩,  -- SV_STATUS
  ⟨0x60004, [], 0xFFFFF000, 0x0, 0x0, 0x0, 0x22280000⟩,  -- SV_LINK
  ⟨0x60008, [], 0xFFFF, 0x0, 0x0, 0x0, 0xA0A⟩,  -- SV_CFG
  ⟨0x6000C, [], 0xFFFFFFFF, 0x0, 0x0, 0x0, 0x0⟩,  -- SV_CNT
  ⟨0x68000, [(0x4, 201)], 0x0, 0x0, 0x0, 0x0, 0x0⟩ ]  -- SV_ATLASw

/-- AIR_BSC_CFG (R352). -/
def AIR_BSC_CFG : Nat := 0x70200

/-- AIR_TAGTAB (R352). -/
def AIR_TAGTAB : Nat := 0x70204

/-- AIR_BSC_CNT (R352). -/
def AIR_BSC_CNT : Nat := 0x70208

/-- AIR_CTRL (R352). -/
def AIR_CTRL : Nat := 0x70000

/-- AIR_OCC (R352). -/
def AIR_OCC : Nat := 0x70004

/-- AIR_STATCNTc (R352). -/
def AIR_STATCNT (i : Nat) : Nat := 0x70100 + 0x4 * i

/-- The rows of the air block (R352). -/
def airRows : List RegRow := [
  ⟨0x70200, [], 0x1F0F31, 0x0, 0x0, 0x0, 0x50401⟩,  -- AIR_BSC_CFG
  ⟨0x70204, [], 0x0, 0x0, 0x0, 0x0, 0x0⟩,  -- AIR_TAGTAB
  ⟨0x70208, [], 0xFFFFFFFF, 0x0, 0x0, 0x0, 0x0⟩,  -- AIR_BSC_CNT
  ⟨0x70000, [], 0x1, 0x0, 0x0, 0x2, 0x0⟩,  -- AIR_CTRL
  ⟨0x70004, [], 0x0, 0x0, 0x0, 0x0, 0x0⟩,  -- AIR_OCC
  ⟨0x70100, [(0x4, 18)], 0xFFFFFFFF, 0x0, 0x0, 0x0, 0x0⟩ ]  -- AIR_STATCNTc

/-- THn_CTRL (R352). -/
def TH_CTRL (i : Nat) : Nat := 0x80000 + 0x100 * i

/-- THn_STATUS (R352). -/
def TH_STATUS (i : Nat) : Nat := 0x80004 + 0x100 * i

/-- THn_PC (R352). -/
def TH_PC (i : Nat) : Nat := 0x80008 + 0x100 * i

/-- THn_TVEC (R352). -/
def TH_TVEC (i : Nat) : Nat := 0x8000C + 0x100 * i

/-- THn_TPC (R352). -/
def TH_TPC (i : Nat) : Nat := 0x80010 + 0x100 * i

/-- THn_TCAUSE (R352). -/
def TH_TCAUSE (i : Nat) : Nat := 0x80014 + 0x100 * i

/-- THn_TADDR (R352). -/
def TH_TADDR (i : Nat) : Nat := 0x80018 + 0x100 * i

/-- THn_EVENT (R352). -/
def TH_EVENT (i : Nat) : Nat := 0x8001C + 0x100 * i

/-- THn_EVSET (R352). -/
def TH_EVSET (i : Nat) : Nat := 0x80020 + 0x100 * i

/-- THn_TICKETS (R352). -/
def TH_TICKETS (i : Nat) : Nat := 0x80024 + 0x100 * i

/-- THn_Gi (R352). -/
def TH_G (i : Nat) (j : Nat) : Nat := 0x80040 + 0x100 * i + 0x4 * j

/-- TH_SEMk (R352). -/
def TH_SEM (i : Nat) : Nat := 0x84000 + 0x4 * i

/-- TH_RUNMASK (R352). -/
def TH_RUNMASK : Nat := 0x84080

/-- The rows of the thread block (R352). -/
def threadRows : List RegRow := [
  ⟨0x80000, [(0x100, 32)], 0x100, 0x0, 0x0, 0x7, 0x0⟩,  -- THn_CTRL
  ⟨0x80004, [(0x100, 32)], 0x0, 0x0, 0x0, 0x0, 0x0⟩,  -- THn_STATUS
  ⟨0x80008, [(0x100, 32)], 0xFFFFFFFC, 0x0, 0x0, 0x0, 0x0⟩,  -- THn_PC
  ⟨0x8000C, [(0x100, 32)], 0xFFFFFFFC, 0x0, 0x0, 0x0, 0x0⟩,  -- THn_TVEC
  ⟨0x80010, [(0x100, 32)], 0x0, 0x0, 0x0, 0x0, 0x0⟩,  -- THn_TPC
  ⟨0x80014, [(0x100, 32)], 0x0, 0x0, 0x0, 0x0, 0x0⟩,  -- THn_TCAUSE
  ⟨0x80018, [(0x100, 32)], 0x0, 0x0, 0x0, 0x0, 0x0⟩,  -- THn_TADDR
  ⟨0x8001C, [(0x100, 32)], 0x0, 0xFFFFFFFF, 0x0, 0x0, 0x0⟩,  -- THn_EVENT
  ⟨0x80020, [(0x100, 32)], 0x0, 0x0, 0x0, 0xFFFF, 0x0⟩,  -- THn_EVSET
  ⟨0x80024, [(0x100, 32)], 0x0, 0x0, 0x0, 0x0, 0x0⟩,  -- THn_TICKETS
  ⟨0x80040, [(0x100, 32), (0x4, 16)], 0x0, 0x0, 0x0, 0x0, 0x0⟩,  -- THn_Gi
  ⟨0x84000, [(0x4, 32)], 0x1, 0x0, 0x0, 0x0, 0x0⟩,  -- TH_SEMk
  ⟨0x84080, [], 0x0, 0x0, 0x0, 0x0, 0x0⟩ ]  -- TH_RUNMASK

/-- RG_CFGn (R352). -/
def RG_CFG (i : Nat) : Nat := 0x90000 + 0x20 * i

/-- RG_CTRLn (R352). -/
def RG_CTRL (i : Nat) : Nat := 0x90004 + 0x20 * i

/-- RG_STATn (R352). -/
def RG_STAT (i : Nat) : Nat := 0x90008 + 0x20 * i

/-- RG_FLAGSn (R352). -/
def RG_FLAGS (i : Nat) : Nat := 0x9000C + 0x20 * i

/-- RG_WMn (R352). -/
def RG_WM (i : Nat) : Nat := 0x90010 + 0x20 * i

/-- RG_CNTn (R352). -/
def RG_CNT (i : Nat) : Nat := 0x90014 + 0x20 * i

/-- RG_DROPn (R352). -/
def RG_DROP (i : Nat) : Nat := 0x90018 + 0x20 * i

/-- RG_XFCFGx (R352). -/
def RG_XFCFG (i : Nat) : Nat := 0x90800 + 0x10 * i

/-- RG_XFCNTx (R352). -/
def RG_XFCNT (i : Nat) : Nat := 0x90804 + 0x10 * i

/-- The rows of the ring block (R352). -/
def ringRows : List RegRow := [
  ⟨0x90000, [(0x20, 32)], 0xFFFFFF7F, 0x0, 0x0, 0x0, 0x7F7F⟩,  -- RG_CFGn
  ⟨0x90004, [(0x20, 32)], 0x0, 0x0, 0x0, 0x1, 0x0⟩,  -- RG_CTRLn
  ⟨0x90008, [(0x20, 32)], 0x0, 0x0, 0x0, 0x0, 0x1⟩,  -- RG_STATn
  ⟨0x9000C, [(0x20, 32)], 0x0, 0x7F, 0x0, 0x0, 0x0⟩,  -- RG_FLAGSn
  ⟨0x90010, [(0x20, 32)], 0x1FFF9F0F, 0x0, 0x0, 0x0, 0x0⟩,  -- RG_WMn
  ⟨0x90014, [(0x20, 32)], 0xFFFFFFFF, 0x0, 0x0, 0x0, 0x0⟩,  -- RG_CNTn
  ⟨0x90018, [(0x20, 32)], 0xFFFFFFFF, 0x0, 0x0, 0x0, 0x0⟩,  -- RG_DROPn
  ⟨0x90800, [(0x10, 4)], 0x83FFC701, 0x0, 0x0, 0x0, 0x0⟩,  -- RG_XFCFGx
  ⟨0x90804, [(0x10, 4)], 0xFFFFFFFF, 0x0, 0x0, 0x0, 0x0⟩ ]  -- RG_XFCNTx

/-- SC_EGRn (R352). -/
def SC_EGR (i : Nat) : Nat := 0xA0000 + 0x10 * i

/-- SC_SHRATEn (R352). -/
def SC_SHRATE (i : Nat) : Nat := 0xA0004 + 0x10 * i

/-- SC_SHBURSTn (R352). -/
def SC_SHBURST (i : Nat) : Nat := 0xA0008 + 0x10 * i

/-- SC_SHLEVELn (R352). -/
def SC_SHLEVEL (i : Nat) : Nat := 0xA000C + 0x10 * i

/-- SC_THCLASSj (R352). -/
def SC_THCLASS (i : Nat) : Nat := 0xA0100 + 0x4 * i

/-- SC_AWEIGHTj (R352). -/
def SC_AWEIGHT (i : Nat) : Nat := 0xA0110 + 0x4 * i

/-- SC_AIRCFG (R352). -/
def SC_AIRCFG : Nat := 0xA0120

/-- SC_DEFt (R352). -/
def SC_DEF (i : Nat) : Nat := 0xA0200 + 0x4 * i

/-- SC_AMRATEt (R352). -/
def SC_AMRATE (i : Nat) : Nat := 0xA0400 + 0x10 * i

/-- SC_AMBURSTt (R352). -/
def SC_AMBURST (i : Nat) : Nat := 0xA0404 + 0x10 * i

/-- SC_AMCTLt (R352). -/
def SC_AMCTL (i : Nat) : Nat := 0xA0408 + 0x10 * i

/-- SC_AMLVLt (R352). -/
def SC_AMLVL (i : Nat) : Nat := 0xA040C + 0x10 * i

/-- SC_IMRATEi (R352). -/
def SC_IMRATE (i : Nat) : Nat := 0xA0800 + 0x10 * i

/-- SC_IMBURSTi (R352). -/
def SC_IMBURST (i : Nat) : Nat := 0xA0804 + 0x10 * i

/-- SC_IMCTLi (R352). -/
def SC_IMCTL (i : Nat) : Nat := 0xA0808 + 0x10 * i

/-- SC_IMDROPi (R352). -/
def SC_IMDROP (i : Nat) : Nat := 0xA080C + 0x10 * i

/-- SC_LATCFG (R352). -/
def SC_LATCFG : Nat := 0xA0C00

/-- SC_LDEPTHn (R352). -/
def SC_LDEPTH (i : Nat) : Nat := 0xA1000 + 0x40 * i

/-- SC_LDELAYn (R352). -/
def SC_LDELAY (i : Nat) : Nat := 0xA1004 + 0x40 * i

/-- SC_LCOUNTn (R352). -/
def SC_LCOUNT (i : Nat) : Nat := 0xA1008 + 0x40 * i

/-- SC_LHDn_b (R352). -/
def SC_LHD (i : Nat) (j : Nat) : Nat := 0xA1010 + 0x40 * i + 0x4 * j

/-- SC_LHLn_b (R352). -/
def SC_LHL (i : Nat) (j : Nat) : Nat := 0xA1020 + 0x40 * i + 0x4 * j

/-- The rows of the sched block (R352). -/
def schedRows : List RegRow := [
  ⟨0xA0000, [(0x10, 16)], 0xFFFF0000, 0x0, 0x0, 0x0, 0x400000⟩,  -- SC_EGRn
  ⟨0xA0004, [(0x10, 16)], 0x80FFFFFF, 0x0, 0x0, 0x0, 0x0⟩,  -- SC_SHRATEn
  ⟨0xA0008, [(0x10, 16)], 0xFFFFFF, 0x0, 0x0, 0x0, 0x1000⟩,  -- SC_SHBURSTn
  ⟨0xA000C, [(0x10, 16)], 0x0, 0x0, 0x0, 0x0, 0x1000⟩,  -- SC_SHLEVELn
  ⟨0xA0100, [(0x4, 4)], 0xFFFFFFFF, 0x0, 0x0, 0x0, 0x44444444⟩,  -- SC_THCLASSj
  ⟨0xA0110, [(0x4, 3)], 0xFFFFFFFF, 0x0, 0x0, 0x0, 0x1010101⟩,  -- SC_AWEIGHTj
  ⟨0xA0120, [], 0xFFFFFFFF, 0x0, 0x0, 0x0, 0xFA003E8⟩,  -- SC_AIRCFG
  ⟨0xA0200, [(0x4, 32)], 0x0, 0x0, 0x0, 0x0, 0x0⟩,  -- SC_DEFt
  ⟨0xA0400, [(0x10, 32)], 0xFFFFFFFF, 0x0, 0x0, 0x0, 0xC350C350⟩,  -- SC_AMRATEt
  ⟨0xA0404, [(0x10, 32)], 0xFFFFFFFF, 0x0, 0x0, 0x0, 0x9C409C40⟩,  -- SC_AMBURSTt
  ⟨0xA0408, [(0x10, 32)], 0x8000FFFF, 0x0, 0x0, 0x0, 0x0⟩,  -- SC_AMCTLt
  ⟨0xA040C, [(0x10, 32)], 0x0, 0x0, 0x0, 0x0, 0x0⟩,  -- SC_AMLVLt
  ⟨0xA0810, [(0x10, 15)], 0xFFFFFFFF, 0x0, 0x0, 0x0, 0xFFFFFFFF⟩,  -- SC_IMRATEi
  ⟨0xA0814, [(0x10, 15)], 0xFFFFFFFF, 0x0, 0x0, 0x0, 0x10001000⟩,  -- SC_IMBURSTi
  ⟨0xA0818, [(0x10, 15)], 0x80000000, 0x0, 0x0, 0x0, 0x0⟩,  -- SC_IMCTLi
  ⟨0xA081C, [(0x10, 15)], 0xFFFFFFFF, 0x0, 0x0, 0x0, 0x0⟩,  -- SC_IMDROPi
  ⟨0xA0C00, [], 0xF07FF, 0x0, 0x0, 0xC0000000, 0x40010⟩,  -- SC_LATCFG
  ⟨0xA1000, [(0x40, 32)], 0x0, 0x0, 0x0, 0x0, 0x0⟩,  -- SC_LDEPTHn
  ⟨0xA2000, [(0x40, 32)], 0x0, 0x0, 0x0, 0x0, 0x0⟩,  -- SC_LDEPTHn, snapshot copy
  ⟨0xA1004, [(0x40, 32)], 0x0, 0x0, 0x0, 0x0, 0x0⟩,  -- SC_LDELAYn
  ⟨0xA2004, [(0x40, 32)], 0x0, 0x0, 0x0, 0x0, 0x0⟩,  -- SC_LDELAYn, snapshot copy
  ⟨0xA1008, [(0x40, 32)], 0x0, 0x0, 0x0, 0x0, 0x0⟩,  -- SC_LCOUNTn
  ⟨0xA2008, [(0x40, 32)], 0x0, 0x0, 0x0, 0x0, 0x0⟩,  -- SC_LCOUNTn, snapshot copy
  ⟨0xA1010, [(0x40, 32), (0x4, 4)], 0x0, 0x0, 0x0, 0x0, 0x0⟩,  -- SC_LHDn_b
  ⟨0xA2010, [(0x40, 32), (0x4, 4)], 0x0, 0x0, 0x0, 0x0, 0x0⟩,  -- SC_LHDn_b, snapshot copy
  ⟨0xA1020, [(0x40, 32), (0x4, 4)], 0x0, 0x0, 0x0, 0x0, 0x0⟩,  -- SC_LHLn_b
  ⟨0xA2020, [(0x40, 32), (0x4, 4)], 0x0, 0x0, 0x0, 0x0, 0x0⟩ ]  -- SC_LHLn_b, snapshot copy

/-- HS_STATUS (R352). -/
def HS_STATUS : Nat := 0xB0000

/-- HS_CFG (R352). -/
def HS_CFG : Nat := 0xB0004

/-- HS_TMO (R352). -/
def HS_TMO : Nat := 0xB0008

/-- HS_CNT0 (R352). -/
def HS_CNT0 : Nat := 0xB000C

/-- HS_CNT1 (R352). -/
def HS_CNT1 : Nat := 0xB0010

/-- HS_CNT2 (R352). -/
def HS_CNT2 : Nat := 0xB0014

/-- MS_CFG (R352). -/
def MS_CFG : Nat := 0xB1000

/-- MS_CTRL (R352). -/
def MS_CTRL : Nat := 0xB1004

/-- MS_DCMD (R352). -/
def MS_DCMD : Nat := 0xB1020

/-- MS_DTX0 (R352). -/
def MS_DTX0 : Nat := 0xB1024

/-- MS_DTX1 (R352). -/
def MS_DTX1 : Nat := 0xB1028

/-- MS_DRX0 (R352). -/
def MS_DRX0 : Nat := 0xB102C

/-- MS_DRX1 (R352). -/
def MS_DRX1 : Nat := 0xB1030

/-- MS_FLAGS (R352). -/
def MS_FLAGS : Nat := 0xB1034

/-- MS_MISS (R352). -/
def MS_MISS : Nat := 0xB1038

/-- PS_QENT (R352). -/
def PS_QENT : Nat := 0xB2020

/-- PS_STAT (R352). -/
def PS_STAT : Nat := 0xB2024

/-- PS_RX (R352). -/
def PS_RX : Nat := 0xB2028

/-- PS_FLAGS (R352). -/
def PS_FLAGS : Nat := 0xB202C

/-- PS_CTRL (R352). -/
def PS_CTRL : Nat := 0xB2030

/-- PS_EVT (R352). -/
def PS_EVT : Nat := 0xB2034

/-- MS_REGIONr (R352). -/
def MS_REGION (i : Nat) : Nat := 0xB1010 + 0x4 * i

/-- PS_SELCFGs (R352). -/
def PS_SELCFG (i : Nat) : Nat := 0xB2000 + 0x4 * i

/-- The rows of the serial block (R352). -/
def serialRows : List RegRow := [
  ⟨0xB0000, [], 0x0, 0x0, 0x0, 0x0, 0x100FF00⟩,  -- HS_STATUS
  ⟨0xB0004, [], 0x1, 0x0, 0x0, 0x0, 0x0⟩,  -- HS_CFG
  ⟨0xB0008, [], 0xC0003FFF, 0x0, 0x0, 0x0, 0x3E8⟩,  -- HS_TMO
  ⟨0xB000C, [], 0xFFFFFFFF, 0x0, 0x0, 0x0, 0x0⟩,  -- HS_CNT0
  ⟨0xB0010, [], 0xFFFFFFFF, 0x0, 0x0, 0x0, 0x0⟩,  -- HS_CNT1
  ⟨0xB0014, [], 0xFFFFFFFF, 0x0, 0x0, 0x0, 0x0⟩,  -- HS_CNT2
  ⟨0xB1000, [], 0xFFFF8001, 0x0, 0x0, 0x0, 0x3030000⟩,  -- MS_CFG
  ⟨0xB1004, [], 0x0, 0x0, 0x0, 0x1, 0x0⟩,  -- MS_CTRL
  ⟨0xB1020, [], 0xFFFF00, 0x0, 0x0, 0x80000000, 0x0⟩,  -- MS_DCMD
  ⟨0xB1024, [], 0xFFFFFFFF, 0x0, 0x0, 0x0, 0x0⟩,  -- MS_DTX0
  ⟨0xB1028, [], 0xFFFFFFFF, 0x0, 0x0, 0x0, 0x0⟩,  -- MS_DTX1
  ⟨0xB102C, [], 0x0, 0x0, 0x0, 0x0, 0x0⟩,  -- MS_DRX0
  ⟨0xB1030, [], 0x0, 0x0, 0x0, 0x0, 0x0⟩,  -- MS_DRX1
  ⟨0xB1034, [], 0x0, 0x3, 0x0, 0x0, 0x0⟩,  -- MS_FLAGS
  ⟨0xB1038, [], 0xFFFFFFFF, 0x0, 0x0, 0x0, 0x0⟩,  -- MS_MISS
  ⟨0xB2020, [], 0x0, 0x0, 0x0, 0xF8FFFFFF, 0x0⟩,  -- PS_QENT
  ⟨0xB2024, [], 0x0, 0x0, 0x0, 0x0, 0x400000⟩,  -- PS_STAT
  ⟨0xB2028, [], 0x0, 0x0, 0x0, 0x0, 0x0⟩,  -- PS_RX
  ⟨0xB202C, [], 0x0, 0x7, 0x0, 0x0, 0x0⟩,  -- PS_FLAGS
  ⟨0xB2030, [], 0x1, 0x0, 0x0, 0x2, 0x0⟩,  -- PS_CTRL
  ⟨0xB2034, [], 0x9F0F, 0x0, 0x0, 0x0, 0x0⟩,  -- PS_EVT
  ⟨0xB1010, [(0x4, 4)], 0xF8FFFFFF, 0x0, 0x0, 0x0, 0x0⟩,  -- MS_REGIONr
  ⟨0xB2000, [(0x4, 6)], 0xFFFFFBC0, 0x0, 0x0, 0x0, 0x7112000⟩ ]  -- PS_SELCFGs

/-- ML_CFG (R352). -/
def ML_CFG : Nat := 0xC0000

/-- ML_STATUS (R352). -/
def ML_STATUS : Nat := 0xC0004

/-- ML_FLAGS (R352). -/
def ML_FLAGS : Nat := 0xC0008

/-- ML_TMCFG (R352). -/
def ML_TMCFG : Nat := 0xC000C

/-- ML_ARQ (R352). -/
def ML_ARQ : Nat := 0xC0010

/-- ML_REGION (R352). -/
def ML_REGION : Nat := 0xC0014

/-- ML_CONT (R352). -/
def ML_CONT : Nat := 0xC0018

/-- ML_ADMIT (R352). -/
def ML_ADMIT : Nat := 0xC001C

/-- ML_CNT0 (R352). -/
def ML_CNT0 : Nat := 0xC0020

/-- ML_CNT1 (R352). -/
def ML_CNT1 : Nat := 0xC0024

/-- ML_LINKk (R352). -/
def ML_LINK (i : Nat) : Nat := 0xC0100 + 0x4 * i

/-- ML_ALLOCk (R352). -/
def ML_ALLOC (i : Nat) : Nat := 0xC0200 + 0x4 * i

/-- The rows of the mlink block (R352). -/
def mlinkRows : List RegRow := [
  ⟨0xC0000, [], 0xFFFFFFFF, 0x0, 0x0, 0x0, 0x10400000⟩,  -- ML_CFG
  ⟨0xC0004, [], 0x0, 0x0, 0x0, 0x0, 0x0⟩,  -- ML_STATUS
  ⟨0xC0008, [], 0x0, 0x1F, 0x0, 0x0, 0x0⟩,  -- ML_FLAGS
  ⟨0xC000C, [], 0xFFFFFFFF, 0x0, 0x0, 0x0, 0x140A0A08⟩,  -- ML_TMCFG
  ⟨0xC0010, [], 0xFFF, 0x0, 0x0, 0x0, 0x208⟩,  -- ML_ARQ
  ⟨0xC0014, [], 0x3FFFFFFF, 0x0, 0x0, 0x0, 0xB560AF5⟩,  -- ML_REGION
  ⟨0xC0018, [], 0xFFFF, 0x0, 0x0, 0x0, 0xFA0⟩,  -- ML_CONT
  ⟨0xC001C, [], 0x0, 0x0, 0x0, 0x17, 0x0⟩,  -- ML_ADMIT
  ⟨0xC0020, [], 0xFFFFFFFF, 0x0, 0x0, 0x0, 0x0⟩,  -- ML_CNT0
  ⟨0xC0024, [], 0xFFFFFFFF, 0x0, 0x0, 0x0, 0x0⟩,  -- ML_CNT1
  ⟨0xC0100, [(0x4, 16)], 0x80007F0F, 0x0, 0x0, 0x0, 0x0⟩,  -- ML_LINKk
  ⟨0xC0200, [(0x4, 32)], 0xFFFFFFFF, 0x0, 0x0, 0x0, 0x0⟩ ]  -- ML_ALLOCk

/-- TUn_CTRL (R352). -/
def TU_CTRL (i : Nat) : Nat := 0xD0000 + 0x100 * i

/-- TUn_COUNT (R352). -/
def TU_COUNT (i : Nat) : Nat := 0xD0004 + 0x100 * i

/-- TUn_RELOAD (R352). -/
def TU_RELOAD (i : Nat) : Nat := 0xD0008 + 0x100 * i

/-- TUn_CAPCFG (R352). -/
def TU_CAPCFG (i : Nat) : Nat := 0xD0020 + 0x100 * i

/-- TUn_FLAGS (R352). -/
def TU_FLAGS (i : Nat) : Nat := 0xD003C + 0x100 * i

/-- TUn_CMPk (R352). -/
def TU_CMP (i : Nat) (j : Nat) : Nat := 0xD0010 + 0x100 * i + 0x4 * j

/-- TUn_CAPkR (R352). -/
def TU_CAPR (i : Nat) (j : Nat) : Nat := 0xD0024 + 0x100 * i + 0xC * j

/-- TUn_CAPkF (R352). -/
def TU_CAPF (i : Nat) (j : Nat) : Nat := 0xD0028 + 0x100 * i + 0xC * j

/-- TUn_PWk (R352). -/
def TU_PW (i : Nat) (j : Nat) : Nat := 0xD002C + 0x100 * i + 0xC * j

/-- TUn_ROUTEr (R352). -/
def TU_ROUTE (i : Nat) (j : Nat) : Nat := 0xD0040 + 0x100 * i + 0x4 * j

/-- TB_LO (R352). -/
def TB_LO : Nat := 0xD1000

/-- TB_HI (R352). -/
def TB_HI : Nat := 0xD1004

/-- TB_EPLO (R352). -/
def TB_EPLO : Nat := 0xD1008

/-- TB_EPHI (R352). -/
def TB_EPHI : Nat := 0xD100C

/-- TB_OFSLO (R352). -/
def TB_OFSLO : Nat := 0xD1010

/-- TB_OFSHI (R352). -/
def TB_OFSHI : Nat := 0xD1014

/-- TB_CTRL (R352). -/
def TB_CTRL : Nat := 0xD1018

/-- TB_FLAGS (R352). -/
def TB_FLAGS : Nat := 0xD101C

/-- The rows of the timer block (R352). -/
def timerRows : List RegRow := [
  ⟨0xD0000, [(0x100, 8)], 0x3F01, 0x0, 0x0, 0xE, 0x0⟩,  -- TUn_CTRL
  ⟨0xD0004, [(0x100, 8)], 0x0, 0x0, 0x0, 0x0, 0x0⟩,  -- TUn_COUNT
  ⟨0xD0008, [(0x100, 8)], 0xFFFFFFFF, 0x0, 0x0, 0x0, 0xFFFFFFFF⟩,  -- TUn_RELOAD
  ⟨0xD0020, [(0x100, 8)], 0x77, 0x0, 0x0, 0x0, 0x0⟩,  -- TUn_CAPCFG
  ⟨0xD003C, [(0x100, 8)], 0x0, 0x3FFF, 0x0, 0x0, 0x0⟩,  -- TUn_FLAGS
  ⟨0xD0010, [(0x100, 8), (0x4, 4)], 0xFFFFFFFF, 0x0, 0x0, 0x0, 0xFFFFFFFF⟩,  -- TUn_CMPk
  ⟨0xD0024, [(0x100, 8), (0xC, 2)], 0x0, 0x0, 0x0, 0x0, 0x0⟩,  -- TUn_CAPkR
  ⟨0xD0028, [(0x100, 8), (0xC, 2)], 0x0, 0x0, 0x0, 0x0, 0x0⟩,  -- TUn_CAPkF
  ⟨0xD002C, [(0x100, 8), (0xC, 2)], 0x0, 0x0, 0x0, 0x0, 0x0⟩,  -- TUn_PWk
  ⟨0xD0040, [(0x100, 8), (0x4, 4)], 0x8F701F7F, 0x0, 0x0, 0x0, 0x0⟩,  -- TUn_ROUTEr
  ⟨0xD1000, [], 0x0, 0x0, 0x0, 0x0, 0x0⟩,  -- TB_LO
  ⟨0xD1004, [], 0x0, 0x0, 0x0, 0x0, 0x0⟩,  -- TB_HI
  ⟨0xD1008, [], 0x0, 0x0, 0x0, 0x0, 0x0⟩,  -- TB_EPLO
  ⟨0xD100C, [], 0x0, 0x0, 0x0, 0x0, 0x0⟩,  -- TB_EPHI
  ⟨0xD1010, [], 0xFFFFFFFF, 0x0, 0x0, 0x0, 0x0⟩,  -- TB_OFSLO
  ⟨0xD1014, [], 0xFFFFFFFF, 0x0, 0x0, 0x0, 0x0⟩,  -- TB_OFSHI
  ⟨0xD1018, [], 0x0, 0x0, 0x1, 0x0, 0x0⟩,  -- TB_CTRL
  ⟨0xD101C, [], 0x0, 0x7, 0x0, 0x0, 0x0⟩ ]  -- TB_FLAGS

/-- CCn_CFG (R352). -/
def CC_CFG (i : Nat) : Nat := 0xE0000 + 0x40 * i

/-- CCn_POLY (R352). -/
def CC_POLY (i : Nat) : Nat := 0xE0004 + 0x40 * i

/-- CCn_INIT (R352). -/
def CC_INIT (i : Nat) : Nat := 0xE0008 + 0x40 * i

/-- CCn_XOROUT (R352). -/
def CC_XOROUT (i : Nat) : Nat := 0xE000C + 0x40 * i

/-- CCn_EXPECT (R352). -/
def CC_EXPECT (i : Nat) : Nat := 0xE0010 + 0x40 * i

/-- CCn_STATE (R352). -/
def CC_STATE (i : Nat) : Nat := 0xE0014 + 0x40 * i

/-- CCn_RESULT (R352). -/
def CC_RESULT (i : Nat) : Nat := 0xE0018 + 0x40 * i

/-- CCn_CTRL (R352). -/
def CC_CTRL (i : Nat) : Nat := 0xE001C + 0x40 * i

/-- CCn_FLAGS (R352). -/
def CC_FLAGS (i : Nat) : Nat := 0xE0020 + 0x40 * i

/-- CCn_CNT (R352). -/
def CC_CNT (i : Nat) : Nat := 0xE0024 + 0x40 * i

/-- The rows of the crc block (R352). -/
def crcRows : List RegRow := [
  ⟨0xE0000, [(0x40, 8)], 0xF1F8F1F, 0x0, 0x0, 0x0, 0x0⟩,  -- CCn_CFG
  ⟨0xE0004, [(0x40, 8)], 0xFFFFFFFF, 0x0, 0x0, 0x0, 0x4C11DB7⟩,  -- CCn_POLY
  ⟨0xE0008, [(0x40, 8)], 0xFFFFFFFF, 0x0, 0x0, 0x0, 0xFFFFFFFF⟩,  -- CCn_INIT
  ⟨0xE000C, [(0x40, 8)], 0xFFFFFFFF, 0x0, 0x0, 0x0, 0xFFFFFFFF⟩,  -- CCn_XOROUT
  ⟨0xE0010, [(0x40, 8)], 0xFFFFFFFF, 0x0, 0x0, 0x0, 0x0⟩,  -- CCn_EXPECT
  ⟨0xE0014, [(0x40, 8)], 0xFFFFFFFF, 0x0, 0x0, 0x0, 0xFFFFFFFF⟩,  -- CCn_STATE
  ⟨0xE0018, [(0x40, 8)], 0x0, 0x0, 0x0, 0x0, 0x0⟩,  -- CCn_RESULT
  ⟨0xE001C, [(0x40, 8)], 0x0, 0x0, 0x0, 0x3, 0x0⟩,  -- CCn_CTRL
  ⟨0xE0020, [(0x40, 8)], 0x0, 0x3, 0x0, 0x0, 0x0⟩,  -- CCn_FLAGS
  ⟨0xE0024, [(0x40, 8)], 0xFFFFFFFF, 0x0, 0x0, 0x0, 0x0⟩ ]  -- CCn_CNT

/-- CAL_STATUS (R352). -/
def CAL_STATUS : Nat := 0xF0000

/-- CAL_UHF (R352). -/
def CAL_UHF : Nat := 0xF0004

/-- CAL_TEMPk (R352). -/
def CAL_TEMP (i : Nat) : Nat := 0xF0010 + 0x4 * i

/-- CAL_DIEc (R352). -/
def CAL_DIE (i : Nat) : Nat := 0xF0030 + 0x4 * i

/-- CAL_UVALIDn (R352). -/
def CAL_UVALID (i : Nat) : Nat := 0xF0100 + 0x4 * i

/-- CAL_HVALIDn (R352). -/
def CAL_HVALID (i : Nat) : Nat := 0xF0140 + 0x4 * i

/-- CAL_GVALID (R352). -/
def CAL_GVALID : Nat := 0xF0160

/-- CAL_CNT (R352). -/
def CAL_CNT : Nat := 0xF0170

/-- The rows of the cal block (R352). -/
def calRows : List RegRow := [
  ⟨0xF0000, [], 0x0, 0x0, 0x0, 0x0, 0x0⟩,  -- CAL_STATUS
  ⟨0xF0004, [], 0xFFFF0000, 0x0, 0x0, 0x0, 0x50000000⟩,  -- CAL_UHF
  ⟨0xF0010, [(0x4, 8)], 0x0, 0x0, 0x0, 0x0, 0x0⟩,  -- CAL_TEMPk
  ⟨0xF0030, [(0x4, 4)], 0x0, 0x0, 0x0, 0x0, 0x0⟩,  -- CAL_DIEc
  ⟨0xF0100, [(0x4, 16)], 0x0, 0x0, 0x0, 0x0, 0x0⟩,  -- CAL_UVALIDn
  ⟨0xF0140, [(0x4, 8)], 0x0, 0x0, 0x0, 0x0, 0x0⟩,  -- CAL_HVALIDn
  ⟨0xF0160, [], 0x0, 0x0, 0x0, 0x0, 0x0⟩,  -- CAL_GVALID
  ⟨0xF0170, [], 0xFFFFFFFF, 0x0, 0x0, 0x0, 0x0⟩ ]  -- CAL_CNT

/-- SF_STATUS (R352). -/
def SF_STATUS : Nat := 0x100000

/-- SF_CTRL (R352). -/
def SF_CTRL : Nat := 0x100004

/-- SF_FLAGS (R352). -/
def SF_FLAGS : Nat := 0x100008

/-- SF_EVT (R352). -/
def SF_EVT : Nat := 0x10000C

/-- SF_PROFILE (R352). -/
def SF_PROFILE : Nat := 0x100010

/-- SF_COUNTER (R352). -/
def SF_COUNTER : Nat := 0x100014

/-- SF_REQk (R352). -/
def SF_REQ (i : Nat) : Nat := 0x101000 + 0x4 * i

/-- SF_RSPk (R352). -/
def SF_RSP (i : Nat) : Nat := 0x102000 + 0x4 * i

/-- The rows of the saffron block (R352). -/
def saffronRows : List RegRow := [
  ⟨0x100000, [], 0x0, 0x0, 0x0, 0x0, 0x0⟩,  -- SF_STATUS
  ⟨0x100004, [], 0x0, 0x0, 0x0, 0x3, 0x0⟩,  -- SF_CTRL
  ⟨0x100008, [], 0x0, 0x1, 0x0, 0x0, 0x0⟩,  -- SF_FLAGS
  ⟨0x10000C, [], 0x9F0F, 0x0, 0x0, 0x0, 0x0⟩,  -- SF_EVT
  ⟨0x100010, [], 0x0, 0x0, 0x0, 0x0, 0x0⟩,  -- SF_PROFILE
  ⟨0x100014, [], 0x0, 0x0, 0x0, 0x0, 0x0⟩,  -- SF_COUNTER
  ⟨0x101000, [(0x4, 1024)], 0xFFFFFFFF, 0x0, 0x0, 0x0, 0x0⟩,  -- SF_REQk
  ⟨0x102000, [(0x4, 1024)], 0x0, 0x0, 0x0, 0x0, 0x0⟩ ]  -- SF_RSPk

/-- FLT_STATUS (R352). -/
def FLT_STATUS : Nat := 0x110000

/-- FLT_ACTIVE (R352). -/
def FLT_ACTIVE : Nat := 0x110004

/-- FLT_IRQ0EN (R352). -/
def FLT_IRQ0EN : Nat := 0x110008

/-- FLT_IRQ1EN (R352). -/
def FLT_IRQ1EN : Nat := 0x11000C

/-- FLT_IRQCFG (R352). -/
def FLT_IRQCFG : Nat := 0x110010

/-- FLT_EVT (R352). -/
def FLT_EVT : Nat := 0x110014

/-- FLT_LOGHEAD (R352). -/
def FLT_LOGHEAD : Nat := 0x110018

/-- FLT_CNTc (R352). -/
def FLT_CNT (i : Nat) : Nat := 0x110100 + 0x4 * i

/-- FLT_LOGAk (R352). -/
def FLT_LOGA (i : Nat) : Nat := 0x110200 + 0x8 * i

/-- FLT_LOGBk (R352). -/
def FLT_LOGB (i : Nat) : Nat := 0x110204 + 0x8 * i

/-- The rows of the fault block (R352). -/
def faultRows : List RegRow := [
  ⟨0x110000, [], 0x0, 0x3FFFF, 0x0, 0x0, 0x0⟩,  -- FLT_STATUS
  ⟨0x110004, [], 0x0, 0x0, 0x0, 0x0, 0x0⟩,  -- FLT_ACTIVE
  ⟨0x110008, [], 0x703FFFF, 0x0, 0x0, 0x0, 0x0⟩,  -- FLT_IRQ0EN
  ⟨0x11000C, [], 0x703FFFF, 0x0, 0x0, 0x0, 0x0⟩,  -- FLT_IRQ1EN
  ⟨0x110010, [], 0xFFF0003, 0x0, 0x0, 0x0, 0x1000000⟩,  -- FLT_IRQCFG
  ⟨0x110014, [], 0x9F0F, 0x0, 0x0, 0x0, 0x0⟩,  -- FLT_EVT
  ⟨0x110018, [], 0xFFFF0000, 0x0, 0x0, 0x0, 0x0⟩,  -- FLT_LOGHEAD
  ⟨0x110100, [(0x4, 18)], 0xFFFF, 0x0, 0x0, 0x0, 0x0⟩,  -- FLT_CNTc
  ⟨0x110200, [(0x8, 16)], 0x0, 0x0, 0x0, 0x0, 0x0⟩,  -- FLT_LOGAk
  ⟨0x110204, [(0x8, 16)], 0x0, 0x0, 0x0, 0x0, 0x0⟩ ]  -- FLT_LOGBk

/-- NV_PAGE (R352). -/
def NV_PAGE : Nat := 0x120000

/-- The rows of the nv block (R352). -/
def nvRows : List RegRow := [
  ⟨0x120000, [], 0x7, 0x0, 0x0, 0x0, 0x4⟩ ]  -- NV_PAGE

/-- The rows of the spare chains' blocks, where only the registers of R95 and R159 exist (R351). -/
def spareRows : List RegRow := [
  ⟨0x29004, [(0x10000, 2)], 0, 0, 0, 0, 0⟩, -- UPn_STATUS of SA, SB
  ⟨0x2901C, [(0x10000, 2)], 0x3, 0, 0, 0, 0x1⟩, -- UPn_CNC
  ⟨0x29024, [(0x10000, 2)], 0, 0, 0, 0, 0x70000⟩, -- UPn_AGC_STAT
  ⟨0x29028, [(0x10000, 2)], 0xFFFFFFFF, 0, 0, 0, 0⟩, -- UPn_CLIPCNT
  ⟨0x29034, [(0x10000, 2)], 0, 0, 0, 0, 0⟩, -- UPn_IQCORR
  ⟨0x29038, [(0x10000, 2)], 0, 0, 0, 0, 0⟩, -- UPn_PHCORR
  ⟨0x29180, [(0x10000, 2), (0x4, 8)], 0, 0, 0, 0, 0⟩, -- UPn_AGCGk
  ⟨0x49004, [], 0, 0, 0, 0, 0⟩, -- HPn_STATUS of SH
  ⟨0x49030, [], 0, 0, 0, 0, 0⟩ ] -- HPn_RXCORR of SH

/-- The rows of the 64 KiB block an address lies in (R17). -/
def blockRows (a : Nat) : List RegRow :=
  match a / 0x10000 with
  | 0x0 => sysRows
  | 0x1 => clkRows
  | 0x2 => uhfRows ++ spareRows
  | 0x3 => uhfRows ++ spareRows
  | 0x4 => hcRows ++ hpRows ++ spareRows
  | 0x5 => chirpRows
  | 0x6 => surveyRows
  | 0x7 => airRows
  | 0x8 => threadRows
  | 0x9 => ringRows
  | 0xA => schedRows
  | 0xB => serialRows
  | 0xC => mlinkRows
  | 0xD => timerRows
  | 0xE => crcRows
  | 0xF => calRows
  | 0x10 => saffronRows
  | 0x11 => faultRows
  | 0x12 => nvRows
  | _ => []

/-- The row of the register at an address; none for an unassigned offset (R5). -/
def regRow (a : Nat) : Option RegRow := (blockRows a).find? fun r => r.covers a

/-- What a register reads as at reset: the value its table gives; for the Legend page the per-unit
identity (R307); for CK_CLKOUTk EN = 1 on output 0 and the LVCMOS format of the output's bank. -/
def resetWord (a : Nat) : Word :=
  if a = LG_UID0 then Config.legendUid.extractLsb' 64 32
  else if a = LG_UID1 then Config.legendUid.extractLsb' 32 32
  else if a = LG_UID2 then Config.legendUid.extractLsb' 0 32
  else if a = LG_PART then 0x2416#16 ++ (if Config.gradeI then 0x49#8 else 0x43#8) ++ Config.legendStepping
  else if LG_PUB 0 ≤ a ∧ a < LG_PUB 16 then
    Config.legendKey.extractLsb' (32 * (15 - (a - LG_PUB 0) / 4)) 32
  else match regRow a with
    | none => 0
    | some r =>
      if CK_CLKOUT 0 ≤ a ∧ a < CK_CLKOUT 4 then
        r.reset ||| (if a = CK_CLKOUT 0 then 0x80000000 else 0) |||
          (if Config.bankIs33 (decide (CK_CLKOUT 2 ≤ a)) then 0x01000000 else 0)
      else r.reset

end Sys2Proof.Machine
end

