-- ==== Sys2Proof/Machine/State.lean ====
section
/-!
DEFINITION. The state of the PX2416 as plain data: registers, memories, threads, tickets and air
operations, ports, synthesizers, rings, serial ports, mains link, power, security, and the queue of
commands that wait.
-/

namespace Sys2Proof.Machine

/-- Byte memory: (offset, byte) pairs, offsets strictly rising, no byte 0 listed (R25 clears to 0). -/
abbrev Mem := List Host.Cell

/-! ### Threads (R20 to R54) -/

/-- The six thread states of R22. -/
inductive ThState where
  | off | run | wait | refetch | halted | trapped
deriving DecidableEq, Repr

/-- The four states of a ticket slot (R36). -/
inductive SlotState where
  | free | pending | active | done
deriving DecidableEq, Repr

/-- A ticket slot: its state, the held completion word (R38), and whether completion is to be
discarded after a THREAD_RESET (R24). -/
structure Slot where
  st      : SlotState := .free
  word    : Word := 0
  discard : Bool := false
deriving DecidableEq, Repr

/-- A Benlon thread (R21) with the registers of its THREAD page (R54). -/
structure Thread where
  st       : ThState := .off
  pc       : Word := 0
  g        : Vector Word 16 := Vector.replicate 16 0
  z        : Bool := false
  n        : Bool := false
  c        : Bool := false
  v        : Bool := false
  rstack   : List Word := []
  tactive  : Bool := false
  tven     : Bool := false
  tvec     : Word := 0
  tpc      : Word := 0
  taddr    : Word := 0
  tcause   : Word := 0
  event    : Word := 0
  haltsrc  : BitVec 3 := 0
  waiting  : Option Instr := none       -- the instruction that waits (R22)
  waitOn   : BitVec 4 := 0              -- THn_STATUS.WAITON
  deadline : Option Nat := none         -- end of a SLEEPU or timeout, in elapsed ticks (R49)
  refLine  : Option Nat := none         -- the program-store line a thread in Refetch waits for
  xipLine  : Option Nat := none         -- the XIP line a thread waits for (R222)
  met      : Option Nat := none         -- when what a timed wait awaits first came, elapsed ticks (R39, R48)
  shedHalt : Bool := false              -- halted by shedding level 5, restarted by R306
  posted   : List (Word × Word) := []   -- STIO writes that wait for the register bus (R45)
  slots    : Vector Slot 16 := Vector.replicate 16 {}
  mem      : Mem := []                  -- 2 KiB of local memory
deriving DecidableEq, Repr

/-! ### Rings (R182 to R202) -/

/-- A ring word: 64 data bits, the tags V, P, S and E (R184), and the tick it was written (R202). -/
structure RWord where
  data : DWord := 0
  v    : Bool := false
  p    : Bool := false
  s    : Bool := false
  e    : Bool := false
  tick : Nat := 0
deriving DecidableEq, Repr

/-- Who writes a ring (R183, R186). -/
inductive Producer where
  | thread (t : Tid)
  | host
  | mains
  | xfer (x : Fin 4)
  | air (o : OpId)
deriving DecidableEq, Repr

/-- A producer's item as it stands on a ring: its LENGTH field and the words pushed so far (R186,
R191). -/
structure OpenItem where
  by_    : Producer
  length : Nat
  count  : Nat
deriving DecidableEq, Repr

/-- The live latency statistics of a ring (R202). -/
structure LatStat where
  maxDepth : Nat := 0
  sumDepth : Nat := 0
  maxDelay : Nat := 0
  sumDelay : Nat := 0
  delays   : Nat := 0
  samples  : Nat := 0
  depthBins : Vector Nat 8 := Vector.replicate 8 0
  delayBins : Vector Nat 8 := Vector.replicate 8 0
deriving DecidableEq, Repr

/-- A ring: the words present, oldest first; the item open on it; producers in orphan drop (R191);
the held last word of R43; the egress scheduler's credit (R195) and its statistics. -/
structure Ring where
  words   : List RWord := []
  open_   : Option OpenItem := none
  orphans : List OpenItem := []
  last    : RWord := {}
  deficit : Int := 0
  visited : Bool := false
  lat     : LatStat := {}
deriving DecidableEq, Repr

/-- A transfer channel XF0 to XF3 (R194): the request being served, one further request held, and
the configuration latched when EN went from 0 to 1. -/
structure Xfer where
  busy : Bool := false
  held : Bool := false
  mid  : Bool := false               -- in the middle of an item
  cfg  : Word := 0
deriving DecidableEq, Repr

/-- An RFC 2698 meter (R199, R201): tokens in millionths of a µs (or of a byte), and for an ingress
meter the elapsed tick up to which it was refilled. -/
structure Meter where
  tc   : Int := 0
  tp   : Int := 0
  tick : Nat := 0
deriving DecidableEq, Repr

/-! ### Air operations (R55 to R121) -/

/-- An entry of the tag table (R110): the HANDLE it was given, PC, XPC and EPC words, and the bank
position P of a tag tabled from a truncated reply (R106). -/
structure TagEntry where
  handle : Word
  pc     : BitVec 16
  xpc1   : BitVec 16
  xpc2   : BitVec 16
  epc    : List (BitVec 16)
  trunc  : Option Nat
deriving DecidableEq, Repr

/-- A command the PX2416 puts on the air (R96, R106, R111, R112, R115): its name, its bits MSB first,
and whether it opens with the Query preamble or frame-sync. -/
structure AirCmd where
  name     : String := ""
  bits     : List Bool := []
  preamble : Bool := false
deriving DecidableEq, Repr

/-- The states of the inventory state machine (R103). -/
inductive RState where
  | start | open_ | next | waitRN | ack | waitEPC | nak | pause | metered | ended
deriving DecidableEq, Repr

/-- The outcome of a slot (R104, R107). -/
inductive SlotOutcome where
  | none | empty | collision | success | crcFail
deriving DecidableEq, Repr

/-- What was latched when a reply's preamble was found (R100, R109): TB at its end and at the on-air start estimate,
the link frequency, the combined RSSI, and for each port of the beam its SNR in 1/8 dB and corrected phase. -/
structure Latched where
  tb    : BitVec 64
  start : BitVec 64
  freq  : Nat
  rssi  : BitVec 16
  rx    : List (UPortNo × BitVec 10 × Int)
deriving DecidableEq, Repr

/-- The progress of a U.ROUND (R103 to R108). -/
structure RoundSt where
  st       : RState := .start
  fresh    : Bool := true               -- Start has not been entered yet
  qfp      : Nat := 0                   -- hundredths
  q        : Nat := 0
  slots    : Nat := 0
  tags     : Nat := 0
  colls    : Nat := 0
  crcs     : Nat := 0
  empties  : Nat := 0                   -- consecutive empty slots at q = 0 (R105)
  outcome  : SlotOutcome := .none
  rn16     : BitVec 16 := 0
  slotTb   : Word := 0                  -- TB[31:0] at the end of the slot's command (R108)
  trunc    : Option Nat := none         -- P of the truncating Select before the round (R106)
deriving DecidableEq, Repr

/-- The steps of a U.ACCESS (R111, R112). -/
inductive AccStep where
  | select | queryA | queryB | ack | reqRn | pwRn1 | pw1 | pwRn2 | pw2 | cmdRn | cmd | killRn2 | kill2 | done
deriving DecidableEq, Repr

/-- The progress of a U.ACCESS. -/
structure AccessSt where
  step   : AccStep := .select
  rn     : BitVec 16 := 0       -- the RN16 last received
  handle : BitVec 16 := 0       -- the tag's handle from step 5
  words  : Nat := 0             -- words confirmed
  sent   : Bool := false        -- the command of word 7 has been sent (R74)
deriving DecidableEq, Repr

/-- The command of an S.FIX hop that awaits an RN16 (R127). -/
inductive FixStage where
  | idle | queryA | queryB | adjust | retryLast | retryOther | query
deriving DecidableEq, Repr

/-- A usable hop of an S.FIX (R128): its number, its frequency in Hz, and the usable ports with phase and SNR. -/
structure FixHop where
  pos  : Nat
  freq : Nat
  meas : List (UPortNo × BitVec 10 × Int)
deriving DecidableEq, Repr

/-- The progress of an S.FIX (R126 to R128). -/
structure FixSt where
  stage    : FixStage := .idle
  target   : Bool := false              -- the target of the last Query: false A, true B
  drew     : Option Bool := none        -- the target that last drew a reply
  ill      : Nat := 0                   -- the illuminator (R126)
  carrierHop : Bool := true             -- this hop starts its carrier (R127: not a slewed hop)
  usable   : List FixHop := []
  firstTb  : Word := 0
  paused   : Bool := false              -- paused by the meter (R120)
deriving DecidableEq, Repr

/-- The command of an H.ACTIVATE that awaits a reply (R146): REQA, WUPA, REQB, WUPB or Inventory; a Slot-MARKER or an
EOF; ANTICOLLISION; SELECT; HLTB; ATTRIB; the Select of 15693. -/
inductive ActStep where
  | request | slot | anticoll | select | hltb | attrib | vselect
deriving DecidableEq, Repr

/-- The progress of an H.ACTIVATE (R146). -/
structure ActSt where
  step    : ActStep := .request
  later   : Bool := false          -- a request has been sent
  replies : Bool := false          -- something was received
  tries   : Nat := 0               -- times this card was tried again
  level   : Nat := 1               -- Type A cascade level
  known   : List Bool := []        -- UID bits known of this level, with BCC once complete
  uid     : List Byte := []        -- UID bytes of the levels before
  card    : List Byte := []        -- the ATQA, the ATQB or the Inventory answer of this card
  halt    : Bool := false          -- HLTA goes out before anything else
  exp     : Nat := 0               -- Type B slots, as a power of 2
  slot    : Nat := 1
  drew    : Bool := false          -- a reply came in this round
  coll    : Bool := false          -- a slot of this round collided
  mask    : Nat × Nat := (0, 0)    -- the 15693 mask: bits, value
  queue   : List (Nat × Nat × Nat) := []   -- masks to search yet, with the times tried
deriving DecidableEq, Repr

/-- The stages of a K.CAL run (R273 to R281). -/
inductive CalStage where
  | preconds | waitSwitch | measuring | waitReturn | applying | writing | over
deriving DecidableEq, Repr

/-- The progress of a K.CAL run. -/
structure CalSt where
  stage   : CalStage := .preconds
  set     : Fin 5 := 0
  temp    : BitVec 16 := 0
  quality : BitVec 16 := 0
  values  : List Int := []
  verdict : Byte := 0            -- the status the run will complete with
  radiates : Bool := false       -- it put a carrier of its own on the air (R272)
  since   : Nat := 0             -- when it began, or when its measurement did (R270, R273)
deriving DecidableEq, Repr

/-- What an Active operation is doing (R103 to R181, R270). -/
inductive Engine where
  | idle
  | carrier                        -- waits for its carrier (R79)
  | select
  | round (r : RoundSt)
  | access (a : AccessSt)
  | raw
  | hfield (on : Bool)
  | hactivate (a : ActSt)
  | hframe (waiting : Bool)
  | hwatch (scans changes : Nat)
  | listen (closed : Bool) (got : Nat)
  | csend (chirping : Bool) (first : Word)
  | fix (f : FixSt)
  | solve (f : FixSt)
  | cal (c : CalSt)
deriving DecidableEq, Repr

/-- An air operation from AIR to its completion (R64). -/
structure Op where
  id       : OpId
  desc     : Vector Word 16
  active   : Bool := false
  started  : Bool := false          -- the class command (U_ROUND, H_FIELD, ...) has begun it
  due      : Bool := false          -- its start time has been reached (R69)
  expTick  : Option Nat := none     -- its expiry once it runs, elapsed ticks (R65, R289)
  redLast  : Bool := false          -- red at the last eligibility test (R64)
  counted  : Bool := false          -- this spell of deferral has been counted (R200)
  pwrSer   : Bool := false          -- counted in HC_SERCNT.PWRSER (R148)
  compSer  : Bool := false          -- counted in HC_SERCNT.COMPSER (R149)
  cancel   : Bool := false          -- a cancellation request was taken (R74)
  words    : Nat := 0               -- result words placed, of items written to their end (R38)
  part     : Nat := 0               -- words placed of the item in progress on its ring (R38)
  okItems  : Nat := 0               -- items with status OK (R67)
  items    : Nat := 0               -- items produced
  memWords : Nat := 0               -- ring words written to thread memory (R29)
  limitHit : Bool := false          -- the next item would pass LIMIT (R61)
  held     : List RWord := []       -- an item assembled and held for a full ring (R187)
  ending   : Option Byte := none    -- ended with this status, waiting for its held item (R66)
  endTick  : Nat := 0               -- when it ended so, elapsed ticks (R68)
  released : Bool := false          -- its resources are released already (R74, R93)
  freq     : Nat := 0               -- frequency in force, Hz
  pos      : Nat := 0               -- position p of R117
  moved    : Nat := 0               -- positions moved on in this dwell by R119
  lbtWait  : Bool := false          -- a listen of R119 runs or is due
  dwellEnd : Option Nat := none     -- close of the dwell in force, elapsed ticks
  hopDue   : Bool := false          -- a hop waits for its held item to be written (R187)
  settled  : Bool := false          -- carrier up and CW settled on every port (R79)
  bscCfg   : Word := 0              -- AIR_BSC_CFG latched at dispatch
  link     : Word := 0              -- link word: word 4, or SV_LINK for S.FIX (R126)
  cfg      : Word := 0              -- SV_CFG or HC_ACTCFG latched at dispatch
  cmd      : AirCmd := {}           -- the last command sent
  cmdTb    : BitVec 64 := 0         -- TB at the end of that command
  cmdFrom  : Nat := 0               -- the start of an HF frame, or the end of a settle, elapsed ticks
  cmdEnd   : Nat := 0               -- the end of that command, elapsed ticks
  atlas    : List Word := []        -- the Atlas an S.FIX was dispatched with (R122)
  entry    : Option TagEntry := none -- the tag-table entry named by HANDLE, as at dispatch (R356)
  retest   : Bool := false          -- the profile changed since dispatch (R315)
  latched  : Option Latched := none -- the preamble of the reply in progress
  reply    : Bool := false          -- a reply is in progress
  gap      : Bool := false          -- a residue mismatch fell within it (R324)
  winFrom  : Option Nat := none     -- a reply is awaited: its window opens, elapsed ticks (R101)
  winTo    : Nat := 0               -- and closes
  entries  : BitVec 16 := 0         -- channel-table entries latched by a C.LISTEN (R165)
  chans    : List (Nat × Nat) := [] -- (frequency, bandwidth) of those entries
  winOpen  : Nat := 0               -- listening window opens, elapsed ticks (R167)
  chirps   : List (Option Nat) := []   -- the chirps a C.SEND puts on the air: down-chirps, and shifts (R161 to R164)
  band     : Option (Fin 4) := none -- the chirp sub-band of a C.SEND (R179)
  charged  : Nat := 0               -- µs of a C.SEND's frame charged to its thread so far (R180)
  eng      : Engine := .idle
deriving DecidableEq, Repr

/-! ### Ports and synthesizers -/

/-- The AGC states of R88. -/
inductive AgcState where
  | free | frozen | stepped
deriving DecidableEq, Repr

/-- A UHF port beyond its registers (R77 to R95). -/
structure UPort where
  carrier  : Option (LoNo × Nat) := none   -- carrier on: its LO and frequency
  upTick   : Nat := 0                      -- when the carrier reached its level, elapsed ticks (R117)
  level    : Int := 0                      -- driver level in force, 0.25 dBm
  pa       : Bool := false                 -- UPAn asserted
  capped   : Bool := false                 -- carrier started or capped under shedding (R81)
  full     : Int := 0                      -- the level asked of it after R77's clamp, before any cap or BACKOFF
  holdover : Option (OpId × Nat) := none   -- carrier in holdover: the operation that left it, and when
  faulted  : Bool := false
  probes   : Nat := 0                      -- consecutive probes passed (R94)
  spare    : Bool := false                 -- the cluster's spare serves this port
  dpdOff   : Bool := false                 -- DPD bypassed for the operation (R83)
  beam     : Word := 0x00FF                -- BEAMW latched (R78)
  ctrl     : Word := 0x10                  -- UPn_CTRL latched at dispatch
  txcfg    : Word := 0                     -- UPn_TXCFG latched at dispatch (PAGAIN)
  agc      : AgcState := .free
  step     : Nat := 7                      -- gain step
  cncLock  : Bool := false
  truncP   : Option (Nat × Nat) := none    -- when the last truncating Select was sent here, and its P (R106)
deriving DecidableEq, Repr

/-- An HF port beyond its registers (R136 to R159). -/
structure HPort where
  field    : Bool := false
  level    : Nat := 0               -- 10 mW units
  phase    : BitVec 7 := 0          -- carrier phase in force (R139)
  saved    : Option Nat := none     -- the level a K.CAL HDI gives back at its end
  leftBy   : Option (OpId × Nat) := none   -- a field left on by an H.FIELD, and when (R198)
  gapTo    : Nat := 0               -- the next frame to a card begins no sooner, elapsed ticks (R144)
  faulted  : Bool := false
  probes   : Nat := 0
  spare    : Bool := false
  present  : Bool := false          -- card-watch state Present (R153)
  count    : Nat := 0               -- consecutive scans at or above THR
  presentScans : Nat := 0
  needBase : Bool := false          -- the next scan sets the baseline (R152)
deriving DecidableEq, Repr

/-- A local oscillator beyond its registers (R258 to R265). -/
structure Lo where
  lock     : Bool := false
  slewing  : Bool := false
  aligned  : Bool := false
  relock   : Bool := false          -- a relock is in progress
  unlocked : Bool := false          -- relocking after an unlock (R357)
  freq     : Nat := 0               -- Hz
  m        : Word := 0
  band     : BitVec 7 := 0
  tset     : Fin 5 := 0
  vtune    : Byte := 0
  search   : Bool := false          -- the relock searches its band code (R261)
  lfsr     : BitVec 16 := 1         -- dither LFSR as loaded (R259)
  lfsrTick : Nat := 0               -- and when, elapsed ticks
  accum    : BitVec 29 := 0         -- the modulator's accumulator as loaded (R264)
  slips    : List Nat := []         -- quarter cycles the ÷4 divider of each port was slipped (R264)
  inject   : Int := 0               -- one-shot phase offset injected, 1/1024 cycle (R264)
  next     : Option Nat := none     -- a step requested during a slew or relock
deriving DecidableEq, Repr

/-- The clocks (R250 to R257, R266, R267). -/
structure Clk where
  refSrc   : BitVec 2 := 0
  mpllLock : Bool := false
  limp     : Bool := false
  settling : Bool := false
  epState  : BitVec 2 := 0
  epWait   : Bool := false          -- a member's next EPOCHI edge sets the divider
  epSeen   : Nat := 0                -- the last EPOCHI edge accepted, elapsed ticks (R267)
deriving DecidableEq, Repr

/-- A chirp reception in a decoder (R169 to R174). -/
structure Recep where
  port   : UPortNo
  chan   : Fin 16
  freq   : Nat                      -- the channel as latched by its listener, Hz
  bw     : Nat                      -- its bandwidth code
  so     : Fin 7                    -- SO - 5
  level  : Int
  ops    : List OpId                -- the C.LISTENs it belongs to (R167)
  idTb   : Word := 0
  netid  : Option (BitVec 12) := none
  rssi   : BitVec 16 := 0
  snr    : BitVec 16 := 0
  offset : Word := 0
  hdr    : Option (BitVec 24) := none   -- header passed
  capthr : Nat := 6                 -- CH_CFG read as the header passes
  step   : Bool := false            -- an overload step fell within it (R89)
  gap    : Bool := false            -- a residue mismatch of its front end fell within it (R324)
deriving DecidableEq, Repr

/-- A stored calibration result (R276). -/
structure CalSet where
  code   : Byte
  port   : Nat
  set    : Fin 5
  temp   : BitVec 16
  values : List Int
  stored : Bool
deriving DecidableEq, Repr

/-- A trim DAC: a signed register field, or one of the two mains AFE gain trims, receive and transmit. -/
inductive TrimRef where
  | reg (addr lo width : Nat)
  | mag (i : Fin 2)
deriving DecidableEq, Repr

/-- A trim DAC stepping towards a value (R280), and the run that applies it. -/
structure Applying where
  trim   : TrimRef
  target : Int
  op     : Option OpId
  due    : Nat                  -- the tick of its next step
deriving DecidableEq, Repr

/-- The value of a calibrated quantity last brought into force (R278, R280): K.CAL code, port, values. -/
structure CalBase where
  code   : Byte
  port   : Nat
  values : List Int
deriving DecidableEq, Repr

/-! ### Serial ports -/

/-- The answer to a host frame (R208 to R210), and what RESEND repeats (R215). -/
structure Answer where
  verdict : Byte
  ftype   : BitVec 4
  alive   : Byte
  length  : BitVec 12
  data    : List Word
deriving DecidableEq, Repr

/-- The host serial port beyond its registers (R203 to R220). -/
structure Hsp where
  expect   : Byte := 1
  devAlive : Byte := 0
  verdict  : Byte := 0xFF
  answer   : Option Answer := none   -- the answer the next reply carries
  kept     : List Answer := []       -- the last four, newest first
  reply    : List Word := []         -- the words of the last reply sent ([] when zeros were sent)
  ready    : Bool := false
  loading  : Bool := false
  loadErr  : Bool := false
  silent   : Bool := false
  timerOn  : Bool := false           -- the host-silent timer runs
  split    : Bool := false           -- a split frame is open
  splitHdr : Word := 0               -- its header word, 0 before it was received
  splitSent : Bool := false          -- the reply of its first select was sent to its CRC word
  badRun   : Nat := 0                -- consecutive BADCRC or TRUNCATED answers (R325)
  txq      : List RWord := []        -- the transmit queue, up to 2,048 ring words
  cursor   : Nat := 0                -- DRR cursor over E4 to E15 (R195), 0 to 11
  sending  : Option RingNo := none   -- the ring whose item is in transfer
  sendLeft : Nat := 0                -- words of that item the deficit has already paid for
  refetch  : List Nat := []          -- lines that wait for a host refetch (R323)
deriving DecidableEq, Repr

/-- The peripheral serial port beyond its registers (R225 to R227). -/
structure Psp where
  queue : List Word := []
  word  : Option Word := none        -- the entry in progress
  held  : Option (BitVec 3) := none  -- the select held by CONT
  rx    : List Word := []
deriving DecidableEq, Repr

/-- The memory serial port beyond its registers (R221 to R224): cached lines, most recently used
first, and the fills requested, in order. -/
structure Msp where
  lines : List (Nat × List Word) := []
  fills : List Nat := []
  queued : Bool := false             -- the direct command waits for the fill in progress (R224)
deriving DecidableEq, Repr

/-- A timer unit beyond its registers (R282 to R285): whether its lap is a long one, where the count that TUn_COUNT
holds was taken, the wraps since the last rising edge of each capture channel, and from where each compare channel
waits for its next match, in elapsed ticks. -/
structure TuSt where
  long  : Bool := false
  at_   : Nat := 0
  wraps : Vector Nat 2 := Vector.replicate 2 0
  seen  : Vector Nat 4 := Vector.replicate 4 0
deriving DecidableEq, Repr

/-! ### Mains link (R228 to R249) -/

/-- A tone map (R236, R237): region 0 to 5 or 7, its version, the short prefix, the rate, and the codes of carriers
76 to 1057. -/
structure MlMap where
  index : BitVec 3
  tmseq : Byte
  cp    : Bool
  cr    : BitVec 2
  codes : List (BitVec 3)
deriving DecidableEq, Repr

/-- A peer station (R232, R236 to R247). -/
structure MlPeer where
  id       : BitVec 7
  uid      : BitVec 96 := 0
  up       : Bool := false
  key      : Option (BitVec 128) := none   -- the link key (R246)
  hfonTick : Option Nat := none       -- last HFON report, elapsed ticks (R239)
  negated  : Option Bool := none      -- the sign of the link as last seen (R232)
  seesNeg  : Bool := false            -- it sees this station negated
  maps     : List MlMap := []         -- maps to use towards it, one for each index (R237)
  tmSeq    : Byte := 0                -- version of the last map sent to it
  own      : List (MlMap × Nat) := []   -- maps sent to it, newest first, and when (R237)
  mapTick  : Nat := 0                 -- when maps were last sent to it
  soundReq : BitVec 6 := 0            -- regions it asked sounding for
  asked    : BitVec 6 := 0            -- regions this station asked sounding for (R238)
  signal   : List (Nat × List Nat) := []   -- its signal power by region (R236)
  demand   : BitVec 16 := 0           -- ALLOC_REQ, µs per cycle
  failed   : Nat := 0                 -- segments failed over the frames counted (R237)
  sentSegs : Nat := 0
  frames   : Nat := 0
  fallback : Bool := false            -- fell back to the robust map
  tmreq    : Bool := false            -- TMREQ is due in the next SACK to it
deriving DecidableEq, Repr

/-- A segment sent and not yet acknowledged, as it was formed: a repeat is the same (R243, R247). -/
structure MlOut where
  pn    : Nat
  tries : Nat
  seg   : List Word
deriving DecidableEq, Repr

/-- A link this station sends on (R243); LINK 0 carries messages. -/
structure MlTxLink where
  dst  : BitVec 7
  link : BitVec 4
  pn   : Nat := 0
  out  : List MlOut := []
deriving DecidableEq, Repr

/-- A link this station receives on (R243, R244): the next PN to deliver, the segments placed ahead of it with the
index of their first header, the PNs given up, the words of the item (or message) being completed, and after a loss the
words of it still to come beyond the segments lost. -/
structure MlRxLink where
  src    : BitVec 7
  bc     : Bool                      -- its destination is all stations
  link   : BitVec 4
  next   : Nat
  ahead  : List (Nat × BitVec 6 × List RWord) := []
  lost   : List Nat := []
  item   : List RWord := []
  gap    : Option (Bool × Nat) := none   -- after a loss: whether an item of it is counted, and what that item still owes
  since  : Nat := 0                  -- when a segment was last placed, elapsed ticks
deriving DecidableEq, Repr

/-- The peer's part of an association or pairing message (R245, R246). -/
structure MlAssoc where
  peer  : BitVec 7        -- station the message came from
  id    : BitVec 7 := 0   -- the id assigned
  uid   : BitVec 96 := 0
  q     : List DWord := []      -- ephemeral public key, 8 words
  cert  : List DWord := []      -- certificate, in whole words
  certBytes : BitVec 16 := 0
  sig   : BitVec 512 := 0
deriving DecidableEq, Repr

/-- An association or pairing in progress (R246). -/
structure MlPend where
  idx    : BitVec 3
  pair   : Bool
  asked  : Bool                      -- this station sent the request
  stage  : BitVec 2                  -- 0 waits for ML_ADMIT, 1 for the peer's CONF, 2 for KEY
  own    : Nat                       -- which ephemeral key of this station it uses
  id     : BitVec 7                  -- the id assigned, or the peer's id in a pairing
  a      : MlAssoc
  since  : Nat := 0                  -- its last progress, elapsed ticks
deriving DecidableEq, Repr

/-- A beacon (R241). -/
structure MlBeacon where
  nid      : BitVec 16
  cycle    : Word
  lengthUs : BitVec 16
  regions  : BitVec 30
  silent   : BitVec 16
  contLen  : BitVec 16
  zcLost   : Bool
  epochChanging : Bool
  epoch    : Byte
  allocs   : List (BitVec 7 × BitVec 16 × BitVec 16)
  members  : DWord
deriving DecidableEq, Repr

/-- The last frame this station sent: its frame control (R235) and its segments (R234). -/
structure MlSent where
  fc   : BitVec 96
  segs : List (List Word) := []
deriving DecidableEq, Repr

/-- A SACK due to be sent (R243), and when. -/
structure MlSackDue where
  dst  : BitVec 7
  base : Byte
  bits : BitVec 37
  negated : Bool
  tick : Nat
deriving DecidableEq, Repr

/-- A frame that awaits its SACK (R243): link, PNs, and when the SACK must have ended. -/
structure MlOnAir where
  dst  : BitVec 7
  link : BitVec 4
  pns  : List Nat
  due  : Nat
deriving DecidableEq, Repr

/-- The mains link beyond its registers. -/
structure Mlink where
  st       : BitVec 3 := 0           -- ML_STATUS.STATE
  myId     : BitVec 7 := 0
  zcOfs    : BitVec 3 := 0
  zcSeen   : Bool := false           -- an offset has been measured (R229)
  zcOk     : Bool := false
  zcGone   : Bool := false           -- the loss of ZC has been declared
  zcTick   : Nat := 0                -- the last ZC rising edge, or where waiting for one began, elapsed ticks
  zcLen    : Option Nat := none      -- the mains period measured, ticks
  rephase  : Bool := false           -- the head moves back to ZC by 200 µs a cycle (R249)
  noBeacon : Bool := false
  missed   : Nat := 0
  beaconAt : Nat := 0                -- the last beacon heard, elapsed ticks
  cycle    : Word := 0
  start    : Option Nat := none      -- where the cycle started, elapsed ticks
  length   : Nat := 40000            -- cycle length, µs
  silent   : Nat := 0                -- silent window start, µs
  contLen  : Nat := 4000
  zcLostHead : Bool := false         -- the beacon's ZCLOST
  allocs   : List (BitVec 7 × Nat × Nat) := []   -- owner, start µs, length µs
  members  : DWord := 0
  epoch    : Byte := 0
  changing : Bool := false           -- the beacon's key epoch changing
  group    : Option (BitVec 128) := none
  oldGroup : Option (BitVec 128) := none
  oldKeys  : Nat := 0                -- cycles the old group key is still accepted (R246)
  cw       : Nat := 8
  backoff  : Nat := 0                -- the backoff last drawn, slots
  drawnAt  : Nat := 0                -- where its countdown began, elapsed ticks
  ready    : Bool := false           -- the backoff has expired: the next contention frame may start
  quiet    : Nat := 0                -- no frame starts before this tick (R242)
  ephemeral : Nat := 0               -- ephemeral keys made so far
  reqOwn   : Nat := 0                -- the ephemeral key of the last ASSOC_REQ
  reqAt    : Nat := 0                -- when it was queued
  demand   : Nat := 0                -- the µs last asked for by ALLOC_REQ
  peers    : List MlPeer := []
  noise    : List (Nat × List Nat) := []   -- noise of the last 8 silent windows of each region, newest first (R236)
  tx       : List MlTxLink := []
  rx       : List MlRxLink := []
  pend     : List MlPend := []
  outMsgs  : List (BitVec 7 × Byte × List Byte) := []   -- management messages queued: (to, MTYPE, content)
  sackDue  : List MlSackDue := []
  onAir    : Option MlOnAir := none
  sent     : Option MlSent := none
  shortAt  : Option Nat := none      -- transmission held off since a line short, elapsed ticks (R326)
  unseen   : Nat := 0                -- consecutive transmissions whose preamble was not seen
  openLine : Bool := false
  rxswap   : Bool := false
  txswap   : Bool := false
deriving DecidableEq, Repr

/-! ### Power, start-up, security -/

/-- The power states of R301 but Off, which keeps nothing and ends in POWERON, with start-up (reset held or
running R300) shown apart. -/
inductive PState where
  | starting | run | idle | watch | hibernate | hibernateClocked
deriving DecidableEq, Repr

/-- Supplies, power states and shedding (R296 to R306). -/
structure Power where
  st       : PState := .starting
  released : Bool := false            -- reset released (R297)
  boot     : BitVec 2 := 0            -- BOOT1:BOOT0 as sampled (R299)
  req      : Option PState := none    -- a REQ that waits (PENDREQ)
  booting  : Bool := false            -- the image is not yet loaded and checked (R299, R300)
  acok     : Bool := false            -- confirmed ACOK level
  schedule : Nat := 0                 -- level reached by the schedule
  schedOn  : Bool := false            -- ACOK low confirmed, schedule rising
  lossAt   : Nat := 0                 -- when the loss was confirmed (R303)
  levelAt  : Nat := 0                 -- when the level in force came into force (R306)
  rails    : BitVec 7 := 0            -- rails below their warn threshold
  level    : Nat := 0                 -- shedding level in force
  snapValid : Bool := false
  bootErr  : Bool := false
  vbatLow  : Bool := false
  watchScans : Nat := 0
  hkBusy   : Bool := false
  hkHeld   : Bool := false            -- one trigger held (R286)
deriving DecidableEq, Repr

/-- A Saffron key slot (R311). -/
structure KeySlot where
  xip      : Bool
  bootSize : BitVec 16
  key      : BitVec 128
  nonce    : BitVec 96
deriving DecidableEq, Repr

/-- The Protection Profile (R311). -/
structure Profile where
  counter  : Word := 0
  held     : BitVec 6 := 0            -- section n held
  region   : List Word := []
  atlas    : List Word := []
  policy   : List Word := []
  slotsRaw : List Word := []
  slots    : List (Nat × KeySlot) := []
  debugWs  : List Word := []
  auth     : List Word := []
deriving DecidableEq, Repr

/-- The Saffron mailbox (R308) and its change in progress (R315). -/
structure Saffron where
  held     : Bool := false
  owner    : Agent := .host
  busy     : Bool := false
  ready    : Bool := false
  readyAt  : Nat := 0                 -- when the response was ready (R308)
  request  : List Word := []
  answer   : List Word := []
  lastRes  : Byte := 0
  commit   : Option Profile := none   -- a checked profile that waits for its commit record
  shedSub  : Bool := false            -- shedding level 5 or 6 was in force at submission (R314)
  tb       : BitVec 64 := 0           -- TB at submission (R310)
  imageHdr : Option (List Word) := none  -- the IMAGE_SIG last accepted (R317)
deriving DecidableEq, Repr

/-- The nonvolatile store (R315, R353): the newer profile bank and the one before it, SIGCNT, calibration
sets, band-table entries, and the snapshot with whether one is held. -/
structure Nv where
  profile  : Profile := {}
  older    : Profile := {}
  sigcnt   : BitVec 64 := 0
  sets     : List CalSet := []
  bands    : List (Nat × Word) := []   -- stored band-table registers (R260)
  snap     : Mem := []                 -- pages 4 to 7
  snapHeld : Bool := false
deriving DecidableEq, Repr

/-- The image the program store was loaded from (R299, R327). -/
structure Image where
  source  : BitVec 2 := 0              -- 0 nonvolatile, 1 XIP, 2 host load
  pages   : List (BitVec 256) := []    -- page digests of the nonvolatile image (R317)
  spares  : Nat := 0                   -- spare lines used (R323)
  bad     : List Nat := []             -- lines found faulty and not yet rewritten (R30)
  dead    : List Nat := []             -- lines with no spare left
deriving DecidableEq, Repr

/-- The FAULT block beyond its registers (R327, R357). -/
structure Faults where
  unread   : List Nat := []            -- log entries not yet read
  iopads   : List (BitVec 6) := []     -- pads whose disagreement persists
  residues : List (Fin 32 × Word) := []  -- recomputations that wait or run, with TB[31:0] at detection (R324)
  badStore : BitVec 5 := 0             -- store items out of use
  hot      : BitVec 4 := 0             -- blocks at or above 110 °C
deriving DecidableEq, Repr

/-- Why the machine stops. -/
inductive Fault where
  /-- Raised by REGISTER_WRITE alone, for an address at or above 0x0013_0000, where R17 gives the
  register bus nothing; safe: the machine stops where the spec gives the access no effect. -/
  | outsideRegisterSpace (addr : Word)
deriving DecidableEq, Repr

/-- Why a command is refused. -/
inductive Refusal where
  /-- Raised by an arm of `exec` whose command has no meaning yet; safe: nothing is claimed of it. -/
  | notModelled (mnemonic : String)
deriving DecidableEq, Repr

/-- The state of one PX2416, and the commands that wait for it, first in, first out. -/
structure State where
  pending  : List Instr := []
  regs     : List (Nat × Word) := []
  tb       : BitVec 64 := 0            -- the timebase (R288)
  ticks    : Nat := 0                  -- ticks elapsed since TB started, never adjusted (R289)
  busData  : Word := 0                 -- the value the last register read returned
  threads  : Vector Thread 32 := Vector.replicate 32 {}
  smem     : Mem := []                 -- shared data memory, offsets from 0x1100_0000
  pstore   : Mem := []                 -- program store, offsets from 0x1000_0000
  ops      : List Op := []             -- Pending and Active operations, in issue order
  ended    : List Op := []             -- the operations ended at the tick `endedAt` (R68)
  endedAt  : Nat := 0
  tags     : List TagEntry := []       -- the tag table, newest first
  uports   : Vector UPort 16 := Vector.replicate 16 {}
  hports   : Vector HPort 8 := Vector.replicate 8 {}
  spares   : Vector (Option OpId) 3 := Vector.replicate 3 none   -- SA, SB, SH
  los      : Vector Lo 4 := Vector.replicate 4 {}
  clk      : Clk := {}
  rings    : Vector Ring 32 := Vector.replicate 32 {}
  xfers    : Vector Xfer 4 := Vector.replicate 4 {}
  shLevels : Vector Int 16 := Vector.replicate 16 (4096 * 1000000)  -- shapers, millionths of a byte
  deficits : Vector Int 32 := Vector.replicate 32 0               -- millionths of a µs
  meters   : Vector Meter 32 := Vector.replicate 32 {}
  imeters  : Vector Meter 16 := Vector.replicate 16 {}
  decoders : Vector (Option Recep) 16 := Vector.replicate 16 none
  units    : List (UPortNo × Fin 16) := []                        -- channel units in use (R166)
  duty     : Vector (List Nat) 4 := Vector.replicate 4 []         -- 1 s buckets, newest first, µs
  solving  : List OpId := []
  solveQ   : List OpId := []
  calSets  : List CalSet := []
  calBase  : List CalBase := []
  applying : List Applying := []
  dieLog   : List (Nat × List Int) := []                          -- the die temperatures of the last second, with their ticks
  retempAt : Nat := 0                                             -- the last recomputation (R278)
  magTrim  : Vector Int 2 := Vector.replicate 2 0                 -- mains AFE gain trims in force
  nvBusy   : Bool := false
  tus      : Vector TuSt 8 := Vector.replicate 8 {}               -- timer units beyond their registers (R282 to R285)
  hsp      : Hsp := {}
  psp      : Psp := {}
  msp      : Msp := {}
  ml       : Mlink := {}
  power    : Power := {}
  profile  : Profile := {}             -- the Protection Profile in force
  atlasOk  : Bool := false
  saffron  : Saffron := {}
  nv       : Nv := {}
  image    : Image := {}
  faults   : Faults := {}
  freeCtr  : Nat := 0                  -- the model's own: which free value comes next
deriving DecidableEq, Repr

/-- The machine right after power-on reset: every register at its reset value, every memory cleared,
no thread running, nothing on the air, no reference yet (R25, R298, R300), an unsealed device (R311). -/
def State.reset : State := {}

end Sys2Proof.Machine
end

