-- ==== Sys2Proof/Machine/Ops.lean ====
section
/-!
DEFINITION. The named operations over bits, sparse memories, registers, time, events, faults and
threads, among them the one shared trap entry (R22, R52) and the fault record (R327).
-/

namespace Sys2Proof.Machine

/-! ### Bits and fields -/

/-- The field of `n` bits at bit `lo` of a word, as a number. -/
def bits (w : Word) (lo n : Nat) : Nat := (w.toNat >>> lo) % 2 ^ n

/-- Bit `i` of a word. -/
def bit (w : Word) (i : Nat) : Bool := w.getLsbD i

/-- The mask of `n` ones at bit `lo`. -/
def maskAt (lo n : Nat) : Word := BitVec.ofNat 32 ((2 ^ n - 1) <<< lo)

/-- A word with the field of `n` bits at `lo` set to `v` (taken modulo 2^n). -/
def withBits (w : Word) (lo n v : Nat) : Word :=
  (w &&& ~~~ (maskAt lo n)) ||| BitVec.ofNat 32 ((v % 2 ^ n) <<< lo)

/-- A field of `n` bits at `lo`, alone in a word. -/
def fieldW (lo n v : Nat) : Word := BitVec.ofNat 32 ((v % 2 ^ n) <<< lo)

/-- A one-bit field alone in a word. -/
def flagW (i : Nat) (b : Bool) : Word := if b then BitVec.ofNat 32 (2 ^ i) else 0

/-- A two's complement number of `n` bits. -/
def signed (n v : Nat) : Int := if v % 2 ^ n < 2 ^ (n - 1) then (v % 2 ^ n : Nat) else ((v % 2 ^ n : Nat) : Int) - (2 ^ n : Nat)

/-- The two's complement code of an integer in `n` bits. -/
def unsigned (n : Nat) (v : Int) : Nat := (v % (2 ^ n : Nat)).toNat

/-- The numbers of the set bits of a 16-bit mask, lowest first. -/
def setBits (m : Nat) : List (Fin 16) := (List.finRange 16).filter fun i => m.testBit i.val

/-- A vector with one entry replaced. -/
def vset {α : Type} {n : Nat} (v : Vector α n) (i : Fin n) (x : α) : Vector α n := v.set i.val x i.isLt

/-! ### Sparse maps in canonical form -/

/-- The listed value of a key. -/
def Sparse.find {α : Type} (k : Nat) : List (Nat × α) → Option α
  | [] => none
  | (a, x) :: r => if a = k then some x else Sparse.find k r

/-- A rising list with one entry put in its place. -/
def Sparse.insert {α : Type} (k : Nat) (x : α) : List (Nat × α) → List (Nat × α)
  | [] => [(k, x)]
  | (a, y) :: r =>
    if k < a then (k, x) :: (a, y) :: r
    else if a = k then (k, x) :: r
    else (a, y) :: Sparse.insert k x r

/-- A rising list with one entry removed. -/
def Sparse.erase {α : Type} (k : Nat) : List (Nat × α) → List (Nat × α)
  | [] => []
  | (a, y) :: r => if a = k then r else (a, y) :: Sparse.erase k r

/-- The value at a key: the listed one, else what an unlisted key reads as. -/
def Sparse.get {α : Type} (d : Nat → α) (m : List (Nat × α)) (k : Nat) : α :=
  (Sparse.find k m).getD (d k)

/-- A write: the default removes the entry, so that equal contents are equal lists. -/
def Sparse.set {α : Type} [DecidableEq α] (d : Nat → α) (m : List (Nat × α)) (k : Nat) (x : α) :
    List (Nat × α) :=
  if x = d k then Sparse.erase k m else Sparse.insert k x m

/-- The canonical form: keys strictly rising, no listed value equal to its default. -/
abbrev Sparse.wf {α : Type} [DecidableEq α] (d : Nat → α) (m : List (Nat × α)) : Prop :=
  m.Pairwise (fun a b => a.1 < b.1) ∧ ∀ e ∈ m, e.2 ≠ d e.1

/-! ### Byte memories -/

/-- A byte nothing has written reads 0 (R25). -/
def Memory.blank : Nat → Byte := fun _ => 0

/-- The canonical form of a byte memory. -/
abbrev Memory.wf (m : Mem) : Prop := Sparse.wf Memory.blank m

/-- One byte of a memory. -/
def Memory.byte (m : Mem) (a : Nat) : Byte := Sparse.get Memory.blank m a

/-- A memory with one byte written. -/
def Memory.setByte (m : Mem) (a : Nat) (b : Byte) : Mem := Sparse.set Memory.blank m a b

/-- The 32-bit word at an offset, its most significant byte at the lowest address (DEDUCED from R29
and R222: assumption 3). -/
def Memory.word (m : Mem) (a : Nat) : Word :=
  Memory.byte m a ++ Memory.byte m (a + 1) ++ Memory.byte m (a + 2) ++ Memory.byte m (a + 3)

/-- A memory with one 32-bit word written. -/
def Memory.setWord (m : Mem) (a : Nat) (w : Word) : Mem :=
  Memory.setByte (Memory.setByte (Memory.setByte (Memory.setByte m a (w.extractLsb' 24 8))
    (a + 1) (w.extractLsb' 16 8)) (a + 2) (w.extractLsb' 8 8)) (a + 3) (w.extractLsb' 0 8)

/-- Successive words from an offset. -/
def Memory.setWords (m : Mem) (a : Nat) : List Word → Mem
  | [] => m
  | w :: ws => Memory.setWords (Memory.setWord m a w) (a + 4) ws

/-! ### Registers -/

/-- A register of the map (R352) as stored. -/
def State.reg (s : State) (a : Nat) : Word := Sparse.get resetWord s.regs a

/-- The register file holds its canonical form. -/
abbrev State.regsWf (s : State) : Prop := Sparse.wf resetWord s.regs

/-- A register of the map stored. -/
def State.setReg (s : State) (a : Nat) (w : Word) : State := { s with regs := Sparse.set resetWord s.regs a w }

/-- A field of a register. -/
def State.fld (s : State) (a lo n : Nat) : Nat := bits (s.reg a) lo n

/-- A register with one field replaced. -/
def State.setFld (s : State) (a lo n v : Nat) : State := s.setReg a (withBits (s.reg a) lo n v)

/-- Flag bits of a register set (R6). -/
def State.setFlag (s : State) (a i : Nat) : State := s.setReg a (s.reg a ||| flagW i true)

/-- A saturating counter field of a register counts `k` more. -/
def State.countFld (s : State) (a lo n k : Nat) : State :=
  s.setFld a lo n (min (s.fld a lo n + k) (2 ^ n - 1))

/-- What writing `v` to a register stores, field by field, from the access types of R4: RW bits take
the value written, a W1C bit written 1 clears, a W1S bit written 1 sets, RO and reserved bits keep. -/
def storedWrite (r : RegRow) (old v : Word) : Word :=
  ((old &&& ~~~ r.rw) ||| (v &&& r.rw)) &&& ~~~ (v &&& r.w1c) ||| (v &&& r.w1s)

/-- A write of a register by its access types alone; an unassigned offset ignores it (R4, R5). -/
def State.writeFields (s : State) (a : Nat) (v : Word) : State :=
  match regRow a with
  | none => s
  | some r => s.setReg a (storedWrite r (s.reg a) v)

/-! ### Time -/

/-- Microseconds in timebase ticks, rounded up, at 216.96 ticks per µs (R49). -/
def usTicks (n : Nat) : Nat := (n * 21696 + 99) / 100

/-- The timebase runs once a reference is chosen (R288). -/
def State.tbRuns (s : State) : Bool := s.clk.refSrc != 0

/-- Time passes: TB and the elapsed count advance together once TB runs. -/
def State.advance (s : State) (dt : Nat) : State :=
  if s.tbRuns then { s with ticks := s.ticks + dt, tb := s.tb + BitVec.ofNat 64 dt } else s

/-- Time passes until the elapsed count is at least `t`. -/
def State.advanceTo (s : State) (t : Nat) : State := s.advance (t - s.ticks)

/-- TB as it shows: in limp operation it advances by 8 at each reference edge, and so reads a multiple of 8 (R255). -/
def State.tbShown (s : State) : BitVec 64 := if s.clk.limp then s.tb &&& ~~~ 7 else s.tb

/-- TB[31:0]. -/
def State.tbLo (s : State) : Word := s.tbShown.extractLsb' 0 32

/-- A free word, one per use (assumption 5), and the state that has used it. -/
def State.freeW (s : State) : Word × State :=
  (Config.freeWord s.freeCtr, { s with freeCtr := s.freeCtr + 1 })

/-! ### Threads -/

/-- Thread `t`. -/
def State.th (s : State) (t : Tid) : Thread := s.threads[t]

/-- Thread `t` replaced. -/
def State.setTh (s : State) (t : Tid) (x : Thread) : State := { s with threads := vset s.threads t x }

/-- Thread `t` changed. -/
def State.modTh (s : State) (t : Tid) (f : Thread → Thread) : State := s.setTh t (f (s.th t))

/-- Register gi: g0 always reads 0 (R21). -/
def Thread.rg (x : Thread) (i : BitVec 4) : Word := if i = 0 then 0 else x.g[i.toFin]

/-- A write of gi: a write of g0 is discarded (R21). -/
def Thread.setRg (x : Thread) (i : BitVec 4) (w : Word) : Thread :=
  if i = 0 then x else { x with g := vset x.g i.toFin w }

/-- Whether what a thread in a timed wait awaits has come: an event bit of an EVW's mask (R48), a Done slot of
a WAITANY's mask (R39). -/
def Thread.awaited (x : Thread) : Bool :=
  match x.waiting with
  | some (.evw _ f) => x.event &&& x.rg f.rb != 0
  | some (.waitany _ f) => (setBits (f.imm.toNat % 0x10000)).any fun k => x.slots[k].st == .done
  | _ => false

/-- The tick at which what a timed wait awaits first came is kept: it decides whether the wait or its timeout
ends first. -/
def Thread.noteMet (now : Nat) (x : Thread) : Thread :=
  if x.met.isNone && x.awaited then { x with met := some now } else x

/-- The event pending bits in `m` are set (R47). -/
def State.setEvents (s : State) (t : Tid) (m : Word) : State :=
  s.modTh t fun x => { x with event := x.event ||| m }.noteMet s.ticks

/-- Hardware event HEb of thread t is set (R47). -/
def State.hwEvent (s : State) (t : Tid) (b : Nat) : State := s.setEvents t (flagW (16 + b % 16) true)

/-- The thread named in an event routing word: [15] EN, [12:8] THREAD, [3:0] BIT. -/
def evtThread (w : Word) : Tid := ⟨bits w 8 5, by unfold bits; omega⟩

/-- A source with the routing word `w` raises its event (R47). -/
def State.raiseRouted (s : State) (w : Word) : State :=
  if bit w 15 then s.hwEvent (evtThread w) (bits w 0 4) else s

/-! ### Faults -/

/-- The log record of a fault (R327), with TB[31:0] at its detection; an unread record overwritten is
counted in LOST. -/
def State.logFault (s : State) (cls source detail : Nat) (tb : Word) : State :=
  let k := s.fld FLT_LOGHEAD 0 4
  let seq := s.fld FLT_LOGHEAD 8 8
  let s := if k ∈ s.faults.unread then s.countFld FLT_LOGHEAD 16 16 1 else s
  let s := { s with faults.unread := k :: s.faults.unread.filter (· != k) }
  let s := s.setReg (FLT_LOGA k)
    (fieldW 24 8 cls ||| fieldW 16 8 source ||| fieldW 8 8 detail ||| fieldW 0 8 seq)
  let s := s.setReg (FLT_LOGB k) tb
  (s.setFld FLT_LOGHEAD 0 4 (k + 1)).setFld FLT_LOGHEAD 8 8 (seq + 1)

/-- What a fault does beside its record (R327): the sticky status bit, the class counter, and the routed
event. -/
def State.noteFault (s : State) (cls : Nat) : State :=
  let s := s.setFlag FLT_STATUS cls
  let s := s.countFld (FLT_CNT cls) 0 16 1
  s.raiseRouted (s.reg FLT_EVT)

/-- One fault of a class, recorded and noted at its detection (R327). -/
def State.fault (s : State) (cls source detail : Nat) : State :=
  (s.logFault cls source detail s.tbLo).noteFault cls

/-- The image source code of the program store, the SOURCE of a PSTORE fault (R327). -/
def State.imageSource (s : State) : Nat := s.image.source.toNat

/-! ### Thread transitions of R22 -/

/-- Trap entry, the one shared operation (R22, R52): TPC, TCAUSE and TADDR are written; with TVEN = 1
and TACTIVE = 0 the thread vectors to TVEC with TACTIVE set, otherwise it enters Trapped and the
thread-trap fault is recorded. R54 gives TCAUSE.ARG for TRAP alone; for every other cause the model writes 0
(DESIGN CHOICE: assumption 62). TADDR is the address of an ALIGN, ACCESS or PARITY (R54); for every
other cause R22 writes it and no rule says with what: a free value (assumption 5). -/
def State.takeTrap (s : State) (t : Tid) (cause arg : Nat) (retPc : Word) (addr : Option Word) : State :=
  let (w, s) := match addr with
    | some a => (a, s)
    | none => s.freeW
  let x := s.th t
  let x' : Thread :=
    { x with
      tpc := retPc
      tcause := fieldW 16 1 (if x.tactive then 1 else 0) ||| fieldW 8 8 arg ||| fieldW 0 8 cause
      taddr := w &&& 0xFFFFFFFC
      waiting := none, waitOn := 0, deadline := none, xipLine := none }
  if x.tven && !x.tactive then
    s.setTh t { x' with st := .run, pc := x.tvec, tactive := true }
  else
    (s.setTh t { x' with st := .trapped, pc := retPc }).fault 10 t.val 0

/-- A thread finds a parity error in a program-store line (R30, R323): it enters Refetch, PSTORE is
raised, and for a host-loaded image the host is asked for the line. -/
def State.enterRefetch (s : State) (t : Tid) (line : Nat) : State :=
  let s := s.modTh t fun x => { x with st := .refetch, refLine := some line,
                                       waiting := none, waitOn := 0, deadline := none, xipLine := none }
  let s := s.fault 5 s.imageSource 0
  let s := if line ∈ s.image.bad then s else { s with image.bad := line :: s.image.bad }
  if s.imageSource = 2 ∧ line ∉ s.hsp.refetch then
    { s with hsp.refetch := s.hsp.refetch ++ [line] } else s

/-- The instruction of thread `t` waits with a WAITON code and, for timed waits, an end (R22). -/
def State.enterWait (s : State) (t : Tid) (i : Instr) (code : BitVec 4) (dl xl : Option Nat) : State :=
  s.modTh t fun x =>
    { x with st := .wait, waiting := some i, waitOn := code, deadline := dl, xipLine := xl, met := none }

/-- A thread in Wait goes back to Run. -/
def Thread.resume (x : Thread) : Thread :=
  { x with st := .run, waiting := none, waitOn := 0, deadline := none, xipLine := none, met := none }

/-- A halt request (R22, R23): a thread in Run, Wait or Refetch halts; a waiting instruction is
abandoned with no effect; HALTSRC is recorded. Any other state keeps. -/
def Thread.halt (x : Thread) (src : BitVec 3) : Thread :=
  match x.st with
  | .run | .wait | .refetch =>
    { x with st := .halted, haltsrc := src, waiting := none, waitOn := 0, deadline := none,
             xipLine := none, refLine := none }
  | _ => x

/-- A halt request to thread `t`. -/
def State.haltTh (s : State) (t : Tid) (src : BitVec 3) : State := s.modTh t (·.halt src)

/-- A START (R22, R26): Off, Halted or Trapped begins at THn_PC; TACTIVE clears if Trapped; Run, Wait
and Refetch ignore it. A thread halted in Refetch whose line is still not rewritten fetches again, and
so returns to Refetch at its next issue (R355). -/
def Thread.start (x : Thread) : Thread :=
  match x.st with
  | .off | .halted => { x with st := .run, shedHalt := false }
  | .trapped => { x with st := .run, tactive := false, shedHalt := false }
  | _ => x

/-- A START of thread `t`. -/
def State.startTh (s : State) (t : Tid) : State := s.modTh t Thread.start

/-- Every thread changed in turn, T0 first. -/
def State.forThreads (s : State) (f : State → Tid → State) : State := (List.finRange 32).foldl f s

end Sys2Proof.Machine
end

