-- ==== Sys2Proof/Machine/RingOps.lean ====
section
/-!
DEFINITION. The operations of the rings (R182 to R193): configuration, framing, writing and reading
one word, watermarks, flush, orphan drop and the pointer reset.
-/

namespace Sys2Proof.Machine

/-- Ring `n`. -/
def State.ring (s : State) (n : RingNo) : Ring := s.rings[n]

/-- Ring `n` replaced. -/
def State.setRing (s : State) (n : RingNo) (r : Ring) : State := { s with rings := vset s.rings n r }

/-- Ring `n` changed. -/
def State.modRing (s : State) (n : RingNo) (f : Ring → Ring) : State := s.setRing n (f (s.ring n))

/-- RG_CFGn.EN. -/
def State.ringOn (s : State) (n : RingNo) : Bool := bit (s.reg (RG_CFG n)) 31

/-- The words ring `n` holds when full, 16 × 2^DEPTH (R182). -/
def State.ringCap (s : State) (n : RingNo) : Nat := 16 * 2 ^ s.fld (RG_CFG n) 27 4

/-- RG_CFGn.PROD. -/
def State.ringProd (s : State) (n : RingNo) : Nat := s.fld (RG_CFG n) 8 7

/-- RG_CFGn.CONS. -/
def State.ringCons (s : State) (n : RingNo) : Nat := s.fld (RG_CFG n) 0 7

/-- The words ring `n` can still take. -/
def State.ringRoom (s : State) (n : RingNo) : Nat := s.ringCap n - (s.ring n).words.length

/-- The LENGTH field of a header word (R185). -/
def itemLength (d : DWord) : Nat := (d.extractLsb' 48 16).toNat

/-- Words discarded are counted in RG_DROPn. -/
def State.dropWords (s : State) (n : RingNo) (k : Nat) : State := s.countFld (RG_DROP n) 0 32 k

/-- RG_FLAGSn.MALFORM. -/
def State.malform (s : State) (n : RingNo) : State := s.setFlag (RG_FLAGS n) 4

/-- The watermark test of R193 after the words present went from `old` to `new`: an upward crossing
sets CROSSED, counts in CROSSINGS and raises the routed event. -/
def State.watermark (s : State) (n : RingNo) (old new : Nat) : State :=
  let level := s.fld (RG_WM n) 16 13
  if old < level ∧ level ≤ new then
    ((s.setFlag (RG_FLAGS n) 0).countFld (RG_CNT n) 16 16 1).raiseRouted (s.reg (RG_WM n))
  else s

/-- One word stored at the tail of ring `n`, V = 1 (R184). -/
def State.appendWord (s : State) (n : RingNo) (w : RWord) : State :=
  let old := (s.ring n).words.length
  (s.modRing n fun r => { r with words := r.words ++ [{ w with v := true, tick := s.ticks }] }).watermark
    n old (old + 1)

/-- Whether another producer's item is open on ring `n`, so that an S word must wait (R186). -/
def State.openByOther (s : State) (n : RingNo) (p : Producer) : Bool :=
  match (s.ring n).open_ with
  | some o => o.by_ != p
  | none => false

/-- Whether producer `p` has an item open on ring `n`. -/
def State.openBy (s : State) (n : RingNo) (p : Producer) : Bool :=
  match (s.ring n).open_ with
  | some o => o.by_ == p
  | none => false

/-- Whether producer `p` is in orphan drop on ring `n` (R191). -/
def State.orphan (s : State) (n : RingNo) (p : Producer) : Option OpenItem :=
  (s.ring n).orphans.find? (·.by_ == p)

/-- Orphan drop of producer `p` ends. -/
def State.endOrphan (s : State) (n : RingNo) (p : Producer) : State :=
  s.modRing n fun r => { r with orphans := r.orphans.filter (·.by_ != p) }

/-- An S word begins producer `p`'s item (R186): its own open item closes where it stands, with
MALFORM; a single-word item opens nothing. -/
def State.putFirst (s : State) (n : RingNo) (p : Producer) (w : RWord) : State :=
  let s := if s.openBy n p then s.malform n else s
  let s := s.endOrphan n p
  let len := itemLength w.data
  let s := if w.e then (s.modRing n fun r => { r with open_ := none })
           else s.modRing n fun r => { r with open_ := some ⟨p, len, 1⟩ }
  let s := if (w.e && len != 1) || (!w.e && decide (len ≤ 1)) then s.malform n else s
  s.appendWord n w

/-- A word with S = 0 of producer `p`'s open item (R186): its E word closes the item; an item whose E
word does not arrive at LENGTH words sets MALFORM. -/
def State.putNext (s : State) (n : RingNo) (p : Producer) (o : OpenItem) (w : RWord) : State :=
  let c := o.count + 1
  let s := if w.e then (s.modRing n fun r => { r with open_ := none })
           else s.modRing n fun r => { r with open_ := some ⟨p, o.length, c⟩ }
  let s := if w.e != decide (c = o.length) then s.malform n else s
  s.appendWord n w

/-- A word with S = 0 of a producer in orphan drop is discarded and counted (R191), until the words
since its S word reach LENGTH or E is written. -/
def State.putOrphan (s : State) (n : RingNo) (p : Producer) (o : OpenItem) (w : RWord) : State :=
  let c := o.count + 1
  let s := s.dropWords n 1
  if w.e ∨ o.length ≤ c then s.endOrphan n p
  else s.modRing n fun r =>
    { r with orphans := r.orphans.map fun x => if x.by_ == p then { x with count := c } else x }

/-- Producer `p` writes one word to an enabled ring that has room and no other producer's item in its
way (R184, R186, R191). -/
def State.ringPut (s : State) (n : RingNo) (p : Producer) (w : RWord) : State :=
  if w.s then s.putFirst n p w
  else match s.orphan n p with
    | some o => s.putOrphan n p o w
    | none =>
      match (s.ring n).open_ with
      | some o => if o.by_ == p then s.putNext n p o w else (s.dropWords n 1).malform n
      | none => (s.dropWords n 1).malform n

/-- Successive words written by one producer. -/
def State.ringPutAll (s : State) (n : RingNo) (p : Producer) : List RWord → State
  | [] => s
  | w :: ws => (s.ringPut n p w).ringPutAll n p ws

/-- One word read from ring `n`: a word that fails its parity check is delivered with P = 1, sets
PARERR and is counted, and RINGPAR is raised (R184, R320). -/
def State.ringTake (s : State) (n : RingNo) (bad : Bool) : Option (RWord × State) :=
  match (s.ring n).words with
  | [] => none
  | w :: ws =>
    let w := { w with p := w.p || bad }
    let s := s.modRing n fun r => { r with words := ws, last := w }
    let s := if bad then ((s.setFlag (RG_FLAGS n) 2).countFld (RG_CNT n) 0 16 1).fault 7 n.val 0 else s
    some (w, s)

/-- Every word present is discarded and counted, the held last word is cleared, and a producer with an
item open enters orphan drop (R191). -/
def State.discardRing (s : State) (n : RingNo) : State :=
  let s := s.dropWords n (s.ring n).words.length
  s.modRing n fun r =>
    { r with words := [], last := {}, open_ := none
             orphans := match r.open_ with
               | some o => o :: r.orphans.filter (·.by_ != o.by_)
               | none => r.orphans }

/-- A flush (R191). -/
def State.flushRing (s : State) (n : RingNo) : State := (s.discardRing n).setFlag (RG_FLAGS n) 3

/-- Whether a producer code may produce into ring `n` (R183). -/
def prodAllowed (n : RingNo) (c : Nat) : Bool :=
  if n.val = 0 then c == 0x40
  else c == 0x7F || (c ≤ 0x1F : Bool) || (c == 0x40 && decide (n.val < 16)) ||
    (c == 0x41 && decide (n.val < 16)) || (decide (0x44 ≤ c ∧ c ≤ 0x47))

/-- Whether a consumer code may consume from ring `n` (R183). -/
def consAllowed (n : RingNo) (c : Nat) : Bool :=
  c == 0x7F || (c ≤ 0x1F : Bool) || ((c == 0x41 || c == 0x42) && decide (16 ≤ n.val)) ||
    (decide (0x44 ≤ c ∧ c ≤ 0x47 ∧ n.val ≠ 0))

/-- The conditions of R182 on a configuration word written with EN = 1. -/
def State.ringCfgOk (s : State) (n : RingNo) (v : Word) : Bool :=
  let depth := bits v 27 4
  let base := bits v 15 12
  let units := 2 ^ depth
  decide (depth ≤ 8) && decide (base % units = 0) && decide (16 * base + 16 * units ≤ 65536) &&
    prodAllowed n (bits v 8 7) && consAllowed n (bits v 0 7) &&
    (List.finRange 32).all fun m =>
      m == n || !s.ringOn m ||
        decide (base + units ≤ s.fld (RG_CFG m) 15 12 ∨
          s.fld (RG_CFG m) 15 12 + 2 ^ s.fld (RG_CFG m) 27 4 ≤ base)

/-- Enabling a ring (R182): the configuration is taken and the ring is emptied, or EN stays 0, the
other fields are taken, and CFGERR is set. An orphan drop goes on: R191 alone ends it. -/
def State.enableRing (s : State) (n : RingNo) (v : Word) : State :=
  if s.ringOn n then s
  else
    let w := v &&& 0xFFFFFF7F
    if s.ringCfgOk n v then
      (s.setReg (RG_CFG n) (w ||| 0x80000000)).modRing n fun r =>
        { r with words := [], last := {}, open_ := none }
    else (s.setReg (RG_CFG n) (w &&& 0x7FFFFFFF)).setFlag (RG_FLAGS n) 6

/-- Disabling a ring (R192): an enabled ring is flushed; the same write sets DEPTH, BASE, PROD and
CONS. -/
def State.disableRing (s : State) (n : RingNo) (v : Word) : State :=
  let s := if s.ringOn n then s.flushRing n else s
  s.setReg (RG_CFG n) (v &&& 0x7FFFFF7F)

/-- A write of RG_CFGn (R182, R192). -/
def State.writeRingCfg (s : State) (n : RingNo) (v : Word) : State :=
  if bit v 31 then s.enableRing n v else s.disableRing n v

/-- The words of the item at the head of a ring when it is complete: up to its E word, or to the word
before the next S word, which closes it where it stands (R186). -/
def headItem : List RWord → Option (List RWord)
  | [] => none
  | w :: ws =>
    if w.e then some [w]
    else match ws with
      | [] => none
      | v :: _ => if v.s then some [w] else (headItem ws).map (w :: ·)

/-- Whether the item a consumer is taking ended with the word it took: its E word, or the word before the
next S word (R186). -/
def State.itemOver (s : State) (n : RingNo) (w : RWord) : Bool :=
  w.e || match (s.ring n).words with
    | v :: _ => v.s
    | [] => false

/-- Whether the rest of the item a consumer is in the middle of is gone (R191, R192): the ring is out of
service, holds the start of another item, or is empty with no item open on it. -/
def State.itemGone (s : State) (n : RingNo) : Bool :=
  !s.ringOn n || match (s.ring n).words with
    | v :: _ => v.s
    | [] => (s.ring n).open_.isNone

end Sys2Proof.Machine
end

