-- ==== Sys2Proof/Machine/AirOps.lean ====
section
/-!
DEFINITION. The shared operations of the air engine (R55 to R76): the fields of a descriptor, the
operations in flight, result items on rings and in thread memory, completion with the release of
resources, and cancellation by stage.
-/

namespace Sys2Proof.Machine

/-! ### Descriptor fields (R55) -/

/-- Descriptor word `k`. -/
def Op.w (op : Op) (k : Fin 16) : Word := op.desc[k]

/-- CLASS. -/
def Op.cls (op : Op) : Nat := bits (op.w 0) 28 4

/-- OP. -/
def Op.code (op : Op) : Nat := bits (op.w 0) 20 8

/-- LO select. -/
def Op.lo (op : Op) : LoNo := ⟨bits (op.w 0) 16 2, by unfold bits; omega⟩

/-- The port mask. -/
def Op.mask (op : Op) : Nat := bits (op.w 0) 0 16

/-- MEM. -/
def Op.mem (op : Op) : Bool := bit (op.w 2) 31

/-- FAILITEMS. -/
def Op.failItems (op : Op) : Bool := bit (op.w 2) 30

/-- ENDITEM. -/
def Op.endItem (op : Op) : Bool := bit (op.w 2) 29

/-- CONC. -/
def Op.conc (op : Op) : Bool := bit (op.w 2) 28

/-- EXPIRE. -/
def Op.expire (op : Op) : Nat := bits (op.w 2) 24 4

/-- The egress ring of EGRESS, by its number of R41. -/
def Op.egress (op : Op) : RingNo := ⟨16 + bits (op.w 2) 20 4, by unfold bits; omega⟩

/-- LIMIT. -/
def Op.limit (op : Op) : Nat := bits (op.w 2) 0 16

/-- The K.CAL code, word 4 [31:24] (R60). -/
def Op.calCode (op : Op) : Nat := bits (op.w 4) 24 8

/-- A U.SELECT, U.ROUND, U.ACCESS or U.RAW. -/
def Op.isU (op : Op) : Bool := op.cls == 0

/-- A UHF interrogation or S.FIX: an operation with a beam (R121). -/
def Op.isBeam (op : Op) : Bool := op.cls == 0 || op.cls == 3

/-- A U.ROUND. -/
def Op.isRound (op : Op) : Bool := op.cls == 0 && op.code == 2

/-- A C.LISTEN. -/
def Op.isListen (op : Op) : Bool := op.cls == 2 && op.code == 1

/-- A C.SEND. -/
def Op.isSend (op : Op) : Bool := op.cls == 2 && op.code == 2

/-- A K.CAL. -/
def Op.isCal (op : Op) : Bool := op.cls == 4

/-- An H.WATCH. -/
def Op.isWatch (op : Op) : Bool := op.cls == 1 && op.code == 4

/-- Whether PORTS names UHF ports (R55). -/
def Op.onU (op : Op) : Bool :=
  op.cls == 0 || op.cls == 2 || op.cls == 3 || (op.isCal && decide (1 ≤ op.calCode ∧ op.calCode ≤ 4))

/-- Whether PORTS names HF ports (R55). -/
def Op.onH (op : Op) : Bool := op.cls == 1 || (op.isCal && decide (6 ≤ op.calCode ∧ op.calCode ≤ 7))

/-- Whether the operation uses an LO (R56, R60). -/
def Op.usesLo (op : Op) : Bool :=
  op.cls == 0 || op.cls == 2 || op.cls == 3 || (op.isCal && decide (1 ≤ op.calCode ∧ op.calCode ≤ 5))

/-- The UHF ports of an operation, lowest first. -/
def Op.uports (op : Op) : List UPortNo := if op.onU then setBits op.mask else []

/-- The HF ports of an operation, lowest first. -/
def Op.hports (op : Op) : List HPortNo :=
  if op.onH then (List.finRange 8).filter fun i => op.mask.testBit i.val else []

/-- Whether an operation solves, having released its ports and LO (R129). -/
def Op.solving (op : Op) : Bool :=
  match op.eng with
  | .solve _ => true
  | _ => false

/-- Whether an operation holds its ports and LO. -/
def Op.holds (op : Op) : Bool := op.active && !op.solving && !op.released

/-! ### Ports, spares, tickets and operations in the state -/

/-- UHF port `p`. -/
def State.up (s : State) (p : UPortNo) : UPort := s.uports[p]

/-- UHF port `p` changed. -/
def State.modUp (s : State) (p : UPortNo) (f : UPort → UPort) : State :=
  { s with uports := vset s.uports p (f (s.up p)) }

/-- HF port `p`. -/
def State.hp (s : State) (p : HPortNo) : HPort := s.hports[p]

/-- HF port `p` changed. -/
def State.modHp (s : State) (p : HPortNo) (f : HPort → HPort) : State :=
  { s with hports := vset s.hports p (f (s.hp p)) }

/-- The operation of a ticket, when one is in flight. -/
def State.op? (s : State) (o : OpId) : Option Op := s.ops.find? (·.id == o)

/-- The operation of a ticket changed. -/
def State.modOp (s : State) (o : OpId) (f : Op → Op) : State :=
  { s with ops := s.ops.map fun x => if x.id == o then f x else x }

/-- The operation of a ticket given a new engine state. -/
def State.setEng (s : State) (o : OpId) (e : Engine) : State := s.modOp o fun x => { x with eng := e }

/-- A thread's ticket slot. -/
def State.slot (s : State) (o : OpId) : Slot := (s.th o.thread).slots[o.slot]

/-- A thread's ticket slot replaced. -/
def State.setSlot (s : State) (o : OpId) (x : Slot) : State :=
  s.modTh o.thread fun t => { t with slots := vset t.slots o.slot x }.noteMet s.ticks

/-- Whether an operation claims the transmit or HF use of its ports: every one but a C.LISTEN and a
K.CAL other than DPD and HDI (R12, R271). -/
def Op.claimsTx (op : Op) : Bool :=
  !op.isListen && (!op.isCal || op.calCode == 3 || op.calCode == 6)

/-- The operation that holds the transmit side of a UHF port (R12). -/
def State.holder (s : State) (p : UPortNo) : Option Op :=
  s.ops.find? fun x => x.holds && x.claimsTx && decide (p ∈ x.uports)

/-- The operation that holds an HF port. -/
def State.hholder (s : State) (p : HPortNo) : Option Op :=
  s.ops.find? fun x => x.holds && x.claimsTx && decide (p ∈ x.hports)

/-- The Active C.LISTENs on a port. -/
def State.listeners (s : State) (p : UPortNo) : List Op :=
  s.ops.filter fun x => x.holds && x.isListen && decide (p ∈ x.uports)

/-! ### Result items (R61) -/

/-- A plain ring word. -/
def rword (d : DWord) : RWord := { data := d, v := true }

/-- A result word left unrecoverable carries P = 1 (R76). -/
def pword (bad : Bool) (d : DWord) : RWord := { data := d, v := true, p := bad }

/-- The E tag on the last word of a list. -/
def closeItem : List RWord → List RWord
  | [] => []
  | [w] => [{ w with e := true }]
  | w :: ws => w :: closeItem ws

/-- A result item: the header of R61 (length, type, source thread, ticket slot, status), then its
words. -/
def mkItem (o : OpId) (type status : Nat) (body : List RWord) : List RWord :=
  let hdr : DWord :=
    BitVec.ofNat 16 (body.length + 1) ++ BitVec.ofNat 8 type ++ BitVec.ofNat 8 o.thread.val ++
    BitVec.ofNat 8 o.slot.val ++ BitVec.ofNat 8 status ++ 0#16
  closeItem ({ data := hdr, v := true, s := true } :: body)

/-- Whether a word of an air-engine item would be stored by its ring: its first word, or a later one of the item
that stands open there; a later word of an item that was flushed is discarded (R186, R191). -/
def State.airStores (s : State) (n : RingNo) (o : OpId) (w : RWord) : Bool :=
  w.s || ((s.orphan n (.air o)).isNone && s.openBy n (.air o))

/-- One more word of an item dealt with (R38): the words placed count once the item is at its end. -/
def Op.place (op : Op) (stored : Bool) (w : RWord) : Op :=
  let k := op.part + if stored then 1 else 0
  if w.e then { op with words := op.words + k, part := 0 } else { op with part := k }

/-- The words of an item written to an egress ring as far as it takes them now, and the words still
held (R187). A disabled ring discards them, counted (R192), and the item they belong to counts for nothing in
WORDS (R38); a word in orphan drop is discarded even while the ring is full (R191). -/
def State.drainItem (s : State) (n : RingNo) (o : OpId) : List RWord → State × List RWord
  | [] => (s, [])
  | w :: ws =>
    if !s.ringOn n then ((s.dropWords n (ws.length + 1)).modOp o fun x => { x with part := 0 }, [])
    else
      let stored := s.airStores n o w
      if (stored ∧ s.ringRoom n = 0) ∨ (w.s ∧ s.openByOther n (.air o)) then (s, w :: ws)
      else ((s.ringPut n (.air o) w).modOp o fun x => x.place stored w).drainItem n o ws

/-- One ring word written to thread memory, bits [63:32] at the lower address (R29). -/
def memStore (m : Mem) (a : Nat) (d : DWord) : Mem :=
  Memory.setWord (Memory.setWord m a (d.extractLsb' 32 32)) (a + 4) (d.extractLsb' 0 32)

/-- Ring words written one after another to thread memory. -/
def memStoreAll (m : Mem) (a : Nat) : List RWord → Mem
  | [] => m
  | w :: ws => memStoreAll (memStore m a w.data) (a + 8) ws

/-- Words written at an address of thread memory: the issuing thread's local memory or the shared data
memory (R29). -/
def State.storeResult (s : State) (t : Tid) (a : Nat) (ws : List RWord) : State :=
  if a < 0x800 then s.modTh t fun x => { x with mem := memStoreAll x.mem a ws }
  else { s with smem := memStoreAll s.smem (a - 0x11000000) ws }

/-- An operation produces an item (R61, R187). In thread memory an item that would pass LIMIT is
written nowhere and the operation stops at its next boundary. On a ring it is written as far as the
ring takes it and the rest is held; a C.LISTEN or H.WATCH item that completes while another is held is
dropped and counted. -/
def State.emit (s : State) (o : OpId) (type status : Nat) (body : List RWord) : State :=
  match s.op? o with
  | none => s
  | some op =>
    let item := mkItem o type status body
    let ok := if status = 0 then 1 else 0
    if op.mem then
      if op.limit < op.memWords + item.length then s.modOp o fun x => { x with limitHit := true }
      else
        let s := s.storeResult o.thread ((op.w 3).toNat + 8 * op.memWords) item
        s.modOp o fun x => { x with memWords := x.memWords + item.length, words := x.words + item.length
                                    items := x.items + 1, okItems := x.okItems + ok }
    else if !op.held.isEmpty && (op.isListen || op.isWatch) then s.dropWords op.egress item.length
    else
      let (s, rest) := if op.held.isEmpty then s.drainItem op.egress o item else (s, op.held ++ item)
      s.modOp o fun x => { x with held := rest, items := x.items + 1, okItems := x.okItems + ok }

/-! ### Release of resources and completion -/

/-- A UHF port's carrier is off, and its UPAn deasserted. -/
def UPort.off (x : UPort) : UPort :=
  { x with carrier := none, level := 0, full := 0, pa := false, capped := false, holdover := none, cncLock := false }

/-- A UHF port's carrier is removed. -/
def State.carrierOff (s : State) (p : UPortNo) : State := s.modUp p UPort.off

/-- A beam's port is released at the end of its operation (R80): its carrier stays in holdover, charged
to the thread whose operation ended, when HOLD is not 0. -/
def State.releaseUp (s : State) (o : OpId) (p : UPortNo) : State :=
  if (s.up p).carrier.isSome ∧ s.fld (UP_TXCFG p) 16 8 ≠ 0 then
    s.modUp p fun x => { x with holdover := some (o, s.ticks) }
  else s.carrierOff p

/-- The driver level in force of a carrier: reduced by BACKOFF while a spare carries it in PA mode (R95), and at
most +6 dBm once shedding capped it (R81). -/
def UPort.cut (x : UPort) (backoff : Nat) : Int :=
  let lv := if x.spare && bit x.ctrl 2 then x.full - backoff else x.full
  if x.capped then min lv 24 else lv

/-- A port's carrier takes its level in force; a reduction sets CLAMPED. -/
def State.relevel (s : State) (p : UPortNo) : State :=
  let x := s.up p
  if x.carrier.isNone then s
  else
    let lv := x.cut (s.fld (UP_TXCFG p) 0 8)
    let s := if lv < x.level then s.setFlag (UP_FLAGS p) 1 else s
    s.modUp p fun x => { x with level := lv }

/-- The spare chains an operation holds are released, and its ports return to their own chains (R95, R159). -/
def State.releaseSpares (s : State) (op : Op) : State :=
  if s.spares.toList.any (· == some op.id) then
    let s := { s with spares := s.spares.map fun x => if x == some op.id then none else x }
    let s := op.uports.foldl (fun s p => (s.modUp p fun x => { x with spare := false }).relevel p) s
    op.hports.foldl (fun s p => s.modHp p fun x => { x with spare := false }) s
  else s

/-- The chirp receptions of a C.LISTEN that ends are abandoned for it; a decoder left with no listener
is released, and so are the channel units no other C.LISTEN uses (R166, R168). -/
def State.releaseListen (s : State) (op : Op) : State :=
  let only := fun (d : Option Recep) =>
    match d with
    | some r => decide (r.ops = [op.id])
    | none => false
  let leave := fun (d : Option Recep) =>
    if only d then none else d.map fun r => { r with ops := r.ops.filter (· != op.id) }
  let s := { s with decoders := s.decoders.map leave }
  let others := s.ops.filter fun (x : Op) => x.holds && x.isListen && x.id != op.id
  let used := fun (u : UPortNo × Fin 16) =>
    others.any fun (x : Op) => decide (u.1 ∈ x.uports) && x.entries.toNat.testBit u.2.val
  { s with units := s.units.filter fun u => !(decide (u.1 ∈ op.uports)) || used u }

/-- A solve ends or leaves the queue; up to four run at once, the oldest that wait first (R129). -/
def State.leaveSolve (s : State) (o : OpId) : State :=
  let run := s.solving.filter (· != o)
  let q := s.solveQ.filter (· != o)
  let k := 4 - run.length
  { s with solving := run ++ q.take k, solveQ := q.drop k }

/-- The field of a K.CAL HDI at its end (R270): off, or back at the level it was left on with, a level change that
takes HPn_FIELD.PHASE (R139). -/
def HPort.endHdi (x : HPort) (phase : BitVec 7) : HPort :=
  if x.field then
    match x.saved with
    | some lv => { x with level := lv, saved := none, phase := if x.level = lv then x.phase else phase }
    | none => { x with field := false, level := 0 }
  else { x with saved := none }

/-- A K.CAL that radiates on its own (R272). -/
def Op.radiates (op : Op) : Bool :=
  match op.eng with
  | .cal c => c.radiates
  | _ => false

/-- A frame counts in the bucket in which it ends (R179). -/
def State.dutyAdd (s : State) (k : Fin 4) (us : Nat) : State :=
  { s with duty := vset s.duty k (match s.duty[k] with
      | [] => [us]
      | b :: bs => (b + us) :: bs) }

/-- The transmit time of a downlink frame up to now, in whole µs to the nearest, counts in its sub-band: all of it at
its end, and what was sent of one cut short (R179). -/
def State.dutyFrame (s : State) (op : Op) : State :=
  match op.eng, op.band with
  | .csend true _, some k => s.dutyAdd k (((s.ticks - op.cmdFrom) * 200 + 21696) / 43392)
  | _, _ => s

/-- The resources of an operation that ends are released (R64, R72); trims it had begun to apply go on to
their values (R280). -/
def State.release (s : State) (op : Op) : State :=
  let s := if op.isBeam && op.holds then op.uports.foldl (fun s p => s.releaseUp op.id p) s
    else if op.isSend && op.active then (op.uports.foldl (fun s p => s.carrierOff p) s).dutyFrame op
    else if op.radiates then op.uports.foldl (fun s p => s.carrierOff p) s
    else s
  let s := if op.isCal && op.calCode == 6 && op.started then
      op.hports.foldl (fun s p => s.modHp p fun x => x.endHdi ((s.reg (HP_FIELD p)).extractLsb' 0 7)) s else s
  let s := s.releaseSpares op
  let s := if op.isListen && op.active then s.releaseListen op else s
  { s.leaveSolve op.id with applying := s.applying.map fun a => if a.op == some op.id then { a with op := none } else a }

/-- The completion word of R38. -/
def Op.completion (op : Op) (status : Nat) : Word :=
  fieldW 16 16 (min op.words 0xFFFF) ||| fieldW 8 8 op.code ||| fieldW 0 8 status

/-- An operation completes (R64, R66): its resources are released, the status is counted, and its slot
becomes Done with the completion word held; after a THREAD_RESET the slot becomes Free and the word is
discarded (R24). -/
def State.finishOp (s : State) (op : Op) (status : Nat) : State :=
  let s := if op.released then s else s.release op
  let s := { s with
    ops := s.ops.filter (·.id != op.id)
    ended := op :: (if s.endedAt = s.ticks then s.ended else [])
    endedAt := s.ticks }
  let s := s.countFld (AIR_STATCNT status) 0 32 1
  let x := s.slot op.id
  if x.discard then s.setSlot op.id {}
  else s.setSlot op.id { st := .done, word := op.completion status }

/-- The end item of a U.ROUND with ENDITEM (R62): slots, tags, collisions, CRC failures and final Q. A count beyond
its 16 bits, for which the rule says nothing, shows 0xFFFF (DESIGN CHOICE: assumption 64). -/
def roundEndBody (r : RoundSt) : List RWord :=
  [rword (BitVec.ofNat 16 (min r.slots 0xFFFF) ++ BitVec.ofNat 16 (min r.tags 0xFFFF) ++
     BitVec.ofNat 16 (min r.colls 0xFFFF) ++ BitVec.ofNat 16 (min r.crcs 0xFFFF)),
   rword (BitVec.ofNat 8 r.q ++ 0#56)]

/-- What a U.ROUND has counted; one that ends before its first command has counted nothing, and its Q is the
descriptor's. -/
def Op.tally (op : Op) : RoundSt :=
  match op.eng with
  | .round r => r
  | _ => { q := bits (op.w 6) 23 4 }

/-- The place of a status among the ending events of one tick (R68). -/
def endRank (status : Nat) : Nat :=
  match status with
  | 0x0A => 0
  | 0x06 => 1
  | 0x07 => 2
  | 0x09 => 3
  | _ => 4

/-- An operation that has ended with an item still held: an event of R68, and the end of a C.LISTEN or C.SEND,
release what it holds at once (R74, R93, R168, R177); any other keeps its carrier until the item is written
(R187). -/
def State.letGo (s : State) (o : OpId) (status : Nat) : State :=
  match s.op? o with
  | none => s
  | some op =>
    if !op.released && (decide (endRank status < 4) || op.isListen || op.isSend) then
      (s.release op).modOp o fun x => { x with released := true }
    else s

/-- An Active operation ends with a status (R66): a U.ROUND with ENDITEM writes its last item; the
slot becomes Done once no item is held. Of several ending events in one tick the first of R68 gives the status. -/
def State.endOp (s : State) (o : OpId) (status : Nat) : State :=
  match s.op? o with
  | none => s
  | some op =>
    match op.ending with
    | some st =>
      if op.endTick = s.ticks ∧ endRank status < endRank st.toNat then
        (s.modOp o fun x => { x with ending := some (BitVec.ofNat 8 status) }).letGo o status
      else s
    | none =>
      let s := if op.isRound && op.endItem then s.emit o 0x04 status (roundEndBody op.tally) else s
      match s.op? o with
      | none => s
      | some op =>
        if op.held.isEmpty then s.finishOp op status
        else
          (s.modOp o fun x => { x with ending := some (BitVec.ofNat 8 status), endTick := s.ticks }).letGo o status

/-- The operations that ended at this very tick and are not collected yet (R68). -/
def State.endedNow (s : State) : List Op :=
  if s.endedAt = s.ticks then s.ended.filter fun op => op.active && (s.slot op.id).st == .done && (s.op? op.id).isNone
  else []

/-- A later event of the same tick that ranks before the one that ended an operation gives its status instead
(R68). -/
def State.restatus (s : State) (o : OpId) (status : Nat) : State :=
  let old := bits (s.slot o).word 0 8
  if (s.endedNow.any fun op => op.id == o) ∧ endRank status < endRank old then
    let s := s.setFld (AIR_STATCNT old) 0 32 (s.fld (AIR_STATCNT old) 0 32 - 1)
    let s := s.countFld (AIR_STATCNT status) 0 32 1
    s.setSlot o { s.slot o with word := withBits (s.slot o).word 0 8 status }
  else s

/-- The operations an ending event reaches: those in flight, and those that another event ended in the same
tick. -/
def State.reached (s : State) (p : Op → Bool) : List OpId := ((s.ops ++ s.endedNow).filter p).map (·.id)

/-- A Pending operation ends with a status and no words (R64). -/
def State.endPending (s : State) (o : OpId) (status : Nat) : State :=
  match s.op? o with
  | none => s
  | some op => s.finishOp op status

/-- Whether a cancellation ends an Active operation at once, by the stages of R74 and R116: nothing on
the air that must run to its end. -/
def Op.cancelNow (op : Op) (now : Nat) : Bool :=
  match op.eng with
  | .idle | .carrier | .hfield _ | .hwatch .. | .listen .. | .solve _ => true
  | .select | .round _ | .raw => !op.reply
  | .access a => !a.sent && !op.reply
  | .hactivate _ | .hframe _ => op.winFrom.isNone || decide (now < op.cmdFrom)
  | .csend chirping _ => !chirping
  | .fix f => f.paused
  | .cal c => decide (c.stage = .preconds ∨ c.stage = .waitSwitch ∨ c.stage = .measuring ∨ c.stage = .waitReturn)

/-- A cancellation request for one operation (R39, R74): Pending ends at once; Active by its stage. -/
def State.cancelOp (s : State) (o : OpId) : State :=
  match s.op? o with
  | none => s
  | some op =>
    if !op.active then s.endPending o 0x09
    else if op.ending.isSome then s
    else if op.cancelNow s.ticks then (s.modOp o fun x => { x with cancel := true }).endOp o 0x09
    else s.modOp o fun x => { x with cancel := true }

/-- A cancellation request for every operation in a list. -/
def State.cancelAll (s : State) (os : List OpId) : State := os.foldl (fun s o => s.cancelOp o) s

/-- The operations whose tickets belong to a thread. -/
def State.opsOf (s : State) (t : Tid) : List OpId := (s.ops.filter (·.id.thread == t)).map (·.id)

/-- Every port of an operation is muted within 1 µs without a ramp (R93). -/
def State.muteBeam (s : State) (op : Op) : State := op.uports.foldl (fun s p => s.carrierOff p) s

/-- An operation reached by an event that mutes it ends with a status (R75) and releases its resources at once
(R93). -/
def State.killOp (s : State) (o : OpId) (status : Nat) : State :=
  match s.op? o with
  | none => s.restatus o status
  | some op => if op.active then ((if op.isListen then s else s.muteBeam op).endOp o status).letGo o status else s

/-- Every operation a test picks out is reached by such an event. -/
def State.killAll (s : State) (p : Op → Bool) (status : Nat) : State :=
  (s.reached fun op => op.active && p op).foldl (fun s o => s.killOp o status) s

/-- A THREAD_RESET of thread `t` (R22, R24, R355): Off; return stack emptied; flags, TACTIVE and the
event bits cleared; Done slots freed; cancellation requested for every Pending or Active ticket, whose
completion words will be discarded. THn_PC keeps. -/
def State.resetTh (s : State) (t : Tid) : State :=
  let s := s.modTh t fun x =>
    { x with
      st := .off, rstack := [], z := false, n := false, c := false, v := false, tactive := false
      event := 0, waiting := none, waitOn := 0, deadline := none, refLine := none, xipLine := none
      shedHalt := false
      slots := x.slots.map fun k =>
        match k.st with
        | .done => {}
        | .pending | .active => { k with discard := true }
        | .free => k }
  s.cancelAll (s.opsOf t)

/-- A write of THn_CTRL (R22, R54, R355): TVEN is stored; RESET, HALT and START act in that order. -/
def State.writeThCtrl (s : State) (t : Tid) (v : Word) : State :=
  let s := s.modTh t fun x => { x with tven := bit v 8 }
  let s := if bit v 2 then s.resetTh t else s
  let s := if bit v 1 then s.haltTh t 2 else s
  if bit v 0 then s.startTh t else s

end Sys2Proof.Machine
end

