-- ==== Sys2Proof/Machine/Db.lean ====
section
/-!
DEFINITION. Decibel and phase arithmetic for the power, isolation and compensation rules (R121, R148 to
R151): powers of ten and cosines as integers to 30 places.
-/

namespace Sys2Proof.Machine

/-- Part 0 of `dbTable`. -/
def dbTable0 : List Nat := [
  1000000000000000000000000000000,
  1029200527194428169862119619786,
  1059253725177288878809280373278,
  1090184492385127645707603388567,
  1122018454301963435591038946478,
  1154781984689458179666482887296,
  1188502227437018437730122464892,
  1223207119049931548378190870742,
  1258925411794167210423954106396,
  1295686697517019472302508692684]

/-- Part 1 of `dbTable`. -/
def dbTable1 : List Nat := [
  1333521432163324025675931715295,
  1372460961007561968824858241937,
  1412537544622754302155607863930,
  1453784385607661833632603095171,
  1496235656094433411880285114388,
  1539926526059491989570485994945,
  1584893192461113485202101373392,
  1631172909227838308813955850117,
  1678804018122560313971950080416,
  1727825980507863418529958587219]

/-- Part 2 of `dbTable`. -/
def dbTable2 : List Nat := [
  1778279410038922801225421195193,
  1830206106311056048730877287720,
  1883649089489800535000891150209,
  1938652635952207316879749016302,
  1995262314968879601352455396740,
  2053525026457146074605752348296,
  2113489039836646795560345317379,
  2175204034019522681942656323956,
  2238721138568339611954950852466,
  2304092976055845607942493886529]

/-- Part 3 of `dbTable`. -/
def dbTable3 : List Nat := [
  2371373705661655261651752757479,
  2440619068041980328635255191999,
  2511886431509580111085032067799,
  2585234839562190737657331688227,
  2660725059798809634991311702631,
  2738419634264361294188696987389,
  2818382931264453819101923699155,
  2900681198693153682283246369831,
  2985382618917959617913276962522,
  3072557365267446687455463868189]

/-- Part 4 of `dbTable`. -/
def dbTable4 : List Nat := [
  3162277660168379331998893544433,
  3254617834980458775291573038608,
  3349654391578276595487726190897,
  3447466065731493806852909726822,
  3548133892335754584332187022645,
  3651741272548377058249952566045,
  3758374042884441673777109591503,
  3868120546330521757567480746198,
  3981071705534972507702523050878,
  4097321098135415007654980178448]

/-- Part 5 of `dbTable`. -/
def dbTable5 : List Nat := [
  4216965034285822485690133595094,
  4340102636447438364889478435334,
  4466835921509631185562505243194,
  4597269885308721785050057381309,
  4731512589614804789032711120199,
  4869675251658631149352974850344,
  5011872336272722850015541868849,
  5158221650723056738885028910948,
  5308844442309883522004618683677,
  5463865498818542127156765381570]

/-- Part 6 of `dbTable`. -/
def dbTable6 : List Nat := [
  5623413251903490803949510397765,
  5787619883491206435510476159124,
  5956621435290104605097982825272,
  6130557921498207061676898039597,
  6309573444801932494343601366223,
  6493816315762113151280328406978,
  6683439175686146083625744673876,
  6878599123088075983180053231834,
  7079457843841379108022149421893,
  7286181745132277114577292883718]

/-- Part 7 of `dbTable`. -/
def dbTable7 : List Nat := [
  7498942093324558273021842756151,
  7717915155850124143743396541196,
  7943282347242815020659182828364,
  8175230379436500065698449134274,
  8413951416451950911527418938005,
  8659643233600653523531691834202,
  8912509381337455299531086810783,
  9172759353897795847008750802728,
  9440608762859233803643804966023,
  9716279515771061741673428661688]

/-- 10^(k/80) in units of 10^−30, for k from 0 to 79. -/
def dbTable : List Nat :=
  dbTable0 ++ dbTable1 ++ dbTable2 ++ dbTable3 ++ dbTable4 ++ dbTable5 ++ dbTable6 ++ dbTable7

/-- Part 0 of `cosTable`. -/
def cosTable0 : List Nat := [
  1000000000000000000000000000000,
  999698818696204220115765649666,
  998795456205172392714771604759,
  997290456678690216135597140183,
  995184726672196886244836953109,
  992479534598709998156767251661,
  989176509964780973451673738016,
  985277642388941244774018433179,
  980785280403230449126182236134,
  975702130038528544460395766420,
  970031253194543992603984207286,
  963776065795439866686464355508,
  956940335732208864935797886980]

/-- Part 1 of `cosTable`. -/
def cosTable1 : List Nat := [
  949528180593036667195936074189,
  941544065183020778412509402600,
  932992798834738887711660255543,
  923879532511286756128183189397,
  914209755703530654635014829394,
  903989293123443331586200297231,
  893224301195515320342416447493,
  881921264348355029712756863660,
  870086991108711418652292404484,
  857728610000272069902269984285,
  844853565249707073259571205105,
  831469612302545237078788377618,
  817584813151583696504920884131]

/-- Part 2 of `cosTable`. -/
def cosTable2 : List Nat := [
  803207531480644909806676512963,
  788346427626606262009164705360,
  773010453362736960810906609758,
  757208846506484547575464053606,
  740951125354959091175616897495,
  724247082951466920941069243291,
  707106781186547524400844362105,
  689540544737066924616730629957,
  671558954847018400625376850427,
  653172842953776764084203013656,
  634393284163645498215171613225,
  615231590580626845484913563414,
  595699304492433343467036528830]

/-- Part 3 of `cosTable`. -/
def cosTable3 : List Nat := [
  575808191417845300745972453816,
  555570233019602224742830813949,
  534997619887097210663076904637,
  514102744193221726593693838969,
  492898192229784036873026688759,
  471396736825997648556387625905,
  449611329654606600046294579424,
  427555093430282094320966856889,
  405241314004989870908481305505,
  382683432365089771728459984030,
  359895036534988148775104572327,
  336889853392220050689253212619,
  313681740398891476656478845994]

/-- Part 4 of `cosTable`. -/
def cosTable4 : List Nat := [
  290284677254462367636192375817,
  266712757474898386325286515116,
  242980179903263889948274162077,
  219101240156869797227737547497,
  195090322016128267848284868477,
  170961888760301226363642357208,
  146730474455361751658850129647,
  122410675199216198498704474151,
  98017140329560601994195563889,
  73564563599667423529465621575,
  49067674327418014254954976943,
  24541228522912288031734529459,
  0]

/-- The cosine of k × 1.40625° in units of 10^−30, for k from 0 to 64. -/
def cosTable : List Nat :=
  cosTable0 ++ cosTable1 ++ cosTable2 ++ cosTable3 ++ cosTable4

/-- The unit of the power ratios below: 10^−60. -/
def dbUnit : Nat := 10 ^ 60

/-- 10^(n/80) in units of 10^−60: the power ratio of n/8 dB. -/
def dbPow (n : Int) : Nat :=
  let q := Int.fdiv n 80
  let m := dbTable.getD (Int.fmod n 80).toNat 0
  if 0 ≤ q then m * 10 ^ 30 * 10 ^ q.toNat else m * 10 ^ 30 / 10 ^ (-q).toNat

/-- 10^(n/160) in units of 10^−60: the power ratio of n/16 dB. -/
def dbPow16 (n : Int) : Nat :=
  let h := dbPow (Int.fdiv n 2)
  if Int.fmod n 2 = 0 then h else h * 1014495208068736108735466282825 / 10 ^ 30

/-- The largest level in 1/16 dB from `lo`, in `fuel` binary places, whose power does not exceed `p`. -/
def dbFloor16 (p : Nat) : Nat → Int → Int
  | 0, lo => lo
  | fuel + 1, lo =>
    let mid := lo + 2 ^ fuel
    dbFloor16 p fuel (if dbPow16 mid ≤ p then mid else lo)

/-- A power in 1/16 dB, to the nearest, from −256 dB up. -/
def dbOf16 (p : Nat) : Int :=
  let n := dbFloor16 p 13 (-4096)
  if dbPow16 n * dbPow16 (n + 1) ≤ p * p then n + 1 else n

/-- cos(k × 1.40625°) in units of 10^−30. -/
def cosU (k : Int) : Int :=
  let m := (Int.emod k 256).toNat
  if m ≤ 64 then (cosTable.getD m 0 : Nat)
  else if m ≤ 128 then -((cosTable.getD (128 - m) 0 : Nat) : Int)
  else if m ≤ 192 then -((cosTable.getD (m - 128) 0 : Nat) : Int)
  else (cosTable.getD (256 - m) 0 : Nat)

/-- sin(k × 1.40625°) in units of 10^−30. -/
def sinU (k : Int) : Int := cosU (k - 64)

/-- The integer square root, found bit by bit from bit `fuel`. -/
def isqrtFrom (n : Nat) : Nat → Nat → Nat
  | 0, r => r
  | fuel + 1, r =>
    let r' := r + 2 ^ fuel
    isqrtFrom n fuel (if r' * r' ≤ n then r' else r)

/-- The integer square root of a number below 2^512. -/
def isqrt (n : Nat) : Nat := isqrtFrom n 256 0

/-- 40 log10(a/b) to the nearest integer, halves up, for a and b from 1 to 100: found by exact integer
comparison of 80th powers. -/
def ratioQ (a b : Nat) : Int :=
  (((List.range 162).filter fun j => b ^ 80 * 10 ^ (2 * j) ≤ a ^ 80 * 10 ^ 161).length : Int) - 81

/-! ### Atlas (R122 to R124) -/

/-- A word of the sealed Atlas (R123). -/
def State.atlasW (s : State) (k : Nat) : Word := s.profile.atlas.getD k 0

/-- Whether the sealed Atlas describes Un. -/
def State.uPresent (s : State) (n : UPortNo) : Bool := s.atlasOk && bit (s.atlasW 0) n.val

/-- Whether the sealed Atlas describes Hn. -/
def State.hPresent (s : State) (n : HPortNo) : Bool := s.atlasOk && bit (s.atlasW 1) (16 + n.val)

/-- The UHF coupling byte from Up into Uq, in −0.5 dB; 0 marks a pair not measured (R124). -/
def State.ucpl (s : State) (p q : UPortNo) : Nat :=
  bits (s.atlasW (104 + 4 * p.val + q.val / 4)) (24 - 8 * (q.val % 4)) 8

/-- The HF coupling halfword from Hp into Hq (R124). -/
def State.hcpl (s : State) (p q : HPortNo) : Nat :=
  bits (s.atlasW (168 + 4 * p.val + q.val / 2)) (if q.val % 2 = 0 then 16 else 0) 16

/-- Its magnitude in −0.5 dB. -/
def State.hmag (s : State) (p q : HPortNo) : Nat := s.hcpl p q / 256

/-- Its phase in 1.40625°. -/
def State.hphase (s : State) (p q : HPortNo) : Nat := s.hcpl p q % 256

end Sys2Proof.Machine
end

