-- ==== Sys2Proof/Machine/HfOps.lean ====
section
/-!
DEFINITION. The shared operations of the HF cluster (R136 to R141, R148 to R151): field state and level,
neighbour compensation, the power budget, and the removal of fields.
-/

namespace Sys2Proof.Machine

/-- Every HF port. -/
def hpAll : List HPortNo := List.finRange 8

/-- The ceiling of a port's field in 10 mW: the smaller of 1.0 W and 0.05 × VHF² (R138). -/
def State.hfCeil (s : State) : Nat := min 100 (s.fld HC_VHF 0 16 * s.fld HC_VHF 0 16 / 200000)

/-- The level an HF operation asks of a port before the ceiling (R138). -/
def State.hfAsked (s : State) (op : Op) (p : HPortNo) : Nat :=
  let w := bits (op.w 4) 8 8
  if w ≠ 0 then w
  else if (s.hp p).field then (s.hp p).level
  else s.fld (HP_FIELD p) 16 9

/-- Whether an HF operation turns the field of its ports on, or keeps it on (R136, R137). -/
def Op.hfOn (op : Op) : Bool :=
  (op.cls == 1 && ((op.code == 1 && bit (op.w 5) 31) || op.code == 2 || op.code == 3)) ||
    (op.isCal && op.calCode == 6)

/-- The level an operation takes on a port: K.CAL HDI uses 100 mW (R270). -/
def State.hfLevel (s : State) (op : Op) (p : HPortNo) : Nat :=
  if op.isCal then 10 else min (s.hfAsked op p) s.hfCeil

/-- A port's field on at an operation's level, the request clamped to the ceiling with CLAMPED (R138);
a PHASE write takes effect now (R139). -/
def State.hfTurnOn (s : State) (op : Op) (p : HPortNo) : State :=
  let s := if !op.isCal && decide (s.hfCeil < s.hfAsked op p) then s.setFlag (HP_FLAGS p) 1 else s
  let lv := s.hfLevel op p
  let changes := !(s.hp p).field || (s.hp p).level != lv
  let ph : BitVec 7 := (s.reg (HP_FIELD p)).extractLsb' 0 7
  s.modHp p fun x => { x with field := true, level := lv, phase := if changes then ph else x.phase }

/-- A port's field ramped down. -/
def State.hfTurnOff (s : State) (p : HPortNo) : State :=
  s.modHp p fun x => { x with field := false, level := 0, leftBy := none }

/-- The fields on, with their levels. -/
def State.hfPlan (s : State) : List (HPortNo × Nat) :=
  hpAll.filterMap fun p => if (s.hp p).field then some (p, (s.hp p).level) else none

/-- An operation's ports with the fields it takes them to at its start, levels and phases included (R136 to R139). -/
def State.hfTo (s : State) (op : Op) : State :=
  op.hports.foldl (fun s p => if op.hfOn then s.hfTurnOn op p else s.hfTurnOff p) s

/-- The ports as they stand once the operations dispatched but not begun have their fields, HF operations that use no
field of their own aside. -/
def State.hfAhead (s : State) : State :=
  (s.ops.filter fun x => x.active && !x.started && x.onH && x.claimsTx).foldl (fun s x => s.hfTo x) s

/-- Two ports are coupled when the Atlas magnitude in either direction is above −20 dB (R149). -/
def State.hCoupled (s : State) (p q : HPortNo) : Bool :=
  p != q && decide (s.hmag p q < 0x28 ∨ s.hmag q p < 0x28)

/-- The amplitude of q's component for p, in 0.25 dB relative to q's carrier (R150). -/
def State.compAmp (s : State) (p q : HPortNo) (lp lq : Nat) : Int := ratioQ lp lq - 2 * s.hmag p q

/-- The phase of q's component for p before rounding, in 1.40625° (R150). -/
def State.compAngle (s : State) (p q : HPortNo) : Int :=
  s.hphase p q + 128 + 2 * (s.hp p).phase.toNat - 2 * (s.hp q).phase.toNat

/-- Its phase in 2.8125°, halves rounded up (R150). -/
def State.compPhase (s : State) (p q : HPortNo) : Nat := ((s.compAngle p q + 1) / 2 % 128).toNat

/-- The power ratio of p's coupled field at q to q's own: 10^((c + Lp − Lq) / 10). -/
def State.compRho (s : State) (p q : HPortNo) (lp lq : Nat) : Nat := dbPow (-4 * s.hmag p q) * lp / lq

/-- The quantisation term of R151: 10^((c + Lp − Lq + E) / 10), with the rounded amplitude and the phase
error of the component. -/
def State.compErr (s : State) (p q : HPortNo) (lp lq : Nat) : Int :=
  let rho := s.compRho p q lp lq
  let n := s.compAmp p q lp lq
  let delta := s.compAngle p q - 2 * s.compPhase p q
  (rho + dbPow (2 * n) : Nat) - 2 * (isqrt (rho * dbPow (2 * n)) : Nat) * cosU delta / 10 ^ 30

/-- The predicted residual r(q) of R151 as a power ratio. -/
def State.residual (s : State) (on : List (HPortNo × Nat)) (q : HPortNo) (lq : Nat) : Int :=
  let others := on.filter (·.1 != q)
  let first := others.foldl (fun a x => if s.hCoupled x.1 q
    then a + dbPow (-4 * (s.hmag x.1 q + s.hmag q x.1)) + s.compErr x.1 q x.2 lq else a) 0
  others.foldl (fun a x => others.foldl (fun a y =>
    if x.1 != y.1 && s.hCoupled x.1 y.1 && s.hCoupled y.1 q
    then a + (dbPow (-4 * (s.hmag x.1 y.1 + s.hmag y.1 q)) * x.2 / lq : Nat) else a) a) first

/-- The neighbour rule of R149 on a set of fields: ports the Atlas does not describe never overlap, and
every predicted residual is at most −26 dB. -/
def State.hfNeighbours (s : State) (on : List (HPortNo × Nat)) : Bool :=
  (decide (on.length ≤ 1) || on.all fun x => s.hPresent x.1) &&
    on.all fun x => decide (s.residual on x.1 x.2 ≤ dbPow (-208))

/-- The components a port carries among the fields on: amplitude and phase. -/
def State.comps (s : State) (on : List (HPortNo × Nat)) (q : HPortNo) (lq : Nat) : List (Int × Nat) :=
  (on.filter fun x => s.hCoupled x.1 q).map fun x => (s.compAmp x.1 q x.2 lq, s.compPhase x.1 q)

/-- The power of a port's total drive vector relative to its own carrier (R148). -/
def driveGain (cs : List (Int × Nat)) : Nat :=
  let re := cs.foldl (fun a c => a + (dbPow c.1 / 10 ^ 30 : Nat) * cosU (2 * c.2) / 10 ^ 30) ((10 ^ 30 : Nat) : Int)
  let im := cs.foldl (fun a c => a + (dbPow c.1 / 10 ^ 30 : Nat) * sinU (2 * c.2) / 10 ^ 30) 0
  (re * re + im * im).toNat

/-- The committed power of a set of fields in units of 10^−60 × 10 mW; an Active H.WATCH adds 0.1 W
(R148). -/
def State.committed (s : State) (on : List (HPortNo × Nat)) : Nat :=
  on.foldl (fun a x => a + x.2 * driveGain (s.comps on x.1 x.2)) 0 +
    10 * dbUnit * (s.ops.filter fun op => op.active && op.isWatch).length

/-- The power budget holds (R148): 4.0 W, HC_PWR.LIMIT, and 0.935 W per volt of VHF. -/
def State.hfBudget (s : State) (on : List (HPortNo × Nat)) : Bool :=
  let c := s.committed on
  decide (c ≤ min 400 (s.fld HC_PWR 0 10) * dbUnit) && decide (c * 10000 ≤ s.fld HC_VHF 0 16 * 935 * dbUnit)

/-- The budget in force in 10 mW, to the nearest (R148). -/
def State.hfBudgetUnits (s : State) : Nat :=
  min (min 400 (s.fld HC_PWR 0 10)) ((s.fld HC_VHF 0 16 * 935 + 5000) / 10000)

/-- HPn_COMPk of port q for its neighbour p, for the fields on (R150). -/
def State.compWord (s : State) (q p : HPortNo) : Word :=
  if (s.hp p).field && (s.hp q).field && s.hCoupled p q && s.hPresent p && s.hPresent q then
    let lp := (s.hp p).level
    let lq := (s.hp q).level
    flagW 16 true ||| fieldW 8 8 (min 255 (-(s.compAmp p q lp lq)).toNat) ||| fieldW 0 7 (s.compPhase p q)
  else 0

/-- A field removed without a ramp (R140, R157): FIELDLOST when an H.FIELD left it on or no operation
held it. -/
def State.hfRemove (s : State) (p : HPortNo) : State :=
  let x := s.hp p
  let s := if x.field && (x.leftBy.isSome || (s.hholder p).isNone) then s.setFlag (HP_FLAGS p) 2 else s
  s.hfTurnOff p

/-- Every HF field removed (R140, R252, R256). -/
def State.hfRemoveAll (s : State) : State := hpAll.foldl (fun s p => s.hfRemove p) s

end Sys2Proof.Machine
end

