-- ==== Sys2Proof/Machine/Flags.lean ====
section
/-!
DEFINITION. The flag computations of R34.
-/

namespace Sys2Proof.Machine

/-- ADD and ADDI: C is the carry out of bit 31. -/
def carryAdd (a b : Word) : Bool := decide (2 ^ 32 ≤ a.toNat + b.toNat)

/-- ADD and ADDI: V is signed overflow. -/
def ovfAdd (a b : Word) : Bool := decide ((a + b).toInt ≠ a.toInt + b.toInt)

/-- SUB and CMP: C = 1 when no borrow occurs. -/
def carrySub (a b : Word) : Bool := decide (b.toNat ≤ a.toNat)

/-- SUB and CMP: V is signed overflow. -/
def ovfSub (a b : Word) : Bool := decide ((a - b).toInt ≠ a.toInt - b.toInt)

/-- MUL: C = 1 when the unsigned 64-bit product has a nonzero high half. -/
def carryMul (a b : Word) : Bool := decide (2 ^ 32 ≤ a.toNat * b.toNat)

/-- MUL: V = 1 when the signed product does not fit in 32 bits. -/
def ovfMul (a b : Word) : Bool := decide ((a * b).toInt ≠ a.toInt * b.toInt)

/-- SHL by n: the last bit shifted out, none for an amount of 0. -/
def outShl (a : Word) (n : Nat) : Option Bool := if n = 0 then none else some (a.getLsbD (32 - n))

/-- SHR and SAR by n: the last bit shifted out, none for an amount of 0. -/
def outShr (a : Word) (n : Nat) : Option Bool := if n = 0 then none else some (a.getLsbD (n - 1))

/-- The condition codes of R33; 0xF is reserved. -/
def condHolds (z n c v : Bool) (cond : BitVec 4) : Option Bool :=
  match cond.toNat with
  | 0 => some true
  | 1 => some z
  | 2 => some !z
  | 3 => some c
  | 4 => some !c
  | 5 => some n
  | 6 => some !n
  | 7 => some v
  | 8 => some !v
  | 9 => some (c && !z)
  | 10 => some (!c || z)
  | 11 => some (n == v)
  | 12 => some (n != v)
  | 13 => some (!z && n == v)
  | 14 => some (z || n != v)
  | _ => none

end Sys2Proof.Machine
end

