-- ==== Sys2Proof/Machine/Operands.lean ====
section
/-!
DEFINITION. The operand forms of the Benlon instructions (R31, R32), what a thread does with an
instruction issued to it (R22), and the register results every instruction shares.
-/

namespace Sys2Proof.Machine

/-- The second operand of the A-format instructions ADD to CMP (R32): fn[12:0] zero-extended when
fn[13] = 1, else rb. -/
def Thread.opB (x : Thread) (f : AFields) : Word :=
  if f.fn.getLsbD 13 then (f.fn.extractLsb' 0 13).setWidth 32 else x.rg f.rb

/-- A nonzero field contrary to R32 in an instruction ADD to CMP. -/
def aluBad (f : AFields) : Bool :=
  if f.fn.getLsbD 13 then f.rb != 0 else f.fn.extractLsb' 0 13 != 0

/-- imm18 sign-extended. -/
def sx18 (i : BitVec 18) : Word := i.signExtend 32

/-- imm18 zero-extended. -/
def zx18 (i : BitVec 18) : Word := i.setWidth 32

/-- The byte address of formats M and K: ra + sx(off18). -/
def Thread.addr (x : Thread) (f : IFields) : Word := x.rg f.ra + sx18 f.imm

/-- An even register from g2 to g14, the low register of a pair (R43, R50). -/
def pairOk (r : BitVec 4) : Bool := !r.getLsbD 0 && r != 0

/-- PC ← PC + 4. -/
def Thread.advance (x : Thread) : Thread := { x with pc := x.pc + 4 }

/-- An ALU result: rd, Z and N, and C and V where the instruction gives them; the PC moves on. -/
def Thread.result (x : Thread) (rd : BitVec 4) (r : Word) (c v : Option Bool) : Thread :=
  { (x.setRg rd r) with z := r == 0, n := r.msb, c := c.getD x.c, v := v.getD x.v, pc := x.pc + 4 }

/-- What the instruction in a thread's issue slot comes to. -/
inductive IssueRes where
  /-- It completed, leaving this state. -/
  | done (s : State)
  /-- It must wait (R22), with a WAITON code and, when timed, an end. -/
  | wait (code : BitVec 4) (deadline : Option Nat)
  /-- It must wait for an XIP line (R222). -/
  | fill (s : State) (line : Nat)
  /-- It traps with a cause, an argument and, for ALIGN, ACCESS and PARITY, an address (R52, R53). -/
  | trap (s : State) (cause arg : Nat) (addr : Option Word)
  /-- It found a parity error in a program-store line (R30). -/
  | refetch (line : Nat)

/-- ILLEGAL (R32, R53). -/
def illegal (s : State) : IssueRes := .trap s 0x01 0 none

/-- The instruction completes with thread `t` changed. -/
def IssueRes.th (s : State) (t : Tid) (f : Thread → Thread) : IssueRes := .done (s.modTh t f)

/-- Whether an address lies in the program store (R19). -/
def inStore (a : Word) : Bool := decide (0x10000000 ≤ a.toNat ∧ a.toNat < 0x10040000)

/-- Whether an address lies in the XIP and table window (R19). -/
def inXip (a : Word) : Bool := decide (0x20000000 ≤ a.toNat ∧ a.toNat < 0x21000000)

/-- Whether an address lies in the shared data memory (R19). -/
def inShared (a : Word) : Bool := decide (0x11000000 ≤ a.toNat ∧ a.toNat < 0x11040000)

/-- The 32-byte program-store line of an address. -/
def storeLine (a : Word) : Nat := (a.toNat - 0x10000000) / 32

/-- The 32-byte XIP line of an address. -/
def xipLine (a : Word) : Nat := (a.toNat - 0x20000000) / 32

/-- The words of an XIP line when the cache holds it (R222). -/
def State.cached (s : State) (line : Nat) : Option (List Word) :=
  (s.msp.lines.find? (·.1 == line)).map (·.2)

/-- A hit makes a line the most recently used (R222). -/
def State.touchLine (s : State) (line : Nat) : State :=
  { s with msp.lines := s.msp.lines.filter (·.1 == line) ++ s.msp.lines.filter (·.1 != line) }

/-- A thread has fetched from the line at its PC: a hit in the XIP cache makes it the most recently used (R27, R222). -/
def State.touched (s : State) (t : Tid) : State :=
  if inXip (s.th t).pc then s.touchLine (xipLine (s.th t).pc) else s

/-- A miss asks for a fill; threads that miss on the same line share one (R222). -/
def State.requestFill (s : State) (line : Nat) : State :=
  if line ∈ s.msp.fills then s else { s with msp.fills := s.msp.fills ++ [line] }

/-- The outcome of an instruction body put into effect on its thread (R22). -/
def State.settle (s : State) (t : Tid) (ins : Instr) (r : IssueRes) : State :=
  match r with
  | .done s' => s'
  | .wait code dl => s.enterWait t ins code dl none
  | .fill s' line => (s'.requestFill line).enterWait t ins 10 none (some line)
  | .trap s' cause arg addr => s'.takeTrap t cause arg (s'.th t).pc addr
  | .refetch line => s.enterRefetch t line

/-- A cached XIP line that fails its parity check is dropped, with PARERR, and filled again (R222). -/
def State.dropLine (s : State) (line : Nat) : State :=
  { s with msp.lines := s.msp.lines.filter (·.1 != line) }.setFlag MS_FLAGS 0

/-- The thread waits for an XIP line it fetches from (R27, R222). -/
def State.awaitFetch (s : State) (t : Tid) (line : Nat) : State :=
  (s.requestFill line).modTh t fun x =>
    { x with st := .wait, waitOn := 10, waiting := none, xipLine := some line }

/-- MS_CFG.EN: the XIP window is served; when it is not, window reads trap ACCESS (R221). -/
def State.xipOn (s : State) : Bool := bit (s.reg MS_CFG) 0

/-- An instruction in the issue slot of its thread: a thread not in Run leaves the slot empty (R20); a
fetch from a faulty program-store line enters Refetch (R30), one from an XIP window that is not served
traps ACCESS (R221), one from an XIP line not in the cache, or whose cached line fails its parity check, waits
for the fill (R27, R222), and a hit makes the line the most recently used, as for LD; then the body acts. -/
def State.issue (s : State) (i : Issue) (ins : Instr) (body : State → IssueRes) : State :=
  let x := s.th i.thread
  if x.st ≠ .run then s
  else if inStore x.pc && (i.fetchErr || decide (storeLine x.pc ∈ s.image.bad)) then
    s.enterRefetch i.thread (storeLine x.pc)
  else if inXip x.pc && !s.xipOn then s.takeTrap i.thread 0x03 0 x.pc (some x.pc)
  else if inXip x.pc && (s.cached (xipLine x.pc)).isNone then s.awaitFetch i.thread (xipLine x.pc)
  else if inXip x.pc && i.fetchErr then (s.dropLine (xipLine x.pc)).awaitFetch i.thread (xipLine x.pc)
  else (s.touched i.thread).settle i.thread ins (body (s.touched i.thread))

/-- The end of an instruction that waited: the thread is back in Run, and completes or traps; one that
must still wait stays as it was (R22). -/
def State.retry (s : State) (t : Tid) (body : State → IssueRes) : State :=
  let s' := s.modTh t Thread.resume
  match body s' with
  | .done r => r
  | .wait .. => s
  | .fill .. => s
  | .trap r cause arg addr => r.takeTrap t cause arg (r.th t).pc addr
  | .refetch line => s'.enterRefetch t line

end Sys2Proof.Machine
end

