-- ==== Sys2Proof/Machine/ThreadAlu.lean ====
section
/-!
DEFINITION. The arithmetic instructions ADD to CMP and ADDI to LUI (R32, R34).
-/

namespace Sys2Proof.Machine

/-- What a command comes to. -/
abbrev Out := Host.Outcome State Fault Refusal

/-- An A-format instruction of R32: ILLEGAL on a bad field, else the result with C and V as given. -/
def aluBody (t : Tid) (f : AFields) (op : Word → Word → Word × Option Bool × Option Bool) (s : State) :
    IssueRes :=
  if aluBad f then illegal s
  else
    let x := s.th t
    let r := op (x.rg f.ra) (x.opB f)
    .th s t fun x => x.result f.rd r.1 r.2.1 r.2.2

/-- ADD: rd ← ra + B. -/
def execAdd (i : Issue) (f : AFields) (s : State) : Out :=
  .next (s.issue i (.add i f) (aluBody i.thread f fun a b =>
    (a + b, some (carryAdd a b), some (ovfAdd a b))))

/-- SUB: rd ← ra − B. -/
def execSub (i : Issue) (f : AFields) (s : State) : Out :=
  .next (s.issue i (.sub i f) (aluBody i.thread f fun a b =>
    (a - b, some (carrySub a b), some (ovfSub a b))))

/-- AND: rd ← ra & B. -/
def execAnd (i : Issue) (f : AFields) (s : State) : Out :=
  .next (s.issue i (.and i f) (aluBody i.thread f fun a b => (a &&& b, none, none)))

/-- OR: rd ← ra | B. -/
def execOr (i : Issue) (f : AFields) (s : State) : Out :=
  .next (s.issue i (.or i f) (aluBody i.thread f fun a b => (a ||| b, none, none)))

/-- XOR: rd ← ra ^ B. -/
def execXor (i : Issue) (f : AFields) (s : State) : Out :=
  .next (s.issue i (.xor i f) (aluBody i.thread f fun a b => (a ^^^ b, none, none)))

/-- SHL: rd ← ra << B[4:0]. -/
def execShl (i : Issue) (f : AFields) (s : State) : Out :=
  .next (s.issue i (.shl i f) (aluBody i.thread f fun a b =>
    (a <<< bits b 0 5, outShl a (bits b 0 5), none)))

/-- SHR: rd ← ra >> B[4:0], zero fill. -/
def execShr (i : Issue) (f : AFields) (s : State) : Out :=
  .next (s.issue i (.shr i f) (aluBody i.thread f fun a b =>
    (a >>> bits b 0 5, outShr a (bits b 0 5), none)))

/-- SAR: rd ← ra >> B[4:0], sign fill. -/
def execSar (i : Issue) (f : AFields) (s : State) : Out :=
  .next (s.issue i (.sar i f) (aluBody i.thread f fun a b =>
    (a.sshiftRight (bits b 0 5), outShr a (bits b 0 5), none)))

/-- MUL: rd ← low 32 bits of ra × B. -/
def execMul (i : Issue) (f : AFields) (s : State) : Out :=
  .next (s.issue i (.mul i f) (aluBody i.thread f fun a b =>
    (a * b, some (carryMul a b), some (ovfMul a b))))

/-- MIN: rd ← signed minimum. -/
def execMin (i : Issue) (f : AFields) (s : State) : Out :=
  .next (s.issue i (.min i f) (aluBody i.thread f fun a b => (if a.sle b then a else b, none, none)))

/-- MAX: rd ← signed maximum. -/
def execMax (i : Issue) (f : AFields) (s : State) : Out :=
  .next (s.issue i (.max i f) (aluBody i.thread f fun a b => (if a.sle b then b else a, none, none)))

/-- CMP: the flags of ra − B; rd is not used and must be 0. -/
def execCmp (i : Issue) (f : AFields) (s : State) : Out :=
  .next (s.issue i (.cmp i f) fun s =>
    if f.rd ≠ 0 then illegal s
    else aluBody i.thread f (fun a b => (a - b, some (carrySub a b), some (ovfSub a b))) s)

/-- An I-format result. -/
def immBody (t : Tid) (f : IFields) (op : Word → Word × Option Bool × Option Bool) (s : State) : IssueRes :=
  let r := op ((s.th t).rg f.ra)
  .th s t fun x => x.result f.rd r.1 r.2.1 r.2.2

/-- ADDI: rd ← ra + sx(imm18). -/
def execAddi (i : Issue) (f : IFields) (s : State) : Out :=
  .next (s.issue i (.addi i f) (immBody i.thread f fun a =>
    (a + sx18 f.imm, some (carryAdd a (sx18 f.imm)), some (ovfAdd a (sx18 f.imm)))))

/-- ANDI: rd ← ra & zx(imm18). -/
def execAndi (i : Issue) (f : IFields) (s : State) : Out :=
  .next (s.issue i (.andi i f) (immBody i.thread f fun a => (a &&& zx18 f.imm, none, none)))

/-- ORI: rd ← ra | zx(imm18). -/
def execOri (i : Issue) (f : IFields) (s : State) : Out :=
  .next (s.issue i (.ori i f) (immBody i.thread f fun a => (a ||| zx18 f.imm, none, none)))

/-- LUI: rd ← imm18 << 14; no flag changes; ra is not used and must be 0. -/
def execLui (i : Issue) (f : IFields) (s : State) : Out :=
  .next (s.issue i (.lui i f) fun s =>
    if f.ra ≠ 0 then illegal s
    else .th s i.thread fun x => (x.setRg f.rd (zx18 f.imm <<< 14)).advance)

end Sys2Proof.Machine
end

