-- ==== Sys2Proof/Machine/ThreadControl.lean ====
section
/-!
DEFINITION. Branches, calls, HALT, TRAP, NOP, time and event instructions of a thread (R33, R35, R47 to
R50, R52), and the thread transitions of R22 that come from outside the thread.
-/

namespace Sys2Proof.Machine

/-- PC + 4 × sx(off22). -/
def Thread.target (x : Thread) (off : BitVec 22) : Word := x.pc + (off.signExtend 32 <<< 2)

/-- B.cond (R33): cond = 0xF traps ILLEGAL. -/
def execB (i : Issue) (f : BFields) (s : State) : Out :=
  .next (s.issue i (.b i f) fun s =>
    let x := s.th i.thread
    match condHolds x.z x.n x.c x.v f.cond with
    | none => illegal s
    | some true => .th s i.thread fun x => { x with pc := x.target f.off }
    | some false => .th s i.thread Thread.advance)

/-- CALL (R34, R35): STACKO when the return stack holds 8 entries. -/
def execCall (i : Issue) (f : BFields) (s : State) : Out :=
  .next (s.issue i (.call i f) fun s =>
    let x := s.th i.thread
    if f.cond ≠ 0 then illegal s
    else if 8 ≤ x.rstack.length then .trap s 0x04 0 none
    else .th s i.thread fun x => { x with rstack := (x.pc + 4) :: x.rstack, pc := x.target f.off })

/-- RET, RET ra and RET.T ra (R34, R35). -/
def execRet (i : Issue) (f : AFields) (s : State) : Out :=
  .next (s.issue i (.ret i f) fun s =>
    let x := s.th i.thread
    let form := bits (f.fn.setWidth 32) 0 2
    if f.fn.extractLsb' 2 12 ≠ 0 ∨ f.rd ≠ 0 ∨ f.rb ≠ 0 ∨ form = 3 then illegal s
    else if form = 0 then
      if f.ra ≠ 0 then illegal s
      else match x.rstack with
        | [] => .trap s 0x05 0 none
        | a :: rest => .th s i.thread fun x => { x with pc := a, rstack := rest }
    else if form = 2 ∧ !x.tactive then illegal s
    else if bits (x.rg f.ra) 0 2 ≠ 0 then .trap s 0x02 0 (some (x.rg f.ra))
    else .th s i.thread fun x =>
      { x with pc := x.rg f.ra, tactive := if form = 2 then false else x.tactive })

/-- TBR (R50): TB[31:0] to rd and TB[63:32] to rd+1 in one tick. -/
def execTbr (i : Issue) (f : AFields) (s : State) : Out :=
  .next (s.issue i (.tbr i f) fun s =>
    if f.fn ≠ 0 ∨ f.ra ≠ 0 ∨ f.rb ≠ 0 ∨ !pairOk f.rd then illegal s
    else .th s i.thread fun x =>
      ((x.setRg f.rd s.tbLo).setRg (f.rd + 1) (s.tbShown.extractLsb' 32 32)).advance)

/-- SLEEPU (R49): waits for ra + zx(imm18) µs; a total of 0 gives up one issue slot. The total is summed as a
number and does not wrap at 32 bits, for which the rule gives no width (DESIGN CHOICE: assumption 63). -/
def execSleepu (i : Issue) (f : IFields) (s : State) : Out :=
  .next (s.issue i (.sleepu i f) fun s =>
    let us := ((s.th i.thread).rg f.ra).toNat + f.imm.toNat
    if f.rd ≠ 0 then illegal s
    else if us = 0 then .th s i.thread Thread.advance
    else .wait 6 (some (s.ticks + usTicks us)))

/-- A timeout in µs taken from ra, none when ra is g0 (R39, R48). -/
def State.timeout (s : State) (t : Tid) (ra : BitVec 4) : Option Nat :=
  if ra = 0 then none else some (s.ticks + usTicks ((s.th t).rg ra).toNat)

/-- The body of EVW (R48): the matching bits go to rd and exactly those are cleared, C = 1. -/
def evwBody (t : Tid) (f : AFields) (s : State) : IssueRes :=
  let x := s.th t
  let m := x.event &&& x.rg f.rb
  if f.fn ≠ 0 then illegal s
  else if m = 0 then .wait 5 (s.timeout t f.ra)
  else .th s t fun x => ({ x with event := x.event &&& ~~~ m, c := true }.setRg f.rd m).advance

/-- EVW (R48). -/
def execEvw (i : Issue) (f : AFields) (s : State) : Out :=
  .next (s.issue i (.evw i f) (evwBody i.thread f))

/-- EVS (R48): rb[15:0] is ORed into the software bits of thread ra[4:0], or of every thread with ALL,
which ignores ra. -/
def execEvs (i : Issue) (f : AFields) (s : State) : Out :=
  .next (s.issue i (.evs i f) fun s =>
    let x := s.th i.thread
    let m := x.rg f.rb &&& 0xFFFF
    if f.fn.extractLsb' 1 13 ≠ 0 ∨ f.rd ≠ 0 then illegal s
    else
      let s := if f.fn.getLsbD 0 then s.forThreads fun s t => s.setEvents t m
        else s.setEvents ((x.rg f.ra).extractLsb' 0 5).toFin m
      .th s i.thread Thread.advance)

/-- HALT (R22): Halted with HALTSRC 1, PC at the next instruction. -/
def execHalt (i : Issue) (f : AFields) (s : State) : Out :=
  .next (s.issue i (.halt i f) fun s =>
    if f.fn ≠ 0 ∨ f.rd ≠ 0 ∨ f.ra ≠ 0 ∨ f.rb ≠ 0 then illegal s
    else .th s i.thread fun x => x.advance.halt 1)

/-- TRAP (R52): SOFT with ARG = imm18[7:0]; TPC is the address of the next instruction. -/
def execTrap (i : Issue) (f : IFields) (s : State) : Out :=
  .next (s.issue i (.trap i f) fun s =>
    if f.rd ≠ 0 ∨ f.ra ≠ 0 ∨ f.imm.extractLsb' 8 10 ≠ 0 then illegal s
    else .trap (s.modTh i.thread Thread.advance) 0x20 (f.imm.toNat % 256) none)

/-- NOP ignores [25:0]. -/
def execNop (i : Issue) (x : BitVec 26) (s : State) : Out :=
  .next (s.issue i (.nop i x) fun s => .th s i.thread Thread.advance)

/-! ### Time in a thread -/

/-- What the expiry of a timed instruction leaves: a SLEEPU nothing (R49), a WAITANY gd ← 0xFFFF_FFFF and C = 0
(R39), an EVW rd ← 0 and C = 0 (R48). -/
def timedOut (ins : Instr) (x : Thread) : Thread :=
  match ins with
  | .waitany _ f => { x.setRg f.rd 0xFFFFFFFF with c := false }
  | .evw _ f => { x.setRg f.rd 0 with c := false }
  | _ => x

/-- Whether the deadline of a thread's wait fell before, or at, the tick at which what it awaits came: the wait
is open until its deadline (R8). -/
def Thread.tooLate (x : Thread) : Bool :=
  match x.deadline, x.met with
  | some d, some m => decide (d ≤ m)
  | _, _ => false

/-- The end of a timed wait: time passes to the deadline, and the thread is back in Run past its instruction. -/
def State.timeUp (s : State) (t : Tid) (ins : Instr) (d : Nat) : State :=
  (s.advanceTo d).modTh t fun x => (timedOut ins x.resume).advance

/-- The timeout of the instruction that waits with this WAITON code and a deadline; where what it awaits came
before the deadline, the instruction completes by it instead (R39, R48). -/
def State.expireWait (s : State) (t : Tid) (code : BitVec 4) (body : Instr → State → IssueRes) : State :=
  let x := s.th t
  match x.st, x.waiting, x.deadline with
  | .wait, some ins, some d =>
    if x.waitOn ≠ code then s
    else if x.met.isSome && x.awaited && !x.tooLate then s.retry t (body ins)
    else s.timeUp t ins d
  | _, _, _ => s

/-- The requested sleep has elapsed (R49): the instruction completes. -/
def execSleepuExpiry (t : Tid) (s : State) : Out := .next (s.expireWait t 6 fun _ => illegal)

/-- The EVW timeout expires (R48): rd ← 0 and C = 0, unless a masked bit came first. -/
def execEvwTimeout (t : Tid) (s : State) : Out :=
  .next (s.expireWait t 5 fun ins =>
    match ins with
    | .evw _ f => evwBody t f
    | _ => illegal)

/-! ### THREAD registers -/

/-- A write of THn_CTRL with RESET = 1 (R22, R24, R355): the bits written with it act after it. -/
def execThreadReset (t : Tid) (v : Word) (s : State) : Out := .next (s.writeThCtrl t (v ||| 4))

/-- A write of THn_CTRL with HALT = 1 (R22, R23, R355). -/
def execThreadHalt (t : Tid) (v : Word) (s : State) : Out := .next (s.writeThCtrl t (v ||| 2))

/-- A write of THn_CTRL with START = 1 (R22, R26, R355). -/
def execThreadStart (t : Tid) (v : Word) (s : State) : Out := .next (s.writeThCtrl t (v ||| 1))

/-- A write of THn_EVSET: a 1 sets the software event bit; HE bits are not settable (R47, R54). -/
def execEvsetWrite (t : Tid) (v : Word) (s : State) : Out := .next (s.setEvents t (v &&& 0xFFFF))

/-- A read of TH_SEMk returns LOCK and leaves LOCK = 1 (R46). -/
def State.semRead (s : State) (k : Fin 32) : Word × State :=
  (s.reg (TH_SEM k) &&& 1, s.setReg (TH_SEM k) 1)

/-- A write of TH_SEMk stores LOCK: a write of 0 releases the semaphore (R46, R54). -/
def State.semWrite (s : State) (k : Fin 32) (v : Word) : State := s.setReg (TH_SEM k) (v &&& 1)

/-- SEMAPHORE_READ: the value read is what the register bus returns (R46). -/
def execSemaphoreRead (k : Fin 32) (s : State) : Out :=
  let (w, s) := s.semRead k
  .next { s with busData := w }

/-- SEMAPHORE_RELEASE (R46). -/
def execSemaphoreRelease (k : Fin 32) (s : State) : Out := .next (s.semWrite k 0)

end Sys2Proof.Machine
end

