-- ==== Sys2Proof/Machine/ThreadMem.lean ====
section
/-!
DEFINITION. LD and ST (R27 to R30), the ticket instructions (R39, R40) and the ring instructions (R41 to
R43) of a thread.
-/

namespace Sys2Proof.Machine

/-! ### LD and ST -/

/-- rd takes a word and the PC moves on. -/
def loadTo (s : State) (t : Tid) (rd : BitVec 4) (w : Word) : IssueRes :=
  .th s t fun x => (x.setRg rd w).advance

/-- A parity error on LD from local or shared memory: DMEM and a PARITY trap (R30, R320). -/
def loadParity (s : State) (t : Tid) (a : Word) : IssueRes := .trap (s.fault 6 t.val 0) 0x08 0 (some a)

/-- LD (R27, R30, R221). -/
def ldBody (t : Tid) (bad : Bool) (f : IFields) (s : State) : IssueRes :=
  let x := s.th t
  let a := x.addr f
  if bits a 0 2 ≠ 0 then .trap s 0x02 0 (some a)
  else if a.toNat < 0x800 then
    if bad then loadParity s t a else loadTo s t f.rd (Memory.word x.mem a.toNat)
  else if inStore a then
    if bad || decide (storeLine a ∈ s.image.bad) then .refetch (storeLine a)
    else loadTo s t f.rd (Memory.word s.pstore (a.toNat - 0x10000000))
  else if inShared a then
    if bad then loadParity s t a else loadTo s t f.rd (Memory.word s.smem (a.toNat - 0x11000000))
  else if inXip a && s.xipOn then
    match s.cached (xipLine a) with
    | none => .fill s (xipLine a)
    | some ws =>
      if bad then .fill (s.dropLine (xipLine a)) (xipLine a)
      else loadTo (s.touchLine (xipLine a)) t f.rd (ws.getD (bits a 2 3) 0)
  else .trap s 0x03 0 (some a)

/-- LD rd, off(ra). -/
def execLd (i : Issue) (f : IFields) (s : State) : Out :=
  .next (s.issue i (.ld i f) (ldBody i.thread i.dataErr f))

/-- ST (R27, R28): only local and shared memory take a store; anything else traps ACCESS. -/
def stBody (t : Tid) (f : IFields) (s : State) : IssueRes :=
  let x := s.th t
  let a := x.addr f
  if bits a 0 2 ≠ 0 then .trap s 0x02 0 (some a)
  else if a.toNat < 0x800 then
    .th s t fun x => { x with mem := Memory.setWord x.mem a.toNat (x.rg f.rd), pc := x.pc + 4 }
  else if inShared a then
    .th { s with smem := Memory.setWord s.smem (a.toNat - 0x11000000) (x.rg f.rd) } t Thread.advance
  else .trap s 0x03 0 (some a)

/-- ST rd, off(ra). -/
def execSt (i : Issue) (f : IFields) (s : State) : Out :=
  .next (s.issue i (.st i f) (stBody i.thread f))

/-! ### Tickets -/

/-- The slot named by a kd field. -/
def Thread.kslot (x : Thread) (k : BitVec 4) : Slot := x.slots[k.toFin]

/-- Slot kd freed. -/
def Thread.freeSlot (x : Thread) (k : BitVec 4) : Thread := { x with slots := vset x.slots k.toFin {} }

/-- WAITK (R39): a Free slot traps TKSTATE; a Done slot gives gd its completion word and becomes Free. -/
def waitkBody (t : Tid) (f : IFields) (s : State) : IssueRes :=
  let k := (s.th t).kslot f.rd
  if f.imm ≠ 0 then illegal s
  else match k.st with
    | .free => .trap s 0x07 0 none
    | .done => .th s t fun x => ((x.freeSlot f.rd).setRg f.ra k.word).advance
    | .pending | .active => .wait 1 none

/-- WAITK kd, gd. -/
def execWaitk (i : Issue) (f : IFields) (s : State) : Out :=
  .next (s.issue i (.waitk i f) (waitkBody i.thread f))

/-- TESTK (R39): never waits; C says whether it collected, Z whether the slot is Free after it. -/
def execTestk (i : Issue) (f : IFields) (s : State) : Out :=
  .next (s.issue i (.testk i f) fun s =>
    let k := (s.th i.thread).kslot f.rd
    if f.imm ≠ 0 then illegal s
    else match k.st with
      | .done => .th s i.thread fun x =>
          { ((x.freeSlot f.rd).setRg f.ra k.word).advance with c := true, z := true }
      | .free => .th s i.thread fun x => { x.advance with c := false, z := true }
      | .pending | .active => .th s i.thread fun x => { x.advance with c := false, z := false })

/-- The masked slots of a thread in a state, lowest first. -/
def Thread.maskedSlots (x : Thread) (mask : Nat) (p : Slot → Bool) : List (Fin 16) :=
  (setBits mask).filter fun k => p x.slots[k]

/-- WAITANY (R39): TKSTATE when every masked slot is Free, a mask of 0 included; else the number of the
lowest Done slot in the mask, C = 1, collecting nothing. -/
def waitanyBody (t : Tid) (f : IFields) (s : State) : IssueRes :=
  let x := s.th t
  let mask := f.imm.toNat % 0x10000
  if f.imm.extractLsb' 16 2 ≠ 0 then illegal s
  else if (x.maskedSlots mask fun k => k.st != .free) = [] then .trap s 0x07 0 none
  else match x.maskedSlots mask fun k => k.st == .done with
    | k :: _ => .th s t fun x => ({ x with c := true }.setRg f.rd (BitVec.ofNat 32 k.val)).advance
    | [] => .wait 2 (s.timeout t f.ra)

/-- WAITANY gd, ra, mask. -/
def execWaitany (i : Issue) (f : IFields) (s : State) : Out :=
  .next (s.issue i (.waitany i f) (waitanyBody i.thread f))

/-- The WAITANY timeout expires (R39): gd ← 0xFFFF_FFFF and C = 0, unless a masked slot was Done first. -/
def execWaitanyTimeout (t : Tid) (s : State) : Out :=
  .next (s.expireWait t 2 fun ins =>
    match ins with
    | .waitany _ f => waitanyBody t f
    | _ => illegal)

/-- CANCK (R39): a Pending or Active slot gets a cancellation request, C = 1 and Z = 0; Done C = 0,
Z = 0; Free C = 0, Z = 1. -/
def execCanck (i : Issue) (f : IFields) (s : State) : Out :=
  .next (s.issue i (.canck i f) fun s =>
    if f.imm ≠ 0 ∨ f.ra ≠ 0 then illegal s
    else match ((s.th i.thread).kslot f.rd).st with
      | .pending | .active =>
        .th (s.cancelOp ⟨i.thread, f.rd.toFin⟩) i.thread fun x => { x.advance with c := true, z := false }
      | .done => .th s i.thread fun x => { x.advance with c := false, z := false }
      | .free => .th s i.thread fun x => { x.advance with c := false, z := true })

/-! ### Rings -/

/-- The ring number of fn[4:0] (R41). -/
def ringField (fn : BitVec 14) : RingNo := (fn.extractLsb' 0 5).toFin

/-- The word PUSH writes (R42): ra in [63:32], rb in [31:0], tags from fn[5], fn[6] and fn[7]; in a word
with S = 1 bits [39:32] become the thread's number. -/
def pushWord (t : Tid) (f : AFields) (x : Thread) : RWord :=
  let first := f.fn.getLsbD 5
  let hi : Word := if first then withBits (x.rg f.ra) 0 8 t.val else x.rg f.ra
  { data := hi ++ x.rg f.rb, v := true, s := first, e := f.fn.getLsbD 6, p := f.fn.getLsbD 7 }

/-- PUSH (R41, R42, R186, R187): RING on a ring not its own or disabled; an S word waits while another
producer's item is open, and any word waits while the ring is full. -/
def pushBody (t : Tid) (f : AFields) (s : State) : IssueRes :=
  let n := ringField f.fn
  let w := pushWord t f (s.th t)
  if f.rd ≠ 0 ∨ f.fn.extractLsb' 8 6 ≠ 0 then illegal s
  else if !s.ringOn n ∨ s.ringProd n ≠ t.val then .trap s 0x09 0 none
  else if (w.s && s.openByOther n (.thread t)) ∨ s.ringRoom n = 0 then .wait 4 none
  else .th (s.ringPut n (.thread t) w) t Thread.advance

/-- PUSH ring, ra, rb, tags. -/
def execPush (i : Issue) (f : AFields) (s : State) : Out :=
  .next (s.issue i (.push i f) (pushBody i.thread f))

/-- What a POP leaves in its thread (R43): the word in rd:rd+1, and the flags from its tags. -/
def Thread.popped (x : Thread) (rd : BitVec 4) (w : RWord) : Thread :=
  { ((x.setRg rd (w.data.extractLsb' 32 32)).setRg (rd + 1) (w.data.extractLsb' 0 32)).advance with
    z := !w.v, n := w.p, c := w.s, v := w.e }

/-- POP (R41, R43, R188): on an empty ring without W, a 4,096-word ring delivers the last word read and
sets UNDERRUN, a smaller one delivers zeros with V = 0; with W it waits. -/
def popBody (t : Tid) (bad : Bool) (f : AFields) (s : State) : IssueRes :=
  let n := ringField f.fn
  if f.ra ≠ 0 ∨ f.rb ≠ 0 ∨ f.fn.extractLsb' 5 3 ≠ 0 ∨ f.fn.extractLsb' 9 5 ≠ 0 ∨ !pairOk f.rd then illegal s
  else if !s.ringOn n ∨ s.ringCons n ≠ t.val then .trap s 0x09 0 none
  else match s.ringTake n bad with
    | some (w, s) => .th s t fun x => x.popped f.rd w
    | none =>
      if f.fn.getLsbD 8 then .wait 3 none
      else if s.ringCap n = 4096 then .th (s.setFlag (RG_FLAGS n) 1) t fun x => x.popped f.rd (s.ring n).last
      else .th s t fun x => x.popped f.rd {}

/-- POP rd, ring[, W]. -/
def execPop (i : Issue) (f : AFields) (s : State) : Out :=
  .next (s.issue i (.pop i f) (popBody i.thread i.dataErr f))

end Sys2Proof.Machine
end

