-- ==== Sys2Proof/Machine/Crc.lean ====
section
/-!
DEFINITION. The check-value channels (R290 to R293, R51) and the transfer channels that feed them
(R194): CRCW, CRCF, CHECK, INITNOW, CC_STATE_RESTORE, TRANSFER_REQUEST and TRANSFER_MOVE.
-/

namespace Sys2Proof.Machine

/-! ### The register of a channel -/

/-- WIDTH of a channel configuration; 0 means 32. -/
def crcWidth (cfg : Word) : Nat := if bits cfg 0 5 = 0 then 32 else bits cfg 0 5

/-- The mask of WIDTH ones. -/
def crcMask (cfg : Word) : Word := maskAt 0 (crcWidth cfg)

/-- One input bit updates s (R290). -/
def crcBit (cfg poly s : Word) (b : Bool) : Word :=
  let top := s.getLsbD (crcWidth cfg - 1) != b
  let s := (s <<< 1) &&& crcMask cfg
  if top then s ^^^ (poly &&& crcMask cfg) else s

/-- The bits of a fed value of `n` bits in the order of R291: MSB first, or LSB first with REFIN. -/
def crcOrder (cfg w : Word) (n : Nat) : List Bool :=
  let lsb := (List.range n).map fun i => w.getLsbD i
  if bit cfg 8 then lsb else lsb.reverse

/-- A value of `n` bits fed to s. -/
def crcFeed (cfg poly s w : Word) (n : Nat) : Word := (crcOrder cfg w n).foldl (crcBit cfg poly) s

/-- The lowest `n` bits of s in reverse. -/
def reflect (n : Nat) (s : Word) : Word :=
  (List.range n).foldl (fun r i => r ||| flagW (n - 1 - i) (s.getLsbD i)) 0

/-- The finished result (R290). -/
def crcResult (cfg xorout s : Word) : Word :=
  ((if bit cfg 9 then reflect (crcWidth cfg) s else s) ^^^ xorout) &&& crcMask cfg

/-- The finished result of channel `c` in its present state. -/
def State.ccResult (s : State) (c : Nat) : Word :=
  crcResult (s.reg (CC_CFG c)) (s.reg (CC_XOROUT c)) (s.reg (CC_STATE c))

/-- Channel `c` takes a value of `n` bits (R291). -/
def State.ccFeed (s : State) (c : Nat) (w : Word) (n : Nat) : State :=
  s.setReg (CC_STATE c) (crcFeed (s.reg (CC_CFG c)) (s.reg (CC_POLY c)) (s.reg (CC_STATE c)) w n)

/-- s ← INIT, in WIDTH bits (R290). -/
def State.ccInit (s : State) (c : Nat) : State :=
  s.setReg (CC_STATE c) (s.reg (CC_INIT c) &&& crcMask (s.reg (CC_CFG c)))

/-- Whether the finished result equals EXPECT masked to WIDTH. -/
def State.ccMatches (s : State) (c : Nat) : Bool :=
  s.ccResult c == (s.reg (CC_EXPECT c) &&& crcMask (s.reg (CC_CFG c)))

/-- One check (R292): counted in CHECKS; a mismatch sets MISMATCH, counts in MISMATCHES and, with
EVEN = 1, raises HE(BIT) in thread THREAD. -/
def State.ccCheck (s : State) (c : Nat) : State :=
  let cfg := s.reg (CC_CFG c)
  let ok := s.ccMatches c
  let s := s.countFld (CC_CNT c) 0 16 1
  if ok then s
  else
    let s := (s.setFlag (CC_FLAGS c) 0).countFld (CC_CNT c) 16 16 1
    if bit cfg 15 then s.hwEvent (cfg.extractLsb' 16 5).toFin (bits cfg 24 4) else s

/-! ### Transfer channels -/

/-- Transfer channel `x`. -/
def State.xf (s : State) (x : Fin 4) : Xfer := s.xfers[x]

/-- Transfer channel `x` changed. -/
def State.modXf (s : State) (x : Fin 4) (f : Xfer → Xfer) : State :=
  { s with xfers := vset s.xfers x (f (s.xf x)) }

/-- Whether a transfer channel in service names check-value channel `c` (R291). -/
def State.ccFed (s : State) (c : Nat) : Bool :=
  s.xfers.toList.any fun x => bit x.cfg 31 && bit x.cfg 14 && decide (bits x.cfg 8 3 = c)

/-- The source ring of a transfer channel. -/
def Xfer.src (x : Xfer) : RingNo := (x.cfg.extractLsb' 21 5).toFin

/-- The destination ring of a transfer channel. -/
def Xfer.dst (x : Xfer) : RingNo := (x.cfg.extractLsb' 16 5).toFin

/-- A write of RG_XFCFGx: the configuration takes effect when EN goes from 0 to 1; with EN = 0 the
channel leaves service and its requests are dropped (assumption 20). -/
def State.writeXfCfg (s : State) (x : Fin 4) (v : Word) : State :=
  let old := s.reg (RG_XFCFG x)
  let s := s.setReg (RG_XFCFG x) (v &&& 0x83FFC701)
  if bit v 31 then
    if bit old 31 then s else s.modXf x fun y => { y with cfg := v &&& 0x83FFC701 }
  else s.modXf x fun _ => {}

/-- One request to a transfer channel in service (R194): an empty source moves nothing and is counted;
one further request is held during a move, and others are counted in OVERRUN. -/
def State.xfRequest (s : State) (x : Fin 4) : State :=
  let y := s.xf x
  if !bit y.cfg 31 then s
  else if y.busy || y.mid then
    if y.held then s.countFld (RG_XFCNT x) 0 16 1 else s.modXf x fun y => { y with held := true }
  else if (s.ring y.src).words.isEmpty then s.countFld (RG_XFCNT x) 16 16 1
  else s.modXf x fun y => { y with busy := true }

/-- A moved word fed to a check-value channel as two 32-bit values, [63:32] first (R194). -/
def State.feedWord (s : State) (c : Nat) (d : DWord) : State :=
  (s.ccFeed c (d.extractLsb' 32 32) 32).ccFeed c (d.extractLsb' 0 32) 32

/-- Whether a move into its destination waits for room (R187, R194); in the middle of an item in orphan drop it
does not, since the words are discarded (R191). -/
def State.xfHeld (s : State) (x : Fin 4) : Bool :=
  let y := s.xf x
  decide (s.ringRoom y.dst = 0) && !(y.mid && (s.orphan y.dst (.xfer x)).isSome)

/-- The words of an item moved one after another until its end, or until the destination is full: each is
fed to the check-value channel with TOCRC and written to the destination with TODST. `bad` says, word by word,
which fail their parity check (R184). The flag says that the item's end was reached. -/
def State.xfWords (s : State) (x : Fin 4) (bad : List Bool) : Nat → State × Bool
  | 0 => (s, false)
  | k + 1 =>
    let y := s.xf x
    let todst := bit y.cfg 15
    if todst && s.xfHeld x then (s, false)
    else match s.ringTake y.src (bad.headD false) with
      | none => (s, false)
      | some (w, s) =>
        let s := if bit y.cfg 14 then s.feedWord (bits y.cfg 8 3) w.data else s
        let s := if todst then s.ringPut y.dst (.xfer x) w else s
        if s.itemOver y.src w then (s, true) else s.xfWords x bad.tail k

/-- The end of a move (R194): an item fed to a channel with CHKITEM is checked, and a held request is
served next. -/
def State.xfEnd (s : State) (x : Fin 4) (check : Bool) : State :=
  let y := s.xf x
  let c := bits y.cfg 8 3
  let s := if check && bit y.cfg 14 && bit (s.reg (CC_CFG c)) 11 then s.ccCheck c else s
  let s := s.modXf x fun y => { y with busy := false, mid := false, held := false }
  if y.held then s.xfRequest x else s

/-- The move of one whole item (R194): it begins when the source holds a complete item and no other
producer's item is open on the destination, and waits while the destination is full. -/
def State.xfMove (s : State) (x : Fin 4) (bad : List Bool) : State :=
  let y := s.xf x
  let c := bits y.cfg 8 3
  let todst := bit y.cfg 15
  if !bit y.cfg 31 || !(y.busy || bit y.cfg 0) then s
  else if y.mid && s.itemGone y.src then s.xfEnd x false
  else if !s.ringOn y.src || s.ringCons y.src != 0x44 + x.val then s
  else if todst && (!s.ringOn y.dst || s.ringProd y.dst != 0x44 + x.val || s.xfHeld x) then s
  else if !y.mid && ((headItem (s.ring y.src).words).isNone || (todst && s.openByOther y.dst (.xfer x))) then s
  else
    let s := if !y.mid && bit y.cfg 14 && bit (s.reg (CC_CFG c)) 10 then s.ccInit c else s
    let s := s.modXf x fun y => { y with mid := true }
    let (s, ended) := s.xfWords x bad (s.ring y.src).words.length
    if ended then s.xfEnd x true else s

/-! ### The commands -/

/-- The body of CRCW (R51): fn[4:3] selects 8, 16 or 32 bits of ra. -/
def crcwBody (t : Tid) (f : AFields) (s : State) : IssueRes :=
  let c := (f.fn.extractLsb' 0 3).toNat
  let w := (f.fn.extractLsb' 3 2).toNat
  if f.fn.extractLsb' 5 9 ≠ 0 ∨ f.rd ≠ 0 ∨ f.rb ≠ 0 ∨ w = 3 then illegal s
  else if s.ccFed c then .trap s 0x0A 0 none
  else .th (s.ccFeed c ((s.th t).rg f.ra) (8 * 2 ^ w)) t Thread.advance

/-- The body of CRCF (R51, R292): rd ← the finished result, Z says whether it equals EXPECT; a check is
made; with R the channel then returns to INIT. -/
def crcfBody (t : Tid) (f : AFields) (s : State) : IssueRes :=
  let c := (f.fn.extractLsb' 0 3).toNat
  if f.fn.extractLsb' 6 8 ≠ 0 ∨ f.fn.extractLsb' 3 2 ≠ 0 ∨ f.ra ≠ 0 ∨ f.rb ≠ 0 then illegal s
  else if s.ccFed c then .trap s 0x0A 0 none
  else
    let r := s.ccResult c
    let z := s.ccMatches c
    let s := s.ccCheck c
    let s := if f.fn.getLsbD 5 then s.ccInit c else s
    .th s t fun x => { (x.setRg f.rd r).advance with z := z }

/-- A write of CCn_CTRL (R290, R292): INITNOW and CHECK; a check written with INITNOW sees the register
before it (assumption 21). -/
def State.writeCcCtrl (s : State) (c : Nat) (v : Word) : State :=
  let s := if bit v 1 then s.ccCheck c else s
  if bit v 0 then s.ccInit c else s

/-- CHECK: a write of CCn_CTRL.CHECK. -/
def execCheck (c : Fin 8) (v : Word) (s : State) : Out := .next (s.writeCcCtrl c (v ||| 2))

/-- INITNOW: a write of CCn_CTRL.INITNOW. -/
def execInitnow (c : Fin 8) (v : Word) (s : State) : Out := .next (s.writeCcCtrl c (v ||| 1))

/-- A write of CCn_STATE (R291, R293): restores s, or sets BUSYERR while a transfer channel feeds the
channel. -/
def State.writeCcState (s : State) (c : Nat) (v : Word) : State :=
  if s.ccFed c then s.setFlag (CC_FLAGS c) 1 else s.setReg (CC_STATE c) v

/-- CC_STATE_RESTORE. -/
def execCcStateRestore (c : Fin 8) (v : Word) (s : State) : Out := .next (s.writeCcState c v)

/-- TRANSFER_REQUEST: one routed request. -/
def execTransferRequest (x : Fin 4) (s : State) : Out := .next (s.xfRequest x)

/-- TRANSFER_MOVE. -/
def execTransferMove (x : Fin 4) (bad : List Bool) (s : State) : Out := .next (s.xfMove x bad)

end Sys2Proof.Machine
end

