-- ==== Sys2Proof/Machine/Timers.lean ====
section
/-!
DEFINITION. The timer units (R282 to R286) and the timebase offset (R289).
-/

namespace Sys2Proof.Machine

/-- Whether a unit counts BCLK through its prescaler (R282): CLKSRC 0 or 3, or 1 on TU0. -/
def State.tuBclk (s : State) (u : Fin 8) : Bool :=
  let c := s.fld (TU_CTRL u) 12 2
  c == 0 || c == 3 || (c == 1 && u.val == 0)

/-- TUn_CTRL.RUN. -/
def State.tuRun (s : State) (u : Fin 8) : Bool := bit (s.reg (TU_CTRL u)) 0

/-- Unit `u` beyond its registers. -/
def State.tu (s : State) (u : Fin 8) : TuSt := s.tus[u]

/-- Unit `u` changed beyond its registers. -/
def State.modTu (s : State) (u : Fin 8) (f : TuSt → TuSt) : State := { s with tus := vset s.tus u (f (s.tu u)) }

/-- Ticks of one count of BCLK through the prescaler; in limp operation BCLK runs at one-eighth rate (R255, R282). -/
def State.tuUnit (s : State) (u : Fin 8) : Nat := (if s.clk.limp then 16 else 2) * 2 ^ s.fld (TU_CTRL u) 8 4

/-- The last count of the lap in progress (R283). -/
def State.tuLast (s : State) (u : Fin 8) : Nat := if (s.tu u).long then 0xFFFFFFFF else (s.reg (TU_RELOAD u)).toNat

/-- Counts of BCLK since the count that TUn_COUNT holds was taken. -/
def State.tuSince (s : State) (u : Fin 8) (t : Nat) : Nat :=
  if s.tuRun u && s.tuBclk u then (t - (s.tu u).at_) / s.tuUnit u else 0

/-- The count a unit holds now (R282, R283): the stored one when it stands still or counts events, else what BCLK has
added to it since. -/
def State.tuCount (s : State) (u : Fin 8) : Word :=
  let c := (s.reg (TU_COUNT u)).toNat + s.tuSince u s.ticks
  if c ≤ s.tuLast u then BitVec.ofNat 32 c
  else BitVec.ofNat 32 ((c - s.tuLast u - 1) % ((s.reg (TU_RELOAD u)).toNat + 1))

/-- The count a unit holds now stored in TUn_COUNT. -/
def State.syncCount (s : State) (u : Fin 8) : State :=
  let at_ := s.ticks - (if s.tuRun u && s.tuBclk u then (s.ticks - (s.tu u).at_) % s.tuUnit u else 0)
  (s.setReg (TU_COUNT u) (s.tuCount u)).modTu u fun x => { x with at_ := at_ }

/-- Every unit's count stored. -/
def State.syncTimers (s : State) : State := (List.finRange 8).foldl (fun s u => s.syncCount u) s

/-- The system domains go to or from the limp clock (R255, R257): the rate of BCLK changes, and the prescaler of a unit
goes on from the cycles it has counted. -/
def State.setLimp (s : State) (limp : Bool) : State :=
  let was := s.clk.limp
  let s := s.syncTimers
  let part := fun n : Nat => if limp = was then n else if limp then 8 * n else n / 8
  { s with clk.limp := limp, tus := s.tus.map fun x => { x with at_ := s.ticks - part (s.ticks - x.at_) } }

/-- RUN set or cleared; a unit that stops holds its count. -/
def State.setRun (s : State) (u : Fin 8) (on : Bool) : State :=
  let s := s.syncCount u
  s.setFld (TU_CTRL u) 0 1 (if on then 1 else 0)

/-- A capture on channel `k` of unit `u` (R285): a rising edge latches CAPkR, a falling edge latches
CAPkF and writes PWk; OVRk when the register's flag was still set, PWLAPk after more than one wrap. -/
def State.capture (s : State) (u : Fin 8) (k : Fin 2) (rising : Bool) : State :=
  let count := s.tuCount u
  let flag := 6 + 2 * k.val + (if rising then 0 else 1)
  let s := if bit (s.reg (TU_FLAGS u)) flag then s.setFlag (TU_FLAGS u) (10 + k.val) else s
  let s := s.setFlag (TU_FLAGS u) flag
  if rising then (s.setReg (TU_CAPR u k) count).modTu u fun x => { x with wraps := vset x.wraps k 0 }
  else
    let s := s.setReg (TU_CAPF u k) count
    let lap := (s.reg (TU_RELOAD u)).toNat + 1
    let d := ((count.toNat : Int) - (s.reg (TU_CAPR u k)).toNat) % lap
    let s := s.setReg (TU_PW u k) (BitVec.ofInt 32 d)
    if 1 < (s.tu u).wraps[k] then s.setFlag (TU_FLAGS u) (12 + k.val) else s

/-- One trigger of the housekeeping ADC (R286): one is held during a sequence, further ones ignored. -/
def State.hkTrigger (s : State) : State :=
  if s.power.hkBusy then { s with power.hkHeld := true } else { s with power.hkBusy := true }

/-- The events of a unit by the codes of TUn_ROUTEr.SRC: 0 wrap, 1 to 4 CMP0 to CMP3, 5 to 8 the capture
edges; codes above 8 act as 0. -/
def routeSrc (w : Word) : Nat := if 8 < bits w 24 4 then 0 else bits w 24 4

/-- The routing slots of unit `u` in force for an event, in slot order. -/
def State.routes (s : State) (u : Fin 8) (ev : Nat) : List Word :=
  ((List.range 4).map fun r => s.reg (TU_ROUTE u r)).filter fun w => bit w 31 && routeSrc w == ev

/-- An action on a unit (R286): 0 start, 1 stop, 3 and 4 capture as a rising edge where the channel's
source is routed actions; 2, count, is taken by the caller. -/
def State.tuAction (s : State) (u : Fin 8) (a : Nat) : State :=
  match a with
  | 1 => s.setRun u false
  | 3 => if s.fld (TU_CAPCFG u) 0 3 = 6 then s.capture u 0 true else s
  | 4 => if s.fld (TU_CAPCFG u) 4 3 = 6 then s.capture u 1 true else s
  | _ => s.setRun u true

/-- The work a timer event leaves to do: the event of a unit, or a count of a unit (chained, or by a
count action). -/
inductive TuWork where
  | event (u : Fin 8) (ev : Nat)
  | count (u : Fin 8)
deriving DecidableEq, Repr

/-- What one routing slot does (R286), and the work it leaves: a start and a stop that coincide leave
the unit stopped, so stops are applied last by the caller's order. -/
def State.routeOne (s : State) (w : Word) : State × List TuWork :=
  let target := bits w 8 5
  match bits w 20 3 with
  | 1 => (s.hkTrigger, [])
  | 2 => if h : target < 4 then (s.xfRequest ⟨target, h⟩, []) else (s, [])
  | 3 =>
    if h : target < 8 then
      if bits w 4 3 = 2 then (s, [.count ⟨target, h⟩]) else (s.tuAction ⟨target, h⟩ (bits w 4 3),
        if bits w 4 3 = 3 ∧ s.fld (TU_CAPCFG target) 0 3 = 6 then [.event ⟨target, h⟩ 5]
        else if bits w 4 3 = 4 ∧ s.fld (TU_CAPCFG target) 4 3 = 6 then [.event ⟨target, h⟩ 7] else [])
    else (s, [])
  | 4 => (s.hwEvent (w.extractLsb' 8 5).toFin (bits w 0 4), [])
  | _ => (s, [])

/-- The slots of one event, stop actions after the others (R286: the stop prevails). -/
def State.routeAll (s : State) (ws : List Word) : State × List TuWork :=
  let isStop := fun (w : Word) => bits w 20 3 == 3 && bits w 4 3 == 1
  (ws.filter (fun w => !isStop w) ++ ws.filter isStop).foldl
    (fun r w => let r' := r.1.routeOne w; (r'.1, r.2 ++ r'.2)) (s, [])

/-- The channels whose CMPk equals the count just taken: their flags are set, their events follow. -/
def State.matchAll (s : State) (u : Fin 8) : State × List TuWork :=
  (List.range 4).foldl (fun r k =>
    if r.1.reg (TU_CMP u k) = r.1.reg (TU_COUNT u) then (r.1.setFlag (TU_FLAGS u) (2 + k), r.2 ++ [.event u (1 + k)])
    else r) (s, [])

/-- The counter of unit `u` returns to 0 (R282, R283): the wrap event, LONGLAP after a long lap. -/
def State.wrapUnit (s : State) (u : Fin 8) : State × List TuWork :=
  let s := (s.setReg (TU_COUNT u) 0).setFlag (TU_FLAGS u) 0
  let s := if (s.tu u).long then s.setFlag (TU_FLAGS u) 1 else s
  let s := s.modTu u fun x => { x with long := false, wraps := x.wraps.map (· + 1) }
  let (s, ws) := s.matchAll u
  (s, .event u 0 :: ws)

/-- One count of unit `u` (R282, R283). -/
def State.countUnit (s : State) (u : Fin 8) : State × List TuWork :=
  let c := s.reg (TU_COUNT u)
  if c.toNat = s.tuLast u then s.wrapUnit u
  else (s.setReg (TU_COUNT u) (c + 1)).matchAll u

/-- The events of one BCLK cycle and those they lead to, worked off in order (R282, R286). A count is
taken by a running unit: by a chained unit from the wrap of the unit before it, or by a unit with
CLKSRC = 2 from a count action. The fuel bounds a cycle of units that count each other for ever
(assumption 23). -/
def State.runTimers (s : State) : Nat → List TuWork → State
  | 0, _ => s
  | _, [] => s
  | fuel + 1, .event u ev :: rest =>
    let (s, more) := s.routeAll (s.routes u ev)
    let chained : List TuWork :=
      if h : ev = 0 ∧ u.val + 1 < 8 then
        let n : Fin 8 := ⟨u.val + 1, h.2⟩
        if s.tuRun n && s.fld (TU_CTRL n) 12 2 == 1 then [.count n] else []
      else []
    s.runTimers fuel (rest ++ chained ++ more)
  | fuel + 1, .count u :: rest =>
    let chained := s.fld (TU_CTRL u) 12 2 == 1 && u.val != 0
    if s.tuRun u && (chained || s.fld (TU_CTRL u) 12 2 == 2) then
      let (s, more) := s.countUnit u
      s.runTimers fuel (rest ++ more)
    else s.runTimers fuel rest

/-- The fuel of one timer event. -/
def tuFuel : Nat := 64

/-- Where a running unit's count of BCLK reaches a value of the lap in progress. -/
def State.tuReach (s : State) (u : Fin 8) (c : Nat) : Nat :=
  (s.tu u).at_ + (c - (s.reg (TU_COUNT u)).toNat) * s.tuUnit u

/-- TIMER_WRAP (R282, R283): the counter of a unit that counts BCLK returns to 0, one count after its last; a unit that
counts events wraps with the count that makes it. -/
def execTimerWrap (u : Fin 8) (s : State) : Out :=
  .next (if s.tuRun u && s.tuBclk u then
    let t := s.tuReach u (s.tuLast u + 1)
    let s := (s.advanceTo t).modTu u fun x => { x with at_ := t }
    let (s, ws) := s.wrapUnit u
    s.runTimers tuFuel ws
  else s)

/-- COMPARE_MATCH (R284): the counter of a unit that counts BCLK takes the value CMPk in the lap in progress; a value at
or below the count where the channel began to wait, or above RELOAD but in a long lap, it does not take. -/
def execCompareMatch (u : Fin 8) (k : Fin 4) (s : State) : Out :=
  .next (
    let c := (s.reg (TU_CMP u k)).toNat
    if s.tuRun u && s.tuBclk u && decide (c ≤ s.tuLast u) &&
        decide ((s.reg (TU_COUNT u)).toNat + s.tuSince u (s.tu u).seen[k] < c) then
      let t := s.tuReach u c
      let s := ((s.advanceTo t).setFlag (TU_FLAGS u) (2 + k.val)).modTu u fun x => { x with seen := vset x.seen k t }
      s.runTimers tuFuel [.event u (1 + k.val)]
    else s)

/-- CAPCFG.SRCk. -/
def State.capSrc (s : State) (u : Fin 8) (k : Fin 2) : Nat := s.fld (TU_CAPCFG u) (4 * k.val) 3

/-- CAPTURE_EDGE: an edge of the selected pin or tick (R285). -/
def execCaptureEdge (u : Fin 8) (k : Fin 2) (rising : Bool) (dt : Nat) (s : State) : Out :=
  .next (if 1 ≤ s.capSrc u k ∧ s.capSrc u k ≤ 5 then
    ((s.advance dt).capture u k rising).runTimers tuFuel
      [.event u (5 + 2 * k.val + (if rising then 0 else 1))]
  else s)

/-- A software capture of channel k, as a rising edge, where SRCk selects it (R285). -/
def State.swcap (s : State) (u : Fin 8) (k : Fin 2) : State :=
  if s.capSrc u k = 7 then (s.capture u k true).runTimers tuFuel [.event u (5 + 2 * k.val)] else s

/-- SWCAP: a write of TUn_CTRL.SWCAPk. -/
def execSwcap (u : Fin 8) (k : Fin 2) (s : State) : Out := .next (s.swcap u k)

/-- A write of TUn_CTRL (R282, R285, R294): a unit that stops holds its count; CLR sets the counter to 0
without a wrap event, and a lap started by it is an ordinary one. -/
def State.writeTuCtrl (s : State) (u : Fin 8) (v : Word) : State :=
  let s := s.syncCount u
  let s := s.setReg (TU_CTRL u) (v &&& 0x3F01)
  let s := if bit v 3 then (s.setReg (TU_COUNT u) 0).modTu u fun x => { x with long := false, at_ := s.ticks } else s
  let s := if bit v 1 then s.swcap u 0 else s
  if bit v 2 then s.swcap u 1 else s

/-- TIMER_CLR: a write of TUn_CTRL.CLR. -/
def execTimerClr (u : Fin 8) (v : Word) (s : State) : Out := .next (s.writeTuCtrl u (v ||| 8))

/-- A write of RELOAD (R283): below the present count it makes the lap in progress a long one; at or
above it, it takes effect on the current lap. -/
def State.writeReload (s : State) (u : Fin 8) (v : Word) : State :=
  let s := s.syncCount u
  (s.setReg (TU_RELOAD u) v).modTu u fun x => { x with long := decide (v.toNat < (s.reg (TU_COUNT u)).toNat) }

/-- A write of CMPk (R284): a value at or below the count held matches on the next lap. -/
def State.writeCmp (s : State) (u : Fin 8) (k : Fin 4) (v : Word) : State :=
  (s.setReg (TU_CMP u k) v).modTu u fun x => { x with seen := vset x.seen k s.ticks }

/-! ### The timebase offset -/

/-- The offset of TB_OFSHI:TB_OFSLO. -/
def State.tbOfs (s : State) : BitVec 64 := s.reg TB_OFSHI ++ s.reg TB_OFSLO

/-- A write of TB_CTRL.ARM = 1 (R289): armed, or refused with OFSERR when the offset is not a multiple of
204,800. -/
def State.armTb (s : State) : State :=
  if s.tbOfs.toInt % 204800 = 0 then s.setFlag TB_CTRL 0 else s.setFlag TB_FLAGS 2

/-- ARM: a write of TB_CTRL; ARM is W1S, so that a written 0 does nothing. -/
def execArm (v : Word) (s : State) : Out := .next (if bit v 0 then s.armTb else s)

/-- An armed offset applied at an epoch tick (R289): ARM clears and ADDED is set. -/
def State.applyOfs (s : State) : State :=
  if bit (s.reg TB_CTRL) 0 then
    ({ s with tb := s.tb + s.tbOfs }.setFld TB_CTRL 0 1 0).setFlag TB_FLAGS 0
  else s

end Sys2Proof.Machine
end

