-- ==== Sys2Proof/Machine/HfAir.lean ====
section
/-!
DEFINITION. HF frames on the air (R142 to R147): the bits of a frame, its CRC and its length in carrier cycles, the
reply window and the least gap of each protocol, and what is left of a reply.
-/

namespace Sys2Proof.Machine

/-- The protocol of an HF operation (R60). -/
def Op.proto (op : Op) : Nat := bits (op.w 4) 28 4

/-! ### Bits and check values -/

/-- A byte as bits, least significant first. -/
def lsbBits (b : Byte) : List Bool := (List.range 8).map fun i => b.getLsbD i

/-- A byte as bits, most significant first. -/
def msbBits (b : Byte) : List Bool := (lsbBits b).reverse

/-- The odd parity bit of some bits. -/
def oddParity (bs : List Bool) : Bool := !(bs.foldl (fun x b => x != b) false)

/-- Up to eight bits, least significant first, as a byte. -/
def byteOf (bs : List Bool) : Byte := BitVec.ofNat 8 (bs.foldr (fun b n => 2 * n + b.toNat) 0)

/-- A list cut into pieces of `n`, the last one possibly shorter. -/
def pieces {α : Type} (n : Nat) (l : List α) : List (List α) :=
  (List.range ((l.length + n - 1) / n)).map fun i => (l.drop (n * i)).take n

/-- One bit into a reflected CRC of polynomial 0x1021. -/
def crcLow (s : BitVec 16) (b : Bool) : BitVec 16 :=
  if s.getLsbD 0 != b then (s >>> 1) ^^^ 0x8408 else s >>> 1

/-- One bit into a CRC of polynomial 0x1021, most significant bit first. -/
def crcHigh (s : BitVec 16) (b : Bool) : BitVec 16 :=
  if s.getLsbD 15 != b then (s <<< 1) ^^^ 0x1021 else s <<< 1

/-- The CRC bytes of a protocol over a frame's bytes, in the order they are sent: CRC_A, CRC_B, the 15693 CRC and
the 18092 CRC, which the spec names and the standards define (PRESUMED: assumption 71). -/
def hfCrc (proto : Nat) (bs : List Byte) : List Byte :=
  match proto with
  | 0 => let c := (bs.flatMap lsbBits).foldl crcLow 0x6363; [c.extractLsb' 0 8, c.extractLsb' 8 8]
  | 3 => let c := (bs.flatMap msbBits).foldl crcHigh 0; [c.extractLsb' 8 8, c.extractLsb' 0 8]
  | _ => let c := ~~~ (bs.flatMap lsbBits).foldl crcLow 0xFFFF; [c.extractLsb' 0 8, c.extractLsb' 8 8]

/-- The last two bytes of a frame are the CRC of those before. -/
def hfCrcOk (proto : Nat) (bs : List Byte) : Bool :=
  decide (2 ≤ bs.length) && hfCrc proto (bs.take (bs.length - 2)) == bs.drop (bs.length - 2)

/-! ### Frames to the card -/

/-- Bytes as Type A sends them, with odd parity after each (R147). -/
def bitsA (bs : List Byte) : List Bool := bs.flatMap fun b => lsbBits b ++ [oddParity (lsbBits b)]

/-- A frame of a protocol, SOF and EOF of the coding aside (R147): Type A with parity, and a last byte of `short` = 1
to 7 valid bits without it; 18092 with its preamble and sync bytes; the CRC when asked for. -/
def hfFrame (proto : Nat) (name : String) (bs : List Byte) (short : Nat) (crc : Bool) : AirCmd :=
  let tail := if crc then hfCrc proto bs else []
  match proto with
  | 0 =>
    let whole := if short = 0 then bs else bs.dropLast
    let part := if short = 0 then [] else (lsbBits (bs.getLastD 0)).take short
    { name := name, bits := bitsA whole ++ part ++ bitsA tail }
  | 3 =>
    { name := name, bits := List.replicate 48 false ++ ([0xB2, 0x4D] ++ bs ++ tail).flatMap msbBits, preamble := true }
  | _ => { name := name, bits := (bs ++ tail).flatMap lsbBits, preamble := true }

/-- The lone EOF of 15693: the frame of an EOF-only H.FRAME, and the step to the next slot (R146, R147). -/
def hfEof : AirCmd := { name := "EOF" }

/-- The duration of a frame in carrier cycles at a rate code (R142): start and end of communication for Type A; SOF
of 12, characters of 10 and EOF of 10 etu for Type B; SOF, EOF and the pulse positions of 15693; the bits of 18092
(PRESUMED: assumption 71). -/
def hfCycles (proto rate : Nat) (c : AirCmd) : Nat :=
  let n := c.bits.length
  match proto with
  | 0 => (n + 2) * (128 >>> rate)
  | 1 => (22 + 10 * (n / 8)) * (128 >>> rate)
  | 2 => if c.preamble then 1536 + n / 8 * (if rate = 0 then 4096 else 65536) else 512
  | _ => n * (128 >>> rate)

/-! ### Windows and gaps (R143) -/

/-- The carrier cycle at which the reply window of a protocol opens (R143). -/
def hfOpen (proto : Nat) : Nat :=
  match proto with
  | 0 => 1156
  | 1 => 1024
  | 2 => 4192
  | _ => 512

/-- The least gap in carrier cycles from the end of a card frame to the next PCD frame, at a from-card rate (R143). -/
def hfGap (proto rate : Nat) : Nat :=
  match proto with
  | 0 => 1172
  | 1 => 14 * (128 >>> rate)
  | 2 => 4192
  | _ => 1024

/-- A frame goes on the air on an operation's port, no sooner than the least gap after the port's last card frame
(R144), and its reply window is set, from the end of its last modulation (R143). -/
def State.hfSend (s : State) (op : Op) (c : AirCmd) (close : Nat) : State :=
  let free := (op.hports.head?.map fun p => (s.hp p).gapTo).getD 0
  let start := max s.ticks free
  let stop := start + 16 * hfCycles op.proto (bits (op.w 4) 24 4) c
  s.modOp op.id fun x =>
    { x with
      cmd := c, cmdFrom := start, cmdEnd := stop, cmdTb := s.tb + BitVec.ofNat 64 (stop - s.ticks)
      winFrom := some (stop + 16 * hfOpen op.proto), winTo := stop + 16 * close }

/-- The next frame on an operation's port waits until a tick. -/
def State.hfHoldOff (s : State) (op : Op) (t : Nat) : State :=
  op.hports.foldl (fun s p => s.modHp p fun x => { x with gapTo := max x.gapTo t }) s

/-- The on-air start estimate of a reply in elapsed ticks (R143): 16 ticks to a carrier cycle. -/
def replyStart (r : HfReply) (now : Nat) : Int := (now : Int) - r.det - 16 * (r.sof + 8)

/-- The start estimate lies in the operation's reply window (R8, R143). -/
def Op.hfInside (op : Op) (start : Int) : Bool :=
  match op.winFrom with
  | some t => decide ((t : Int) ≤ start ∧ start < op.winTo)
  | none => false

/-! ### Replies -/

/-- The data bits of a Type A frame whose first byte has `q` of its bits in the frame, and whether every whole byte's
parity holds; the parity of a first byte in part says nothing. -/
def dataA (q : Nat) (l : List Bool) : List Bool × Bool :=
  let head := if q < 8 then l.take q else []
  let rest := pieces 9 (if q < 8 then l.drop (q + 1) else l)
  (head ++ rest.flatMap (·.take 8),
    rest.all fun c => decide (c.length < 9) || c.getD 8 false == oddParity (c.take 8))

/-- The bytes of a reply (R147), the valid bits of the last one (0 meaning 8), and whether a Type A parity failed. -/
def hfBytes (proto : Nat) (l : List Bool) : List Byte × BitVec 3 × Bool :=
  match proto with
  | 0 =>
    let (d, ok) := dataA 8 l
    ((pieces 8 d).map byteOf, BitVec.ofNat 3 d.length, !ok)
  | 3 => ((pieces 8 l).map fun x => byteOf (x ++ List.replicate (8 - x.length) false).reverse, BitVec.ofNat 3 l.length, false)
  | _ => ((pieces 8 l).map byteOf, BitVec.ofNat 3 l.length, false)

/-- Where a reply stands (R144): still being received, or its bytes and whether it was cut short. For 18092 the length
byte marks the end, the CRC after it (DEDUCED: assumption 71); 4,096 bytes, or one waiting time since the start, cut
a reply short. -/
def hfEnd (proto : Nat) (bs : List Byte) (since : Int) (fwt : Option Nat) (eof : Bool) : Option (List Byte × Bool) :=
  let whole := (bs.head?.map fun b => b.toNat + 2).getD 1
  if proto = 3 ∧ whole ≤ bs.length then some (bs.take whole, false)
  else if 4096 < bs.length then some (bs.take 4096, true)
  else
    let late := fun (k : Int) => fwt.any fun n => decide ((16 * n : Int) < since + k)
    if eof && proto != 3 then some (bs, late 0)
    else if late 1 || decide (bs.length = 4096) then some (bs, true)
    else none

end Sys2Proof.Machine
end

