-- ==== Sys2Proof/Machine/Hf.lean ====
section
/-!
DEFINITION. The commands of the HF cluster: H.FIELD, H.ACTIVATE, H.FRAME, H.WATCH and the events of their
exchanges (R136 to R159).
-/

namespace Sys2Proof.Machine

/-! ### Beginning an HF operation -/

/-- The operation of a ticket when it is Active, of a class and op code, and not yet begun. -/
def State.begins (s : State) (o : OpId) (cls code : Nat) : Option Op :=
  match s.op? o with
  | some op => if op.active && !op.started && op.cls == cls && op.code == code && op.ending.isNone
      then some op else none
  | none => none

/-- The operation of a ticket when it is Active, begun and not ended. -/
def State.running (s : State) (o : OpId) : Option Op :=
  match s.op? o with
  | some op => if op.active && op.started && op.ending.isNone then some op else none
  | none => none

/-- An operation begins with an engine state. -/
def State.beginOp (s : State) (o : OpId) (e : Engine) : State :=
  s.modOp o fun x => { x with started := true, eng := e }

/-- H_FIELD (R136): word 5 [31] = 1 turns each port's field on and waits the ramp of 16 carrier cycles and the settle
time; 0 ramps the fields down and completes OK when the ramp ends. -/
def execHField (o : OpId) (s : State) : Out :=
  .next (match s.begins o 1 1 with
    | none => s
    | some op =>
      if bit (op.w 5) 31 then
        let s := op.hports.foldl (fun s p => s.hfTurnOn op p) s
        let s := op.hports.foldl (fun s p => s.modHp p fun x => { x with leftBy := some (o, s.ticks) }) s
        (s.beginOp o (.hfield true)).modOp o fun x =>
          { x with cmdFrom := s.ticks + 256 + usTicks (bits (op.w 5) 0 24) }
      else
        let s := op.hports.foldl (fun s p => s.hfTurnOff p) s
        ((s.beginOp o (.hfield false)).advance 256).endOp o 0x00)

/-- An H.ACTIVATE or H.FRAME takes its port (R137, R138): a field that is off is turned on, and the first
command then waits the ramp and the automatic settle; a field already on takes the operation's level. -/
def State.hfTake (s : State) (op : Op) : State :=
  let on := op.hports.all fun p => (s.hp p).field
  let wait := op.hports.foldl (fun n p => max n (usTicks (100 * s.fld (HP_FIELD p) 8 8))) 0
  let s := op.hports.foldl (fun s p => s.hfTurnOn op p) s
  s.modOp op.id fun x => { x with settled := on, cmdFrom := s.ticks + 256 + wait }

/-- The bytes of thread memory from an address. -/
def State.threadBytes (s : State) (t : Tid) (a n : Nat) : List Byte :=
  (List.range n).map fun i =>
    if a < 0x800 then Memory.byte (s.th t).mem (a + i) else Memory.byte s.smem (a + i - 0x11000000)

/-- The bytes of thread memory from an address, as bits, most significant first. -/
def State.threadBits (s : State) (t : Tid) (a n : Nat) : List Bool := (s.threadBytes t a n).flatMap msbBits

/-- H_WATCH (R137, R152, R154): the fields of its ports go off, its scans count from now, and the first one sets the
baselines. -/
def execHWatch (o : OpId) (s : State) : Out :=
  .next (match s.begins o 1 4 with
    | none => s
    | some op =>
      let s := op.hports.foldl (fun s p => (s.hfTurnOff p).modHp p fun x => { x with needBase := true }) s
      (s.beginOp o (.hwatch 0 0)).modOp o fun x => { x with cmdFrom := s.ticks })

/-! ### H.ACTIVATE: the commands (R146) -/

/-- Eight bytes in a ring word, the first in [63:56]. -/
def packBytes (bs : List Byte) : DWord :=
  (List.range 8).foldl (fun w i => (w <<< 8) ||| (bs.getD i 0).setWidth 64) 0

/-- Bytes in ring words, the first in [63:56]. -/
def bytesToWords (bs : List Byte) : List DWord :=
  (List.range ((bs.length + 7) / 8)).map fun i => packBytes (bs.drop (8 * i))

/-- The SEL code of a Type A cascade level. -/
def selCode (level : Nat) : Byte := BitVec.ofNat 8 (0x91 + 2 * level)

/-- An ANTICOLLISION command with the UID bits known so far. -/
def anticollCmd (a : ActSt) : AirCmd :=
  let n := a.known.length
  let nvb : Byte := BitVec.ofNat 8 ((2 + n / 8) * 16 + n % 8)
  { name := "ANTICOLLISION"
    bits := bitsA ([selCode a.level, nvb] ++ (pieces 8 (a.known.take (n / 8 * 8))).map byteOf) ++ a.known.drop (n / 8 * 8) }

/-- The data-rate and subcarrier flags of a 15693 request, from the from-card rate code. -/
def Op.viccFlags (op : Op) : Nat :=
  let k := bits (op.w 4) 20 4
  (if 2 ≤ k then 1 else 0) + (if k % 2 = 0 then 2 else 0)

/-- The 15693 Inventory of 16 slots with a mask. -/
def Op.inventoryCmd (op : Op) (mask : Nat × Nat) : AirCmd :=
  let afi : Byte := (op.w 5).extractLsb' 16 8
  let m := (List.range ((mask.1 + 7) / 8)).map fun i => BitVec.ofNat 8 (mask.2 >>> (8 * i))
  hfFrame 2 "Inventory" ([BitVec.ofNat 8 (op.viccFlags + 4 + if afi = 0 then 0 else 16), 0x01] ++
    (if afi = 0 then [] else [afi]) ++ [BitVec.ofNat 8 mask.1] ++ m) 0 true

/-- The PUPI in an ATQB, and the UID in an Inventory answer. -/
def ActSt.cardId (a : ActSt) (proto : Nat) : List Byte :=
  if proto = 1 then (a.card.drop 1).take 4 else (a.card.drop 2).take 8

/-- The command of the step an H.ACTIVATE is at (R146); `wake` is WAKE for the first request only. -/
def Op.actCmd (op : Op) (attrib : Word) (a : ActSt) : AirCmd :=
  let wake := bit op.cfg 15 && !a.later
  match op.proto, a.step with
  | 0, .anticoll => anticollCmd a
  | 0, .select => hfFrame 0 "SELECT" ([selCode a.level, 0x70] ++ (pieces 8 a.known).map byteOf) 0 true
  | 0, _ => { name := if wake then "WUPA" else "REQA", bits := (lsbBits (if wake then 0x52 else 0x26)).take 7 }
  | 1, .slot => hfFrame 1 "Slot-MARKER" [BitVec.ofNat 8 ((a.slot - 1) * 16 + 5)] 0 true
  | 1, .hltb => hfFrame 1 "HLTB" (0x50 :: a.cardId 1) 0 true
  | 1, .attrib => hfFrame 1 "ATTRIB" (0x1D :: a.cardId 1 ++
      [attrib.extractLsb' 24 8, attrib.extractLsb' 16 8, attrib.extractLsb' 8 8, attrib.extractLsb' 0 8]) 0 true
  | 1, _ => hfFrame 1 (if wake then "WUPB" else "REQB")
      [0x05, (op.w 5).extractLsb' 16 8, BitVec.ofNat 8 ((if wake then 8 else 0) + a.exp)] 0 true
  | _, .slot => hfEof
  | _, .vselect => hfFrame 2 "Select" ([BitVec.ofNat 8 (op.viccFlags + 0x20), 0x25] ++ a.cardId 2) 0 true
  | _, _ => op.inventoryCmd a.mask

/-- The waiting time an ATQB gives its card: 4,096 × 2^FWI cycles; FWI 15, which is not defined, acts as 4 (PRESUMED:
assumption 71). -/
def atqbFwt (atqb : List Byte) : Nat :=
  let fwi := (atqb.getD 11 0).toNat / 16
  4096 * 2 ^ (if fwi = 15 then 4 else fwi)

/-- Where the window of a step closes (R143); an answer to HLTB is awaited as long as an ATQB (DEDUCED: assumption
71). -/
def Op.actClose (op : Op) (a : ActSt) : Nat :=
  match op.proto with
  | 0 => 1300
  | 1 => if a.step = .attrib then atqbFwt a.card else 7680
  | _ => 4448

/-! ### H.ACTIVATE: its course (R146) -/

/-- The status an H.ACTIVATE completes with (R146); CANCELLED after a cancellation (R74). -/
def actStatus (op : Op) (a : ActSt) : Nat :=
  if op.cancel then 0x09 else if 0 < op.okItems then 0x00 else if a.replies then 0x03 else 0x01

/-- An H.ACTIVATE ends. -/
def State.actEnd (s : State) (o : OpId) (a : ActSt) : State :=
  match s.op? o with
  | none => s
  | some op => (s.setEng o (.hactivate a)).endOp o (actStatus op a)

/-- The maximum of cards has been found. -/
def Op.actFull (op : Op) : Bool := decide (bits (op.w 5) 24 8 ≤ op.okItems)

/-- An H.ACTIVATE goes on with its next command (R146), when no item of it is held (R187): a card just resolved is
first halted, and the operation ends when the maximum of cards has been found, at LIMIT, or after a cancellation. -/
def State.actGo (s : State) (o : OpId) (a : ActSt) : State :=
  match s.op? o with
  | none => s
  | some op =>
    if op.cancel || op.limitHit || (op.actFull && !a.halt && a.step != .hltb) then s.actEnd o a
    else if !op.held.isEmpty then s.setEng o (.hactivate a)
    else
      let sent := { a with halt := false, later := a.later || a.step == .request }
      let s := s.setEng o (.hactivate sent)
      if a.halt then
        let s := s.hfSend op (hfFrame 0 "HLTA" [0x50, 0x00] 0 true) 0
        let stop := (s.op? o).elim 0 (·.cmdEnd)
        if op.actFull then (s.advanceTo stop).actEnd o sent
        else (s.hfHoldOff op stop).hfSend op (op.actCmd 0 a) (op.actClose a)
      else s.hfSend op (op.actCmd (s.reg HC_ATTRIB) a) (op.actClose a)

/-- What follows a card or a slot that is done with (R146): for Type A the next request; for Type B the next slot, or
after the last one a new request, of twice the slots up to 16 when one collided, and nothing once a round drew no
reply; for 15693 the next slot, or the Inventory of the next mask, cards left Ready being asked no more (DEDUCED:
assumption 71). -/
def ActSt.next (a : ActSt) (proto : Nat) : Option ActSt :=
  match proto with
  | 0 => some { a with step := .request, level := 1, known := [], uid := [], tries := 0 }
  | 1 =>
    if a.slot < 2 ^ a.exp then some { a with step := .slot, slot := a.slot + 1, tries := 0 }
    else if !a.drew then none
    else some { a with step := .request, slot := 1, tries := 0, drew := false, coll := false
                       exp := if a.coll then min 4 (a.exp + 1) else a.exp }
  | _ =>
    if a.slot < 16 then some { a with step := .slot, slot := a.slot + 1 }
    else match a.queue with
      | [] => none
      | m :: q => some { a with step := .request, slot := 1, queue := q, mask := (m.1, m.2.1), tries := m.2.2 }

/-- An H.ACTIVATE goes on after a card or a slot. -/
def State.actNext (s : State) (o : OpId) (op : Op) (a : ActSt) : State :=
  match a.next op.proto with
  | some a => s.actGo o a
  | none => s.actEnd o a

/-- The mask of a 15693 slot: the present one extended by the slot's 4-bit number, up to 60 bits. -/
def ActSt.deeper (a : ActSt) (tries : Nat) : Option (Nat × Nat × Nat) :=
  if a.mask.1 + 4 ≤ 60 then some (a.mask.1 + 4, a.mask.2 + (a.slot - 1) * 2 ^ a.mask.1, tries) else none

/-- The words of an H.ACTIVATE item (R62, R146): protocol, UID bytes, [55:32], and the last two words. -/
def actBody (op : Op) (n : Nat) (info : BitVec 24) (w2 w3 : DWord) : List RWord :=
  [rword (BitVec.ofNat 4 op.proto ++ BitVec.ofNat 4 n ++ info ++ 0#32), rword w2, rword w3]

/-- The item of a resolved card (R146): Type A with its UID, ATQA (its first byte the lower: DEDUCED, assumption 71)
and SAK; Type B with PUPI, protocol information, application data and the first byte of the ATTRIB answer; 15693 with
DSFID and the UID, most significant byte first. -/
def cardBody (op : Op) (a : ActSt) (uid : List Byte) (last : Byte) : List RWord :=
  let c := fun i => a.card.getD i 0
  match op.proto with
  | 0 => actBody op uid.length (c 1 ++ c 0 ++ last) (packBytes uid) (packBytes (uid.drop 8))
  | 1 => actBody op 4 (c 9 ++ c 10 ++ c 11) (packBytes (a.cardId 1)) (packBytes ((a.card.drop 5).take 4 ++ [last]))
  | _ => actBody op 8 ((0 : Byte) ++ c 1 ++ (0 : Byte)) (packBytes (a.cardId 2).reverse) 0

/-- A card whose reply fails, or fails to come once it was addressed (R146): tried again up to RETRY times, a 15693
slot by an Inventory of its own and any other step by the same command, and then abandoned, with an item of its bits
as received only under FAILITEMS. -/
def State.actFail (s : State) (op : Op) (a : ActSt) (got : List Byte) : State :=
  let more := decide (a.tries < bits op.cfg 0 4)
  let inSlot := op.proto == 2 && a.step != .vselect
  match more, inSlot, a.deeper (a.tries + 1) with
  | true, false, _ => s.actGo op.id { a with tries := a.tries + 1 }
  | true, true, some m => s.actNext op.id op { a with queue := a.queue ++ [m] }
  | _, _, _ =>
    let uid := (a.uid ++ got).take 15
    let s := if op.failItems && a.step != .hltb then
        s.emit op.id 0x10 0x02 (actBody op uid.length 0 (packBytes uid) (packBytes (uid.drop 8))) else s
    s.actNext op.id op a

/-- A card is resolved: its item is written with status OK. -/
def State.actCard (s : State) (op : Op) (a : ActSt) (uid : List Byte) (last : Byte) : State :=
  s.emit op.id 0x10 0x00 (cardBody op a uid last)

/-- A Type A reply (R146): ATQA, in which collisions are ignored; the rest of the UID part, COLLBIT being taken at a
collision; SAK, whose cascade bit asks for the next level. -/
def State.actTypeA (s : State) (op : Op) (a : ActSt) (r : HfReply) : State :=
  let o := op.id
  let q := 8 - a.known.length % 8
  let (d, ok) := dataA (if a.step = .anticoll then q else 8) r.bits
  let got := (pieces 8 d).map byteOf
  match a.step with
  | .anticoll =>
    match r.coll with
    | some i =>
      let known := a.known ++ (dataA q (r.bits.take i)).1 ++ [bit op.cfg 14]
      if known.length ≤ 32 then s.actGo o { a with known := known } else s.actFail op a got
    | none =>
      let known := a.known ++ d
      let bs := (pieces 8 known).map byteOf
      if ok && known.length == 40 && bs.foldl (· ^^^ ·) 0 == 0 then s.actGo o { a with known := known, step := .select }
      else s.actFail op { a with known := a.known } got
  | .select =>
    let sak := got.getD 0 0
    let part := (pieces 8 a.known).map byteOf
    if !(ok && r.coll.isNone && got.length == 3 && hfCrcOk 0 got) || (sak.getLsbD 2 && decide (a.level = 3)) then
      s.actFail op a got
    else if sak.getLsbD 2 then
      s.actGo o { a with uid := a.uid ++ (part.drop 1).take 3, level := a.level + 1, known := [], step := .anticoll }
    else
      (s.actCard op a (a.uid ++ part.take 4) sak).actNext o op { a with halt := decide (bits (op.w 5) 0 2 = 0) }
  | _ =>
    if r.coll.isSome || (ok && d.length == 16) then s.actGo o { a with card := got, step := .anticoll, known := [] }
    else s.actFail op a got

/-- A Type B reply (R146): a slot that collided, an ATQB, or the answer to HLTB or ATTRIB. -/
def State.actTypeB (s : State) (op : Op) (a : ActSt) (r : HfReply) (got : List Byte) : State :=
  let o := op.id
  let good := r.coll.isNone && hfCrcOk 1 got
  match a.step with
  | .hltb => if good && got.head? == some 0 then s.actNext o op a else s.actFail op a got
  | .attrib =>
    if good && decide (3 ≤ got.length) then (s.actCard op a [] (got.getD 0 0)).actNext o op a else s.actFail op a got
  | _ =>
    if r.coll.isSome then s.actNext o op { a with coll := true }
    else if good && decide (14 ≤ got.length) && got.head? == some 0x50 then
      let a := { a with card := got.take (got.length - 2), tries := 0 }
      if bits (op.w 5) 0 2 = 2 then s.actGo o { a with step := .attrib }
      else (s.actCard op a [] 0).actGo o { a with step := .hltb }
    else s.actFail op a got

/-- A 15693 reply (R146): a slot that collided, which a longer mask will resolve, an Inventory answer, or the answer to
Select. -/
def State.actTypeV (s : State) (op : Op) (a : ActSt) (r : HfReply) (got : List Byte) : State :=
  let o := op.id
  let good := r.coll.isNone && hfCrcOk 2 got && !(got.getD 0 1).getLsbD 0
  match a.step with
  | .vselect => if good then (s.actCard op a [] 0).actNext o op a else s.actFail op a got
  | _ =>
    if r.coll.isSome then s.actNext o op { a with queue := a.queue ++ (a.deeper 0).toList }
    else if good && got.length == 12 then
      let a := { a with card := got.take 10 }
      if bits (op.w 5) 0 2 = 2 then s.actGo o { a with step := .vselect, tries := 0 }
      else (s.actCard op a [] 0).actNext o op a
    else s.actFail op a got

/-- A reply to the step an H.ACTIVATE is at. -/
def State.actReply (s : State) (op : Op) (a : ActSt) (r : HfReply) (got : List Byte) (cut : Bool) : State :=
  let a := { a with replies := true, drew := true }
  if cut || r.poison then s.actFail op a got
  else match op.proto with
    | 0 => s.actTypeA op a r
    | 1 => s.actTypeB op a r got
    | _ => s.actTypeV op a r got

/-- No reply to the step an H.ACTIVATE is at: a Type A request ends the operation, an empty slot is passed over, and a
card already addressed is tried again (DEDUCED: assumption 71). -/
def State.actSilence (s : State) (op : Op) (a : ActSt) : State :=
  match op.proto, a.step with
  | 0, .request => s.actEnd op.id a
  | _, .request | _, .slot => s.actNext op.id op a
  | _, _ => s.actFail op a []

/-- H_ACTIVATE (R137, R146): HC_ACTCFG is read; the first request goes out once the field has settled. -/
def execHActivate (o : OpId) (s : State) : Out :=
  .next (match s.begins o 1 2 with
    | none => s
    | some op =>
      let a : ActSt := { exp := min 4 (s.fld HC_ACTCFG 8 3) }
      let s := ((s.hfTake op).beginOp o (.hactivate a)).modOp o fun x => { x with cfg := s.reg HC_ACTCFG }
      if (s.op? o).any (·.settled) then s.actGo o a else s)

/-! ### H.FRAME (R147) -/

/-- The frame of an H.FRAME: its bytes framed by R147, or a lone EOF for 0 bytes. -/
def State.frameCmd (s : State) (op : Op) : AirCmd :=
  let n := bits (op.w 5) 16 16
  if n = 0 then hfEof
  else hfFrame op.proto "FRAME" (s.threadBytes op.id.thread (op.w 7).toNat n)
    (if op.proto = 0 then bits (op.w 5) 13 3 else 0) (bit (op.w 5) 12)

/-- H_FRAME (R137, R147, R321): bytes that fail their parity check are not sent, DMEM is raised and the
operation completes REJECT; else the frame goes out, after the settle of a field just turned on. -/
def execHFrame (o : OpId) (parityErr : Bool) (s : State) : Out :=
  .next (match s.begins o 1 3 with
    | none => s
    | some op =>
      if parityErr then (s.fault 6 o.thread.val 0).endOp o 0x0D
      else
        let c := s.frameCmd op
        let s := ((s.hfTake op).beginOp o (.hframe true)).modOp o fun x => { x with cmd := c }
        if (s.op? o).any (·.settled) then s.hfSend op c (op.w 6).toNat else s)

/-- The item of an H.FRAME (R62, R147): byte count, bits in the last byte, parity error, TB at the reply's start. -/
def frameBody (s : State) (start : Int) (bs : List Byte) (last : BitVec 3) (parity poison : Bool) : List RWord :=
  let t : Word := (s.tb - BitVec.ofInt 64 (s.ticks - start)).extractLsb' 0 32
  let w1 : DWord := BitVec.ofNat 16 bs.length ++ last ++ BitVec.ofBool parity ++ 0#12 ++ t
  rword w1 :: (bytesToWords bs).map (pword poison)

/-- The reply of an H.FRAME (R147): the CRC is checked and taken off with word 5 [11] = 1 (off a reply cut short
nothing is taken: DEDUCED, assumption 71); item and completion carry OK, CRC_FAIL or POISON (R324), the completion
CANCELLED after a cancellation (R74). -/
def State.frameReply (s : State) (op : Op) (r : HfReply) (bs : List Byte) (cut : Bool) : State :=
  let (_, last, parity) := hfBytes op.proto r.bits
  let check := bit (op.w 5) 11
  let st := if r.poison then 0x0B else if cut || (check && !hfCrcOk op.proto bs) then 0x02 else 0x00
  let shown := if check && !cut then bs.take (bs.length - 2) else bs
  let s := s.emit op.id 0x11 st (frameBody s (replyStart r s.ticks) shown last parity r.poison)
  s.endOp op.id (if op.cancel then 0x09 else st)

/-- No reply to an H.FRAME (R147): it ends NO_REPLY, with an item only under FAILITEMS. -/
def State.frameSilence (s : State) (op : Op) : State :=
  let s := if op.failItems then s.emit op.id 0x11 0x01 [rword 0] else s
  s.endOp op.id (if op.cancel then 0x09 else 0x01)

/-! ### The events of an exchange -/

/-- HF_FIELD_SETTLED (R136, R137): the ramp and the settle time have passed; an H.FIELD completes OK, an H.ACTIVATE or
H.FRAME sends its first command. -/
def execHfFieldSettled (o : OpId) (s : State) : Out :=
  .next (match s.running o with
    | none => s
    | some op =>
      match op.eng, op.settled with
      | .hfield true, _ => (s.advanceTo op.cmdFrom).endOp o 0x00
      | .hactivate a, false => ((s.advanceTo op.cmdFrom).modOp o fun x => { x with settled := true }).actGo o a
      | .hframe true, false =>
        ((s.advanceTo op.cmdFrom).modOp o fun x => { x with settled := true }).hfSend op op.cmd (op.w 6).toNat
      | _, _ => s)

/-- The waiting time that bounds a reply of an operation (R144): FWT of an H.FRAME, that of the ATQB for an answer to
ATTRIB; the other steps of an H.ACTIVATE have none. -/
def Op.hfWait (op : Op) : Option Nat :=
  match op.eng with
  | .hactivate a => if op.proto = 1 ∧ a.step = .attrib then some (atqbFwt a.card) else none
  | _ => some (op.w 6).toNat

/-- HF_REPLY_RECEIVED (R143, R144): a reply whose start estimate lies in the window has come to its end or to a limit;
the next frame waits the least gap. A reply from outside the window, and one still being received, change nothing. -/
def execHfReplyReceived (o : OpId) (dt : Nat) (r : HfReply) (s : State) : Out :=
  .next (match s.running o with
    | none => s
    | some op =>
      let s := s.advance dt
      let start := replyStart r s.ticks
      if !op.hfInside start then s
      else
        match hfEnd op.proto (hfBytes op.proto r.bits).1 (s.ticks - start) op.hfWait r.eof with
        | none => s
        | some (bs, cut) =>
          let s := s.hfHoldOff op (s.ticks + 16 * hfGap op.proto (bits (op.w 4) 20 4))
          let s := s.modOp o fun x => { x with winFrom := none }
          match op.eng with
          | .hactivate a => s.actReply op a r bs cut
          | .hframe true => s.frameReply op r bs cut
          | _ => s)

/-- HF_REPLY_WINDOW_CLOSE (R143, R146, R147): the window closes with no reply inside. -/
def execHfReplyWindowClose (o : OpId) (s : State) : Out :=
  .next (match s.running o with
    | none => s
    | some op =>
      if op.winFrom.isNone then s
      else
        let s := (s.advanceTo op.winTo).modOp o fun x => { x with winFrom := none }
        match op.eng with
        | .hactivate a => s.actSilence op a
        | .hframe true => s.frameSilence op
        | _ => s)

/-! ### Card watch -/

/-- A scan is skipped while a port coupled to this one has its field on, or while this one is faulted
(R153); a port the Atlas does not describe counts as coupled to every other (R149). -/
def State.watchSkips (s : State) (p : HPortNo) : Bool :=
  (s.hp p).faulted || hpAll.any fun q =>
    q != p && (s.hp q).field && (!s.hPresent p || !s.hPresent q || s.hCoupled p q)

/-- M of R152, 4,096 × |x − b| / |b|, rounded down; with b = 0 the spec gives no value and the sample
supplies one. -/
def watchM (b i q : Int) (x : WatchSample) : Nat :=
  let d2 := ((i - x.xi.toInt) ^ 2 + (q - x.xq.toInt) ^ 2).toNat
  if b = 0 then x.m else isqrt (4096 * 4096 * d2 / b.toNat)

/-- A baseline part tracked towards the sample, b + (x − b) / 2^TRACK (R153); the rounding is a free
choice of the two nearest integers (assumption 5). -/
def trackPart (up : Bool) (b x : Int) (k : Nat) : Int :=
  let d := x - b
  b + Int.fdiv d (2 ^ k) + (if Int.fmod d (2 ^ k) ≠ 0 ∧ up then 1 else 0)

/-- A baseline stored. -/
def State.setBase (s : State) (p : HPortNo) (i q : Int) : State :=
  s.setReg (HP_WBASE p) (BitVec.ofInt 16 i ++ BitVec.ofInt 16 q)

/-- The state machine of R153 on a taken scan with change M: the state, and whether a change is
reported. -/
def State.watchStep (s : State) (p : HPortNo) (x : WatchSample) (m : Nat) : State × Bool :=
  let h := s.hp p
  let thr := s.fld (HP_WATCH p) 0 16
  let confirm := max 1 (s.fld (HP_WATCH p) 20 4)
  let track := min 10 (max 2 (s.fld (HP_WATCH p) 16 4))
  let hyst := s.fld (HP_WATCH2 p) 0 16
  let adopt := s.fld (HP_WATCH2 p) 16 16
  let bi := signed 16 (s.fld (HP_WBASE p) 16 16)
  let bq := signed 16 (s.fld (HP_WBASE p) 0 16)
  let s := s.setReg (HP_WMAG p) (fieldW 0 16 (min m 0xFFFF))
  if h.present then
    if m + hyst < thr then (s.modHp p fun h => { h with present := false, count := 0 }, false)
    else if adopt ≠ 0 ∧ adopt ≤ h.presentScans + 1 then
      (((s.setBase p x.xi.toInt x.xq.toInt).countFld (HP_WCNT p) 8 8 1).modHp p fun h =>
        { h with present := false, count := 0 }, false)
    else (s.modHp p fun h => { h with presentScans := h.presentScans + 1 }, false)
  else if m < thr then
    let (w, s) := s.freeW
    ((s.setBase p (trackPart (bit w 0) bi x.xi.toInt track) (trackPart (bit w 1) bq x.xq.toInt track)).modHp p
      fun h => { h with count := 0 }, false)
  else if confirm ≤ h.count + 1 then
    ((s.countFld (HP_WCNT p) 0 8 1).modHp p fun h => { h with present := true, count := 0, presentScans := 0 }, true)
  else (s.modHp p fun h => { h with count := h.count + 1 }, false)

/-- One port of a scan (R152, R153): skipped and counted, or the baseline set, or the state machine; the
result is M when a change is reported. -/
def State.watchPort (s : State) (p : HPortNo) (x : WatchSample) : State × Option Nat :=
  if s.watchSkips p then (s.countFld (HP_WCNT p) 16 16 1, none)
  else if (s.hp p).needBase then
    ((s.setBase p x.xi.toInt x.xq.toInt).modHp p fun h => { h with needBase := false }, none)
  else
    let bi := signed 16 (s.fld (HP_WBASE p) 16 16)
    let bq := signed 16 (s.fld (HP_WBASE p) 0 16)
    let m := watchM (bi * bi + bq * bq) bi bq x
    let (s, c) := s.watchStep p x m
    (s, if c then some m else none)

/-- The samples of a scan for a set of ports, in ascending port order. -/
def scanOrder (ps : List HPortNo) (xs : List WatchSample) : List (HPortNo × WatchSample) :=
  hpAll.filterMap fun p => if p ∈ ps then (xs.find? (·.port == p)).map fun x => (p, x) else none

/-- Every watched port has its sample in a scan (R152). -/
def scanHolds (ps : List HPortNo) (xs : List WatchSample) : Bool := ps.all fun p => xs.any (·.port == p)

/-- The word of an H.WATCH item (R62, R154): port, M saturated to 16 bits, and TB[31:0] at the start of
the port's burst, 15 µs after the one before it. -/
def watchBody (s : State) (p : HPortNo) (m k : Nat) : List RWord :=
  let t : Word := (s.tb + BitVec.ofNat 64 (k * 325440 / 100)).extractLsb' 0 32
  [rword (BitVec.ofNat 8 p.val ++ 0#8 ++ BitVec.ofNat 16 (min m 0xFFFF) ++ t)]

/-- The ports of an H.WATCH scan one after another; `k` counts the bursts sent. -/
def State.watchScan (s : State) (o : OpId) : Nat → Nat → List (HPortNo × WatchSample) → State × Nat
  | _, n, [] => (s, n)
  | k, n, (p, x) :: rest =>
    let burst := if s.watchSkips p then 0 else 1
    match s.watchPort p x with
    | (s, none) => s.watchScan o (k + burst) n rest
    | (s, some m) =>
      let s := (s.emit o 0x12 0x00 (watchBody s p m k)).raiseRouted (s.reg HC_WATCHEV)
      s.watchScan o (k + burst) (n + 1) rest

/-- HF_WATCH_SCAN (R152 to R154): one scan of an Active H.WATCH, scan n at n × word 5 µs from its dispatch (the first
at the dispatch: DEDUCED, assumption 72); after the last scan it completes OK when a change was reported, NO_REPLY
otherwise. A scan holds a sample for every watched port. -/
def execHfWatchScan (o : OpId) (xs : List WatchSample) (s : State) : Out :=
  .next (match s.running o with
    | none => s
    | some op =>
      if !scanHolds op.hports xs then s
      else match op.eng with
      | .hwatch scans changes =>
        let s := s.advanceTo (op.cmdFrom + usTicks (scans * (op.w 5).toNat))
        let (s, n) := s.watchScan o 0 0 (scanOrder op.hports xs)
        let limit := bits (op.w 6) 16 16
        let s := s.setEng o (.hwatch (scans + 1) (changes + n))
        let full : Bool := match s.op? o with
          | some op => op.limitHit
          | none => false
        if (limit ≠ 0 ∧ limit ≤ scans + 1) ∨ full then s.endOp o (if 0 < changes + n then 0x00 else 0x01) else s
      | _ => s)

/-- A write of HC_WATCHCFG (R152): REBASE makes the next scan set every baseline. -/
def State.writeWatchCfg (s : State) (v : Word) : State :=
  let s := s.writeFields HC_WATCHCFG v
  if bit v 0 then hpAll.foldl (fun s p => s.modHp p fun x => { x with needBase := true }) s else s

/-- REBASE: a write of HC_WATCHCFG.REBASE. -/
def execRebase (v : Word) (s : State) : Out := .next (s.writeWatchCfg (v ||| 1))

/-! ### Port faults -/

/-- A fault is recorded in the port and reported (R157). -/
def State.hfMark (s : State) (p : HPortNo) (kind : Nat) : State :=
  let s := (s.setFld (HP_FAULT p) 8 4 kind).countFld (HP_FAULT p) 16 8 1
  ((s.setFlag (HP_FLAGS p) 0).modHp p fun x => { x with faulted := true, probes := 0 }).fault 1 p.val kind

/-- A fault of an HF port (R157): kind 6 ends its K.CAL HDI with PRECOND and mutes nothing; any other
removes the field and its compensation and ends the operations holding the port with PORT_FAULT. -/
def State.hfFault (s : State) (p : HPortNo) (kind : Nat) : State :=
  if kind = 6 then
    let s := s.hfMark p kind
    match s.hholder p with
    | some op => if op.isCal then (s.countFld CAL_CNT 0 16 1).endOp op.id 0x0C else s
    | none => s
  else
    let s := if (s.hholder p).isSome then s.hfTurnOff p else s.hfRemove p
    (s.killAll (fun x => x.holds && decide (p ∈ x.hports)) 0x07).hfMark p kind

/-- A measured amplitude against `pct` % of the one expected at 1.0 W, scaled to the level in force, squared: measured,
expected (R156). -/
def hfRatio (m full level pct : Nat) : Nat × Nat := (m ^ 2 * 1000000, pct ^ 2 * full ^ 2 * level)

/-- Whether a fault kind of R156 is detected from what a port's monitors show, held as long as the kind asks; before a
K.CAL HDI has given HPn_HDI there is nothing expected, and kinds 2 and 3 are not detected (DEDUCED: assumption 72).
Kind 6 is found by K.CAL HDI. -/
def State.hfDetects (s : State) (p : HPortNo) (m : HfSense) (kind : Nat) : Bool :=
  let x := s.hp p
  let v := s.fld (HP_HDI p) 16 16
  let i := s.fld (HP_HDI p) 0 16
  let less := fun (r : Nat × Nat) => decide (r.1 < r.2)
  let more := fun (r : Nat × Nat) => decide (r.2 < r.1)
  match kind with
  | 1 => decide (1200 < m.current ∧ 1 ≤ m.cycles)
  | 2 => x.field && decide (678 ≤ m.cycles) && less (hfRatio m.vant v x.level (s.fld (HP_FAULTCFG p) 0 8))
  | 3 => x.field && decide (678 ≤ m.cycles) && ((v != 0 && more (hfRatio m.vant v x.level (s.fld (HP_FAULTCFG p) 8 8))) ||
      less (hfRatio m.current i x.level 20))
  | 4 => decide (28 ≤ m.cycles) && (if x.field then decide (m.txDc < 100 ∨ 900 < m.txDc) else !m.atRail)
  | 5 => decide (28 ≤ m.cycles ∧ (m.rxDc < 200 ∨ 800 < m.rxDc))
  | _ => false

/-- HF_PORT_FAULT (R156, R322): what the monitors of an enabled port show is a fault, and, on a port faulted already,
one of another kind. -/
def execHfPortFault (p : HPortNo) (m : HfSense) (s : State) : Out :=
  .next (if bit (s.reg (HP_CTRL p)) 0 then
    match ([1, 2, 3, 4, 5] : List Nat).find? fun k => s.hfDetects p m k with
    | some k => if (s.hp p).faulted && s.fld (HP_FAULT p) 8 4 == k then s else s.hfFault p k
    | none => s
  else s)

/-- The faulted state ends; the next scan sets the baseline (R152, R158). -/
def State.hfClear (s : State) (p : HPortNo) : State :=
  s.modHp p fun x => if x.faulted then { x with faulted := false, probes := 0, needBase := true } else x

/-- HF_FAULT_PROBE (R158): with AUTOCLR, two consecutive passing probes clear kinds 1 to 5. -/
def execHfFaultProbe (p : HPortNo) (pass : Bool) (s : State) : Out :=
  .next (let kind := s.fld (HP_FAULT p) 8 4
    if (s.hp p).faulted && bit (s.reg (HP_CTRL p)) 1 && decide (1 ≤ kind ∧ kind ≤ 5) then
      if !pass then s.modHp p fun x => { x with probes := 0 }
      else if 1 ≤ (s.hp p).probes then s.hfClear p
      else s.modHp p fun x => { x with probes := x.probes + 1 }
    else s)

/-- A write of HPn_FAULT (R158): FAULTCNT takes the value written, CLEAR ends the faulted state. -/
def State.writeHpFault (s : State) (p : HPortNo) (v : Word) : State :=
  let s := s.writeFields (HP_FAULT p) v
  if bit v 0 then s.hfClear p else s

/-- HF_FAULT_CLEAR: a write of HPn_FAULT.CLEAR. -/
def execHfFaultClear (p : HPortNo) (v : Word) (s : State) : Out := .next (s.writeHpFault p (v ||| 1))

/-- A write of HPn_CTRL (R156): ENABLE written 0 while an operation holds the port is fault kind 7. -/
def State.writeHpCtrl (s : State) (p : HPortNo) (v : Word) : State :=
  let was := bit (s.reg (HP_CTRL p)) 0
  let s := s.writeFields (HP_CTRL p) v
  if was && !bit v 0 && s.ops.any (fun x => x.holds && decide (p ∈ x.hports)) then s.hfFault p 7 else s

end Sys2Proof.Machine
end

