-- ==== Sys2Proof/Machine/UhfOps.lean ====
section
/-!
DEFINITION. The shared operations of the UHF ports (R77 to R95): levels, carriers, AGC freeze sources,
faults, and the commands of one port.
-/

namespace Sys2Proof.Machine

/-- Every UHF port. -/
def upAll : List UPortNo := List.finRange 16

/-! ### Levels -/

/-- The conducted level an operation asks, in 0.25 dBm: TXPWR, the power of a C.SEND, or CAL_UHF.LEVEL
(R58, R60, R272). -/
def State.txpwr (s : State) (op : Op) : Int :=
  if op.cls = 0 then bits (op.w 5) 24 8
  else if op.cls = 3 then bits (op.w 6) 24 8
  else if op.cls = 2 then bits (op.w 4) 16 8
  else s.fld CAL_UHF 24 8

/-- PAMODE as latched at dispatch. -/
def UPort.paMode (x : UPort) : Bool := bit x.ctrl 2

/-- PAGAIN as latched at dispatch. -/
def UPort.paGain (x : UPort) : Int := bits x.txcfg 24 8

/-- The driver level of R77 before any shedding cap, from +12 dBm (with a PA, no more than +33 dBm
conducted) down to −20 dBm, and whether it was clamped. -/
def UPort.driver (x : UPort) (txpwr : Int) : Int × Bool :=
  let want := if x.paMode then txpwr - x.paGain else txpwr
  let top := if x.paMode then min 48 (132 - x.paGain) else 48
  let lv := max (-80) (min top want)
  (lv, lv != want)

/-- The conducted level of R77 after its clamp (R117, R121). -/
def UPort.conducted (x : UPort) (txpwr : Int) : Int :=
  (x.driver txpwr).1 + (if x.paMode then x.paGain else 0)

/-- Whether a port transmits for its beam: AMP above 0 and not RXONLY (R78). -/
def UPort.transmits (x : UPort) : Bool := decide (0 < bits x.beam 0 8) && !bit x.ctrl 1

/-- The registers that take effect at dispatch, latched (R78, R95). -/
def State.latchPort (s : State) (p : UPortNo) : State :=
  s.modUp p fun x => { x with ctrl := s.reg (UP_CTRL p), txcfg := s.reg (UP_TXCFG p), beam := s.reg (UP_BEAMW p) }

/-- BEAMW latched again at a hop boundary (R78). -/
def State.latchBeam (s : State) (p : UPortNo) : State := s.modUp p fun x => { x with beam := s.reg (UP_BEAMW p) }

/-- DPD is bypassed for an operation whose driver level exceeds FITLVL + 0.5 dB, with DPDRANGE (R83). The level
compared is the one before the shedding cap of R81 (DESIGN CHOICE: assumption 67). -/
def State.dpdCheck (s : State) (op : Op) (p : UPortNo) : State :=
  let x := s.up p
  let fit := signed 8 (s.fld (UP_DPDCTRL p) 24 8)
  let above := bit x.ctrl 3 && bit (s.reg (UP_DPDCTRL p)) 0 && decide (fit + 2 < (x.driver (s.txpwr op)).1)
  let s := s.modUp p fun x => { x with dpdOff := above }
  if above then s.setFlag (UP_FLAGS p) 2 else s

/-! ### Carriers -/

/-- A C.LISTEN ends when its limit of packets is reached, its receptions then being abandoned and
counted; when an item passed LIMIT; or when its window has closed and every packet of its own has been
received or abandoned (R61, R167, R168). -/
def State.listenSettle (s : State) (o : OpId) : State :=
  match s.op? o with
  | none => s
  | some op =>
    match op.eng, op.ending with
    | .listen closed got, none =>
      let mine := s.decoders.toList.filter fun d =>
        match d with
        | some r => decide (o ∈ r.ops)
        | none => false
      let limit := bits (op.w 4) 8 8
      let own := if 0 < op.okItems then 0x00 else 0x01
      if limit ≠ 0 ∧ limit ≤ got then (s.countFld CH_CNT2 0 8 mine.length).endOp o 0x00
      else if op.limitHit then (s.countFld CH_CNT2 0 8 mine.length).endOp o own
      else if closed && mine.isEmpty then s.endOp o own
      else s
    | _, _ => s

/-- Every C.LISTEN tested for its end. -/
def State.settleListens (s : State) : State :=
  ((s.ops.filter (·.isListen)).map (·.id)).foldl (fun s o => s.listenSettle o) s

/-- The receptions that satisfy a test are abandoned: their decoders are released. -/
def State.dropReceptions (s : State) (p : Recep → Bool) : State :=
  { s with decoders := s.decoders.map fun d =>
      match d with
      | some r => if p r then none else some r
      | none => none }.settleListens

/-- The bandwidth of a code, Hz (R165). -/
def bwHz (code : Nat) : Nat := if 2 < code then 100000 else 100000 * 2 ^ code

/-- Whether a channel's nearer edge lies within 0.25 MHz of a carrier (R91). -/
def nearCarrier (carrier freq bw : Nat) : Bool :=
  decide (carrier < freq + bwHz bw / 2 + 250000 ∧ freq < carrier + bwHz bw / 2 + 250000)

/-- The address of the canceller register of the chain that serves a port: its own UPn_CNC, or its cluster's spare
(R95). -/
def State.cncReg (s : State) (p : UPortNo) : Nat :=
  if (s.up p).spare then (2 + p.val / 8) * 0x10000 + 0x901C else UP_CNC p

/-- A run or a recomputation applies new canceller trims on a port (R84, R280). -/
def State.cncApplying (s : State) (p : UPortNo) : Bool :=
  s.applying.any fun a =>
    match a.trim with
    | .reg addr _ _ => addr == UP_CNC p
    | .mag _ => false

/-- The canceller of a port whose carrier starts converges from the trims held for the current temperature (R79,
R278). -/
def State.startTrims (s : State) (p : UPortNo) : State :=
  if s.cncApplying p then s
  else
    let vs := match s.calBase.find? fun b => b.code == 1 && b.port == p.val with
      | some b => b.values
      | none => []
    (s.setFld (s.cncReg p) 24 8 (unsigned 8 (vs.getD 0 0))).setFld (s.cncReg p) 16 8 (unsigned 8 (vs.getD 1 0))

/-- Whether UPAn may be asserted for a port's carrier (R81): PA mode, in service, not faulted, and not deasserted
by shedding. -/
def State.paOk (s : State) (p : UPortNo) : Bool :=
  let x := s.up p
  x.paMode && bit (s.reg (UP_CTRL p)) 0 && !x.faulted && !x.capped

/-- A port's carrier ramps down for a carrier on another LO or frequency: in PA mode UPAn stays asserted (R79,
R80). -/
def State.rampDown (s : State) (p : UPortNo) : State :=
  s.modUp p fun x => { x.off with pa := x.pa && x.paMode && x.transmits }

/-- A port's carrier is up on an operation's LO at a frequency, having reached its level at elapsed tick
`at_` (R77, R79, R81, R95): its level clamped, capped at +6 dBm with its UPAn deasserted from shedding
level 1, and reduced by BACKOFF under a spare in PA mode; CLAMPED shows any of these. A port that does not
transmit carries none; receptions on a channel too near the carrier are abandoned (R91); a carrier already on
there keeps the tick it reached its level, its trims and its cap. -/
def State.carrierUp (s : State) (op : Op) (freq at_ : Nat) (p : UPortNo) : State :=
  let x := s.up p
  if !x.transmits then s.carrierOff p
  else
    let on := x.carrier == some (op.lo, freq)
    let (lv, cl) := x.driver (s.txpwr op)
    let shed := decide (1 ≤ s.power.level) || (x.capped && on)
    let s := if cl then s.setFlag (UP_FLAGS p) 1 else s
    let s := s.dropReceptions fun r => decide (r.port = p) && nearCarrier freq r.freq r.bw
    let s := if on then s else s.startTrims p
    let s := s.modUp p fun x => { x with
      carrier := some (op.lo, freq)
      upTick := if on then x.upTick else at_
      level := lv, full := lv, capped := shed, holdover := none }
    (s.modUp p fun x => { x with pa := s.paOk p }).relevel p

/-- DPD acts on a port's carrier (R82, R83): enabled with coefficients valid, and not bypassed for the operation's
level, by shedding that deasserts UPAn, or by a spare chain. -/
def State.dpdOn (s : State) (p : UPortNo) : Bool :=
  let x := s.up p
  x.carrier.isSome && bit x.ctrl 3 && bit (s.reg (UP_DPDCTRL p)) 0 && !x.dpdOff && !(x.paMode && x.capped) && !x.spare

/-- Whether every transmitting port of a beam already carries the carrier at this LO and frequency
(R79). -/
def State.beamUp (s : State) (op : Op) (freq : Nat) : Bool :=
  op.uports.all fun p => !(s.up p).transmits || (s.up p).carrier == some (op.lo, freq)

/-- The carriers of a beam ramped down, as at a hop or a pause. -/
def State.beamOff (s : State) (op : Op) : State := op.uports.foldl (fun s p => s.carrierOff p) s

/-- Every UHF carrier and chirp downlink removed without a ramp (R252, R256). -/
def State.uhfRemoveAll (s : State) : State := upAll.foldl (fun s p => s.carrierOff p) s

/-- The carriers driven from one LO removed (R265). -/
def State.loMute (s : State) (n : LoNo) : State :=
  upAll.foldl (fun s p =>
    match (s.up p).carrier with
    | some (l, _) => if l = n then s.carrierOff p else s
    | none => s) s

/-! ### Reply windows and AGC -/

/-- A backscatter reply window of an operation is open now, or its reply is in progress. -/
def State.winOpen (s : State) (op : Op) : Bool :=
  op.reply || match op.winFrom with
    | some t => decide (t ≤ s.ticks ∧ s.ticks < op.winTo)
    | none => false

/-- A backscatter reply window is open on a port (UPn_STATUS.REPLYWIN). -/
def State.replyWin (s : State) (p : UPortNo) : Bool :=
  s.ops.any fun op => op.holds && op.isBeam && decide (p ∈ op.uports) && s.winOpen op

/-- A chirp reception is in progress on a port. -/
def State.chirpOn (s : State) (p : UPortNo) : Bool :=
  s.decoders.toList.any fun d =>
    match d with
    | some r => r.port == p
    | none => false

/-- UPn_AGC_CTRL.FREEZE. -/
def State.freezeBit (s : State) (p : UPortNo) : Bool := bit (s.reg (UP_AGC_CTRL p)) 0

/-- Whether a freeze source holds the port's gain (R88). -/
def State.frozen (s : State) (p : UPortNo) : Bool := s.chirpOn p || s.replyWin p || s.freezeBit p

/-- CLIPTHR; 0 acts as 1. -/
def State.clipThr (s : State) (p : UPortNo) : Nat := max 1 (s.fld (UP_AGC_CTRL p) 8 8)

/-- Clips counted in every state (R88). -/
def State.countClips (s : State) (p : UPortNo) (n : Nat) : State := s.countFld (UP_CLIPCNT p) 0 32 n

/-- AGC_STEP_DOWN (R88): in Free, clips in 1 µs at CLIPTHR or more take one step down. -/
def execAgcStepDown (p : UPortNo) (clips : Nat) (s : State) : Out :=
  .next (
    let free := !s.frozen p
    let s := s.countClips p clips
    if free && decide (s.clipThr p ≤ clips) then s.modUp p fun x => { x with step := x.step - 1 } else s)

/-- The peak the AGC aims at, in 0.25 dB against ADC full scale: TARGET × 2 dB below it (R88). -/
def State.agcTarget (s : State) (p : UPortNo) : Int := -8 * (s.fld (UP_AGC_CTRL p) 4 4 : Int)

/-- AGC_STEP_UP (R88): in Free, after 20 µs of a peak more than 8 dB below the target, one step up, unless the
canceller residual would then sit less than TARGET below full scale (a step is 6 dB, its nominal: assumption 66).
`peak` and `resid` are in 0.25 dB against full scale. -/
def execAgcStepUp (p : UPortNo) (peak resid : Int) (us : Nat) (s : State) : Out :=
  .next (if !s.frozen p && decide (20 ≤ us ∧ peak < s.agcTarget p - 32 ∧ resid + 24 ≤ s.agcTarget p) then
    s.modUp p fun x => { x with step := min 7 (x.step + 1) } else s)

/-- AGC_OVERLOAD_STEP (R88, R89): in Frozen, with NOSTEP = 0, the one overload step of a freeze; the chirp
receptions in progress on the port are marked. -/
def execAgcOverloadStep (p : UPortNo) (clips : Nat) (s : State) : Out :=
  .next (
    let go := s.frozen p && (s.up p).agc != .stepped && !bit (s.reg (UP_AGC_CTRL p)) 3
    let s := s.countClips p clips
    if go && decide (s.clipThr p ≤ clips) then
      let s := (s.modUp p fun x => { x with step := x.step - 1, agc := .stepped }).setFlag (UP_FLAGS p) 3
      { s with decoders := s.decoders.map fun d =>
          d.map fun r => if r.port = p then { r with step := true } else r }
    else s)

/-- AGC_UNFREEZE (R88): every freeze source has ended, and the AGC is Free. -/
def execAgcUnfreeze (p : UPortNo) (s : State) : Out :=
  .next (if s.frozen p then s else s.modUp p fun x => { x with agc := .free })

/-- A trim moved by at most 1 LSB, within its signed 8 bits (R84). -/
def trimMove (old d : Int) : Int := max (-128) (min 127 (old + max (-1) (min 1 d)))

/-- CANCELLER_TRIM_STEP (R84, R85): with a carrier on, the loop of the chain that serves the port moves each trim
by at most 1 LSB unless it is held by a reply window, HOLD, or a K.CAL CNC that applies new trims; RESID and
CNCLOCK follow. -/
def execCancellerTrimStep (p : UPortNo) (di dq : Int) (resid : Byte) (s : State) : Out :=
  .next (
    if (s.up p).carrier.isSome then
      let a := s.cncReg p
      let held := s.replyWin p || bit (s.reg a) 1 || s.cncApplying p
      let s := if held then s else
        (s.setFld a 24 8 (unsigned 8 (trimMove (signed 8 (s.fld a 24 8)) di))).setFld
          a 16 8 (unsigned 8 (trimMove (signed 8 (s.fld a 16 8)) dq))
      (s.setFld a 8 8 resid.toNat).modUp p fun x => { x with cncLock := decide (140 < resid.toNat) }
    else s)

/-- HOLDOVER_EXPIRY (R80): the holdover carrier ramps down and UPAn is deasserted. -/
def execHoldoverExpiry (p : UPortNo) (s : State) : Out :=
  .next (if (s.up p).holdover.isSome then s.carrierOff p else s)

/-! ### Port faults (R92 to R94) -/

/-- The Active operations that hold a port, listeners and calibrations included. -/
def State.onPort (s : State) (p : UPortNo) : List Op :=
  s.ops.filter fun x => x.holds && decide (p ∈ x.uports)

/-- A fault is recorded in the port and reported (R93). -/
def State.uhfMark (s : State) (p : UPortNo) (kind : Nat) : State :=
  let s := (s.setFld (UP_FAULT p) 8 4 kind).countFld (UP_FAULT p) 16 8 1
  ((s.setFlag (UP_FLAGS p) 0).modUp p fun x => { x with faulted := true, probes := 0 }).fault 0 p.val kind

/-- A fault of a UHF port (R93): kind 6 ends its K.CAL DPD with PRECOND and mutes nothing; any other mutes
the beam of the operation holding the port, ends the operations holding it with PORT_FAULT, and removes
a holdover carrier. -/
def State.uhfFault (s : State) (p : UPortNo) (kind : Nat) : State :=
  if kind = 6 then
    let s := (s.modUp p fun x => { x with pa := false }).uhfMark p kind
    match s.holder p with
    | some op => if op.isCal then (s.countFld CAL_CNT 0 16 1).endOp op.id 0x0C else s
    | none => s
  else
    let s := s.killAll (fun x => x.holds && decide (p ∈ x.uports)) 0x07
    (s.carrierOff p).uhfMark p kind

/-- The level expected at UFBn from the driver level, PAGAIN and CPL, in 0.25 dBm (R92); PAGAIN counts while UPAn
is asserted (assumption 66). -/
def State.fbExpected (s : State) (p : UPortNo) : Int :=
  let x := s.up p
  x.level + (if x.pa then x.paGain else 0) - s.fld (UP_FBCFG p) 8 8

/-- UFBn is 10 to 30 dB below expected and follows the reflection: a reversed coupler (R92, kind 6). -/
def State.fbReversed (s : State) (p : UPortNo) (fb : Int) (follows : Bool) : Bool :=
  let below := s.fbExpected p - fb
  follows && decide (40 ≤ below ∧ below ≤ 120)

/-- A K.CAL DPD measures on a port. -/
def State.dpdCapture (s : State) (p : UPortNo) : Bool :=
  match s.holder p with
  | some op =>
    match op.eng with
    | .cal c => op.calCode == 3 && decide (c.stage = .measuring)
    | _ => false
  | none => false

/-- Whether a fault kind of R92 is detected from what a port's monitors show, held as long as the kind asks. -/
def State.uhfDetects (s : State) (p : UPortNo) (m : UhfSense) (kind : Nat) : Bool :=
  let x := s.up p
  let on := x.carrier.isSome
  let bad := on && decide (m.rl < 4 * s.fld (UP_FBCFG p) 0 8 ∧ 20 ≤ m.us)
  let below := s.fbExpected p - m.fb
  let end_ := fun (lo : Nat) => decide (signed 8 (s.fld (UP_CNC p) lo 8) = -128 ∨ signed 8 (s.fld (UP_CNC p) lo 8) = 127)
  match kind with
  | 1 => bad && decide (m.phase.toNat ≤ 256 ∨ 768 ≤ m.phase.toNat)
  | 2 => bad && decide (256 ≤ m.phase.toNat ∧ m.phase.toNat ≤ 768)
  | 3 => decide (2 ≤ m.us ∧ (m.txDc < 200 ∨ 800 < m.txDc ∨ 150 < m.current))
  | 4 => decide (2 ≤ m.us ∧ (m.rxDc < 200 ∨ 800 < m.rxDc))
  | 5 => on && decide (80 < below ∧ 20 ≤ m.us)
  | 6 => s.dpdCapture p && s.fbReversed p m.fb m.follows && decide (151 ≤ m.us)
  | 7 => on && (end_ 24 || end_ 16) && decide (s.fld (UP_CNC p) 8 8 < 80 ∧ 100 ≤ m.us)
  | 8 => on && x.paMode && decide (40 < below ∧ 20 ≤ m.us ∧ x.upTick + usTicks 10 ≤ s.ticks)
  | _ => false

/-- The fault kind that a port's monitors show, in the order of R92's table but for the more special FBREV before
FBLOST (assumption 66). -/
def State.uhfKind (s : State) (p : UPortNo) (m : UhfSense) : Option Nat :=
  ([1, 2, 3, 4, 6, 5, 7, 8] : List Nat).find? fun k => s.uhfDetects p m k

/-- UHF_PORT_FAULT (R86, R92, R322): what the monitors of an enabled port show is a fault, and, on a port faulted
already, one of another kind. -/
def execUhfPortFault (p : UPortNo) (m : UhfSense) (s : State) : Out :=
  .next (if bit (s.reg (UP_CTRL p)) 0 then
    match s.uhfKind p m with
    | some k => if (s.up p).faulted && s.fld (UP_FAULT p) 8 4 == k then s else s.uhfFault p k
    | none => s
  else s)

/-- The faulted state ends (R94). -/
def State.uhfClear (s : State) (p : UPortNo) : State :=
  s.modUp p fun x => { x with faulted := false, probes := 0 }

/-- UHF_FAULT_PROBE (R94): with AUTOCLR, two consecutive passing probes clear kinds 1 to 5 and 8. -/
def execUhfFaultProbe (p : UPortNo) (pass : Bool) (s : State) : Out :=
  .next (let kind := s.fld (UP_FAULT p) 8 4
    if (s.up p).faulted && bit (s.reg (UP_CTRL p)) 4 && decide ((1 ≤ kind ∧ kind ≤ 5) ∨ kind = 8) then
      if !pass then s.modUp p fun x => { x with probes := 0 }
      else if 1 ≤ (s.up p).probes then s.uhfClear p
      else s.modUp p fun x => { x with probes := x.probes + 1 }
    else s)

/-- A write of UPn_FAULT (R94): FAULTCNT takes the value written, CLEAR ends the faulted state. -/
def State.writeUpFault (s : State) (p : UPortNo) (v : Word) : State :=
  let s := s.writeFields (UP_FAULT p) v
  if bit v 0 then s.uhfClear p else s

/-- UHF_FAULT_CLEAR: a write of UPn_FAULT.CLEAR. -/
def execUhfFaultClear (p : UPortNo) (v : Word) (s : State) : Out := .next (s.writeUpFault p (v ||| 1))

/-- A write of UPn_CTRL (R80, R92): ENABLE written 0 while an operation holds the port is fault kind 9;
while none does, a holdover carrier ends. -/
def State.writeUpCtrl (s : State) (p : UPortNo) (v : Word) : State :=
  let was := bit (s.reg (UP_CTRL p)) 0
  let s := s.writeFields (UP_CTRL p) v
  if was && !bit v 0 then
    if (s.onPort p).isEmpty then (if (s.up p).holdover.isSome then s.carrierOff p else s)
    else s.uhfFault p 9
  else s

/-- UHF_PORT_DISABLE: a write of UPn_CTRL with ENABLE = 0. -/
def execUhfPortDisable (p : UPortNo) (v : Word) (s : State) : Out :=
  .next (s.writeUpCtrl p (v &&& 0xFFFFFFFE))

end Sys2Proof.Machine
end

