-- ==== Sys2Proof/Machine/LoOps.lean ====
section
/-!
DEFINITION. The shared operations of the synthesizers (R258 to R264) and of the region profile (R57, R117,
R119, R312): moving an LO, the channels, the dwell, and bringing a beam's carrier up.
-/

namespace Sys2Proof.Machine

/-! ### Synthesizers -/

/-- LO `n`. -/
def State.lo (s : State) (n : LoNo) : Lo := s.los[n]

/-- LO `n` changed. -/
def State.modLo (s : State) (n : LoNo) (f : Lo → Lo) : State := { s with los := vset s.los n (f (s.lo n)) }

/-- The frequency word M = round(f × 2^26 / 27,120,000) (R258). -/
def loWord (f : Nat) : Word := BitVec.ofNat 32 ((2 * f * 2 ^ 26 + 27120000) / 54240000)

/-- The dither LFSR's load, CK_LOn_CFG.SEED; 0 acts as 1 (R259). -/
def State.loSeed (s : State) (n : LoNo) : BitVec 16 :=
  let v := s.fld (CK_LO_CFG n) 0 16
  if v = 0 then 1 else BitVec.ofNat 16 v

/-- Whether an LO is locked on a frequency, a small step towards it included (R167, R262). -/
def Lo.lockedOn (l : Lo) (f : Nat) : Bool := l.lock && l.freq == f

/-- Whether an LO is settled at a frequency. -/
def Lo.at (l : Lo) (f : Nat) : Bool := l.lock && !l.slewing && !l.relock && l.freq == f

/-- Carriers in holdover on an LO that leaves their frequency end (R11, R80: assumption 25). -/
def State.dropHoldovers (s : State) (n : LoNo) (f : Nat) : State :=
  upAll.foldl (fun s p =>
    match (s.up p).holdover, (s.up p).carrier with
    | some _, some (l, g) => if l = n ∧ g ≠ f then s.carrierOff p else s
    | _, _ => s) s

/-- The modulator of an LO is loaded at a lock or a small step: the dither LFSR with SEED (R259), the accumulator with
(M × TB) mod 2^29 (R264). -/
def State.loLoad (s : State) (n : LoNo) : State :=
  s.modLo n fun l => { l with lfsr := s.loSeed n, lfsrTick := s.ticks, accum := BitVec.ofNat 29 (l.m.toNat * s.tb.toNat) }

/-- The carriers that stay on while an LO slews move with it (R262). -/
def State.moveCarriers (s : State) (n : LoNo) (f : Nat) : State :=
  upAll.foldl (fun s p => s.modUp p fun x =>
    { x with carrier := x.carrier.map fun c => if c.1 = n then (n, f) else c }) s

/-- A small step of a locked LO: it slews to a frequency (R259, R262, R264). -/
def State.loSlew (s : State) (n : LoNo) (f : Nat) : State :=
  ((s.modLo n fun l => { l with slewing := true, aligned := false, freq := f, m := loWord f }).loLoad n).moveCarriers n f

/-- The alignment of R264 from the phase errors of the ports' ÷4 outputs, entry p for Up, in 1/1024 cycle: each divider
is slipped by the nearest whole number of quarter cycles, and what is left is removed by one offset. -/
def State.loAlign (s : State) (n : LoNo) (errs : List Int) : State :=
  let quarter := fun (e : Int) => Int.fdiv (e + 128) 256
  s.modLo n fun l => { l with
    aligned := true
    slips := errs.map fun e => (quarter e % 4).toNat
    inject := -((errs.getD 0 0) - 256 * quarter (errs.getD 0 0)) }

/-- The phase of R263 at the present TB, in 2^−29 cycle; an aligned LO has it at every port it drives. -/
def State.loPhase (s : State) (n : LoNo) : Nat := (s.lo n).m.toNat * s.tb.toNat % 2 ^ 29

/-- The dither LFSR of R259, x^16 + x^14 + x^13 + x^11 + 1, after some reference periods; the form, shifting left with
the feedback below, is open (DESIGN CHOICE: assumption 30). -/
def lfsrRun (v : BitVec 16) : Nat → BitVec 16
  | 0 => v
  | k + 1 => lfsrRun ((v <<< 1) ||| (BitVec.ofBool (v.getLsbD 15 != (v.getLsbD 13 != (v.getLsbD 12 != v.getLsbD 10)))).setWidth 16) k

/-- The 1-LSB dither on an LO's modulator input now, with DITHER = 1 (R259): one step of the LFSR each reference
period since it was loaded. -/
def State.loDither (s : State) (n : LoNo) : Bool :=
  bit (s.reg (CK_LO_CFG n)) 31 && (lfsrRun (s.lo n).lfsr ((s.ticks - (s.lo n).lfsrTick) / 8 % 65535)).getLsbD 0

/-- The nominal temperatures of the five sets in 1/16 °C (R276). -/
def setTemp (k : Fin 5) : Int := [-640, 0, 560, 1120, 1760].getD k.val 0

/-- The set nearest a temperature among those allowed, halves going to the higher set (R276). -/
def nearestSet (ok : Fin 5 → Bool) (t : Int) : Option (Fin 5) :=
  (List.finRange 5).foldl (fun a k =>
    if ok k then
      match a with
      | none => some k
      | some j => if (t - setTemp k).natAbs ≤ (t - setTemp j).natAbs then some k else some j
    else a) none

/-- The set nearest a temperature. -/
def setOf (t : Int) : Fin 5 := (nearestSet (fun _ => true) t).getD 0

/-- The die temperature of a block in 1/16 °C: 0 UA, 1 UB, 2 HC, 3 the rest (R277). -/
def State.dieTemp (s : State) (c : Nat) : Int := signed 16 (s.fld (CAL_DIE c) 0 16)

/-- The band-table entry of a frequency (R260). -/
def bandEntry (f : Nat) : Nat := min 63 ((f - 840000000) / 1875000)

/-- The code of a band-table entry for a temperature set, and whether it is valid (R260). -/
def State.bandCode (s : State) (n : LoNo) (b : Nat) (k : Fin 5) : Bool × BitVec 7 :=
  let w := if k.val = 4 then s.reg (CK_BTB n b) else s.reg (CK_BTA n b)
  let sh := if k.val = 4 then 0 else 8 * k.val
  (bit w (sh + 7), BitVec.ofNat 7 (bits w sh 7))

/-- A relock begins (R261, R262): the loop opens, and the band code is that of the valid set nearest the die
temperature as the table stands now, or else one to be found by search. -/
def State.loRelock (s : State) (n : LoNo) : State :=
  let b := bandEntry (s.lo n).freq
  let s := s.modLo n fun l => { l with lock := false, slewing := false, aligned := false, relock := true }
  match nearestSet (fun k => (s.bandCode n b k).1) (s.dieTemp 3) with
  | some k => s.modLo n fun l => { l with band := (s.bandCode n b k).2, tset := k, search := false }
  | none => s.modLo n fun l => { l with search := true, tset := setOf (s.dieTemp 3) }

/-- The band search of a relock ends with a code, and BTMISS (R261). -/
def State.loSearched (s : State) (n : LoNo) (band : BitVec 7) : State :=
  if (s.lo n).search then
    (s.setFlag CK_FLAGS (16 + n.val)).modLo n fun l => { l with band := band, search := false }
  else s

/-- An LO that is neither slewing nor relocking moves to a frequency (R262): a step within ±1 MHz slews,
any other change relocks. -/
def State.loMove (s : State) (n : LoNo) (f : Nat) : State :=
  let l := s.lo n
  let s := s.dropHoldovers n f
  if l.lock && l.freq == f then s
  else if l.lock && decide (f ≤ l.freq + 1000000 ∧ l.freq ≤ f + 1000000) then
    s.loSlew n f
  else (s.modLo n fun l => { l with freq := f, m := loWord f }).loRelock n

/-- An LO is set to a frequency (R262); a step requested during a slew or a relock waits for it to end. -/
def State.loGoto (s : State) (n : LoNo) (f : Nat) : State :=
  if (s.lo n).slewing || (s.lo n).relock then s.modLo n fun l => { l with next := some f }
  else s.loMove n f

/-- The step that waited is made. -/
def State.loNext (s : State) (n : LoNo) : State :=
  match (s.lo n).next with
  | some f => (s.modLo n fun l => { l with next := none }).loMove n f
  | none => s

/-- VTUNE takes a value; outside 15–85 % sets TUNEWARN (R261). -/
def State.loTune (s : State) (n : LoNo) (v : Byte) : State :=
  let s := s.modLo n fun l => { l with vtune := v }
  if v.toNat < 15 ∨ 85 < v.toNat then s.setFlag CK_FLAGS (8 + n.val) else s

/-! ### Region profile (R312) -/

/-- A word of the region profile in force. -/
def State.regionW (s : State) (k : Nat) : Word := s.profile.region.getD k 0

/-- Whether a region profile is held (R311). -/
def State.sealed (s : State) : Bool := !s.profile.region.isEmpty

/-- The channel count N. -/
def State.chanCount (s : State) : Nat := bits (s.regionW 0) 16 8

/-- The length of the hop sequence. -/
def State.hopLen (s : State) : Nat := bits (s.regionW 0) 8 8

/-- The channel index at a position of the hop sequence. -/
def State.hopAt (s : State) (i : Nat) : Nat := bits (s.regionW (68 + i / 4)) (24 - 8 * (i % 4)) 8

/-- The hop sequence. -/
def State.hopSeq (s : State) : List Nat := (List.range s.hopLen).map s.hopAt

/-- The frequency of a channel, Hz. -/
def State.chanFreq (s : State) (c : Nat) : Nat := bits (s.regionW (4 + c)) 8 24 * 100

/-- The maximum conducted level of a channel, 0.25 dBm. -/
def State.chanMax (s : State) (c : Nat) : Int := bits (s.regionW (4 + c)) 0 8

/-- The maximum dwell in ticks. -/
def State.dwellTicks (s : State) : Nat := ((s.regionW 1).toNat * 21696 + 50) / 100

/-- Whether the profile requires listen-before-talk. -/
def State.lbt (s : State) : Bool := bit (s.regionW 2) 31

/-- Whether the profile allows a modulation (R97, R312). -/
def State.modAllowed (s : State) (m : Nat) : Bool := bit (s.regionW 3) (29 + m)

/-- Whether the profile allows a Tari (R97, R312). -/
def State.tariAllowed (s : State) (t : Nat) : Bool := bit (s.regionW 3) (24 + t)

/-- HOP of word 5 (R58). -/
def Op.hop (op : Op) : Bool := op.cls == 0 && bit (op.w 5) 15

/-- CHAN of word 5 (R58). -/
def Op.chan (op : Op) : Nat := bits (op.w 5) 16 8

/-- The channel index of hop `i` of an S.FIX (R126). -/
def State.fixChan (s : State) (op : Op) (i : Nat) : Nat :=
  (bits (op.w 5) 16 8 + i * bits (op.w 5) 8 8) % max 1 s.chanCount

/-- The channel index an operation uses now (R117, R119, R126, R271). -/
def State.opChan (s : State) (op : Op) : Nat :=
  if op.hop then s.hopAt ((op.pos + op.moved) % max 1 s.hopLen)
  else if op.cls = 0 then op.chan
  else if op.cls = 3 then s.fixChan op op.pos
  else s.fld CAL_UHF 16 8

/-- The frequency an operation uses now: its channel's, or that of its descriptor (R258). -/
def State.opFreq (s : State) (op : Op) : Nat :=
  if op.isListen then (op.w 7).toNat
  else if op.isSend then (op.w 6).toNat
  else s.chanFreq (s.opChan op)

/-- Whether a conducted level is within the limits of the channels an operation uses (R57, R117). -/
def State.levelOk (s : State) (op : Op) (chans : List Nat) : Bool :=
  op.uports.all fun p =>
    !(s.up p).transmits || chans.all fun c => decide ((s.up p).conducted (s.txpwr op) ≤ s.chanMax c)

/-! ### Dwell and carrier start (R79, R117 to R119) -/

/-- The next dwell boundary after now, in elapsed ticks: boundaries fall at multiples of the dwell on TB,
each rounded to the nearest tick (R117). -/
def State.nextBoundary (s : State) : Nat :=
  let us := (s.regionW 1).toNat
  if us = 0 then s.ticks
  else
    let at_ := fun j => (2 * j * us * 21696 + 100) / 200
    let tb := s.tb.toNat
    let j := tb * 100 / (us * 21696)
    let e := if tb < at_ j then at_ j else if tb < at_ (j + 1) then at_ (j + 1) else at_ (j + 2)
    s.ticks + (e - tb)

/-- The ports of an operation that transmit: every one of its beam with AMP above 0 and not RXONLY, and for
S.FIX the lowest of them (R78, R126). -/
def State.txPorts (s : State) (op : Op) : List UPortNo :=
  let ps := op.uports.filter fun p => (s.up p).transmits
  if op.cls = 3 then ps.take 1 else ps

/-- Whether every transmitting port of an operation already carries its carrier (R79). -/
def State.carried (s : State) (op : Op) (f : Nat) : Bool :=
  (s.txPorts op).all fun p => (s.up p).carrier == some (op.lo, f)

/-- An operation takes its beam to its channel (R79, R80, R118): carriers at another LO or frequency ramp
down, the LO is set, and, unless the carrier is already up, a listen is due where the profile requires
one. -/
def State.startBeam (s : State) (o : OpId) : State :=
  match s.op? o with
  | none => s
  | some op =>
    let f := s.opFreq op
    let s := op.uports.foldl (fun s p =>
      if decide (p ∈ s.txPorts op) && (s.up p).carrier == some (op.lo, f)
      then s.modUp p fun x => { x with holdover := none }
      else if p ∈ s.txPorts op then s.rampDown p else s.carrierOff p) s
    let up := s.carried op f && (s.lo op.lo).at f
    let s := s.loGoto op.lo f
    s.modOp o fun x => { x with freq := f, settled := up, lbtWait := s.lbt && !up }

/-- The settle of a port before the first command, CWSET × 10 µs; below 10 acts as 10 (R79). -/
def State.cwTicks (s : State) (p : UPortNo) : Nat := usTicks (10 * max 10 (s.fld (UP_TXCFG p) 8 8))

/-- The settle the first command of an operation waits: that of its slowest port, or SV_CFG.SETTLE after a
relocked hop of an S.FIX (R79, R127). -/
def State.settleTicks (s : State) (op : Op) : Nat :=
  if op.cls = 3 ∧ 0 < op.pos then usTicks (10 * max 10 (bits op.cfg 8 8))
  else (s.txPorts op).foldl (fun a p => max a (s.cwTicks p)) 0

/-- The close of the dwell in force of an operation whose carrier is at its level (R117). -/
def State.dwellClose (s : State) (op : Op) : Nat :=
  if op.hop then s.nextBoundary
  else
    (s.txPorts op).foldl (fun a p => min a ((s.up p).upTick + s.dwellTicks)) (s.ticks + s.dwellTicks)

/-- An operation's carriers are up and settled now (R79); the dwell in force is noted. -/
def State.beamSettled (s : State) (o : OpId) : State :=
  match s.op? o with
  | none => s
  | some op =>
    let at_ := s.ticks - s.settleTicks op
    let s := (s.txPorts op).foldl (fun s p => s.carrierUp op op.freq at_ p) s
    let close := s.dwellClose op
    s.modOp o fun x => { x with settled := true, dwellEnd := some close }

/-! ### Meters (R199, R200) -/

/-- The colour a thread's next µs would take: 0 green, 1 yellow, 2 red; a disabled meter is green (R199). -/
def State.colour (s : State) (t : Tid) : Nat :=
  if !bit (s.reg (SC_AMCTL t)) 31 then 0
  else
    let m := s.meters[t]
    if 1000000 ≤ m.tc then 0 else if 1000000 ≤ m.tp then 1 else 2

/-- One more spell of deferral or meter pause (R200). -/
def State.countDeferred (s : State) (t : Tid) : State := s.countFld (SC_AMCTL t) 0 16 1

end Sys2Proof.Machine
end

