-- ==== Sys2Proof/Machine/Link.lean ====
section
/-!
DEFINITION. The ISO/IEC 18000-63 link (R96 to R101, R354): link parameters in timebase ticks, the bits of
each command with their CRCs, reply windows, and the fit test. The manual leaves the command codes and
layouts and the CRC-5 and CRC-16 to the standard (PRESUMED, assumption 8).
-/

namespace Sys2Proof.Machine

/-! ### Link parameters (R96, R98, R101) -/

/-- Tari, the length of a data-0, in ticks: 6.25, 12.5 or 25 µs. -/
def tari (link : Word) : Nat := 1356 * 2 ^ bits link 30 2

/-- The length of a data-1: 1.5, 1.75 or 2.0 Tari. -/
def data1 (link : Word) : Nat := tari link * (6 + bits link 26 2) / 4

/-- RTcal = data-0 + data-1. -/
def rtcal (link : Word) : Nat := tari link + data1 link

/-- BLF in kHz. -/
def blf (link : Word) : Nat := bits link 12 10

/-- DR in ticks × kHz: TRcal is this divided by BLF; 8 or 64/3 (R96). -/
def drTicks (link : Word) : Nat := if bit link 25 then 4628480 else 1735680

/-- A quotient to the nearest integer, halves up. -/
def nearest (a b : Nat) : Nat := (2 * a + b) / (2 * b)

/-- TRcal in ticks (R96). -/
def trcal (link : Word) : Nat := nearest (drTicks link) (blf link)

/-- M: 1 for FM0, else 2, 4 or 8. -/
def millerM (link : Word) : Nat := 2 ^ bits link 23 2

/-- Symbols of a reply's preamble (R98). -/
def preSymbols (link : Word) : Nat :=
  if bits link 23 2 = 0 then (if bit link 22 then 18 else 6) else (if bit link 22 then 22 else 10)

/-- Ticks × BLF of one subcarrier or FM0 half-cycle, Tpri = 1 / BLF (R98). -/
def tpriN : Nat := 216960

/-- T1nom × BLF in ticks × kHz: max(RTcal, 10 × Tpri) (R101). -/
def t1N (link : Word) : Nat := max (rtcal link * blf link) (10 * tpriN)

/-- The opening of the reply window after the command, 0.75 × T1nom − 2 µs (R101). -/
def winOpenTicks (link : Word) : Nat := nearest (75 * t1N link - 43392 * blf link) (100 * blf link)

/-- The close of the reply window after the command, 1.25 × T1nom + 2 µs (R101). -/
def winCloseTicks (link : Word) : Nat := nearest (125 * t1N link + 43392 * blf link) (100 * blf link)

/-- T2 in Tpri: 3 to 20, as latched at dispatch (R101, AIR_BSC_CFG). -/
def t2N (cfg : Word) : Nat := max 3 (min 20 (bits cfg 16 5))

/-- T2 in ticks. -/
def t2Ticks (link cfg : Word) : Nat := nearest (t2N cfg * tpriN) (blf link)

/-- From the close of a reply window to the no-reply decision (R101): the preamble at 0.75 × BLF, and 0.50 µs. -/
def decisionTicks (link : Word) : Nat :=
  nearest (400 * preSymbols link * millerM link * tpriN + 32544 * blf link) (300 * blf link)

/-- From the on-air start estimate of a reply to the detection of its preamble (R100): the preamble at the link
frequency measured in Hz, and 0.50 µs. -/
def detectTicks (link : Word) (freq : Nat) : Nat :=
  nearest (100000 * preSymbols link * millerM link * tpriN + 10848 * freq) (100 * freq)

/-- From an energy onset to the collision decision (R107): the nominal duration of an RN16, and 0.50 µs. -/
def collisionTicks (link : Word) : Nat :=
  nearest (100 * (preSymbols link + 17) * millerM link * tpriN + 10848 * blf link) (100 * blf link)

/-- Whether the demodulator accepts a reply of a link frequency in Hz: within ±25 % of BLF (R99). -/
def linkAccepts (link : Word) (freq : Nat) : Bool :=
  decide (3 * (1000 * blf link) ≤ 4 * freq ∧ 4 * freq ≤ 5 * (1000 * blf link))

/-- T4 in ticks, 2 × RTcal (R101). -/
def t4Ticks (link : Word) : Nat := 2 * rtcal link

/-- Whether link words fail the check of R97. -/
def linkBad (link : Word) : Bool :=
  let t := tari link + tari link * (6 + bits link 26 2) / 4
  decide (blf link < 40) || decide (640 < blf link) ||
    decide (10 * drTicks link < 11 * t * blf link) || decide (3 * t * blf link < drTicks link) ||
    bits link 30 2 == 3 || bits link 26 2 == 3 || bits link 28 2 == 3

/-! ### Command bits (ISO/IEC 18000-63) -/

/-- `n` bits of a number, most significant first. -/
def numBits (n v : Nat) : List Bool := (List.range n).map fun i => v.testBit (n - 1 - i)

/-- The number bits spell, most significant first. -/
def bitsNum (bs : List Bool) : Nat := bs.foldl (fun a b => 2 * a + b.toNat) 0

/-- A CRC register of `n` bits after some bits, most significant first. -/
def crcRun (n poly init : Nat) (bs : List Bool) : Nat :=
  bs.foldl (fun r b =>
    let top := r.testBit (n - 1) != b
    let r := 2 * r % 2 ^ n
    if top then r ^^^ poly else r) init

/-- CRC-5: x^5 + x^3 + 1 from 01001. -/
def crc5 (bs : List Bool) : List Bool := numBits 5 (crcRun 5 0x09 0x09 bs)

/-- CRC-16: 0x1021 from 0xFFFF, sent inverted. -/
def crc16 (bs : List Bool) : List Bool := numBits 16 (crcRun 16 0x1021 0xFFFF bs ^^^ 0xFFFF)

/-- Whether the last 16 bits of a reply are the CRC-16 of those before them. -/
def crcHolds (bs : List Bool) : Bool := decide (16 ≤ bs.length) && bs.drop (bs.length - 16) == crc16 (bs.take (bs.length - 16))

/-- Bits followed by their CRC-16. -/
def withCrc16 (bs : List Bool) : List Bool := bs ++ crc16 bs

/-- The blocks of 7 bits of a number, most significant first, none of them leading zeros. -/
def ebvBlocks : Nat → Nat → List Nat
  | 0, _ => []
  | fuel + 1, v => if v < 128 then [v] else ebvBlocks fuel (v / 128) ++ [v % 128]

/-- An EBV: every block but the last opens with a 1 (R106). -/
def ebv (v : Nat) : List Bool :=
  let bs := ebvBlocks 5 v
  (List.range bs.length).flatMap fun i => decide (i + 1 < bs.length) :: numBits 7 (bs.getD i 0)

/-- Query. -/
def cmdQuery (link : Word) (sel session : Nat) (target : Bool) (q : Nat) : AirCmd :=
  let b := [true, false, false, false] ++ numBits 1 (bits link 25 1) ++ numBits 2 (bits link 23 2) ++
    numBits 1 (bits link 22 1) ++ numBits 2 sel ++ numBits 2 session ++ [target] ++ numBits 4 q
  { name := "Query", bits := b ++ crc5 b, preamble := true }

/-- QueryRep. -/
def cmdQueryRep (session : Nat) : AirCmd :=
  { name := "QueryRep", bits := [false, false] ++ numBits 2 session }

/-- QueryAdjust: 110 up, 000 unchanged, 011 down. -/
def cmdQueryAdjust (session updn : Nat) : AirCmd :=
  { name := "QueryAdjust", bits := [true, false, false, true] ++ numBits 2 session ++ numBits 3 updn }

/-- ACK with an RN16. -/
def cmdAck (rn : BitVec 16) : AirCmd := { name := "ACK", bits := [false, true] ++ numBits 16 rn.toNat }

/-- NAK. -/
def cmdNak : AirCmd := { name := "NAK", bits := numBits 8 0xC0 }

/-- Select; at most 255 mask bits. -/
def cmdSelect (target action bank ptr : Nat) (mask : List Bool) (truncate : Bool) : AirCmd :=
  let m := mask.take 255
  let b := [true, false, true, false] ++ numBits 3 target ++ numBits 3 action ++ numBits 2 bank ++ ebv ptr ++
    numBits 8 m.length ++ m ++ [truncate]
  { name := "Select", bits := withCrc16 b }

/-- Req_RN. -/
def cmdReqRn (rn : BitVec 16) : AirCmd :=
  { name := "Req_RN", bits := withCrc16 (numBits 8 0xC1 ++ numBits 16 rn.toNat) }

/-- Access with one covered half of the password. -/
def cmdAccess (half rn : BitVec 16) : AirCmd :=
  { name := "Access", bits := withCrc16 (numBits 8 0xC6 ++ numBits 16 half.toNat ++ numBits 16 rn.toNat) }

/-- Read. -/
def cmdRead (bank ptr n : Nat) (rn : BitVec 16) : AirCmd :=
  { name := "Read"
    bits := withCrc16 (numBits 8 0xC2 ++ numBits 2 bank ++ ebv ptr ++ numBits 8 n ++ numBits 16 rn.toNat) }

/-- Write of one covered word. -/
def cmdWrite (bank ptr : Nat) (data rn : BitVec 16) : AirCmd :=
  { name := "Write"
    bits := withCrc16 (numBits 8 0xC3 ++ numBits 2 bank ++ ebv ptr ++ numBits 16 data.toNat ++ numBits 16 rn.toNat) }

/-- BlockWrite. -/
def cmdBlockWrite (bank ptr : Nat) (ws : List (BitVec 16)) (rn : BitVec 16) : AirCmd :=
  { name := "BlockWrite"
    bits := withCrc16 (numBits 8 0xC7 ++ numBits 2 bank ++ ebv ptr ++ numBits 8 ws.length ++
      ws.flatMap (fun w => numBits 16 w.toNat) ++ numBits 16 rn.toNat) }

/-- Lock. -/
def cmdLock (payload : Nat) (rn : BitVec 16) : AirCmd :=
  { name := "Lock", bits := withCrc16 (numBits 8 0xC5 ++ numBits 20 payload ++ numBits 16 rn.toNat) }

/-- Kill with one covered half; recommissioning bits 0 (R112). -/
def cmdKill (half rn : BitVec 16) : AirCmd :=
  { name := "Kill", bits := withCrc16 (numBits 8 0xC4 ++ numBits 16 half.toNat ++ numBits 3 0 ++ numBits 16 rn.toNat) }

/-! ### Durations and the fit test (R96, R354) -/

/-- The length of a command on the air (R96): the preamble or frame-sync, then its bits. -/
def cmdTicks (link : Word) (c : AirCmd) : Nat :=
  2712 + tari link + rtcal link + (if c.preamble then trcal link else 0) +
    (c.bits.map fun b => if b then data1 link else tari link).sum

/-- What a command can draw (R354): nothing; a reply in the window of R101, in the delayed window, or in a
window given in µs; with the longest reply in bits between preamble and dummy 1. -/
inductive Expect where
  | none
  | immediate (n : Nat)
  | delayed (n : Nat)
  | window (open_ len n : Nat)
deriving DecidableEq, Repr

/-- The bits of the longest reply. -/
def Expect.bits : Expect → Nat
  | .none => 0
  | .immediate n | .delayed n | .window _ _ n => n

/-- The opening of the reply window after the command's end, in ticks. -/
def Expect.open_ (e : Expect) (link : Word) : Nat :=
  match e with
  | .none => 0
  | .immediate _ | .delayed _ => winOpenTicks link
  | .window a _ _ => nearest (a * 21696) 100

/-- The close of the reply window after the command's end, in ticks. -/
def Expect.close (e : Expect) (link : Word) : Nat :=
  match e with
  | .none => 0
  | .immediate _ => winCloseTicks link
  | .delayed _ => 4339200
  | .window a n _ => nearest ((a + n) * 21696) 100

/-- The span of R354 after the command itself, in ticks × 300 × BLF: the window's close tick, the longest reply
at 0.75 × BLF with its preamble and dummy 1, and T2; or T4. -/
def spanN (link cfg : Word) (e : Expect) : Nat :=
  match e with
  | .none => t4Ticks link * 300 * blf link
  | e => e.close link * 300 * blf link + 400 * (preSymbols link + e.bits + 1) * millerM link * tpriN + 300 * t2N cfg * tpriN

/-- The fit test (R354): the span that begins with the command at elapsed tick `start` ends before the
dwell in force closes. -/
def Op.fits (op : Op) (c : AirCmd) (e : Expect) (start : Nat) : Bool :=
  match op.dwellEnd with
  | none => true
  | some d =>
    let room : Int := d - start - cmdTicks op.link c
    decide ((spanN op.link op.bscCfg e : Int) < room * (300 * blf op.link))

/-- An operation sends a command at elapsed tick `start` (R96): its end and its reply window are noted. -/
def State.sendCmd (s : State) (o : OpId) (c : AirCmd) (e : Expect) (start : Nat) : State :=
  s.modOp o fun x =>
    let end_ := start + cmdTicks x.link c
    { x with
      cmd := c
      cmdEnd := end_
      cmdTb := s.tb + BitVec.ofNat 64 (end_ - s.ticks)
      latched := none, reply := false
      winFrom := if e = .none then none else some (end_ + e.open_ x.link)
      winTo := end_ + e.close x.link }

/-- The earliest start of the next command after a reply that ended `back` ticks ago: T2 after it (R101). -/
def State.afterReply (s : State) (op : Op) (back : Nat) : Nat :=
  max s.ticks (s.ticks - back + t2Ticks op.link op.bscCfg)

/-- The earliest start of the next command where no reply came: T4 after the command (R101). -/
def State.afterSilence (s : State) (op : Op) : Nat := max s.ticks (op.cmdEnd + t4Ticks op.link)

end Sys2Proof.Machine
end

