-- ==== Sys2Proof/Machine/Round.lean ====
section
/-!
DEFINITION. The inventory state machine of U.ROUND (R103 to R108), the tag table (R110), and the shared
re-test of a changed region profile (R315).
-/

namespace Sys2Proof.Machine

/-! ### Word 6 of a U.ROUND (R59) -/

/-- The session. -/
def Op.session (op : Op) : Nat := bits (op.w 6) 30 2

/-- The target. -/
def Op.target (op : Op) : Bool := bit (op.w 6) 29

/-- Sel. -/
def Op.sel (op : Op) : Nat := bits (op.w 6) 27 2

/-- The initial Q. -/
def Op.q0 (op : Op) : Nat := bits (op.w 6) 23 4

/-- C in hundredths. -/
def Op.cStep (op : Op) : Nat := bits (op.w 6) 16 7

/-- The slot budget; 0 none. -/
def Op.slotBudget (op : Op) : Nat := bits (op.w 6) 0 16

/-- The tag budget; 0 none. -/
def Op.tagBudget (op : Op) : Nat := bits (op.w 7) 16 16

/-- ENDEMPTY as latched at dispatch; 0 acts as 1 (R105). -/
def Op.endEmpty (op : Op) : Nat := max 1 (bits op.bscCfg 8 4)

/-- NAKEN as latched at dispatch. -/
def Op.nakEn (op : Op) : Bool := bit op.bscCfg 0

/-! ### A profile changed under an Active operation (R315) -/

/-- Whether the profile permits the channel, level, modulation and Tari an operation uses now. -/
def State.regionNow (s : State) (op : Op) : Bool :=
  s.sealed && decide (s.opChan op < s.chanCount) && s.modAllowed (bits op.link 28 2) &&
    s.tariAllowed (bits op.link 30 2) && s.levelOk op [s.opChan op]

/-- The test an Active UHF operation makes at its next Query or hop boundary after a change of the region
profile (R315): `true` when it may go on. Before a Query the frequency on the air and the dwell in force are
tested too, and the dwell is taken again; a hop begins a new one. -/
def State.regionTest (s : State) (o : OpId) (hop : Bool) : Bool × State :=
  match s.op? o with
  | none => (true, s)
  | some op =>
    if op.retest then
      if hop then (s.regionNow op, s.modOp o fun x => { x with retest := false })
      else
        let close := s.dwellClose op
        let ok := s.regionNow op && decide (s.opFreq op = op.freq) && decide (s.ticks < close)
        (ok, s.modOp o fun x => { x with retest := false, dwellEnd := some close })
    else (true, s)

/-! ### Items (R63, R106, R108) -/

/-- The t0 layout of R63: TB, LO, channel and ports. -/
def t0Word (tb : Word) (lo : LoNo) (chan : Nat) (ports : BitVec 16) : DWord :=
  tb ++ BitVec.ofNat 8 lo.val ++ BitVec.ofNat 8 chan ++ ports

/-- The 3-word slot item of R108. -/
def State.slotItem (s : State) (op : Op) (status slot : Nat) (tb est : Word) (ports : BitVec 16) : State :=
  s.emit op.id 0x01 status
    [rword (BitVec.ofNat 16 slot ++ 0#16 ++ tb), rword (t0Word est op.lo (s.opChan op) ports)]

/-- The parts of a received PC, EPC and CRC reply: PC, XPC_W1, XPC_W2 and the EPC words. -/
structure TagReply where
  pc     : BitVec 16
  xpc1   : BitVec 16
  xpc2   : BitVec 16
  epc    : List (BitVec 16)
  stored : BitVec 16
  trunc  : Bool
deriving DecidableEq, Repr

/-- Bits in 16-bit words, the first in the most significant place, the last padded with 0. -/
def wordsOf (n : Nat) (bs : List Bool) : List (BitVec 16) :=
  (List.range n).map fun i => BitVec.ofNat 16 (bitsNum ((bs.drop (16 * i)).take 16 ++
    List.replicate (16 - ((bs.drop (16 * i)).take 16).length) false))

/-- A PC, EPC and CRC reply taken apart (R63, R106). XPC words follow a PC with XI, bit 9, and a second one
an XPC_W1 with XEB, bit 15 (ISO/IEC 18000-63, assumption 8). With `truncated`, a reply that is not the full
form is five 0 bits and the truncated EPC: its PC shows the whole words received; the bits beyond them are shown in
the next quarter of the ring word where the count is no multiple of 4, and dropped otherwise (DESIGN CHOICE:
assumption 70). -/
def parseTag (truncated : Bool) (bs : List Bool) : TagReply :=
  let n := bs.length - 16
  let data := bs.take n
  let stored := BitVec.ofNat 16 (bitsNum (bs.drop n))
  let pc := BitVec.ofNat 16 (bitsNum (data.take 16))
  let xi := pc.getLsbD 9
  let x1 := if xi then BitVec.ofNat 16 (bitsNum ((data.drop 16).take 16)) else 0
  let xeb := xi && x1.getLsbD 15
  let x2 := if xeb then BitVec.ofNat 16 (bitsNum ((data.drop 32).take 16)) else 0
  let at_ := 16 + (if xi then 16 else 0) + (if xeb then 16 else 0)
  let len := (pc.extractLsb' 11 5).toNat
  if truncated && data.length != at_ + 16 * len then
    let e := data.drop 5
    let k := e.length / 16
    ⟨BitVec.ofNat 16 (k * 2048), 0, 0, wordsOf ((e.length + 15) / 16) e, stored, true⟩
  else ⟨pc, x1, x2, wordsOf len (data.drop at_), stored, false⟩

/-- Four 16-bit words in a ring word, the first in [63:48]. -/
def quad (ws : List (BitVec 16)) (i : Nat) : DWord :=
  ws.getD (4 * i) 0 ++ ws.getD (4 * i + 1) 0 ++ ws.getD (4 * i + 2) 0 ++ ws.getD (4 * i + 3) 0

/-- What the preamble of the reply in progress latched for each port of the beam. -/
def Op.rxs (op : Op) : List (UPortNo × BitVec 10 × Int) :=
  match op.latched with
  | some l => l.rx
  | none => []

/-- The ports whose own preamble SNR reaches a threshold in 1/8 dB, as a mask. -/
def Op.rxPorts (op : Op) (snr : Int) : BitVec 16 :=
  BitVec.ofNat 16 ((op.rxs.filter fun r => decide (snr ≤ r.2.2)).foldl (fun a r => a + 2 ^ r.1.val) 0)

/-- The latched phases of t2 and t3 (R63, R109): eight bits for each receiving port, U15 first, and 0 for any other
(a phase of 10 bits shows its upper 8: assumption 69). -/
def Op.rxPhases (op : Op) : BitVec 128 :=
  BitVec.ofNat 128 ((op.rxs.filter fun r => decide (24 ≤ r.2.2)).foldl
    (fun a r => a + r.2.1.toNat / 4 * 2 ^ (8 * r.1.val)) 0)

/-- The combined RSSI latched. -/
def Op.rssi (op : Op) : BitVec 16 :=
  match op.latched with
  | some l => l.rssi
  | none => 0

/-- TB[31:0] at the end of that preamble. -/
def Op.preambleTb (op : Op) : Word :=
  match op.latched with
  | some l => l.tb.extractLsb' 0 32
  | none => 0

/-- TB[31:0] at the on-air start of the reply in progress. -/
def Op.replyTb (op : Op) : Word :=
  match op.latched with
  | some l => l.start.extractLsb' 0 32
  | none => 0

/-- The words of a tag item after its header (R63): 6 + ⌈L/4⌉ words in all; the words a residue check left
unrecoverable carry P = 1 (R324). -/
def State.tagBody (s : State) (op : Op) (r : RoundSt) (t : TagReply) (handle : Word) (bad : Bool) : List RWord :=
  let ps := op.rxPhases
  let l := (t.pc.extractLsb' 11 5).toNat
  [pword bad (handle ++ t.stored ++ t.pc)] ++
    (List.range ((l + 3) / 4)).map (fun i => pword bad (quad t.epc i)) ++
    [rword (t0Word op.preambleTb op.lo (s.opChan op) (op.rxPorts 24)),
     pword bad (op.rssi ++ BitVec.ofNat 8 r.q ++ 0#8 ++ t.xpc1 ++ t.xpc2),
     rword (ps.extractLsb' 64 64), rword (ps.extractLsb' 0 64)]

/-- The tag-table entry of a HANDLE, when it is not stale (R110). -/
def State.tagEntry (s : State) (h : Word) : Option TagEntry := s.tags.find? (·.handle == h)

/-- A tag read with CRC passed is tabled (R110): it takes AIR_TAGTAB.NEXT, which is incremented; an entry is
overwritten after 4,096 further tags. -/
def State.tableTag (s : State) (t : TagReply) (p : Option Nat) : Word × State :=
  let h := s.reg AIR_TAGTAB
  let e : TagEntry := ⟨h, t.pc, t.xpc1, t.xpc2,
    t.epc.take (t.pc.extractLsb' 11 5).toNat, if t.trunc then p else none⟩
  (h, { s with tags := (e :: s.tags).take 4096 }.setReg AIR_TAGTAB (h + 1))

/-! ### The state machine (R103) -/

/-- The progress of an operation that is a U.ROUND. -/
def Op.round? (op : Op) : Option RoundSt :=
  match op.eng with
  | .round r => some r
  | _ => none

/-- A budget is spent, or LIMIT reached (R61, R103). -/
def roundSpent (op : Op) (r : RoundSt) : Bool :=
  (op.slotBudget != 0 && decide (op.slotBudget ≤ r.slots)) ||
    (op.tagBudget != 0 && decide (op.tagBudget ≤ r.tags)) || op.limitHit

/-- The End row of Next (R103, R105). -/
def roundOver (op : Op) (r : RoundSt) : Bool :=
  op.cancel || roundSpent op r ||
    (op.slotBudget == 0 && op.tagBudget == 0 && decide (op.endEmpty ≤ r.empties))

/-- A U.ROUND ends normally or cancelled (R67). -/
def State.roundEnd (s : State) (o : OpId) : State :=
  match s.op? o with
  | none => s
  | some op => s.endOp o (if op.cancel then 0x09 else if 0 < op.okItems then 0x00 else 0x01)

/-- A hop of a U.ROUND (R118): the carrier ramps down, BEAMW is latched, and the beam starts on the channel
of the dwell in force. -/
def State.roundHop (s : State) (op : Op) (r : RoundSt) : State :=
  let s := op.uports.foldl (fun s p => s.latchBeam p) (s.beamOff op)
  (s.setEng op.id (.round { r with st := .start })).startBeam op.id

/-- Pause (R103): a command does not fit. -/
def State.roundPause (s : State) (o : OpId) : State :=
  match s.op? o with
  | none => s
  | some op =>
    match op.round? with
    | none => s
    | some r =>
      if op.cancel || roundSpent op r then s.roundEnd o
      else if !op.hop then
        let s := if op.failItems then s.slotItem op 0x05 (r.slots + 1) s.tbLo 0 0 else s
        s.roundEnd o
      else s.setEng o (.round { r with st := .pause })

/-- A command that opens a slot is sent (R103). -/
def State.roundSlot (s : State) (op : Op) (r : RoundSt) (c : AirCmd) (start : Nat) : State :=
  let s := s.sendCmd op.id c (.immediate 16) start
  match s.op? op.id with
  | none => s
  | some op => s.setEng op.id (.round { r with
      st := .waitRN, slots := r.slots + 1, outcome := .none, slotTb := op.cmdTb.extractLsb' 0 32 })

/-- Open (R103, R120, R315): a Query opens the round, a hop, or the end of a pause. While an item is held
nothing is sent (R187). -/
def State.roundOpen (s : State) (o : OpId) (start : Nat) : State :=
  match s.op? o with
  | none => s
  | some op =>
    match op.round? with
    | none => s
    | some r =>
      let r := { r with st := .open_ }
      if op.cancel then s.roundEnd o
      else if !op.held.isEmpty then s.setEng o (.round r)
      else if s.colour o.thread = 2 then
        (((s.beamOff op).countDeferred o.thread).setEng o (.round { r with st := .metered })).modOp o
          fun x => { x with settled := false }
      else
        let (ok, s) := s.regionTest o false
        if !ok then s.endOp o 0x0E
        else
          let c := cmdQuery op.link op.sel op.session op.target r.q
          match s.op? o with
          | none => s
          | some op => if op.fits c (.immediate 16) start then s.roundSlot op r c start else s.roundPause o

/-- The Q algorithm (R104): the next Q and the command that goes with it. -/
def qStep (op : Op) (r : RoundSt) : Nat × AirCmd :=
  let q := (r.qfp + 50) / 100
  (q, if r.q < q then cmdQueryAdjust op.session 6
      else if q < r.q then cmdQueryAdjust op.session 3
      else if r.q = 0 then cmdQueryAdjust op.session 0
      else cmdQueryRep op.session)

/-- Next (R103 to R105). While an item is held nothing is sent (R187). -/
def State.roundNext (s : State) (o : OpId) (start : Nat) : State :=
  match s.op? o with
  | none => s
  | some op =>
    match op.round? with
    | none => s
    | some r =>
      let r := { r with st := .next }
      let s := s.setEng o (.round r)
      if roundOver op r then s.roundEnd o
      else if !op.held.isEmpty then s
      else
        let (q, c) := qStep op r
        let r := { r with q := q }
        if op.fits c (.immediate 16) start then s.roundSlot op r c start
        else (s.setEng o (.round r)).roundPause o

/-- Start (R103): the carrier is up and settled. -/
def State.roundStart (s : State) (o : OpId) (start : Nat) : State :=
  match s.op? o with
  | none => s
  | some op =>
    match op.round? with
    | none => s
    | some r =>
      let r := if r.fresh then { r with fresh := false, q := op.q0, qfp := 100 * op.q0 } else r
      (s.setEng o (.round r)).roundOpen o start

/-- A slot closes with an outcome (R103 to R105, R108): its counts, qfp, and, with FAILITEMS, its item;
`est` and `ports` are the energy in the window that decided it. -/
def State.roundOutcome (s : State) (o : OpId) (k : SlotOutcome) (est : Word) (ports : BitVec 16) : State :=
  match s.op? o with
  | none => s
  | some op =>
    match op.round? with
    | none => s
    | some r =>
      let s := s.modOp o fun x => { x with reply := false, winFrom := none, latched := none }
      let s := match k with
        | .empty => if op.failItems then s.slotItem op 0x01 r.slots r.slotTb 0 0 else s
        | .collision => if op.failItems then s.slotItem op 0x03 r.slots r.slotTb est ports else s
        | _ => s
      let r := { r with outcome := k, empties := if k = .empty ∧ r.q = 0 then r.empties + 1 else 0 }
      let r := match k with
        | .empty => { r with qfp := r.qfp - op.cStep }
        | .collision => { r with qfp := min 1500 (r.qfp + op.cStep), colls := r.colls + 1 }
        | .crcFail => { r with crcs := r.crcs + 1 }
        | _ => r
      s.setEng o (.round r)

/-- An RN16 is decoded (R103, R107): the ACK, or Pause; a slot decoded by capture is counted. The capture and
no-EPC counts are kept for U.ROUND alone, whose slots they name (DESIGN CHOICE: assumption 70). After a cancellation no
new command is sent (R74). -/
def State.roundRn (s : State) (op : Op) (r : RoundSt) (rn : BitVec 16) (capture : Bool) : State :=
  let o := op.id
  let s := if capture then s.countFld AIR_BSC_CNT 16 16 1 else s
  let s := s.modOp o fun x => { x with reply := false, winFrom := none }
  let s := s.setEng o (.round { r with st := .ack, rn16 := rn })
  let start := s.afterReply op 0
  let c := cmdAck rn
  if op.cancel then s.roundEnd o
  else if op.fits c (.immediate 560) start then
    (s.sendCmd o c (.immediate 560) start).setEng o (.round { r with st := .waitEPC, rn16 := rn })
  else s.roundPause o

/-- The NAK of R103; the next command waits T4. A NAK that does not fit is not sent, and the round pauses
(R354). -/
def State.roundNak (s : State) (o : OpId) (start : Nat) : State :=
  match s.op? o with
  | none => s
  | some op =>
    if op.cancel then s.roundEnd o
    else if op.fits cmdNak .none start then
      let s := s.sendCmd o cmdNak .none start
      match s.op? o with
      | none => s
      | some op => s.roundNext o (s.afterSilence op)
    else s.roundPause o

/-- The 2.00 µs between a reply's last symbol and its CRC verdict, in ticks (R100). -/
def crcBack : Nat := 434

/-- An EPC reply ends (R103, R106, R108, R110, R324), judged by its CRC-16. -/
def State.roundEpc (s : State) (op : Op) (r : RoundSt) (d : ReplyData) : State :=
  let o := op.id
  let start := s.afterReply op crcBack
  let t := parseTag (decide (op.sel = 3) && r.trunc.isSome) d.bits
  if d.poison then
    let s := s.emit o 0x01 0x0B (s.tagBody op r t 0 true)
    (s.roundOutcome o .crcFail 0 0).roundNext o start
  else if !op.gap && crcHolds d.bits then
    let (h, s) := s.tableTag t r.trunc
    let s := s.emit o 0x01 0x00 (s.tagBody op r t h false)
    let s := s.setEng o (.round { r with tags := r.tags + 1 })
    (s.roundOutcome o .success 0 0).roundNext o start
  else
    let s := if op.failItems then s.emit o 0x01 0x02 (s.tagBody op r t 0 false) else s
    let s := s.roundOutcome o .crcFail 0 0
    if op.nakEn then s.roundNak o start else s.roundNext o start

/-- Time passes to the collision decision of a reply whose on-air start estimate was at a TB (R107). -/
def State.toCollision (s : State) (op : Op) (start : Word) : State :=
  s.advance (collisionTicks op.link - (s.tbLo - start).toNat)

/-- An RN16 window is a collision (R107, R108): with the start estimate of its energy, and the ports that saw it. -/
def State.roundCollision (s : State) (op : Op) (est : Word) (ports : BitVec 16) : State :=
  (s.roundOutcome op.id .collision est ports).roundNext op.id (s.afterReply op 108)

/-- An RN16 that can be taken (R107): it decoded to its 16 bits alone or with a lead of 8 dB; one whose block was
left unrecoverable, or that spans a gap, is taken as failed (R324). -/
def Op.rnDecoded (op : Op) (d : ReplyData) : Bool :=
  d.bits.length == 16 && !d.poison && !op.gap && d.lead.all fun k => decide (64 ≤ k)

/-- A reply ends in a U.ROUND; an RN16 that does not decode, or overlapping ones without a lead, is a collision. The
ports that saw its energy are those it reached 6 dB above the noise (R107, R108). -/
def State.roundReply (s : State) (op : Op) (r : RoundSt) (d : ReplyData) : State :=
  match r.st with
  | .waitRN =>
    if op.rnDecoded d then s.roundRn op r (BitVec.ofNat 16 (bitsNum d.bits)) d.lead.isSome
    else (s.toCollision op op.replyTb).roundCollision op op.replyTb (op.rxPorts 48)
  | .waitEPC => s.roundEpc op r d
  | _ => s

/-- No reply by the decision tick (R103): an empty slot, or an ACK that drew no EPC reply, which is a
collision and counted in NOEPC (R107). -/
def State.roundSilence (s : State) (op : Op) (r : RoundSt) : State :=
  match r.st with
  | .waitRN => (s.roundOutcome op.id .empty 0 0).roundNext op.id (s.afterSilence op)
  | .waitEPC =>
    ((s.countFld AIR_BSC_CNT 0 16 1).roundOutcome op.id .collision 0 0).roundNext op.id (s.afterSilence op)
  | _ => s

end Sys2Proof.Machine
end

