-- ==== Sys2Proof/Machine/Access.lean ====
section
/-!
DEFINITION. U.SELECT, U.ACCESS and U.RAW: the Select, re-singulation and access sequences (R106, R111 to
R113), raw exchanges (R115), and what a cancellation leaves of them (R74).
-/

namespace Sys2Proof.Machine

/-! ### U.SELECT (R59, R106) -/

/-- The mask bits of a U.SELECT, or the command bits of a U.RAW: the first `n` bits of words 8 to 15. -/
def Op.dataBits (op : Op) (n : Nat) : List Bool :=
  (([8, 9, 10, 11, 12, 13, 14, 15] : List (Fin 16)).flatMap fun k => numBits 32 (op.w k).toNat).take n

/-- The Select of a U.SELECT. -/
def Op.selectCmd (op : Op) : AirCmd :=
  cmdSelect (bits (op.w 6) 29 3) (bits (op.w 6) 26 3) (bits (op.w 6) 24 2) (op.w 7).toNat
    (op.dataBits (bits (op.w 6) 0 9)) (bit (op.w 6) 23)

/-- A U.SELECT sends its Select and completes OK once T4 has passed, or ends WINDOW_SHORT (R106, R354); a
truncating Select is remembered on its ports. The send, T4 and the end are one step: no event falls between them
(DESIGN CHOICE: assumption 70). -/
def State.selectSend (s : State) (o : OpId) (start : Nat) : State :=
  match s.op? o with
  | none => s
  | some op =>
    let c := op.selectCmd
    if op.cancel then s.endOp o 0x09
    else if op.fits c .none start then
      let s := s.sendCmd o c .none start
      let p := (op.w 7).toNat + bits (op.w 6) 0 9
      let s := if bit (op.w 6) 23 then
          op.uports.foldl (fun s u => s.modUp u fun x => { x with truncP := some (start, p) }) s
        else s
      match s.op? o with
      | none => s
      | some op => (s.advanceTo (s.afterSilence op)).endOp o 0x00
    else s.endOp o 0x05

/-! ### U.ACCESS (R111 to R113) -/

/-- The progress of an operation that is a U.ACCESS. -/
def Op.access? (op : Op) : Option AccessSt :=
  match op.eng with
  | .access a => some a
  | _ => none

/-- The command of word 7. -/
def Op.accCmd (op : Op) : Nat := bits (op.w 7) 28 4

/-- The memory bank of word 7. -/
def Op.accBank (op : Op) : Nat := bits (op.w 7) 26 2

/-- The word count of word 7. -/
def Op.accCount (op : Op) : Nat := bits (op.w 7) 0 8

/-- Write data word `i` of words 11 to 14, high half first. -/
def Op.accData (op : Op) (i : Nat) : BitVec 16 :=
  let w := op.desc.toList.getD (11 + i / 2) 0
  if i % 2 = 0 then w.extractLsb' 16 16 else w.extractLsb' 0 16

/-- Half `i` of a 32-bit password, high half first. -/
def pwHalf (w : Word) (i : Nat) : BitVec 16 := if i = 0 then w.extractLsb' 16 16 else w.extractLsb' 0 16

/-- Bits in ring words, the first in [63], the last word padded with 0. -/
def packBits (bs : List Bool) : List DWord :=
  (List.range ((bs.length + 63) / 64)).map fun i =>
    let c := (bs.drop (64 * i)).take 64
    BitVec.ofNat 64 (bitsNum (c ++ List.replicate (64 - c.length) false))

/-- A U.ACCESS ends with its item (R62, R113): the HANDLE, the command, the tag error code, and words. -/
def State.accDone (s : State) (op : Op) (status code : Nat) (body : List RWord) : State :=
  let w1 : DWord := op.w 6 ++ BitVec.ofNat 4 op.accCmd ++ 0#12 ++ BitVec.ofNat 16 code
  (s.emit op.id 0x02 status (rword w1 :: body)).endOp op.id status

/-- The word that carries a count of words confirmed (R113). -/
def countWord (n : Nat) : RWord := rword (BitVec.ofNat 16 n ++ 0#48)

/-- Whether a cancellation leaves words of a Write unsent (R74, R113). -/
def accUnsent (op : Op) (a : AccessSt) : Bool :=
  op.cancel && a.sent && op.accCmd == 2 && decide (a.step ≠ .cmd) && decide (a.words < op.accCount)

/-- A U.ACCESS ends without a valid tag reply (R111, R113): tag error code 0xFFFF; a write keeps its count
of words confirmed, a CRC failure keeps the raw bits. A write that fails before its command carries no count (DESIGN
CHOICE: assumption 70). -/
def State.accFail (s : State) (op : Op) (a : AccessSt) (status : Nat) (raw : List RWord) : State :=
  if accUnsent op a then s.accDone op 0x09 0 [countWord a.words]
  else if op.cancel && !a.sent then s.endOp op.id 0x09
  else
    let writes := a.sent && decide (2 ≤ op.accCmd ∧ op.accCmd ≤ 5)
    s.accDone op status 0xFFFF (if !raw.isEmpty then raw else if writes then [countWord a.words] else [])

/-- A command of a U.ACCESS at a step (R111, R112, R354): sent when it fits, else WINDOW_SHORT, with no item even
between the words of a Write (DESIGN CHOICE: assumption 70); after a cancellation before the command of word 7 no new
command is sent (R74). -/
def State.accSend (s : State) (o : OpId) (a : AccessSt) (c : AirCmd) (e : Expect) (start : Nat) : State :=
  match s.op? o with
  | none => s
  | some op =>
    if op.cancel && !a.sent then s.endOp o 0x09
    else if op.fits c e start then (s.sendCmd o c e start).setEng o (.access a)
    else s.endOp o 0x05

/-- The mask and bit pointer of the re-singulating Select (R111): the tabled EPC from bit 0x20, or the
received whole words from P. -/
def selectOf (t : TagEntry) : Nat × List Bool :=
  (t.trunc.getD 0x20, (t.epc.flatMap fun w => numBits 16 w.toNat).take 255)

/-- The Select of R111 and R127. -/
def reselect (t : TagEntry) : AirCmd :=
  let (p, m) := selectOf t
  cmdSelect 4 0 1 p m false

/-- A Query of a U.ACCESS with a target (R111 steps 2 and 3); the profile is tested first (R315). -/
def State.accQuery (s : State) (o : OpId) (step : AccStep) (start : Nat) : State :=
  let (ok, s) := s.regionTest o false
  if !ok then s.endOp o 0x0E
  else
    match s.op? o with
    | none => s
    | some op =>
      let c := cmdQuery op.link 3 (bits op.bscCfg 4 2) (decide (step = .queryB)) 0
      s.accSend o { step := step } c (.immediate 16) start

/-- The sequence begins (R111 step 1): the Select, T4, and the Query for target A. -/
def State.accBegin (s : State) (o : OpId) (start : Nat) : State :=
  match s.op? o with
  | none => s
  | some op =>
    match op.entry with
    | none => s
    | some t =>
      let s := s.accSend o { step := .select } (reselect t) .none start
      match s.op? o with
      | none => s
      | some op => if op.ending.isSome then s else s.accQuery o .queryA (s.afterSilence op)

/-- A Req_RN that leads to a step (R111, R112). -/
def State.accReqRn (s : State) (o : OpId) (a : AccessSt) (step : AccStep) (rn : BitVec 16) (start : Nat) : State :=
  s.accSend o { a with step := step } (cmdReqRn rn) (.immediate 32) start

/-- Step 7 (R112): the command of word 7 begins. Access only is done; Write and Kill begin with a Req_RN. -/
def State.accCommand (s : State) (o : OpId) (a : AccessSt) (start : Nat) : State :=
  match s.op? o with
  | none => s
  | some op =>
    if op.cancel then s.endOp o 0x09
    else
      let b := op.accBank
      let n := op.accCount
      let p := (op.w 8).toNat
      let sent := { a with step := .cmd, sent := true }
      match op.accCmd with
      | 1 => s.accSend o sent (cmdRead b p n a.handle) (.immediate (max (33 + 16 * n) 41)) start
      | 2 => s.accReqRn o a .cmdRn a.handle start
      | 3 => s.accSend o sent (cmdBlockWrite b p ((List.range n).map op.accData) a.handle) (.delayed 41) start
      | 4 => s.accSend o sent (cmdLock (bits (op.w 10) 0 20) a.handle) (.delayed 41) start
      | 5 => s.accReqRn o a .cmdRn a.handle start
      | _ => s.accDone op 0x00 0 [rword (a.handle ++ 0#48)]

/-- The covered command that follows a fresh RN16 (R111 step 6, R112): an Access half, a Write, or a Kill
half. The 20 ms window of a Kill follows its second half. -/
def State.accCovered (s : State) (op : Op) (a : AccessSt) (rn : BitVec 16) (start : Nat) : State :=
  let o := op.id
  match a.step with
  | .pwRn1 => s.accSend o { a with step := .pw1 } (cmdAccess (pwHalf (op.w 9) 0 ^^^ rn) a.handle) (.immediate 32) start
  | .pwRn2 => s.accSend o { a with step := .pw2 } (cmdAccess (pwHalf (op.w 9) 1 ^^^ rn) a.handle) (.immediate 32) start
  | .cmdRn =>
    if op.accCmd = 2 then
      s.accSend o { a with step := .cmd, sent := true }
        (cmdWrite op.accBank ((op.w 8).toNat + a.words) (op.accData a.words ^^^ rn) a.handle) (.delayed 41) start
    else
      s.accSend o { a with step := .cmd, sent := true } (cmdKill (pwHalf (op.w 10) 0 ^^^ rn) a.handle)
        (.immediate 41) start
  | .killRn2 =>
    s.accSend o { a with step := .kill2 } (cmdKill (pwHalf (op.w 10) 1 ^^^ rn) a.handle) (.delayed 41) start
  | _ => s

/-- Whether the PC and EPC of a reply are those tabled (R111 step 4); for a tag tabled from a truncated
reply, the EPC bits from bank position P onward equal the tabled words. -/
def tagMatches (e : TagEntry) (bs : List Bool) : Bool :=
  let t := parseTag false bs
  match e.trunc with
  | none => t.pc == e.pc && t.epc == e.epc
  | some p =>
    let epc := t.epc.flatMap fun w => numBits 16 w.toNat
    let want := e.epc.flatMap fun w => numBits 16 w.toNat
    decide (0x20 ≤ p) && ((epc.drop (p - 0x20)).take want.length == want)

/-- The words of a Read reply, four per ring word; P marks words left unrecoverable. -/
def readBody (bad : Bool) (n : Nat) (bs : List Bool) : List RWord :=
  let ws := wordsOf n (bs.drop 1)
  (List.range ((n + 3) / 4)).map fun i => pword bad (quad ws i)

/-- The tag's answer to the command of word 7 (R112, R113): an error code, or success; a Write goes on to
its next word, or ends CANCELLED with the words left unsent. Of a cancelled Write whose word in progress ends in a tag
error, that word's outcome is the status (DESIGN CHOICE: assumption 70). -/
def State.accAnswer (s : State) (op : Op) (a : AccessSt) (d : ReplyData) (start : Nat) : State :=
  let o := op.id
  let err := d.bits.length == 41 && d.bits.headD false
  let code := 0x0100 + bitsNum ((d.bits.drop 1).take 8)
  if op.accCmd = 1 then
    if d.bits.headD false then s.accDone op 0x00 code []
    else s.accDone op (if d.poison then 0x0B else 0x00) 0 (readBody d.poison op.accCount d.bits)
  else if a.step = .cmd ∧ op.accCmd = 5 then
    if err then s.accDone op 0x00 code [countWord 0] else s.accReqRn o a .killRn2 a.handle start
  else if d.bits.headD false then s.accDone op 0x00 code [countWord a.words]
  else if op.accCmd = 2 then
    let a := { a with words := a.words + 1 }
    if op.accCount ≤ a.words then s.accDone op 0x00 0 [countWord a.words]
    else if op.cancel then s.accDone op 0x09 0 [countWord a.words]
    else s.accReqRn o a .cmdRn a.handle start
  else s.accDone op 0x00 0 [countWord (if op.accCmd = 3 then op.accCount else 1)]

/-- A reply ends in a U.ACCESS (R111 to R113). An RN16 is taken as it was decoded; every other reply is
judged by its CRC-16, and one left unrecoverable counts as failed except in a Read's item (R324). -/
def State.accReply (s : State) (op : Op) (a : AccessSt) (d : ReplyData) : State :=
  let o := op.id
  let s := s.modOp o fun x => { x with reply := false, winFrom := none }
  let rn := BitVec.ofNat 16 (bitsNum (d.bits.take 16))
  let start := s.afterReply op (if a.step = .queryA ∨ a.step = .queryB then 0 else crcBack)
  let readPoison := d.poison && a.step == .cmd && op.accCmd == 1
  let failed := (op.gap || !crcHolds d.bits || d.poison) && !readPoison
  let raw := (packBits d.bits).map (pword d.poison)
  match a.step with
  | .queryA =>
    if !op.rnDecoded d then
      let s := s.toCollision op op.replyTb
      s.accQuery o .queryB (s.afterReply op 108)
    else s.accSend o { a with step := .ack, rn := rn } (cmdAck rn) (.immediate 560) start
  | .queryB =>
    if !op.rnDecoded d then (s.toCollision op op.replyTb).accFail op a 0x01 []
    else s.accSend o { a with step := .ack, rn := rn } (cmdAck rn) (.immediate 560) start
  | .ack =>
    if failed then s.accFail op a 0x02 raw
    else if (match op.entry with
      | some e => tagMatches e d.bits
      | none => false) then s.accReqRn o a .reqRn a.rn start
    else if op.cancel then s.endOp o 0x09
    else if op.fits cmdNak .none start then (s.sendCmd o cmdNak .none start).accFail op a 0x01 []
    else s.endOp o 0x05
  | .reqRn =>
    if failed then s.accFail op a 0x02 raw
    else
      let a := { a with handle := rn }
      if op.w 9 ≠ 0 then s.accReqRn o a .pwRn1 rn start else s.accCommand o a start
  | .pwRn1 | .pwRn2 | .killRn2 => if failed then s.accFail op a 0x02 raw else s.accCovered op a rn start
  | .cmdRn =>
    if accUnsent op a then s.accDone op 0x09 0 [countWord a.words]
    else if failed then s.accFail op a 0x02 raw
    else s.accCovered op a rn start
  | .pw1 => if failed then s.accFail op a 0x02 raw else s.accReqRn o a .pwRn2 a.handle start
  | .pw2 => if failed then s.accFail op a 0x02 raw else s.accCommand o a start
  | .cmd | .kill2 => if failed then s.accFail op a 0x02 raw else s.accAnswer op a d start
  | .select | .done => s

/-- No reply, or a collided RN16, in a U.ACCESS (R111): target B is tried after target A; else NO_REPLY. -/
def State.accSilence (s : State) (op : Op) (a : AccessSt) (start : Nat) : State :=
  let s := s.modOp op.id fun x => { x with reply := false, winFrom := none, latched := none }
  match a.step with
  | .queryA => s.accQuery op.id .queryB start
  | _ => s.accFail op a 0x01 []

/-! ### U.RAW (R115) -/

/-- The command of a U.RAW. -/
def Op.rawCmd (op : Op) : AirCmd :=
  let b := op.dataBits (bits (op.w 6) 16 9)
  { name := "Raw", bits := if bit (op.w 6) 14 then withCrc16 b else b, preamble := bit (op.w 6) 15 }

/-- The reply a U.RAW expects. -/
def Op.rawExpect (op : Op) : Expect :=
  let len := bits (op.w 7) 0 16
  let n := bits (op.w 6) 0 12
  if len = 0 then .none else .window (bits (op.w 7) 16 16) len (if n = 0 then 4095 else n)

/-- A U.RAW sends its command; with a window of length 0 it completes OK after T4 (R115, R354), in one step as a
U.SELECT does (assumption 70). -/
def State.rawSend (s : State) (o : OpId) (start : Nat) : State :=
  match s.op? o with
  | none => s
  | some op =>
    if op.cancel then s.endOp o 0x09
    else if op.fits op.rawCmd op.rawExpect start then
      let s := s.sendCmd o op.rawCmd op.rawExpect start
      match s.op? o with
      | none => s
      | some op => if op.rawExpect = .none then (s.advanceTo (s.afterSilence op)).endOp o 0x00 else s
    else s.endOp o 0x05

/-- A reply ends in a U.RAW (R115): the item carries the bits as received; the completion carries the same
status, or CANCELLED. -/
def State.rawReply (s : State) (op : Op) (d : ReplyData) : State :=
  let n := bits (op.w 6) 0 12
  let bs := d.bits.take (if n = 0 then 4095 else n)
  let short := n ≠ 0 ∧ bs.length < n
  let status := if d.poison then 0x0B else if op.gap ∨ short ∨ (bit (op.w 6) 13 ∧ !crcHolds bs) then 0x02 else 0x00
  let w1 : DWord := BitVec.ofNat 16 bs.length ++ 0#16 ++ op.replyTb
  let s := s.emit op.id 0x03 status (rword w1 :: (packBits bs).map (pword d.poison))
  let s := s.modOp op.id fun x => { x with reply := false, winFrom := none }
  s.endOp op.id (if op.cancel then 0x09 else status)

/-- No reply starts inside the window of a U.RAW (R115): an item only with FAILITEMS. -/
def State.rawSilence (s : State) (op : Op) : State :=
  let s := s.modOp op.id fun x => { x with winFrom := none }
  let s := if op.failItems then s.emit op.id 0x03 0x01 [rword 0] else s
  s.endOp op.id (if op.cancel then 0x09 else 0x01)

end Sys2Proof.Machine
end

