-- ==== Sys2Proof/Machine/Survey.lean ====
section
/-!
DEFINITION. The Survey solver (R130, R131, R133): coarse paths from the phase slopes, the position by weighted
least squares, its refinement on the carrier phases, the choice between mirror solutions, and the covariance, in
integers.  Positions are in mm × 2^20, phases in 1/1024 cycle × 2^20, frequencies in Hz, delays in 10 ps.
-/

namespace Sys2Proof.Machine

/-- The scale of positions and phases, 2^20. -/
def fx : Int := 1048576

/-- The speed of light in mm/s (R130). -/
def lightMm : Int := 299792458000

/-- A point or a direction. -/
structure V3 where
  x : Int
  y : Int
  z : Int
deriving DecidableEq, Repr

/-- The difference of two points. -/
def V3.sub (a b : V3) : V3 := ⟨a.x - b.x, a.y - b.y, a.z - b.z⟩

/-- The dot product. -/
def V3.dot (a b : V3) : Int := a.x * b.x + a.y * b.y + a.z * b.z

/-- The cross product. -/
def V3.cross (a b : V3) : V3 := ⟨a.y * b.z - a.z * b.y, a.z * b.x - a.x * b.z, a.x * b.y - a.y * b.x⟩

/-- The length, at least 1. -/
def V3.norm (a : V3) : Int := max 1 (isqrt (a.dot a).toNat : Nat)

/-- The direction of a vector, of length 2^20. -/
def V3.unit (a : V3) : V3 := ⟨a.x * fx / a.norm, a.y * fx / a.norm, a.z * fx / a.norm⟩

/-- The sum of two vectors. -/
def V3.add (a b : V3) : V3 := ⟨a.x + b.x, a.y + b.y, a.z + b.z⟩

/-- The sine of an angle in 0.01°, × 2^30, by its series. -/
def sinC (a : Int) : Int :=
  let a := (a + 18000) % 36000 - 18000
  let a := if 9000 < a then 18000 - a else if a < -9000 then -18000 - a else a
  let x := a * 3373259426 / 18000
  let x2 := x * x / 2 ^ 30
  (([6, 20, 42, 72, 110, 156, 210] : List Int).foldl
    (fun (t : Int × Int) d => (t.1 - t.2 * x2 / 2 ^ 30 / d, -(t.2 * x2 / 2 ^ 30 / d))) (x, x)).1

/-- The cosine of an angle in 0.01°, × 2^30. -/
def cosC (a : Int) : Int := sinC (a + 9000)

/-! ### The Atlas as a solve uses it (R123) -/

/-- The phase centre of Un in mm. -/
def atlasCentre (atlas : List Word) (n : Nat) : V3 :=
  let w := atlas.getD (8 + 4 * n) 0
  ⟨signed 16 (bits w 16 16), signed 16 (bits w 0 16), signed 16 (bits (atlas.getD (9 + 4 * n) 0) 16 16)⟩

/-- The phase centre of Un, scaled. -/
def atlasPoint (atlas : List Word) (n : Nat) : V3 :=
  let c := atlasCentre atlas n
  ⟨c.x * fx, c.y * fx, c.z * fx⟩

/-- τ of a path (R130): TXDLY of the illuminator and RXDLY of the receiver. -/
def atlasTau (atlas : List Word) (ill q : Nat) : Int :=
  (bits (atlas.getD (9 + 4 * ill) 0) 0 16 : Int) + bits (atlas.getD (10 + 4 * q) 0) 0 16

/-- The boresight of Un, × 2^30. -/
def atlasBoresight (atlas : List Word) (n : Nat) : V3 :=
  let az : Int := bits (atlas.getD (10 + 4 * n) 0) 16 16
  let el := signed 16 (bits (atlas.getD (11 + 4 * n) 0) 16 16)
  ⟨cosC el * cosC az / 2 ^ 30, cosC el * sinC az / 2 ^ 30, sinC el⟩

/-- ZPLANE, scaled. -/
def atlasZplane (atlas : List Word) : Int := signed 16 (bits (atlas.getD 1 0) 0 16) * fx

/-! ### Step 1: the coarse paths (R130) -/

/-- The measurements of one port: frequency, phase, SNR in 1/8 dB. -/
abbrev PortMeas := Nat × BitVec 10 × Int

/-- A measurement put in its place by frequency. -/
def insertMeas (m : PortMeas) : List PortMeas → List PortMeas
  | [] => [m]
  | x :: xs => if x.1 < m.1 then x :: insertMeas m xs else m :: x :: xs

/-- The measurements of a port over the usable hops, in order of frequency. -/
def measOf (hops : List FixHop) (q : UPortNo) : List PortMeas :=
  (hops.flatMap fun h => (h.meas.filter fun m => m.1 == q).map fun m => (h.freq, m.2.1, m.2.2)).foldr insertMeas []

/-- A phase difference taken to the nearest half cycle either way. -/
def wrapUnits (d : Int) : Int := (d + 512) % 1024 - 512

/-- Phases unwrapped one after another from a phase before them. -/
def unwrapFrom (prev : Int) : List PortMeas → List Int
  | [] => []
  | m :: ms =>
    let u := prev + wrapUnits ((m.2.1.toNat : Int) - prev)
    u :: unwrapFrom u ms

/-- A port's path as step 1 finds it: its delay, the coarse length in mm × 2^20, and its variance in nm². -/
structure Path where
  port : UPortNo
  tau  : Int
  len  : Int
  var  : Nat
deriving DecidableEq, Repr

/-- The coarse path of a port: the least-squares slope of its unwrapped phases, which fall with frequency, and the
slope's variance with each phase variance 1/(2 SNR). All hops at one frequency give no slope: `free` is the length
then (assumption 68). -/
def coarsePath (atlas : List Word) (ill : Nat) (free : UPortNo → Int) (hops : List FixHop) (q : UPortNo) : Path :=
  let ms := measOf hops q
  let us := unwrapFrom 0 ms
  let n : Int := ms.length
  let fs := ms.map fun m => (m.1 : Int)
  let sf := fs.sum
  let su := us.sum
  let sfu := ((fs.zip us).map fun x => x.1 * x.2).sum
  let d := n * (fs.map fun f => f * f).sum - sf * sf
  let tau := atlasTau atlas ill q.val
  let num := n * sfu - sf * su
  let off := tau * 299792458 * fx / 100000000
  let spread := (ms.map fun m => (n * m.1 - sf) ^ 2 * ((10 ^ 72 / (2 * dbPow m.2.2) : Nat) : Int)).sum
  if d = 0 then ⟨q, tau, free q, 1⟩
  else ⟨q, tau, -num * lightMm * fx / (1024 * d) - off, (2276573462857380188088 * spread / (d * d)).toNat⟩

/-! ### Gauss-Newton (R130, R133) -/

/-- The determinant of a square matrix of `n` rows, by its first row. -/
def det : Nat → List (List Int) → Int
  | 0, _ => 1
  | _ + 1, [] => 1
  | n + 1, r :: rs =>
    ((List.range (n + 1)).map fun j =>
      (if j % 2 = 0 then 1 else -1) * r.getD j 0 * det n (rs.map fun row => row.eraseIdx j)).sum

/-- One linearised equation: its row, its residual and its weight. -/
structure FitRow where
  row : List Int
  res : Int
  wt  : Int
deriving DecidableEq, Repr

/-- The normal matrix of some equations in `n` unknowns. -/
def normalMat (n : Nat) (rs : List FitRow) : List (List Int) :=
  (List.range n).map fun i => (List.range n).map fun j =>
    (rs.map fun r => r.wt * r.row.getD i 0 * r.row.getD j 0).sum

/-- Their right-hand side. -/
def normalRhs (n : Nat) (rs : List FitRow) : List Int :=
  (List.range n).map fun i => (rs.map fun r => r.wt * r.row.getD i 0 * r.res).sum

/-- A step of the unknowns, × 2^20, by Cramer's rule; none where the equations do not settle it. -/
def fitStep (n : Nat) (rs : List FitRow) : Option (List Int) :=
  let a := normalMat n rs
  let b := normalRhs n rs
  let d := det n a
  if d = 0 then none
  else some ((List.range n).map fun i =>
    det n ((a.zip b).map fun x => x.1.set i x.2) * fx / d)

/-- The point and phase a fit is at; the phase is a fourth unknown in the refinement, and the height is none in two
dimensions. -/
structure FitAt where
  p   : V3
  phi : Int := 0
deriving DecidableEq, Repr

/-- The unknowns moved by a step. -/
def FitAt.move (a : FitAt) (twoD : Bool) (d : List Int) : FitAt :=
  if twoD then ⟨⟨a.p.x + d.getD 0 0, a.p.y + d.getD 1 0, a.p.z⟩, a.phi + d.getD 2 0⟩
  else ⟨⟨a.p.x + d.getD 0 0, a.p.y + d.getD 1 0, a.p.z + d.getD 2 0⟩, a.phi + d.getD 3 0⟩

/-- The coordinates a fit moves. -/
def fitDims (twoD : Bool) : Nat := if twoD then 2 else 3

/-- At most `fuel` steps; converged once a step moves no coordinate by 0.1 mm (assumption 68). -/
def gaussNewton (twoD : Bool) (n : Nat) (rows : FitAt → List FitRow) : Nat → FitAt → FitAt × Bool
  | 0, a => (a, false)
  | fuel + 1, a =>
    match fitStep n (rows a) with
    | none => (a, false)
    | some d =>
      let b := a.move twoD d
      if (d.take (fitDims twoD)).all fun v => decide (10 * (v.natAbs : Int) < fx) then (b, true)
      else gaussNewton twoD n rows fuel b

/-- The gradient of a bistatic path at a point: the unit vectors from the illuminator and from the receiver. -/
def pathGrad (twoD : Bool) (a r p : V3) : List Int :=
  let u := ((p.sub a).unit).add (p.sub r).unit
  if twoD then [u.x, u.y] else [u.x, u.y, u.z]

/-- A bistatic path at a point (R130). -/
def pathLen (a r p : V3) : Int := (p.sub a).norm + (p.sub r).norm

/-- The equations of step 2: each coarse path with the inverse of its variance. -/
def coarseRows (atlas : List Word) (ill : Nat) (twoD : Bool) (paths : List Path) (a : FitAt) : List FitRow :=
  paths.map fun q =>
    let i := atlasPoint atlas ill
    let r := atlasPoint atlas q.port.val
    ⟨pathGrad twoD i r a.p, q.len - pathLen i r a.p, 10 ^ 30 / max 1 q.var⟩

/-- The model's carrier phase of a port at a frequency without φ0, × 2^20 (R130). -/
def pathPhase (i r p : V3) (tau : Int) (f : Nat) : Int :=
  -(1024 * f * pathLen i r p / lightMm + 1024 * f * tau * fx / 100000000000)

/-- A phase residual taken to the nearest half cycle either way. -/
def wrapFx (d : Int) : Int := (d + 512 * fx) % (1024 * fx) - 512 * fx

/-- The equations of step 3: every usable carrier phase, with the inverse of its variance 1/(2 SNR). -/
def phaseRows (atlas : List Word) (ill : Nat) (twoD : Bool) (hops : List FixHop) (paths : List Path) (a : FitAt) :
    List FitRow :=
  paths.flatMap fun q =>
    let i := atlasPoint atlas ill
    let r := atlasPoint atlas q.port.val
    (measOf hops q.port).map fun m =>
      let g := (pathGrad twoD i r a.p).map fun u => -(1024 * m.1 * u / lightMm)
      ⟨g ++ [fx], wrapFx ((m.2.1.toNat : Int) * fx - a.phi - pathPhase i r a.p q.tau m.1), dbPow m.2.2 / 10 ^ 57⟩

/-- The diagonal of the inverse of a normal matrix, as a multiple num/den, for the first coordinates. -/
def covDiag (n dims : Nat) (a : List (List Int)) (num den : Int) : List Nat :=
  let d := det n a
  (List.range dims).map fun i =>
    if d = 0 then 0 else (num * det (n - 1) ((a.eraseIdx i).map fun row => row.eraseIdx i) / (den * d)).toNat

/-! ### The phase centres (R131) -/

/-- Whether points lie on one line. -/
def onLine (cs : List V3) : Bool :=
  match cs with
  | [] => true
  | c :: rest => rest.all fun a => rest.all fun b => decide ((a.sub c).cross (b.sub c) = ⟨0, 0, 0⟩)

/-- The normal of a plane through some of the points, when they are not on one line. -/
def planeNormal (cs : List V3) : V3 :=
  match cs with
  | [] => ⟨0, 0, 0⟩
  | c :: rest =>
    ((rest.flatMap fun a => rest.map fun b => (a.sub c).cross (b.sub c)).find? fun n => decide (n ≠ ⟨0, 0, 0⟩)).getD ⟨0, 0, 0⟩

/-- Whether points lie in one plane. -/
def onPlane (cs : List V3) : Bool :=
  match cs with
  | [] => true
  | c :: rest => rest.all fun a => decide ((planeNormal cs).dot (a.sub c) = 0)

/-- A scaled point mirrored in the plane through `c` with a normal. -/
def mirrorIn (n c p : V3) : V3 :=
  let k := n.dot (p.sub ⟨c.x * fx, c.y * fx, c.z * fx⟩)
  let m := max 1 (n.dot n)
  ⟨p.x - 2 * k * n.x / m, p.y - 2 * k * n.y / m, p.z - 2 * k * n.z / m⟩

/-! ### The solve -/

/-- A Survey solution (R130 to R133). -/
structure SolveResult where
  x : Int
  y : Int
  z : Int
  cxx : Nat
  cyy : Nat
  czz : Nat
  converged : Bool
  refined : Bool           -- the carrier refinement ran
  residual : Nat           -- rms carrier-phase residual, 0.1 degree
  twoD : Bool
  mirror : Bool
deriving DecidableEq, Repr

/-- A scaled coordinate to the nearest mm. -/
def toMm (v : Int) : Int := (v + fx / 2) / fx

/-- The carrier refinement runs when every coarse standard deviation is below c / (8 f) at the mean frequency of the
usable hops (R130). -/
def refines (hops : List FixHop) (paths : List Path) : Bool :=
  let sf := ((hops.map (·.freq)).sum : Nat)
  paths.all fun q => decide (q.var * (8 * sf) ^ 2 < (299792458000000000 * hops.length) ^ 2)

/-- The rms of phase residuals in 0.1°. -/
def rmsTenths (rs : List FitRow) : Nat :=
  isqrt ((rs.map fun r => (r.res.natAbs * 3600) ^ 2).sum / max 1 rs.length) / (1024 * 1048576)

/-- Steps 2 and 3 from a starting point: where the final solve ends, whether every solve converged, whether the
refinement ran, its normal matrix and its residual. -/
def solveFrom (atlas : List Word) (ill : Nat) (twoD : Bool) (hops : List FixHop) (paths : List Path) (p : V3) :
    FitAt × Bool × Bool × List Nat × Nat :=
  let n := fitDims twoD
  let (a, ok) := gaussNewton twoD n (coarseRows atlas ill twoD paths) 16 ⟨p, 0⟩
  if refines hops paths then
    let first := match phaseRows atlas ill twoD hops paths a with
      | r :: _ => r.res
      | [] => 0
    let (b, ok') := gaussNewton twoD (n + 1) (phaseRows atlas ill twoD hops paths) 16 { a with phi := first }
    let rs := phaseRows atlas ill twoD hops paths b
    (b, ok && ok', true, covDiag (n + 1) n (normalMat (n + 1) rs) (1000 * fx * fx * 1048576000000) 78956835,
      rmsTenths rs)
  else
    let rs := coarseRows atlas ill twoD paths a
    (a, ok, false, covDiag n n (normalMat n rs) (10 ^ 18 * fx * fx) 1, 0)

/-- The direction in the plane z = ZPLANE of the line the phase centres lie on. -/
def lineDir (cs : List V3) : V3 :=
  match cs with
  | [] => ⟨1, 0, 0⟩
  | c :: rest => ((rest.map fun a => (⟨(a.sub c).x, (a.sub c).y, 0⟩ : V3)).find? fun d => decide (d ≠ ⟨0, 0, 0⟩)).getD ⟨1, 0, 0⟩

/-- The start of a two-dimensional search: a point, moved off the line of the phase centres to its left when it lies
on it, where the equations settle nothing. -/
def offLine (cs : List V3) (half : Int) (p : V3) : V3 :=
  let d := lineDir cs
  let c := cs.headD ⟨0, 0, 0⟩
  if (p.x - c.x * fx) * d.y - (p.y - c.y * fx) * d.x = 0 then
    let u := d.unit
    ⟨p.x - u.y * half / fx, p.y + u.x * half / fx, p.z⟩
  else p

/-- The solve of an S.FIX (R130, R131, R133) from its usable hops and ports. The search starts on the illuminator's
boresight at half the mean coarse path (assumption 68). -/
def surveySolve (atlas : List Word) (ill : Nat) (free : UPortNo → Int) (hops : List FixHop) (ports : List UPortNo) :
    SolveResult :=
  let cs := ports.map fun q => atlasCentre atlas q.val
  let twoD := decide (ports.length < 3) || onLine cs
  let paths := ports.map (coarsePath atlas ill free hops)
  let half := max fx ((paths.map (·.len)).sum / (2 * max 1 paths.length))
  let i := atlasPoint atlas ill
  let bore := atlasBoresight atlas ill
  let ahead : V3 := ⟨i.x + bore.x * half / 2 ^ 30, i.y + bore.y * half / 2 ^ 30, i.z + bore.z * half / 2 ^ 30⟩
  let start := if twoD then offLine cs half { ahead with z := atlasZplane atlas } else ahead
  let mirror := !twoD && onPlane cs
  let r := solveFrom atlas ill twoD hops paths start
  let r := if mirror && decide ((r.1.p.sub i).dot bore ≤ 0) then
      solveFrom atlas ill twoD hops paths (mirrorIn (planeNormal cs) (cs.headD ⟨0, 0, 0⟩) r.1.p)
    else r
  let (a, ok, refined, cov, res) := r
  { x := toMm a.p.x, y := toMm a.p.y, z := toMm a.p.z
    cxx := cov.getD 0 0, cyy := cov.getD 1 0, czz := cov.getD 2 0
    converged := ok, refined := refined, residual := res, twoD := twoD, mirror := mirror }

end Sys2Proof.Machine
end

