-- ==== Sys2Proof/Machine/Fix.lean ====
section
/-!
DEFINITION. S.FIX (R126 to R133): its hops, the RN16 measurements, the solve queue, and the Waypoint.
-/

namespace Sys2Proof.Machine

/-- The progress of an operation that is an S.FIX and measures. -/
def Op.fix? (op : Op) : Option FixSt :=
  match op.eng with
  | .fix f => some f
  | _ => none

/-- K, the number of hops (R60). -/
def Op.fixHops (op : Op) : Nat := bits (op.w 5) 24 8

/-- The usable ports of the measurements (R128): ports with usable measurements on at least four usable
hops. -/
def usablePorts (us : List FixHop) : List UPortNo :=
  upAll.filter fun p => decide (4 ≤ (us.filter fun u => u.meas.any fun m => m.1 == p).length)

/-- A port mask. -/
def portMask (ps : List UPortNo) : BitVec 16 := BitVec.ofNat 16 (ps.foldl (fun a p => a + 2 ^ p.val) 0)

/-- The Waypoint of an S.FIX without a fix: quality 0 (R128, R132). -/
def noFixBody (op : Op) (f : FixSt) : List RWord :=
  [rword (op.w 4 ++ f.firstTb), rword (BitVec.ofNat 64 (min 255 f.usable.length)),
   rword (BitVec.ofNat 64 ((usablePorts f.usable).length * 256)),
   rword (portMask (usablePorts f.usable) ++ 0xFFFF#16 ++ BitVec.ofNat 8 f.ill ++ BitVec.ofNat 4 op.lo.val ++ 0#20)]

/-- The illuminator of an S.FIX (R126), as a number; 0 when none qualifies. -/
def State.illuminator (s : State) (op : Op) : Nat :=
  match s.txPorts op with
  | p :: _ => p.val
  | [] => 0

/-- An S.FIX ends without a fix (R126, R128): NO_REPLY, counted in NOFIX, with a Waypoint under
FAILITEMS. -/
def State.fixFail (s : State) (op : Op) (f : FixSt) : State :=
  let s := s.countFld SV_CNT 0 16 1
  let s := if op.failItems then s.emit op.id 0x30 0x01 (noFixBody op f) else s
  s.endOp op.id 0x01

/-- The hops are over (R128, R129): without four usable hops and two usable ports there is no fix; else the
illuminator goes into holdover, ports and LO are released, and a solve begins or waits. -/
def State.fixSolve (s : State) (op : Op) (f : FixSt) : State :=
  if f.usable.length < 4 ∨ (usablePorts f.usable).length < 2 then s.fixFail op f
  else
    let s := op.uports.foldl (fun s p => s.releaseUp op.id p) s
    let s := s.setEng op.id (.solve f)
    if s.solving.length < 4 then { s with solving := s.solving ++ [op.id] }
    else { s with solveQ := s.solveQ ++ [op.id] }

/-- The Query of an S.FIX with a target (R126, R127): session ACCSESS, Sel = SL, Q = 0. -/
def fixQuery (op : Op) (target : Bool) : AirCmd := cmdQuery op.link 3 (bits op.bscCfg 4 2) target 0

/-- The hop in progress moves to a stage. -/
def State.fixStage (s : State) (o : OpId) (f : FixSt) : State := s.setEng o (.fix f)

/-- The move to the hop at `op.pos` (R118, R127): a step of at most 1 MHz with the carrier on slews; any
other starts the carrier on the new channel, after a listen where the profile requires one. -/
def State.fixMove (s : State) (o : OpId) : State :=
  match s.op? o with
  | none => s
  | some op =>
    match op.fix? with
    | none => s
    | some f =>
      let new := s.opFreq op
      let near := decide (new ≤ op.freq + 1000000 ∧ op.freq ≤ new + 1000000)
      let slew := near && (s.carried op op.freq) && !f.paused && (s.lo op.lo).at op.freq
      if slew then
        let s := (s.fixStage o { f with stage := .idle, carrierHop := false }).loSlew op.lo new
        let s := (s.txPorts op).foldl (fun s p => s.modUp p fun x => { x with upTick := s.ticks }) s
        s.modOp o fun x => { x with freq := new, dwellEnd := some (s.ticks + s.dwellTicks) }
      else
        let s := (s.beamOff op).fixStage o { f with stage := .idle, paused := false, carrierHop := true }
        s.startBeam o

/-- The next hop, or the solve (R127 to R129); after a cancellation the S.FIX ends with the hop in progress
(R74), and at LIMIT it stops. A held item holds the next hop (R187). -/
def State.fixNext (s : State) (o : OpId) : State :=
  match s.op? o with
  | none => s
  | some op =>
    match op.fix? with
    | none => s
    | some f =>
      let s := s.modOp o fun x => { x with reply := false, winFrom := none, latched := none, pos := op.pos + 1 }
      let s := op.uports.foldl (fun s p => s.latchBeam p) s
      if op.cancel then s.endOp o 0x09
      else if op.fixHops ≤ op.pos + 1 then s.fixSolve op f
      else
        let (ok, s) := s.regionTest o true
        if !ok then s.endOp o 0x0E else s.fixMove o

/-- An S.FIX pauses for its meter with the carrier off, and resumes with a Query of the hop it is at (R120, R127,
R200). -/
def State.fixPause (s : State) (op : Op) (f : FixSt) : State :=
  (((s.beamOff op).countDeferred op.id.thread).fixStage op.id { f with stage := .idle, paused := true }).modOp op.id
    fun x => { x with settled := false }

/-- A Query of a hop is sent, or the rest of the hop is abandoned (R127, R354); the meter, which pauses the S.FIX
(R120), and the profile (R315) are tested first. -/
def State.fixAsk (s : State) (o : OpId) (f : FixSt) (st : FixStage) (target : Bool) (start : Nat) : State :=
  let (ok, s) := s.regionTest o false
  if !ok then s.endOp o 0x0E
  else
    match s.op? o with
    | none => s
    | some op =>
      let c := fixQuery op target
      if s.colour o.thread = 2 then s.fixPause op f
      else if op.fits c (.immediate 16) start then
        (s.sendCmd o c (.immediate 16) start).fixStage o { f with stage := st, target := target }
      else s.fixNext o

/-- The first command of a hop whose carrier is up and settled (R127): hop 0 sends the Select, T4, and a
Query for target A; a relocked hop, or one after a pause, a Query with the target that last drew a reply. -/
def State.fixStart (s : State) (o : OpId) (start : Nat) : State :=
  match s.op? o with
  | none => s
  | some op =>
    match op.fix? with
    | none => s
    | some f =>
      if op.cancel then s.endOp o 0x09
      else if op.pos = 0 then
        match op.entry with
        | none => s
        | some t =>
          let c := reselect t
          if op.fits c .none start then
            let s := s.sendCmd o c .none start
            match s.op? o with
            | none => s
            | some op => s.fixAsk o f .queryA false (s.afterSilence op)
          else s.fixNext o
      else s.fixAsk o f .query (f.drew.getD f.target) start

/-- A slewed hop begins when its step ends (R127): QueryAdjust unchanged. -/
def State.fixSlewed (s : State) (o : OpId) : State :=
  match s.op? o with
  | none => s
  | some op =>
    match op.fix? with
    | none => s
    | some f =>
      if f.carrierHop || f.paused || decide (f.stage ≠ .idle) then s
      else
        let c := cmdQueryAdjust (bits op.bscCfg 4 2) 0
        if op.fits c (.immediate 16) s.ticks then
          (s.sendCmd o c (.immediate 16) s.ticks).fixStage o { f with stage := .adjust }
        else s.fixNext o

/-- The usable measurements of the hop in progress (R128): the ports of PORTS whose preamble SNR reaches
SV_CFG.MINSNR, 3 to 40 dB. -/
def Op.fixMeas (op : Op) : List (UPortNo × BitVec 10 × Int) :=
  op.rxs.filter fun m => decide (8 * ((max 3 (min 40 (bits op.cfg 0 8)) : Nat) : Int) ≤ m.2.2)

/-- An RN16 decoded on a hop (R127, R128): the hop's measurement; a hop usable on at least two ports is
noted. -/
def State.fixRn (s : State) (op : Op) (f : FixSt) : State :=
  let ms := op.fixMeas
  let good := decide (2 ≤ ms.length)
  let f := { f with
    drew := some f.target
    firstTb := if good && f.usable.isEmpty then op.preambleTb else f.firstTb
    usable := if good then f.usable ++ [⟨op.pos, op.freq, ms⟩] else f.usable }
  (s.fixStage op.id f).fixNext op.id

/-- No RN16 in a window of a hop (R127): hop 0 tries target B after target A; a slewed hop sends one Query
with the last target and then one with the other; a collided hop is not usable (R128). -/
def State.fixSilence (s : State) (op : Op) (f : FixSt) (start : Nat) : State :=
  let o := op.id
  let s := s.modOp o fun x => { x with reply := false, winFrom := none, latched := none }
  if op.cancel then s.endOp o 0x09
  else
    match f.stage with
    | .queryA => s.fixAsk o f .queryB true start
    | .adjust => s.fixAsk o f .retryLast f.target start
    | .retryLast => s.fixAsk o f .retryOther (!f.target) start
    | _ => s.fixNext o

/-! ### The Waypoint (R131 to R133) -/

/-- A coordinate saturated at ±32,767. -/
def satCoord (x : Int) : Int := max (-32767) (min 32767 x)

/-- The quality of a fix (R133): 0 when it did not converge, saturated, or left a residual above 30°; else
255 − 40 log2(σ / 10) to the nearest, from 1 to 255, with σ² the mean of the variances in mm²: the largest q
for which σ² / 100 raised to the 40th power is at most 2^(511 − 2q) (exact). -/
def fixQuality (r : SolveResult) : Nat :=
  let sat := decide (satCoord r.x ≠ r.x ∨ satCoord r.y ≠ r.y ∨ satCoord r.z ≠ r.z)
  if !r.converged || sat || (r.refined && decide (300 < r.residual)) then 0
  else
    let t := r.cxx + r.cyy + r.czz
    max 1 ((List.range 256).filter fun q => decide (0 < q ∧ t ^ 40 ≤ 300 ^ 40 * 2 ^ (511 - 2 * q))).length

/-- A covariance figure in 16 mm² (R132), rounded down (DESIGN CHOICE: assumption 68). -/
def covField (c : Nat) : BitVec 16 := BitVec.ofNat 16 (min 0xFFFF (c / 16))

/-- The Waypoint's words (R132). -/
def wayBody (op : Op) (f : FixSt) (r : SolveResult) (poison : Bool) : List RWord :=
  let sat := decide (satCoord r.x ≠ r.x ∨ satCoord r.y ≠ r.y ∨ satCoord r.z ≠ r.z)
  let ps := usablePorts f.usable
  [rword (op.w 4 ++ f.firstTb),
   pword poison (BitVec.ofInt 16 (satCoord r.x) ++ BitVec.ofInt 16 (satCoord r.y) ++
     BitVec.ofInt 16 (satCoord r.z) ++ BitVec.ofNat 8 (fixQuality r) ++ BitVec.ofNat 8 f.usable.length),
   pword poison (covField r.cxx ++ covField r.cyy ++ covField r.czz ++ BitVec.ofNat 8 ps.length ++ 0#5 ++
     BitVec.ofBool sat ++ BitVec.ofBool r.mirror ++ BitVec.ofBool r.twoD),
   pword poison (portMask ps ++ (if r.refined then BitVec.ofNat 16 (min 0xFFFF r.residual) else 0xFFFF#16) ++
     BitVec.ofNat 8 f.ill ++ BitVec.ofNat 4 op.lo.val ++ 0#20)]

/-- The solution of an S.FIX's measurements by the Atlas it was dispatched with (R122, R130). -/
def State.solution (s : State) (op : Op) (f : FixSt) : SolveResult :=
  surveySolve op.atlas f.ill (fun q => signed 32 (Config.freeWord (s.freeCtr + q.val)).toNat * fx / 65536) f.usable
    (usablePorts f.usable)

/-- SOLVE_COMPLETE (R129, R132, R133): the solve in progress ends, its Waypoint is written, FIXES or NOFIX is
counted, and the S.FIX completes; `poison` marks a result left unrecoverable (R324). -/
def execSolveComplete (o : OpId) (poison : Bool) (s : State) : Out :=
  .next (match s.running o with
    | none => s
    | some op =>
      match op.eng with
      | .solve f =>
        if o ∈ s.solving then
          let st := if poison then 0x0B else 0x00
          let r := s.solution op f
          let s := { s with freeCtr := s.freeCtr + 16 }
          let s := s.emit o 0x30 st (wayBody op f r poison)
          let s := if 0 < fixQuality r then s.countFld SV_CNT 16 16 1 else s.countFld SV_CNT 0 16 1
          (s.leaveSolve o).endOp o st
        else s
      | _ => s)

/-- S_FIX (R126): an Active S.FIX begins. -/
def execSFix (o : OpId) (s : State) : Out :=
  .next (match s.begins o 3 1 with
    | none => s
    | some op =>
      let f : FixSt := { ill := s.illuminator op }
      let s := s.beginOp o (.fix f)
      if op.settled then s.fixStart o (s.ticks + 174) else s)

end Sys2Proof.Machine
end

