-- ==== Sys2Proof/Machine/Uhf.lean ====
section
/-!
DEFINITION. The commands of the backscatter engine: U_SELECT to U_RAW, and the events of a beam, its replies,
its dwells and its meter (R70, R79, R100 to R120).
-/

namespace Sys2Proof.Machine

/-- The 0.80 µs from dispatch to the first command of a beam whose carrier is already up, in ticks (R79). -/
def firstDelay : Nat := 174

/-- The first command of an operation whose beam is up and settled. -/
def State.uFirst (s : State) (o : OpId) (start : Nat) : State :=
  match s.op? o with
  | none => s
  | some op =>
    match op.eng with
    | .select => s.selectSend o start
    | .round _ => s.roundStart o start
    | .access _ => s.accBegin o start
    | .raw => s.rawSend o start
    | .fix _ => s.fixStart o start
    | _ => s

/-- A begun operation whose beam, taken to its channel, already stands there, as a beam that transmits nowhere does,
goes on at once (R79). -/
def State.beamGo (s : State) (o : OpId) : State :=
  match s.op? o with
  | none => s
  | some op => if op.settled && op.started then (s.beamSettled o).uFirst o (s.ticks + firstDelay) else s

/-- An operation begins, and sends its first command when its beam is already settled. -/
def State.uBegin (s : State) (op : Op) (e : Engine) : State :=
  let s := s.beginOp op.id e
  if op.settled then s.uFirst op.id (s.ticks + firstDelay) else s

/-- U_SELECT (R106). -/
def execUSelect (o : OpId) (s : State) : Out :=
  .next (match s.begins o 0 1 with
    | none => s
    | some op => s.uBegin op .select)

/-- P of the most recent truncating Select sent on an operation's ports (R106). -/
def State.truncOf (s : State) (op : Op) : Option Nat :=
  (op.uports.foldl (fun (a : Option (Nat × Nat)) p =>
    match a, (s.up p).truncP with
    | none, x => x
    | some x, none => some x
    | some x, some y => if x.1 < y.1 then some y else some x) none).map (·.2)

/-- U_ROUND (R103). -/
def execURound (o : OpId) (s : State) : Out :=
  .next (match s.begins o 0 2 with
    | none => s
    | some op => s.uBegin op (.round { trunc := s.truncOf op }))

/-- U_ACCESS (R111). -/
def execUAccess (o : OpId) (s : State) : Out :=
  .next (match s.begins o 0 3 with
    | none => s
    | some op => s.uBegin op (.access {}))

/-- U_RAW (R115). -/
def execURaw (o : OpId) (s : State) : Out :=
  .next (match s.begins o 0 4 with
    | none => s
    | some op => s.uBegin op .raw)

/-! ### The beam -/

/-- Whether an operation's beam is off for its meter (R120). -/
def Op.metered (op : Op) : Bool :=
  match op.eng with
  | .round r => r.st == .metered
  | .fix f => f.paused
  | _ => false

/-- CARRIER_SETTLED (R79, R103, R127): the carrier is up on the operation's LO and frequency and its settle
is over, and the first command begins. -/
def execCarrierSettled (o : OpId) (dt : Nat) (s : State) : Out :=
  .next (match s.op? o with
    | none => s
    | some op =>
      let s := s.advance dt
      if op.active && op.isBeam && op.holds && op.ending.isNone && !op.settled && !op.lbtWait && !op.metered &&
          (s.lo op.lo).at op.freq then
        let s := s.beamSettled o
        if op.started then s.uFirst o s.ticks else s
      else s)

/-- Whether a frequency keeps the 2 MHz separation of R121 from every other Active interrogation now. -/
def State.separatedNow (s : State) (op : Op) (f : Nat) : Bool :=
  s.ops.all fun x =>
    x.id == op.id || !x.holds || !x.isBeam ||
      (x.lo != op.lo && decide (f + 2000000 ≤ x.freq ∨ x.freq + 2000000 ≤ f))

/-- A hopping operation moves on from a busy position (R119): positions that break the separation count as
busy without listening; when every position is busy it holds no carrier until the next dwell boundary. -/
def State.moveOn (s : State) (o : OpId) : Nat → State
  | 0 => s.modOp o fun x => { x with lbtWait := true, moved := max x.moved s.hopLen }
  | fuel + 1 =>
    match s.op? o with
    | none => s
    | some op =>
      let op' := { op with moved := op.moved + 1 }
      let s := s.modOp o fun x => { x with moved := x.moved + 1, lbtWait := true }
      if s.hopLen ≤ op'.moved then s
      else if s.separatedNow op' (s.opFreq op') then (s.startBeam o).beamGo o
      else s.moveOn o fuel

/-- Whether the listen of a port whose carrier is to start finds the channel busy (R119, R312): a level, in 1/16 dBm
by port, at the profile's threshold or above. -/
def State.lbtBusy (s : State) (op : Op) (levels : List Int) : Bool :=
  (s.txPorts op).any fun p =>
    (s.up p).carrier != some (op.lo, op.freq) && decide (signed 16 (bits (s.regionW 2) 0 16) ≤ levels.getD p.val (-32768))

/-- LBT_LISTEN_END (R119): a free channel lets the carrier start; a busy one moves a hopping operation on,
skips the hop of an S.FIX (R127), and ends any other operation with REGION. -/
def execLbtListenEnd (o : OpId) (levels : List Int) (s : State) : Out :=
  .next (match s.op? o with
    | none => s
    | some op =>
      let busy := s.lbtBusy op levels
      let position := !op.hop || decide (op.moved < s.hopLen)
      if op.active && op.ending.isNone && op.lbtWait && position && (s.lo op.lo).at op.freq then
        if !busy then s.modOp o fun x => { x with lbtWait := false }
        else if op.hop then s.moveOn o s.hopLen
        else if op.fix?.isSome then (s.modOp o fun x => { x with lbtWait := false }).fixNext o
        else s.endOp o 0x0E
      else s)

/-- DWELL_BOUNDARY (R103, R117, R118): the dwell in force of a hopping operation has ended. A U.ROUND hops,
or, paused by its meter, moves to the next position, or, while it has an item held, keeps its carrier and hops once
that is written (R187); any other operation whose carrier is not up yet starts it on the new channel. -/
def execDwellBoundary (o : OpId) (dt : Nat) (s : State) : Out :=
  .next (match s.op? o with
    | none => s
    | some op =>
      let s := s.advance dt
      let over_ := match op.dwellEnd with
        | some d => decide (d ≤ s.ticks)
        | none => false
      if op.active && op.ending.isNone && op.hop && over_ then
        let n := max 1 s.hopLen
        let b := s.nextBoundary
        let s := s.modOp o fun x => { x with
          pos := (x.pos + 1) % n, moved := 0, dwellEnd := some b, settled := x.settled && x.round?.isNone }
        let (ok, s) := s.regionTest o true
        match s.op? o with
        | none => s
        | some op =>
          if !ok then s.endOp o 0x0E
          else
            match op.eng with
            | .round r =>
              if r.st = .metered then s
              else if !op.held.isEmpty then s.modOp o fun x => { x with hopDue := true }
              else (s.roundHop op r).beamGo o
            | _ => if op.settled then s
                else ((op.uports.foldl (fun s p => s.latchBeam p) s).startBeam o).beamGo o
      else s)

/-- METER_RESUME (R103, R120, R127): a paused operation finds its meter no longer red, and its carrier ramps
up again. -/
def execMeterResume (o : OpId) (s : State) : Out :=
  .next (match s.running o with
    | none => s
    | some op =>
      if op.metered && s.colour o.thread != 2 then
        match op.eng with
        | .round r => ((s.setEng o (.round { r with st := .start })).startBeam o).beamGo o
        | .fix f => ((s.setEng o (.fix { f with paused := false, carrierHop := true })).startBeam o).beamGo o
        | _ => s
      else s)

/-! ### Replies -/

/-- The receive correction in force of a port: RXPH, or its spare's (R87, R95). -/
def State.rxPhase (s : State) (p : UPortNo) : BitVec 10 :=
  if (s.up p).spare then (Config.sparePhase p.val).extractLsb' 0 10 else (s.reg (UP_PHCORR p)).extractLsb' 0 10

/-- What each port of a beam measures, with its receive correction applied (R87, R100); the transmit correction and
the beam's phase are in the wave itself (R78, R125). -/
def State.rxOf (s : State) (op : Op) (d : PreambleData) : List (UPortNo × BitVec 10 × Int) :=
  op.uports.map fun p =>
    let x := d.rx.getD p.val {}
    (p, x.phase + s.rxPhase p, x.snr)

/-- Whether a preamble is detected (R99, R107): its frequency accepted, and the SNRs of the beam's ports, which
maximum-ratio combining adds (R109), at 3 dB or more together. -/
def Op.detects (op : Op) (d : PreambleData) : Bool :=
  linkAccepts op.link d.freq &&
    decide (dbPow 24 ≤ op.uports.foldl (fun a p => a + dbPow (d.rx.getD p.val {}).snr) 0)

/-- The combined RSSI (R109): the sum of the reply power over the receiving ports, or over every port of the beam
where no port receives on its own; to the nearest 1/16 dBm (assumption 69). -/
def Op.combined (op : Op) (d : PreambleData) : BitVec 16 :=
  let own := op.uports.filter fun p => decide (24 ≤ (d.rx.getD p.val {}).snr)
  let ps := if own.isEmpty then op.uports else own
  BitVec.ofInt 16 (dbOf16 (ps.foldl (fun a p => a + dbPow16 (d.rx.getD p.val {}).power) 0))

/-- REPLY_PREAMBLE_DETECTED (R70, R99, R100, R109): a reply that is detected and whose on-air start estimate lies in
the window is in progress; its RSSI and phases, its start and the TB at the preamble's end, 0.50 µs before, are
latched. -/
def execReplyPreambleDetected (o : OpId) (dt : Nat) (d : PreambleData) (s : State) : Out :=
  .next (match s.running o with
    | none => s
    | some op =>
      let s := s.advance dt
      match op.winFrom with
      | some w =>
        let back := detectTicks op.link d.freq
        if !op.reply && op.detects d && decide (w + back ≤ s.ticks ∧ s.ticks < op.winTo + back) then
          s.modOp o fun x => { x with
            reply := true, gap := false, winFrom := none
            latched := some ⟨s.tb - 108, s.tb - BitVec.ofNat 64 back, d.freq, op.combined d, s.rxOf op d⟩ }
        else s
      | none => s)

/-- An operation awaits an RN16. -/
def Op.rnWanted (op : Op) : Bool :=
  match op.eng with
  | .round r => r.st == .waitRN
  | .access a => a.step == .queryA || a.step == .queryB
  | .fix _ => true
  | _ => false

/-- The ports of a beam that see energy 6 dB or more above their noise (R107), from levels in 1/8 dB by port. -/
def Op.energyPorts (op : Op) (energy : List Int) : BitVec 16 :=
  BitVec.ofNat 16 ((op.uports.filter fun p => decide (48 ≤ energy.getD p.val 0)).foldl (fun a p => a + 2 ^ p.val) 0)

/-- A reply window passes without a reply (R101, R103, R107). -/
def State.silence (s : State) (op : Op) : State :=
  match op.eng with
  | .round r => s.roundSilence op r
  | .access a => s.accSilence op a (s.afterSilence op)
  | .raw => s.rawSilence op
  | .fix f => s.fixSilence op f (s.afterSilence op)
  | _ => s

/-- NO_REPLY_DECISION (R101, R103, R107): no reply was detected in the window, and time passes to the decision; an
RN16 window that held energy is left to its collision decision. -/
def execNoReplyDecision (o : OpId) (energy : List Int) (s : State) : Out :=
  .next (match s.running o with
    | none => s
    | some op =>
      if op.winFrom.isSome && !op.reply && !(op.rnWanted && op.energyPorts energy != 0) then
        (s.advanceTo (op.winTo + decisionTicks op.link)).silence op
      else s)

/-- COLLISION_DECISION (R107): an RN16 window without a detected reply holds energy on a port of the beam, from `onset`
ticks on, and time passes to the decision. -/
def execCollisionDecision (o : OpId) (onset : Nat) (energy : List Int) (s : State) : Out :=
  .next (match s.running o with
    | none => s
    | some op =>
      match op.winFrom with
      | some w =>
        if !op.reply && op.rnWanted && op.energyPorts energy != 0 &&
            decide (w ≤ s.ticks + onset ∧ s.ticks + onset < op.winTo) then
          let est : Word := s.tbLo + BitVec.ofNat 32 onset
          let s := s.advance (onset + collisionTicks op.link)
          match op.eng with
          | .round _ => s.roundCollision op est (op.energyPorts energy)
          | .access a => s.accSilence op a (s.afterReply op 108)
          | .fix f => s.fixSilence op f (s.afterReply op 108)
          | _ => s
        else s
      | none => s)

/-- A reply whose link frequency drifted by more than 2.5 % of its starting value is not detected (R99). -/
def Op.drifted (op : Op) (r : ReplyData) : Bool :=
  match op.latched with
  | some l => decide (l.freq < 40 * r.drift)
  | none => false

/-- REPLY_END (R99, R100, R103, R111 to R115, R127): the reply in progress ends, and its verdict drives the next
command or the completion. A reply that spans a gap left by a residue mismatch fails its CRC, or is a collided RN16
(R324). -/
def execReplyEnd (o : OpId) (dt : Nat) (r : ReplyData) (s : State) : Out :=
  .next (match s.running o with
    | none => s
    | some op =>
      let s := s.advance dt
      if op.reply then
        if op.drifted r then (s.advanceTo (op.winTo + decisionTicks op.link)).silence op
        else match op.eng with
        | .round q => s.roundReply op q r
        | .access a => s.accReply op a r
        | .raw => s.rawReply op r
        | .fix f =>
          if op.rnDecoded r then s.fixRn op f
          else
            let s := s.toCollision op op.replyTb
            s.fixSilence op f (s.afterReply op 108)
        | _ => s
      else s)

/-- REPLY_CAP (R74, R116): 1,640 µs after a cancellation the reply in progress is abandoned with no item; a
Write, BlockWrite, Lock or Kill already sent keeps its own window. -/
def execReplyCap (o : OpId) (s : State) : Out :=
  .next (match s.running o with
    | none => s
    | some op =>
      let sent := match op.eng with
        | .access a => a.sent && decide (2 ≤ op.accCmd ∧ op.accCmd ≤ 5)
        | _ => false
      if op.cancel && op.reply && !sent then s.endOp o 0x09 else s)

/-! ### Held items -/

/-- HELD_ITEM_WRITTEN (R66, R187): the ring takes words of an item held for it; once it has all, an
operation that has ended completes, and a U.ROUND goes on, with a hop where its dwell ended meanwhile. -/
def execHeldItemWritten (o : OpId) (s : State) : Out :=
  .next (match s.op? o with
    | none => s
    | some op =>
      if op.held.isEmpty then s
      else
        let (s, rest) := s.drainItem op.egress o op.held
        let s := s.modOp o fun x => { x with held := rest }
        match s.op? o with
        | none => s
        | some op =>
          if !op.held.isEmpty then s
          else
            match op.ending with
            | some st => s.finishOp op st.toNat
            | none =>
              match op.eng with
              | .round r =>
                if op.hopDue then ((s.modOp o fun x => { x with hopDue := false }).roundHop op r).beamGo o
                else if r.st = .open_ then s.roundOpen o s.ticks
                else if r.st = .next then s.roundNext o s.ticks else s
              | .hactivate a => if op.settled && op.winFrom.isNone then s.actGo o a else s
              | _ => s)

end Sys2Proof.Machine
end

