-- ==== Sys2Proof/Machine/Sched.lean ====
section
/-!
DEFINITION. The commands of the rings and of the scheduler (R182 to R202): enabling, disabling and
flushing a ring, the egress scheduler and its shapers, deficits, meters and latency statistics.
-/

namespace Sys2Proof.Machine

/-! ### Rings -/

/-- Whether a waiting instruction is a PUSH or POP on ring `n`. -/
def waitsOnRing (n : RingNo) (ins : Option Instr) : Bool :=
  match ins with
  | some (.push _ f) => ringField f.fn == n
  | some (.pop _ f) => ringField f.fn == n
  | _ => false

/-- Every PUSH or POP that waits on ring `n` traps RING (R192). -/
def State.trapRingWaits (s : State) (n : RingNo) : State :=
  s.forThreads fun s t =>
    let x := s.th t
    if x.st = .wait ∧ waitsOnRing n x.waiting then s.takeTrap t 0x09 0 x.pc none else s

/-- The air-engine items that stand incomplete on a ring are discarded with it: their words count for nothing in
WORDS (R38, R192). -/
def State.uncountParts (s : State) (n : RingNo) : State :=
  { s with ops := s.ops.map fun op => if !op.mem && op.egress == n then { op with part := 0 } else op }

/-- A write of RG_CFGn (R182, R192). -/
def State.cfgRing (s : State) (n : RingNo) (v : Word) : State :=
  let was := s.ringOn n
  let s := s.writeRingCfg n v
  if was && !bit v 31 then (s.uncountParts n).trapRingWaits n else s

/-- RING_ENABLE: a write of RG_CFGn with EN = 1. -/
def execRingEnable (n : RingNo) (v : Word) (s : State) : Out := .next (s.cfgRing n (v ||| 0x80000000))

/-- RING_DISABLE: a write of RG_CFGn with EN = 0. -/
def execRingDisable (n : RingNo) (v : Word) (s : State) : Out := .next (s.cfgRing n (v &&& 0x7FFFFFFF))

/-- A write of RG_CTRLn (R191). -/
def State.writeRingCtrl (s : State) (n : RingNo) (v : Word) : State := if bit v 0 then s.flushRing n else s

/-- FLUSH: a write of RG_CTRLn.FLUSH. -/
def execFlush (n : RingNo) (v : Word) (s : State) : Out := .next (s.writeRingCtrl n (v ||| 1))

/-- RING_POINTER_RESET (R190): the ring is emptied with orphan drop, PTRRST is set, and RINGPTR goes to
the FAULT block. -/
def execRingPointerReset (n : RingNo) (s : State) : Out :=
  .next (((s.discardRing n).setFlag (RG_FLAGS n) 5).fault 8 n.val 0)

/-! ### Egress scheduler (R195, R196) -/

/-- The egress rings E0 to E15 by their numbers of R41. -/
def egressRing (k : Fin 16) : RingNo := ⟨16 + k.val, by omega⟩

/-- The number k of ring Ek; 0 for an ingress ring. -/
def RingNo.egr (n : RingNo) : Fin 16 := ⟨(n.val - 16) % 16, by omega⟩

/-- SC_SHRATEn.SHEN. -/
def State.shaped (s : State) (n : RingNo) : Bool := 16 ≤ n.val && bit (s.reg (SC_SHRATE (n.val - 16))) 31

/-- The shaper of a ring permits an item: it is released, or its level is 0 or more (R196). -/
def State.shaperOk (s : State) (n : RingNo) : Bool := !s.shaped n || decide (0 ≤ s.shLevels[RingNo.egr n])

/-- Whether the egress scheduler serves a ring: it is in service with consumer 0x42. -/
def State.egServed (s : State) (n : RingNo) : Bool := s.ringOn n && s.ringCons n == 0x42

/-- A ring is ready (R195): its head item is complete or the ring is full, and its shaper permits. -/
def State.egReady (s : State) (n : RingNo) : Bool :=
  s.egServed n && s.shaperOk n &&
    ((headItem (s.ring n).words).isSome || decide ((s.ring n).words.length = s.ringCap n))

/-- length(head(r)) of R195: the words of a complete item, or the words present. -/
def State.egLength (s : State) (n : RingNo) : Nat :=
  match headItem (s.ring n).words with
  | some ws => ws.length
  | none => (s.ring n).words.length

/-- The words the transmit queue holds. -/
def txqCap : Nat := 2048

/-- One word taken from a ring into the transmit queue: its shaper, when in force, pays 8 bytes (R196);
a word before the item's E word that the deficit has not paid for is subtracted from it (R195). -/
def State.egTake (s : State) (n : RingNo) (w : RWord) : State :=
  let s := if s.shaped n then
      { s with shLevels := vset s.shLevels (RingNo.egr n) (s.shLevels[RingNo.egr n] - 8000000) }
    else s
  let s := if 20 ≤ n.val ∧ s.hsp.sendLeft = 0 ∧ !w.e then s.modRing n fun r => { r with deficit := r.deficit - 1 } else s
  { s with hsp.sendLeft := s.hsp.sendLeft - 1, hsp.txq := s.hsp.txq ++ [w] }

/-- The words of the chosen item moved into the transmit queue as it has room, up to the item's end. `bad` says,
word by word, which of them fail their parity check (R184). -/
def State.egMove (s : State) (n : RingNo) (bad : List Bool) : Nat → State
  | 0 => s
  | k + 1 =>
    if txqCap ≤ s.hsp.txq.length then s
    else match s.ringTake n (bad.headD false) with
      | none => s
      | some (w, s) =>
        let s := s.egTake n w
        if s.itemOver n w then { s with hsp.sending := none, hsp.sendLeft := 0 } else s.egMove n bad.tail k

/-- send(head(r)) of R195. -/
def State.egSend (s : State) (n : RingNo) (bad : List Bool) : State :=
  { s with hsp.sending := some n, hsp.sendLeft := s.egLength n }.egMove n bad txqCap

/-- QUANTUM of a ring; 0 acts as 1. -/
def State.quantum (s : State) (n : RingNo) : Int := max 1 (s.fld (SC_EGR (n.val - 16)) 16 16)

/-- The ring of DRR position `c`: E4 for 0. -/
def drrRing (c : Nat) : RingNo := ⟨20 + c % 12, by omega⟩

/-- One rotation of deficit round robin (R195), from the cursor, over the rings left. -/
def State.egRotate (s : State) (c : Nat) (bad : List Bool) : Nat → State
  | 0 => s
  | k + 1 =>
    let n := drrRing c
    if (s.ring n).words.isEmpty then (s.modRing n fun r => { r with deficit := 0 }).egRotate (c + 1) bad k
    else if !s.egReady n then s.egRotate (c + 1) bad k
    else
      let s := if (s.ring n).visited then s
        else s.modRing n fun r => { r with deficit := r.deficit + s.quantum n, visited := true }
      let len := s.egLength n
      if (len : Int) ≤ (s.ring n).deficit then
        ({ s.modRing n fun r => { r with deficit := r.deficit - len } with hsp.cursor := c % 12 }).egSend n bad
      else
        ({ s.modRing n fun r => { r with visited := false } with hsp.cursor := (c + 1) % 12 }).egRotate (c + 1) bad k

/-- One decision of R195, taken when no item is in transfer and the queue has room. -/
def State.egDecide (s : State) (bad : List Bool) : State :=
  match ([16, 17, 18, 19] : List RingNo).find? fun n => s.egReady n with
  | some n => s.egSend n bad
  | none => s.egRotate s.hsp.cursor bad 12

/-- EGRESS_DECISION: the item in transfer goes on, or, when none is, the next is chosen. -/
def execEgressDecision (bad : List Bool) (s : State) : Out :=
  .next (if txqCap ≤ s.hsp.txq.length then s
  else match s.hsp.sending with
    | none => s.egDecide bad
    | some n =>
      if s.itemGone n then { s with hsp.sending := none, hsp.sendLeft := 0 }.egDecide bad
      else s.egMove n bad txqCap)

/-- SHAPER_REFILL (R196): each shaper in force gains RATE for 1 µs, up to BURST; RATE = 0 freezes it. -/
def execShaperRefill (s : State) : Out :=
  .next { s with
    shLevels := Vector.ofFn fun k =>
      let lv := s.shLevels[k]
      let rate := s.fld (SC_SHRATE k) 0 24
      if bit (s.reg (SC_SHRATE k)) 31 && rate != 0
      then min ((s.fld (SC_SHBURST k) 0 24 : Int) * 1000000) (lv + rate) else lv }

/-! ### Deficits (R197, R198) -/

/-- The air class of a thread. -/
def State.airClass (s : State) (t : Tid) : Nat := s.fld (SC_THCLASS (t.val / 8)) (4 * (t.val % 8)) 4

/-- The weight of a weighted class; 0 acts as 1. -/
def State.airWeight (s : State) (c : Nat) : Nat := max 1 (s.fld (SC_AWEIGHT ((c - 4) / 4)) (8 * ((c - 4) % 4)) 8)

/-- A thread with a Pending or Active air operation is backlogged (R198). -/
def State.backlogged (s : State) (t : Tid) : Bool := s.ops.any fun op => op.id.thread == t

/-- CAP in millionths of a µs. -/
def State.defCap (s : State) : Int := (s.fld SC_AIRCFG 16 16 : Int) * 100 * 1000000

/-- PERIOD of SC_AIRCFG, outside its range as the nearer limit. -/
def State.airPeriod (s : State) : Nat := max 100 (min 10000 (s.fld SC_AIRCFG 0 16))

/-- The backlogged threads of a class. -/
def State.backlogOf (s : State) (c : Nat) : List Tid :=
  (List.finRange 32).filter fun t => s.backlogged t && s.airClass t == c

/-- The weights of the weighted classes with a backlogged thread, summed. -/
def State.weightSum (s : State) : Nat :=
  (((List.range 12).map (· + 4)).filter fun c => !(s.backlogOf c).isEmpty).foldl (fun a c => a + s.airWeight c) 0

/-- One replenishment of the deficits (R198). -/
def State.replenish (s : State) : State :=
  { s with
    deficits := Vector.ofFn fun (t : Tid) =>
      let c := s.airClass t
      let d := s.deficits[t]
      if 4 ≤ c && s.backlogged t then
        min s.defCap (d + (s.airPeriod * 1000000 * s.airWeight c / (s.weightSum * (s.backlogOf c).length) : Nat))
      else d }

/-- A thread's air-time meter replaced. -/
def State.setMeter (s : State) (t : Tid) (m : Meter) : State := { s with meters := vset s.meters t m }

/-- An ingress meter replaced. -/
def State.setIMeter (s : State) (i : Fin 16) (m : Meter) : State := { s with imeters := vset s.imeters i m }

/-- One charged time of `n` µs, with no refill in it (R198, R199): green µs take 1 from Tc and Tp, the
others 1 from Tp, which may go negative; a weighted class pays from its deficit. -/
def State.charge (s : State) (t : Tid) (n : Nat) : State :=
  let m := s.meters[t]
  let green : Nat := min n (m.tc / 1000000).toNat
  let s := if bit (s.reg (SC_AMCTL t)) 31 then
      s.setMeter t { m with tc := m.tc - green * 1000000, tp := m.tp - n * 1000000 }
    else s
  if 4 ≤ s.airClass t then
    { s with deficits := vset s.deficits t (max (-s.defCap) (s.deficits[t] - n * 1000000)) }
  else s

/-! ### Meters (R199, R201) -/

/-- One µs of refill: Tc at CIR and Tp at PIR, capped at CBS and PBS (R199). -/
def State.meterRefill (s : State) (t : Tid) : State :=
  if bit (s.reg (SC_AMCTL t)) 31 then
    let m := s.meters[t]
    let rate := s.reg (SC_AMRATE t)
    let burst := s.reg (SC_AMBURST t)
    s.setMeter t { m with
      tc := min ((bits burst 0 16 : Int) * 10000000) (m.tc + (bits rate 0 16 : Int) * 20)
      tp := min ((bits burst 16 16 : Int) * 10000000) (m.tp + (bits rate 16 16 : Int) * 20) }
  else s

/-- The carriers of a beam ramp up or settle: its LO is there, and no listen and no meter pause holds it back
(R79). -/
def State.rising (s : State) (op : Op) : Bool :=
  op.isBeam && !op.settled && !op.lbtWait && !op.metered && (s.lo op.lo).at op.freq && !(s.txPorts op).isEmpty

/-- Whether the time of an Active operation is charged now (R120, R180, R198, R272): its carrier rises or is on, its
HF field is on, or its K.CAL radiates. -/
def State.onAir (s : State) (op : Op) : Bool :=
  op.holds && (op.claimsTx || op.radiates) &&
    (s.rising op || (op.uports.any fun p => (s.up p).carrier.isSome) || op.hports.any fun p => (s.hp p).field)

/-- The uses whose time is charged to a thread now, one for each operation however many ports it drives (R198):
its Active operations on the air, those whose carriers it left in holdover (R80), and those H.FIELDs whose fields
are still on. -/
def State.chargedUses (s : State) (t : Tid) : Nat :=
  let air := s.ops.filter fun op => op.id.thread == t && s.onAir op
  let held := (List.finRange 16).filterMap fun p => (s.up p).holdover
  let left := (List.finRange 8).filterMap fun p => if (s.hp p).field then (s.hp p).leftBy else none
  air.length + ((held ++ left).eraseDups.filter fun x => x.1.thread == t).length

/-- One µs of a thread's air time (R198, R199): the meter refills, and each use in progress charges it. -/
def State.meterUs (s : State) (t : Tid) : State :=
  (List.range (s.chargedUses t)).foldl (fun s _ => s.charge t 1) (s.meterRefill t)

/-- Successive µs of a thread's air time, each marked on its own. -/
def State.meterEach (s : State) (t : Tid) : Nat → State
  | 0 => s
  | n + 1 => (s.meterUs t).meterEach t n

/-- Some µs of a thread's air time: nothing to mark while its meter is off and its class has no deficit. The part of
a downlink frame they cover is noted (R180). -/
def State.meterRun (s : State) (t : Tid) (n : Nat) : State :=
  let s := if bit (s.reg (SC_AMCTL t)) 31 || decide (4 ≤ s.airClass t) then s.meterEach t n else s
  { s with ops := s.ops.map fun (x : Op) =>
      if x.id.thread == t && x.isSend && s.onAir x then { x with charged := x.charged + n } else x }

/-- Writing EN = 1 of a thread's meter fills both its buckets (R199). -/
def State.meterFill (s : State) (t : Tid) : State :=
  let burst := s.reg (SC_AMBURST t)
  s.setMeter t
    { s.meters[t] with tc := (bits burst 0 16 : Int) * 10000000, tp := (bits burst 16 16 : Int) * 10000000 }

/-- A write of SC_AMCTLt. -/
def State.writeAmCtl (s : State) (t : Tid) (v : Word) : State :=
  let s := s.writeFields (SC_AMCTL t) v
  if bit v 31 then s.meterFill t else s

/-- METER_ENABLE: a write of SC_AMCTLt.EN = 1. -/
def execMeterEnable (t : Tid) (v : Word) (s : State) : Out := .next (s.writeAmCtl t (v ||| 0x80000000))

/-- A write of SC_IMCTLi (R201); i = 0 has no meter. -/
def State.writeImCtl (s : State) (i : Fin 16) (v : Word) : State :=
  if i = 0 then s
  else
    let s := s.writeFields (SC_IMCTL i) v
    if bit v 31 then
      let burst := s.reg (SC_IMBURST i)
      s.setIMeter i
        { tc := (bits burst 0 16 : Int) * 8000000, tp := (bits burst 16 16 : Int) * 8000000, tick := s.ticks }
    else s

/-- INGRESS_METER_ENABLE: a write of SC_IMCTLi.EN = 1. -/
def execIngressMeterEnable (i : Fin 16) (v : Word) (s : State) : Out := .next (s.writeImCtl i (v ||| 0x80000000))

/-- An ingress meter refilled up to now: bytes at 128 B/s units (R201). -/
def State.imRefill (s : State) (i : Fin 16) : State :=
  let m := s.imeters[i]
  let rate := s.reg (SC_IMRATE i)
  let burst := s.reg (SC_IMBURST i)
  let gain := fun (r : Nat) => (((s.ticks - m.tick) * r * 12800 / 21696 : Nat) : Int)
  s.setIMeter i
    { tc := min ((bits burst 0 16 : Int) * 8000000) (m.tc + gain (bits rate 0 16))
      tp := min ((bits burst 16 16 : Int) * 8000000) (m.tp + gain (bits rate 16 16)), tick := s.ticks }

/-- The verdict of a ring's ingress meter on an item of `k` words (R201): 0 green, 1 yellow, 2 red; a
disabled meter, and I0, are green. -/
def State.imVerdict (s : State) (i : Fin 16) (k : Nat) : Nat × State :=
  if i = 0 ∨ !bit (s.reg (SC_IMCTL i)) 31 then (0, s)
  else
    let s := s.imRefill i
    let m := s.imeters[i]
    let b : Int := 8000000 * k
    if m.tp < b then (2, s)
    else if m.tc < b then (1, s.setIMeter i { m with tp := m.tp - b })
    else (0, s.setIMeter i { m with tp := m.tp - b, tc := m.tc - b })

/-! ### Latency observation (R202) -/

/-- A count one higher in a histogram bin, saturating in its 16 bits. -/
def binUp (v : Vector Nat 8) (b : Nat) : Vector Nat 8 :=
  Vector.ofFn fun k => if k.val = b then min 65535 (v[k] + 1) else v[k]

/-- The depth bin of R202. -/
def depthBin (words cap : Nat) : Nat := min 7 (8 * words / cap)

/-- The delay bin of R202 for an age in ticks and DSCALE: the number of bounds 2^S, 2^(S+1), ..., 2^(S+6) µs
the age has reached. -/
def delayBin (age S : Nat) : Nat := (List.range 7).foldl (fun b k => if usTicks (2 ^ (S + k)) ≤ age then b + 1 else b) 0

/-- One sample of a ring. -/
def State.latOne (s : State) (n : RingNo) : State :=
  if !s.ringOn n then s
  else
    let k := (s.ring n).words.length
    s.modRing n fun r =>
      let l := r.lat
      let l := { l with
        samples := min 0xFFFFFFFF (l.samples + 1), maxDepth := max l.maxDepth k, sumDepth := l.sumDepth + k
        depthBins := binUp l.depthBins (depthBin k (s.ringCap n)) }
      match r.words with
      | [] => { r with lat := l }
      | w :: _ =>
        let age := s.ticks - w.tick
        let us := age * 100 / 21696
        { r with lat := { l with
            maxDelay := max l.maxDelay us, sumDelay := l.sumDelay + us, delays := l.delays + 1
            delayBins := binUp l.delayBins (delayBin age (s.fld SC_LATCFG 16 4)) } }

/-- Every ring, by number. -/
def ringAll : List RingNo := List.finRange 32

/-- LATENCY_SAMPLE: every enabled ring sampled at one tick. -/
def execLatencySample (s : State) : Out := .next (ringAll.foldl (fun s n => s.latOne n) s)

/-- The live statistics of a ring as its registers show them, by word offset from SC_LDEPTHn. -/
def LatStat.word (l : LatStat) (k : Nat) : Word :=
  match k with
  | 0 => fieldW 16 13 (min 8191 l.maxDepth) ||| fieldW 0 13 (min 8191 (l.sumDepth / l.samples))
  | 1 => fieldW 16 16 (min 65535 l.maxDelay) ||| fieldW 0 16 (min 65535 (l.sumDelay / l.delays))
  | 2 => BitVec.ofNat 32 l.samples
  | k + 4 =>
    if k < 4 then fieldW 16 16 (l.depthBins.toList.getD (2 * k + 1) 0) ||| fieldW 0 16 (l.depthBins.toList.getD (2 * k) 0)
    else fieldW 16 16 (l.delayBins.toList.getD (2 * (k - 4) + 1) 0) ||| fieldW 0 16 (l.delayBins.toList.getD (2 * (k - 4)) 0)
  | _ => 0

/-- A write of SC_LATCFG (R202): SNAP copies the statistics of all rings to the snapshot page, then CLEAR
zeroes the live ones. -/
def State.writeLatCfg (s : State) (v : Word) : State :=
  let s := s.writeFields SC_LATCFG v
  let s := if bit v 31 then
      ringAll.foldl (fun s n => (List.range 12).foldl (fun s k =>
        if k = 3 then s else s.setReg (SC_LDEPTH n + 0x1000 + 4 * k) ((s.ring n).lat.word k)) s) s
    else s
  if bit v 30 then ringAll.foldl (fun s n => s.modRing n fun r => { r with lat := {} }) s else s

/-- SNAP: a write of SC_LATCFG.SNAP. -/
def execSnap (v : Word) (s : State) : Out := .next (s.writeLatCfg (v ||| 0x80000000))

/-- CLEAR: a write of SC_LATCFG.CLEAR. -/
def execClear (v : Word) (s : State) : Out := .next (s.writeLatCfg (v ||| 0x40000000))

end Sys2Proof.Machine
end

