-- ==== Sys2Proof/Machine/Chirp.lean ====
section
/-!
DEFINITION. The chirp link (R160 to R181): the frame of a C.SEND, the listening windows, the detection
and decoding of packets, capture, and the duty of the sub-bands.
-/

namespace Sys2Proof.Machine

/-! ### The frame (R160 to R164) -/

/-- The duration of `k` symbols of spreading order 5 + `so` at a bandwidth code, in ticks, to the nearest
(R160). -/
def symTicks (so bw k : Nat) : Nat := nearest (k * 216960 * 2 ^ (5 + so)) (bwHz bw / 1000)

/-- n of R164: the input bits of a payload of `len` bytes. -/
def codeBits (len : Nat) : Nat := 8 * len + 22

/-- B of R164: the coded bits left by the puncturing of CR. -/
def codedBits (n cr : Nat) : Nat :=
  match cr with
  | 0 => 2 * n
  | 1 => 3 * n / 2
  | _ => 2 * n - (n + 1) / 3 - n / 3

/-- N of R164: the payload symbols. -/
def paySymbols (so len cr : Nat) : Nat :=
  let k := 5 + so
  k * ((codedBits (codeBits len) cr + k * k - 1) / (k * k))

/-- A value of up to 16 bits from its Gray code: the s' with s' XOR (s' >> 1) = v (R163). -/
def grayInv (v : Nat) : Nat :=
  let a := v ^^^ (v >>> 1)
  let a := a ^^^ (a >>> 2)
  let a := a ^^^ (a >>> 4)
  a ^^^ (a >>> 8)

/-- HCRC of R163 over 16 header bits. -/
def hcrc (hi : Nat) : Nat := crcRun 8 0x07 0 (numBits 16 hi)

/-- The 24 header bits of a frame (R163). -/
def chirpHeader (len cr : Nat) (ackreq down : Bool) : Nat :=
  let hi := len * 256 + cr * 64 + ackreq.toNat * 32 + down.toNat * 16
  hi * 256 + hcrc hi

/-- The output of one generator: the parity of the taps on the current bit and the six before it. -/
def genOut (taps window : Nat) : Bool := (List.range 7).foldl (fun a i => a != (taps.testBit i && window.testBit i)) false

/-- The K = 7 code with generators 133 and 171 octal, punctured by CR (R164 steps 2 and 3): `i` counts the
input bits and `w` holds the last six. -/
def convCode (cr : Nat) : Nat → Nat → List Bool → List Bool
  | _, _, [] => []
  | i, w, b :: bs =>
    let v := b.toNat * 64 + w
    let a := genOut 0o133 v
    let c := genOut 0o171 v
    let keepA := match cr with
      | 2 => i % 3 != 1
      | _ => true
    let keepC := match cr with
      | 0 => true
      | 1 => i % 2 == 0
      | _ => i % 3 != 2
    (if keepA then [a] else []) ++ (if keepC then [c] else []) ++ convCode cr (i + 1) (v / 2) bs

/-- The interleaved blocks of R164 step 4 as symbol values. -/
def blockSymbols (k : Nat) (bs : List Bool) : List Nat :=
  (List.range k).map fun m => bitsNum ((List.range k).map fun r => bs.getD (r * k + m) false)

/-- The shifts of the payload symbols (R164). -/
def payShifts (so cr : Nat) (payload : List Bool) : List Nat :=
  let k := 5 + so
  let crc := numBits 16 (crcRun 16 0x1021 0xFFFF payload)
  let coded := convCode cr 0 0 (payload ++ crc ++ List.replicate 6 false)
  (List.range ((coded.length + k * k - 1) / (k * k))).flatMap fun b =>
    (blockSymbols k (coded.drop (b * k * k))).map grayInv

/-- The chirps of a frame: eight base up-chirps, two down-chirps (`none`), and the shifts of identifier, header and
payload (R161 to R164). -/
def frameChirps (so cr netid header : Nat) (payload : List Bool) : List (Option Nat) :=
  let unit := 2 ^ (so + 1)
  List.replicate 8 (some 0) ++ List.replicate 2 none ++
    (([8, 4, 0].map fun sh => (netid >>> sh) % 16 * unit) ++
      ([20, 16, 12, 8, 4, 0].map fun sh => unit * grayInv ((header >>> sh) % 16)) ++ payShifts so cr payload).map some

/-! ### C.SEND (R175 to R180) -/

/-- SO − 5 of a C.SEND. -/
def Op.sendSo (op : Op) : Nat := bits (op.w 4) 28 3

/-- The bandwidth code of a C.SEND. -/
def Op.sendBw (op : Op) : Nat := bits (op.w 4) 26 2

/-- The code rate of a C.SEND. -/
def Op.sendCr (op : Op) : Nat := bits (op.w 4) 24 2

/-- The payload length of a C.SEND. -/
def Op.sendLen (op : Op) : Nat := bits (op.w 4) 0 8

/-- The symbols of a C.SEND's frame. -/
def Op.sendSymbols (op : Op) : Nat := 19 + paySymbols op.sendSo op.sendLen op.sendCr

/-- The frame of a C.SEND in ticks. -/
def Op.sendTicks (op : Op) : Nat := symTicks op.sendSo op.sendBw op.sendSymbols

/-- The frame of a C.SEND in µs: Ts is a whole number of µs at every spreading order and bandwidth. -/
def Op.sendUs (op : Op) : Nat := op.sendSymbols * 2 ^ (5 + op.sendSo) * 1000 / (bwHz op.sendBw / 1000)

/-- The open tick of the reply window of a C.SEND (R70). -/
def Op.sendOpen (op : Op) : Word := op.w 5 + 108480000

/-- The start of a C.SEND: its START, or the window's open tick (R176). -/
def Op.sendStart (op : Op) : Word := if op.w 1 = 0 then op.sendOpen else op.w 1

/-- Whether a frame whose first chirp reaches the port 0.80 µs from now ends before the window closes
(R70, R176). -/
def State.sendFits (s : State) (op : Op) : Bool :=
  decide (((firstDelay + op.sendTicks : Nat) : Int) < (op.sendOpen + 8678400 - s.tbLo).toInt)

/-- The status of a C.SEND whose frame does not fit (R176): WINDOW_SHORT for one too long for its window from the
start; of one that no longer fits, POLICED when the last eligibility test found its thread red. -/
def Op.noFit (op : Op) : Nat :=
  let fitted := decide (((firstDelay + op.sendTicks : Nat) : Int) < (op.sendOpen + 8678400 - op.sendStart).toInt)
  if op.redLast && fitted then 0x08 else 0x05

/-- The chirp sub-band of the profile that holds a channel wholly (R179). -/
def State.subBand (s : State) (op : Op) : Option (Fin 4) :=
  (List.finRange 4).find? fun k =>
    let lo := (s.regionW (84 + 3 * k)).toNat
    let hi := (s.regionW (85 + 3 * k)).toNat
    let f := (op.w 6).toNat
    let half := bwHz op.sendBw / 2
    hi != 0 && decide (lo + half ≤ f ∧ f + half ≤ hi)

/-- The transmit time of a sub-band over the last 3,600 s, µs (R179). -/
def State.dutyUsed (s : State) (k : Fin 4) : Nat := (s.duty[k]).foldl (· + ·) 0

/-- D × 3,600 s of a sub-band, µs; 0 when it is not defined (R179). -/
def State.dutyLimit (s : State) (k : Nat) : Nat :=
  if s.regionW (85 + 3 * k) = 0 then 0 else bits (s.regionW (86 + 3 * k)) 0 16 * 3600000000 / 65536

/-- Whether two chirp channels lie within 0.25 MHz of each other, edge to edge (R91, R177). -/
def nearChannel (f bw g bw' : Nat) : Bool :=
  decide (f < g + bwHz bw / 2 + bwHz bw' / 2 + 250000 ∧ g < f + bwHz bw / 2 + bwHz bw' / 2 + 250000)

/-- Receptions that a downlink on a port breaks off: every one on the port (R177), and on the other ports of its
cluster those on a channel too near the downlink's, for which it is an own carrier (R91, R177). -/
def Op.drowns (op : Op) (p : UPortNo) (r : Recep) : Bool :=
  decide (r.port = p) || (decide (r.port.val / 8 = p.val / 8) && nearChannel op.freq op.sendBw r.freq r.bw)

/-- C_SEND: at its start a dispatched C.SEND whose LO is on its channel sends its frame (R69, R175, R176);
a payload with a parity error is not sent, and raises DMEM (R321); a frame that no longer fits is not
sent. The port's receptions are abandoned (R177). -/
def execCSend (o : OpId) (parityErr : Bool) (s : State) : Out :=
  .next (match s.begins o 2 2 with
    | none => s
    | some op =>
      let s := s.advance (op.sendStart - s.tbLo).toInt.toNat
      if !(s.lo op.lo).at op.freq then s
      else if parityErr then (s.fault 6 o.thread.val 0).endOp o 0x0D
      else if !s.sendFits op then s.endOp o op.noFit
      else
        let hdr := chirpHeader op.sendLen op.sendCr false true
        let body := s.threadBits o.thread (op.w 8).toNat op.sendLen
        let first := s.tbLo + BitVec.ofNat 32 firstDelay
        let s := op.uports.foldl (fun s p =>
          let n := (s.decoders.toList.filter fun d => d.any fun r => decide (r.port = p)).length
          let s := (s.carrierUp op op.freq s.ticks p).modUp p fun x => { x with dpdOff := true }
          (s.countFld CH_CNT2 0 8 n).dropReceptions fun r => op.drowns p r) s
        (s.beginOp o (.csend true first)).modOp o fun x =>
          { x with settled := true, cmdFrom := s.ticks + firstDelay, chirps := frameChirps op.sendSo op.sendCr (bits (op.w 7) 0 12) hdr body })

/-- C_SEND_FRAME_END (R176, R179, R180): the last chirp ends; the µs of the frame not charged yet are charged one by
one, the frame counts in its sub-band, the item is written, and the operation completes. -/
def execCSendFrameEnd (o : OpId) (s : State) : Out :=
  .next (match s.running o with
    | none => s
    | some op =>
      match op.eng with
      | .csend true first =>
        let s := (s.advanceTo (op.cmdFrom + op.sendTicks)).meterRun o.thread (op.sendUs - op.charged)
        let s := (s.dutyFrame op).setEng o (.csend false first)
        let last := first + BitVec.ofNat 32 op.sendTicks
        ((s.emit o 0x21 0x00 [rword (first ++ last)]).endOp o 0x00).settleListens
      | _ => s)

/-- DUTY_BUCKET_ROLL (R179): the 1 s buckets roll; 3,600 of them are kept. -/
def execDutyBucketRoll (s : State) : Out :=
  .next { s with duty := s.duty.map fun l => (0 :: l).take 3600 }

/-! ### C.LISTEN (R165 to R168) -/

/-- A listening window opens now (R167). -/
def State.openListen (s : State) (o : OpId) : State :=
  s.modOp o fun x => { x with settled := true, winOpen := s.ticks }

/-- C_LISTEN: a dispatched C.LISTEN searches; its window opens once its LO is locked on word 7, which a small step
leaves it (R167, R262). -/
def execCListen (o : OpId) (s : State) : Out :=
  .next (match s.begins o 2 1 with
    | none => s
    | some op =>
      let s := s.beginOp o (.listen false 0)
      if (s.lo op.lo).lockedOn (op.w 7).toNat then s.openListen o else s)

/-- A span of µs in ticks, to the nearest. -/
def spanTicks (us : Nat) : Nat := nearest (us * 21696) 100

/-- Whether an on-air start estimate lies in the window of a C.LISTEN (R8, R167). -/
def Op.hears (op : Op) (est : Nat) : Bool :=
  op.settled && decide (op.winOpen ≤ est) &&
    (op.w 5 == 0 || decide (est < op.winOpen + spanTicks (op.w 5).toNat))

/-- The longest latency of a detector of a C.LISTEN, 4 × Ts of its slowest spreading order on each of its channels
(R169). -/
def Op.listenLag (op : Op) : Nat :=
  op.chans.foldl (fun m c => (setBits (bits (op.w 4) 0 7)).foldl (fun m so => max m (symTicks so.val c.2 4)) m) 0

/-- LISTEN_WINDOW_CLOSE (R167, R168): the window has closed, and no packet that began in it can be detected any more,
4 × Ts later (DEDUCED: assumption 73); the operation ends once its packets finish. -/
def execListenWindowClose (o : OpId) (s : State) : Out :=
  .next (match s.running o with
    | none => s
    | some op =>
      match op.eng with
      | .listen false got =>
        if op.settled && op.w 5 != 0 then
          let s := s.advanceTo (op.winOpen + spanTicks (op.w 5).toNat + op.listenLag)
          (s.setEng o (.listen true got)).listenSettle o
        else s
      | _ => s)

/-! ### Receptions (R169 to R174) -/

/-- The channel a C.LISTEN latched for a table entry: frequency and bandwidth code. -/
def Op.chanOf (op : Op) (k : Fin 16) : Option (Nat × Nat) :=
  (((setBits op.entries.toNat).zip op.chans).find? fun x => x.1 == k).map (·.2)

/-- Decoder `d` replaced. -/
def State.setDec (s : State) (d : Fin 16) (r : Option Recep) : State := { s with decoders := vset s.decoders d r }

/-- A C.SEND transmits now (R177). -/
def Op.sends (op : Op) : Bool :=
  match op.eng with
  | .csend true _ => true
  | _ => false

/-- The level of a reception, in 1/16 dB: 1 dB of R172 is 16. -/
def dB (n : Nat) : Int := 16 * n

/-- The words w1 and w2 of an item of type 0x20 (R62, R171). -/
def Recep.words (r : Recep) : List RWord :=
  let h := r.hdr.getD 0
  let w1 : DWord :=
    BitVec.ofNat 4 r.chan.val ++ BitVec.ofNat 3 r.so.val ++ BitVec.ofNat 2 r.bw ++ h.extractLsb' 13 1 ++
    r.netid.getD 0 ++ h.extractLsb' 14 2 ++ h.extractLsb' 16 8 ++ r.idTb
  [rword w1, rword (r.rssi ++ r.snr ++ r.offset)]

/-- Whether a C.LISTEN takes a packet by its spreading-order mask (R167). -/
def Op.takesSo (op : Op) (r : Recep) : Bool := bit (op.w 4) r.so.val

/-- Whether a C.LISTEN's network-identifier filter passes a packet, or is off (R167). -/
def Op.passes (op : Op) (r : Recep) : Bool :=
  !bit (op.w 6) 12 || decide (some ((op.w 6).extractLsb' 0 12) = r.netid)

/-- The C.LISTENs a packet is delivered to. -/
def State.takers (s : State) (r : Recep) : List Op :=
  s.ops.filter fun op => decide (op.id ∈ r.ops) && op.takesSo r && op.passes r && op.ending.isNone

/-- One operation writes its item of a packet; a packet with CRC passed counts towards the operation's limit, and a
GAIN_STEP or CRC_FAIL item in CH_CNT3, when the item is written (R168, R174, R187). -/
def State.deliver (s : State) (op : Op) (status : Nat) (body : List RWord) : State :=
  let failed := status == 0x02 || status == 0x04
  if failed && !op.failItems then s
  else
    let s := s.emit op.id 0x20 status body
    if (s.op? op.id).all fun x => x.items == op.items then s
    else
      let s := if status = 0x10 then s.countFld CH_CNT3 16 16 1
        else if status = 0x02 then s.countFld CH_CNT3 0 16 1 else s
      if status = 0x00 ∨ status = 0x10 then
        s.modOp op.id fun x => { x with eng := match x.eng with
          | .listen c got => .listen c (got + 1)
          | e => e }
      else s

/-- A reception is preempted by a stronger packet (R173, R174). -/
def State.preempt (s : State) (r : Recep) : State :=
  (s.takers r).foldl (fun s op => s.deliver op 0x04 r.words) (s.countFld CH_CNT2 16 16 1)

/-- A preamble found on the channel and spreading order of decoder `d`'s reception `r` (R172, R173): before
the header it re-anchors the decoder when at least 1 dB stronger; after the header it takes over when at
least CAPTHR dB above the level of the packet in progress as tracked now, and is otherwise counted as missed. -/
def State.newcomer (s : State) (d : Fin 16) (r new : Recep) (tracked : Int) : State :=
  if r.hdr.isNone then
    if r.level + dB 1 ≤ new.level then
      ((s.countFld CH_CNT0 16 16 1).setDec d (some new)).settleListens
    else s
  else if tracked + dB r.capthr ≤ new.level then ((s.preempt r).setDec d (some new)).settleListens
  else s.countFld CH_CNT1 16 16 1

/-- The reception a preamble now detected would begin, when an Active C.LISTEN's window holds its on-air
start estimate, 4 × Ts before now (R167, R169). -/
def State.newRecep (s : State) (p : UPortNo) (chan : Fin 16) (so : Fin 7) (level : Int) : Option Recep :=
  let ls := (s.listeners p).filter fun op => op.ending.isNone && op.entries.getLsbD chan.val
  let hears := fun (op : Op) => match op.chanOf chan with
    | some c => op.hears (s.ticks - symTicks so c.2 4)
    | none => false
  match ls.filter hears with
  | [] => none
  | op :: more =>
    (op.chanOf chan).map fun c =>
      { port := p, chan := chan, freq := c.1, bw := c.2, so := so, level := level, ops := (op :: more).map (·.id) }

/-- Whether the detectors of a channel on a port fire: no C.SEND transmits there, none too near on the cluster (R177),
and no own carrier is within 0.25 MHz of the channel's nearer edge (R91). -/
def State.detects (s : State) (r : Recep) : Bool :=
  !(s.ops.any fun op => op.sends && op.uports.any fun p => op.drowns p r) && match (s.up r.port).carrier with
    | some (_, f) => !nearCarrier f r.freq r.bw
    | none => true

/-- The decoder that follows a packet on the same port, channel and spreading order. -/
def State.follower (s : State) (r : Recep) : Option (Fin 16 × Recep) :=
  (List.finRange 16).findSome? fun d => (s.decoders[d]).bind fun x =>
    if x.port = r.port ∧ x.chan = r.chan ∧ x.so = r.so then some (d, x) else none

/-- CHIRP_DETECTION (R169, R170): a detector of a unit in use fires; the packet claims the lowest free
decoder, or is dropped and counted; one that meets a reception of its own kind is a newcomer. -/
def execChirpDetection (p : UPortNo) (chan : Fin 16) (so : Fin 7) (dt : Nat) (level tracked : Int) (s : State) : Out :=
  .next (
    let s := s.advance dt
    if (p, chan) ∉ s.units then s
    else match s.newRecep p chan so level with
      | none => s
      | some r =>
        if !s.detects r then s
        else match s.follower r with
          | some (d, x) => s.newcomer d x r tracked
          | none =>
            match (List.finRange 16).find? fun d => (s.decoders[d]).isNone with
            | some d => s.setDec d (some r)
            | none => s.countFld CH_CNT2 8 8 1)

/-- A newcomer found by the detector beside decoder `d`. -/
def State.beside (s : State) (d : Fin 16) (dt : Nat) (level tracked : Int) (header : Bool) : State :=
  let s := s.advance dt
  match s.decoders[d] with
  | none => s
  | some r =>
    if r.hdr.isSome != header then s
    else match s.newRecep r.port r.chan r.so level with
      | none => s
      | some new => if s.detects new then s.newcomer d r new tracked else s

/-- REANCHOR (R172): a later preamble before the header. -/
def execReanchor (d : Fin 16) (dt : Nat) (level : Int) (s : State) : Out := .next (s.beside d dt level 0 false)

/-- PREEMPTED (R173): another packet after the header. -/
def execPreempted (d : Fin 16) (dt : Nat) (level tracked : Int) (s : State) : Out :=
  .next (s.beside d dt level tracked true)

/-- A reception is abandoned and its decoder released. -/
def State.dropDec (s : State) (d : Fin 16) : State := (s.setDec d none).settleListens

/-- IDENTIFIER_END (R162, R171): the measurements are latched; the identifier 0x000 is a false detection. -/
def execIdentifierEnd (d : Fin 16) (dt : Nat) (netid : BitVec 12) (rssi snr : BitVec 16) (offset : Word)
    (s : State) : Out :=
  .next (
    let s := s.advance dt
    match s.decoders[d] with
    | none => s
    | some r =>
      if r.netid.isSome then s
      else if netid = 0 then (s.countFld CH_CNT0 0 16 1).dropDec d
      else s.setDec d (some
        { r with idTb := s.tbLo, netid := some netid, rssi := rssi, snr := snr, offset := offset }))

/-- Whether the 24 header bits pass (R163): HCRC holds, LEN is not 0, CR is not 3, the four bits are 0. -/
def headerOk (h : BitVec 24) : Bool :=
  hcrc (h.extractLsb' 8 16).toNat == (h.extractLsb' 0 8).toNat && h.extractLsb' 16 8 != 0 &&
    h.extractLsb' 14 2 != 3 && h.extractLsb' 8 4 == 0

/-- HEADER_VERDICT (R163, R167, R170, R173): a header that fails abandons the reception silently, counted;
a frame with DOWN = 1 is never delivered, counted; CAPTHR is read as the header passes. -/
def execHeaderVerdict (d : Fin 16) (h : BitVec 24) (s : State) : Out :=
  .next (match s.decoders[d] with
    | none => s
    | some r =>
      if r.netid.isNone || r.hdr.isSome then s
      else if !headerOk h then (s.countFld CH_CNT0 0 16 1).dropDec d
      else if h.getLsbD 12 then (s.countFld CH_CNT1 8 8 1).dropDec d
      else s.setDec d (some { r with hdr := some h, capthr := max 3 (min 12 (s.fld CH_CFG 8 4)) }))

/-- The payload words of an item, P = 1 on them when left unrecoverable (R76, R171). -/
def Recep.payload (r : Recep) (bytes : List Byte) (poison : Bool) : List RWord :=
  let len := ((r.hdr.getD 0).extractLsb' 16 8).toNat
  (bytesToWords ((bytes ++ List.replicate len 0).take len)).map (pword poison)

/-- The status of a packet's item (R76, R89, R174). -/
def Recep.status (r : Recep) (crcOk poison : Bool) : Nat :=
  if poison then 0x0B else if !crcOk then 0x02 else if r.step then 0x10 else 0x00

/-- The CRC-16 of a decoded payload, which its last two bytes carry, holds (R164). -/
def payloadOk (bytes : List Byte) : Bool :=
  decide (2 ≤ bytes.length) && crcRun 16 0x1021 0xFFFF (bytes.flatMap msbBits) == 0

/-- PAYLOAD_VERDICT (R164, R167, R168, R170, R174), with the bytes the decoder gives, CRC-16 included: every C.LISTEN that takes the packet writes its item; one
dropped by every filter is counted; the decoder is released. -/
def execPayloadVerdict (d : Fin 16) (dt : Nat) (bytes : List Byte) (poison : Bool) (s : State) : Out :=
  .next (
    let s := s.advance dt
    match s.decoders[d] with
    | none => s
    | some r =>
      if r.hdr.isNone then s
      else
        let len := ((r.hdr.getD 0).extractLsb' 16 8).toNat
        let crcOk := bytes.length == len + 2 && payloadOk bytes && !r.gap
        let s := s.setDec d none
        let heard := s.ops.filter fun op => decide (op.id ∈ r.ops) && op.takesSo r
        let ts := s.takers r
        let s := if ts.isEmpty && !heard.isEmpty && heard.all (fun op => !op.passes r)
          then s.countFld CH_CNT1 0 8 1 else s
        (ts.foldl (fun s op => s.deliver op (r.status crcOk poison) (r.words ++ r.payload bytes poison)) s).settleListens)

end Sys2Proof.Machine
end

