-- ==== Sys2Proof/Machine/AirCopy.lean ====
section
/-!
DEFINITION. AIR (R37) and the checks of a descriptor at its copy (R55 to R57, with R97, R106, R142, R143,
R146, R147, R154, R162, R175, R176 and R356).
-/

namespace Sys2Proof.Machine

/-! ### Checks of a descriptor at its copy -/

/-- Whether `n` bytes from an address lie in the issuing thread's local memory or in the shared data memory
(R29). -/
def memSpan (a n : Nat) : Bool :=
  decide (a + n ≤ 0x800) || decide (0x11000000 ≤ a ∧ a + n ≤ 0x11040000)

/-- Words `k` to 15 are 0. -/
def Op.zeroFrom (op : Op) (k : Nat) : Bool := (List.finRange 16).all fun i => decide (i.val < k) || op.w i == 0

/-- The field of `n` bits at `lo` of word `k` is 0. -/
def Op.zero (op : Op) (k : Fin 16) (lo n : Nat) : Bool := bits (op.w k) lo n == 0

/-- CLASS and OP are in R56. -/
def Op.known (op : Op) : Bool :=
  match op.cls with
  | 0 => decide (1 ≤ op.code ∧ op.code ≤ 4)
  | 1 => decide (1 ≤ op.code ∧ op.code ≤ 4)
  | 2 => decide (1 ≤ op.code ∧ op.code ≤ 2)
  | 3 => op.code == 1
  | 4 => op.code == 1
  | _ => false

/-- The number of ports named. -/
def Op.portCount (op : Op) : Nat := (setBits op.mask).length

/-- PORTS satisfies R56 and R60, bits [15:8] being 0 for HF ports. -/
def Op.portsOk (op : Op) : Bool :=
  let n := op.portCount
  let hf := decide (op.mask < 256)
  match op.cls with
  | 0 => decide (1 ≤ n)
  | 1 => hf && (if op.code = 2 ∨ op.code = 3 then n == 1 else decide (1 ≤ n))
  | 2 => n == 1
  | 3 => decide (2 ≤ n)
  | _ =>
    if 1 ≤ op.calCode ∧ op.calCode ≤ 4 then n == 1
    else if op.calCode = 6 ∨ op.calCode = 7 then n == 1 && hf
    else n == 0

/-- The LO select is 0–3, and 0 for an operation that uses no LO (R55). -/
def Op.loOk (op : Op) : Bool := op.zero 0 18 2 && (op.usesLo || op.zero 0 16 2)

/-- Words 2 and 3 (R55, R57): the whole buffer lies in thread memory (DEDUCED: assumption 24). -/
def Op.resultOk (op : Op) : Bool :=
  op.zero 2 16 4 &&
    (if op.mem then
      op.zero 2 20 4 && decide (1 ≤ op.limit) && bits (op.w 3) 0 3 == 0 && memSpan (op.w 3).toNat (8 * op.limit)
    else op.limit == 0 && op.w 3 == 0)

/-- The UHF link words (R58, R97). -/
def Op.linkOk (op : Op) : Bool :=
  !linkBad (op.w 4) && op.zero 4 0 12 && decide (bits (op.w 5) 24 8 ≤ 132) && op.zero 5 0 15

/-- Words 11 to 14 hold nothing past `n` 16-bit halves (R356). -/
def Op.halvesZero (op : Op) (n : Nat) : Bool := (List.range 8).all fun i => decide (i < n) || op.accData i == 0

/-- The fields of a U.ACCESS by its command (R59, R356). -/
def Op.accessOk (op : Op) : Bool :=
  let n := op.accCount
  let bare := op.zero 7 26 2 && n == 0
  op.zero 7 8 18 && op.w 15 == 0 &&
    match op.accCmd with
    | 1 => decide (1 ≤ n) && op.w 10 == 0 && op.halvesZero 0
    | 2 => decide (1 ≤ n ∧ n ≤ 8) && op.w 10 == 0 && op.halvesZero n
    | 3 => decide (1 ≤ n ∧ n ≤ 8) && op.w 10 == 0 && op.halvesZero n
    | 4 => bare && op.w 8 == 0 && op.zero 10 20 12 && op.halvesZero 0
    | 5 => bare && op.w 8 == 0 && op.halvesZero 0
    | 6 => bare && op.w 8 == 0 && op.w 10 == 0 && op.halvesZero 0
    | _ => false

/-- The rate and modulation codes of word 4 (R142). -/
def Op.hfCodes (op : Op) : Bool :=
  let up := bits (op.w 4) 24 4
  let dn := bits (op.w 4) 20 4
  let m := bits (op.w 4) 16 4
  match bits (op.w 4) 28 4 with
  | 0 => decide (up ≤ 5 ∧ dn ≤ 5) && (if up ≤ 3 then m == 0 else decide (1 ≤ m ∧ m ≤ 5))
  | 1 => decide (up ≤ 5 ∧ dn ≤ 5) && (if up ≤ 3 then decide (1 ≤ m ∧ m ≤ 3) else decide (1 ≤ m ∧ m ≤ 5))
  | 2 => decide (up ≤ 1 ∧ dn ≤ 3 ∧ m ≤ 1)
  | 3 => (up == 1 || up == 2) && up == dn && decide (1 ≤ m ∧ m ≤ 5)
  | _ => false

/-- The field power of word 4 is 0–100 and [7:0] is 0. -/
def Op.hfPower (op : Op) : Bool := decide (bits (op.w 4) 8 8 ≤ 100) && op.zero 4 0 8

/-- The steps of R146, and AFI 0 for Type A. -/
def Op.activateOk (op : Op) : Bool :=
  let proto := bits (op.w 4) 28 4
  let step := bits (op.w 5) 0 2
  let cards := bits (op.w 5) 24 8
  decide (1 ≤ cards) && op.zero 5 2 14 && decide (proto ≤ 2) &&
    (match step with
      | 0 => true
      | 1 => proto == 0
      | 2 => proto != 0
      | _ => false) &&
    (step == 0 || cards == 1) && (proto != 0 || op.zero 5 16 8)

/-- The fields of an H.FRAME (R60, R143, R147). -/
def Op.frameOk (op : Op) : Bool :=
  let proto := bits (op.w 4) 28 4
  let n := bits (op.w 5) 16 16
  let fwt := (op.w 6).toNat
  op.zero 5 0 11 && decide (hfOpen proto + 128 ≤ fwt ∧ fwt ≤ 3959422976) &&
    (if n = 0 then proto == 2 else decide (n ≤ 4096) && memSpan (op.w 7).toNat n)

/-- The fields of a C.SEND (R60, R162, R175, R176). -/
def Op.sendOk (op : Op) : Bool :=
  op.zero 4 31 1 && op.zero 4 8 8 && decide (op.sendSo ≤ 6 ∧ op.sendBw ≠ 3 ∧ op.sendCr ≠ 3 ∧ 1 ≤ op.sendLen) &&
    op.zero 7 12 20 && !op.zero 7 0 12 && memSpan (op.w 8).toNat op.sendLen &&
    (op.w 1 == 0 || decide ((op.w 1 - op.sendOpen).toNat < 8678400))

/-- The fields of words 4 to 15 by CLASS and OP. An H.WATCH, and an H.FIELD that turns fields off, ignore the whole
of word 4 (R138). -/
def State.wordsOk (s : State) (op : Op) : Bool :=
  match op.cls, op.code with
  | 0, 1 => op.linkOk && decide (bits (op.w 6) 29 3 ≤ 4) && op.zero 6 9 14 && decide (bits (op.w 6) 0 9 ≤ 255) &&
      (!bit (op.w 6) 23 || bits (op.w 6) 24 2 == 1)
  | 0, 2 => op.linkOk && op.sel != 1 && decide (10 ≤ op.cStep ∧ op.cStep ≤ 50) && op.zero 7 0 16 && op.zeroFrom 8
  | 0, 3 => op.linkOk && op.accessOk && (s.tagEntry (op.w 6)).isSome
  | 0, _ => op.linkOk && op.zero 6 25 7 && op.zero 6 12 1 && decide (1 ≤ bits (op.w 6) 16 9 ∧ bits (op.w 6) 16 9 ≤ 256)
  | 1, 1 => op.zero 5 24 7 && op.zeroFrom 6 && (!bit (op.w 5) 31 || op.hfPower)
  | 1, 2 => op.hfCodes && op.hfPower && op.activateOk && op.zeroFrom 6
  | 1, 3 => op.hfCodes && op.hfPower && op.frameOk && op.zeroFrom 8
  | 1, _ => decide (500 ≤ (op.w 5).toNat ∧ (op.w 5).toNat ≤ 60000000) && op.zero 6 0 16 && op.zeroFrom 7
  | 2, 1 => op.zero 4 7 1 && op.zero 6 13 19 && op.zeroFrom 8
  | 2, _ => op.sendOk && op.zeroFrom 9
  | 3, _ => decide (4 ≤ op.fixHops ∧ op.fixHops ≤ 64) && op.zero 5 0 8 &&
      decide (bits (op.w 6) 24 8 ≤ 132) && op.zero 6 0 24 && op.zeroFrom 7 && (s.tagEntry (op.w 4)).isSome
  | _, _ => decide (1 ≤ op.calCode ∧ op.calCode ≤ 9) && op.zero 4 1 23 && op.zeroFrom 5

/-- The checks of R57. -/
def State.copyOk (s : State) (op : Op) : Bool :=
  op.known && op.portsOk && op.loOk && op.resultOk && s.wordsOk op

/-! ### Start time and expiry (R65, R69) -/

/-- START of an operation; a C.SEND with START = 0 starts at its window's open tick (R70). -/
def Op.start (op : Op) : Word := if op.isSend then op.sendStart else op.w 1

/-- Whether a TB value lies ahead of now by less than 2^31 ticks (R69). -/
def State.ahead (s : State) (w : Word) : Bool := decide (0 < (w - s.tbLo).toNat ∧ (w - s.tbLo).toNat < 2 ^ 31)

/-- Ticks of the expiry field: 2^(n−1) ms. -/
def expireTicks (n : Nat) : Nat := 216960 * 2 ^ (n - 1)

/-- An operation whose start time is reached: expiry counts from START, or from the copy with START = 0. -/
def State.dueOp (s : State) (op : Op) : Op :=
  if op.due || (op.start != 0 && s.ahead op.start) then op
  else
    let late := if op.start = 0 then 0 else (s.tbLo - op.start).toNat
    { op with
      due := true
      expTick := match op.expTick with
        | some e => some e
        | none => if op.expire = 0 then none else some (s.ticks + expireTicks op.expire - late) }

/-- The start times of the Pending operations compared with TB now (R69, R289). -/
def State.refreshDue (s : State) : State :=
  { s with ops := s.ops.map fun op => if op.active then op else s.dueOp op }

/-- The start times of the Pending operations are compared afresh after TB was adjusted (R289). -/
def State.rebaseStarts (s : State) : State :=
  { s with ops := s.ops.map fun op => if op.active || op.start == 0 then op else s.dueOp { op with due := false } }

/-! ### AIR (R37, R321) -/

/-- Whether an address lies in thread memory or the program store. -/
def descSpan (a : Nat) : Bool := memSpan a 64 || decide (0x10000000 ≤ a ∧ a + 64 ≤ 0x10040000)

/-- A word of a thread's local memory, the shared memory or the program store. -/
def State.descWord (s : State) (t : Tid) (a : Nat) : Word :=
  if a < 0x800 then Memory.word (s.th t).mem a
  else if a < 0x11000000 then Memory.word s.pstore (a - 0x10000000)
  else Memory.word s.smem (a - 0x11000000)

/-- The operation a descriptor describes. -/
def State.copyDesc (s : State) (o : OpId) (a : Nat) : Op :=
  { id := o, desc := Vector.ofFn fun (k : Fin 16) => s.descWord o.thread (a + 4 * k.val) }

/-- The slot becomes Pending with its operation; a descriptor that fails its checks completes REJECT. -/
def State.issueOp (s : State) (op : Op) (bad : Bool) : State :=
  let op := s.dueOp op
  let s := { s.setSlot op.id { st := .pending } with ops := s.ops ++ [op] }
  if bad || !s.copyOk op then s.endPending op.id 0x0D else s

/-- The body of AIR (R37, R321): while the air engine has other descriptors to copy, the thread waits for its copy
(R54: WAITON 7). -/
def airBody (t : Tid) (bad contended : Bool) (f : IFields) (s : State) : IssueRes :=
  let x := s.th t
  let a := x.addr f
  if bits a 0 2 ≠ 0 then .trap s 0x02 0 (some a)
  else if !descSpan a.toNat then .trap s 0x03 0 (some a)
  else if (x.kslot f.rd).st ≠ .free then .trap s 0x06 0 none
  else if contended then .wait 7 none
  else
    let o : OpId := ⟨t, f.rd.toFin⟩
    if inStore a then
      match ([storeLine a, storeLine (a + 32), storeLine (a + 60)] : List Nat).find? fun l =>
          bad || decide (l ∈ s.image.bad) with
      | some l => .refetch l
      | none => .th (s.issueOp (s.copyDesc o a.toNat) false) t Thread.advance
    else
      let s := if bad then s.fault 6 t.val 0 else s
      .th (s.issueOp (s.copyDesc o a.toNat) bad) t Thread.advance

/-- AIR kd, off(ra). -/
def execAir (i : Issue) (f : IFields) (s : State) : Out :=
  .next (s.issue i (.air i f) (airBody i.thread i.dataErr i.contended f))

end Sys2Proof.Machine
end

