-- ==== Sys2Proof/Machine/AirDispatch.lean ====
section
/-!
DEFINITION. Eligibility, arbitration and dispatch of the air engine (R11 to R13, R64 to R73, R93, R117,
R119, R121, R148, R165, R166, R176, R179, R197, R200, R271), and the events that begin and end the waiting.
-/

namespace Sys2Proof.Machine

/-! ### What an operation uses -/

/-- The spare chain a K.CAL with take-over uses (R270): 0 SA, 1 SB, 2 SH. -/
def Op.spareNo (op : Op) : Option (Fin 3) :=
  if !op.isCal then none
  else if op.calCode = 1 ∨ op.calCode = 2 ∨ op.calCode = 4 then some (if op.mask < 256 then 0 else 1)
  else if op.calCode = 7 then some 2
  else none

/-- Whether two operations name a common port; Un and Hn are different ports (R71). -/
def Op.sharesPort (a b : Op) : Bool :=
  (a.uports.any fun p => decide (p ∈ b.uports)) || a.hports.any fun p => decide (p ∈ b.hports)

/-- Whether two operations name the same LO. -/
def Op.sharesLo (a b : Op) : Bool := a.usesLo && b.usesLo && a.lo == b.lo

/-- Whether two operations need the same spare. -/
def Op.sharesSpare (a b : Op) : Bool := a.spareNo.isSome && a.spareNo == b.spareNo

/-- A function shed at the level in force is one the operation uses (R75, R304). -/
def State.shed (s : State) (op : Op) : Bool :=
  let uhf := op.cls == 0 || op.cls == 2 || op.cls == 3 || (op.isCal && decide (1 ≤ op.calCode ∧ op.calCode ≤ 5))
  let hf := op.onH
  let mag := op.isCal && op.calCode == 8
  decide (5 ≤ s.power.level) || (mag && decide (4 ≤ s.power.level)) || (uhf && decide (3 ≤ s.power.level)) ||
    (hf && decide (2 ≤ s.power.level))

/-- The air engine dispatches: in Run with no other state requested (R301), not held (AIR_CTRL.HOLD), and
not in limp operation (R37, R257). -/
def State.airOpen (s : State) : Bool :=
  s.power.st == .run && s.power.req.isNone && !bit (s.reg AIR_CTRL) 0 && s.clk.mpllLock && !s.clk.limp

/-- The Active operation a UHF K.CAL runs beside: the holder of its port's transmit side (R271). -/
def State.hostOp (s : State) (op : Op) : Option Op :=
  if op.isCal && op.onU && !op.claimsTx then op.uports.head?.bind s.holder else none

/-! ### The obstacles of R71 to R73 -/

/-- R71: an earlier-issued operation of the same thread that shares a port is Pending or Active. -/
def State.inOrder (s : State) (op : Op) : Bool :=
  (s.ops.takeWhile fun x => x.id != op.id).all fun x => x.id.thread != op.id.thread || !x.sharesPort op

/-- Whether a C.LISTEN, a beam or a K.CAL without transmit claim can share a port with another holder: they
need the same LO (R12, R271). -/
def Op.portTogether (a b : Op) : Bool :=
  a.isSend || b.isSend || a.lo == b.lo

/-- R72: every port is free of other transmit or HF use; a C.LISTEN or a K.CAL that claims no transmit use
shares a port only on the same LO (R12, R271); one K.CAL claims a port at a time (R271). -/
def State.portsFree (s : State) (op : Op) : Bool :=
  s.ops.all fun x =>
    x.id == op.id || !x.holds || !x.sharesPort op ||
      (!(x.claimsTx && op.claimsTx) && !(x.isCal && op.isCal) && (op.onH || x.portTogether op))

/-- The frequency an operation would use now (R58, R126, R271). -/
def State.needFreq (s : State) (op : Op) : Nat :=
  match s.hostOp op with
  | some h => h.freq
  | none => s.opFreq op

/-- Whether an operation changes its LO's frequency while it runs (R11). -/
def Op.hops (op : Op) : Bool := op.hop || op.cls == 3

/-- R11: an operation shares its LO with another only at the same frequency at every moment; a K.CAL beside a
holder takes the holder's frequency; LBT shares it with none (R271). -/
def State.loTogether (s : State) (op x : Op) : Bool :=
  let lbt := fun (y : Op) => y.isCal && y.calCode == 5
  !lbt op && !lbt x &&
    (decide ((s.hostOp op).map (·.id) = some x.id) ||
      (!op.hops && !x.hops && x.freq == s.needFreq op))

/-- The holders of an operation's LO that R11 does not let it join. -/
def State.loRivals (s : State) (op : Op) : List Op :=
  s.ops.filter fun x => x.id != op.id && x.holds && x.sharesLo op && !s.loTogether op x

/-- R73: a hopping U.ROUND whose LO is held only by C.LISTENs serialises against them. -/
def State.loSerial (s : State) (op : Op) : Bool := op.isRound && op.hop && (s.loRivals op).all (·.isListen)

/-- R13: the spare is free, and no K.CAL issued earlier waits for it. -/
def State.spareFree (s : State) (op : Op) : Bool :=
  match op.spareNo with
  | none => true
  | some k => (s.spares[k]).isNone &&
      (s.ops.takeWhile fun x => x.id != op.id).all fun x => x.active || !x.due || !x.sharesSpare op

/-- A port named by the operation is faulted; a K.CAL leaves this to its preconditions (R93, R157, R273). -/
def State.faultedPort (s : State) (op : Op) : Bool :=
  !op.isCal && ((op.uports.any fun p => (s.up p).faulted) || op.hports.any fun p => (s.hp p).faulted)

/-- The frequencies a UHF interrogation or S.FIX can use (R117, R126). -/
def State.opFreqs (s : State) (op : Op) : List Nat :=
  if op.hop then s.hopSeq.map s.chanFreq
  else if op.cls = 3 then (List.range op.fixHops).map fun i => s.chanFreq (s.fixChan op i)
  else [s.chanFreq op.chan]

/-- Two frequencies differ by at least 2 MHz. -/
def apart (f g : Nat) : Bool := decide (f + 2000000 ≤ g ∨ g + 2000000 ≤ f)

/-- The separation of R121 at every moment: dwell by dwell between two hopping operations, else every
frequency of one against every frequency of the other. -/
def State.separated (s : State) (a b : Op) : Bool :=
  a.lo != b.lo &&
    (if a.hop && b.hop then
      (List.range s.hopLen).all fun j =>
        apart (s.chanFreq (s.hopAt ((a.pos + j) % max 1 s.hopLen))) (s.chanFreq (s.hopAt ((b.pos + j) % max 1 s.hopLen)))
    else (s.opFreqs a).all fun f => (s.opFreqs b).all fun g => apart f g)

/-- The square of a port's beam weight AMP as latched, in units of 1/255²: 20 log10(AMP / 255) dB (R78). -/
def State.ampSq (s : State) (p : UPortNo) : Nat := bits (s.up p).beam 0 8 ^ 2

/-- The conducted carrier level of q's own beam (R121): the level of R77 in 0.25 dBm with the square of the
weight of R78 — q's own where q transmits, else the strongest of the beam's ports; none for a receive-only
beam. -/
def State.ownLevel (s : State) (own : Op) (q : UPortNo) : Option (Int × Nat) :=
  let lv := fun p => ((s.up p).conducted (s.txpwr own), s.ampSq p)
  let tx := s.txPorts own
  if q ∈ tx then some (lv q)
  else tx.foldl (fun a p =>
    match a with
    | none => some (lv p)
    | some x => if dbPow (2 * x.1) * x.2 < dbPow (2 * (lv p).1) * (lv p).2 then some (lv p) else some x) none

/-- The isolation of R121 at the receiving ports of `own` from the beam of `other`: I(q) at most −25 dB, and
every pair measured. A receive-only beam takes the other beam's level: for each transmitting port p, Lp itself (DESIGN
CHOICE: assumption 70). -/
def State.isolatedAt (s : State) (own other : Op) : Bool :=
  own.uports.all fun q =>
    (other.uports.all fun p => s.ucpl p q != 0) &&
      match s.ownLevel own q with
      | some (lq, aq) =>
        decide ((s.txPorts other).foldl (fun a p =>
          a + dbPow (2 * (-2 * (s.ucpl p q : Int) + (s.up p).conducted (s.txpwr other) - lq)) * s.ampSq p) 0
            ≤ dbPow (-200) * aq)
      | none =>
        decide ((s.txPorts other).foldl (fun a p => a + dbPow (-4 * (s.ucpl p q : Int))) 0 ≤ dbPow (-200))

/-- R121 between two interrogations; without a sealed Atlas the isolation is never met. -/
def State.compatible (s : State) (a b : Op) : Bool :=
  s.separated a b && s.atlasOk && s.isolatedAt a b && s.isolatedAt b a

/-- The channel units a C.LISTEN needs beyond those already searched on its port (R166). -/
def State.newUnits (s : State) (op : Op) : List (UPortNo × Fin 16) :=
  (op.uports.flatMap fun p => (setBits (bits (op.w 4) 16 16)).map fun k => (p, k)).filter fun u => decide (u ∉ s.units)

/-- Which HF concurrency conditions an HF operation fails (R148, R149): budget, neighbours. -/
def State.hfObstacles (s : State) (op : Op) : Bool × Bool :=
  if op.onH && (op.hfOn || op.isWatch) then
    let t := s.hfAhead.hfTo op
    let watch := if op.isWatch then 10 * dbUnit else 0
    let c := t.committed t.hfPlan + watch
    (!(decide (c ≤ min 400 (s.fld HC_PWR 0 10) * dbUnit) && decide (c * 10000 ≤ s.fld HC_VHF 0 16 * 935 * dbUnit)),
      !t.hfNeighbours t.hfPlan)
  else (false, false)

/-- The concurrency conditions of R73: those of R121 and R148, a faulted port (R93), channel units in use
(R166), and the LO of a hopping round held by C.LISTENs (R11). -/
def State.serialised (s : State) (op : Op) : Bool :=
  s.faultedPort op ||
    (op.isBeam && s.ops.any fun x => x.id != op.id && x.holds && x.isBeam && !s.compatible op x) ||
    (op.isListen && decide (16 < s.units.length + (s.newUnits op).length)) ||
    (s.hfObstacles op).1 || (s.hfObstacles op).2 ||
    (!(s.loRivals op).isEmpty && s.loSerial op)

/-- The other tests of R72 before arbitration: order (R71), shedding (R75), ports, LO, spare, and room for
a solve (R129). -/
def State.waits (s : State) (op : Op) : Bool :=
  !s.inOrder op || s.shed op || !s.portsFree op || (!(s.loRivals op).isEmpty && !s.loSerial op) ||
    !s.spareFree op || (op.cls == 3 && decide (16 ≤ s.solveQ.length))

/-! ### Arbitration (R72, R197, R200) -/

/-- The competitors of an operation (R197). -/
def State.competitors (s : State) (op : Op) : List Op :=
  s.ops.filter fun x => x.id != op.id && !x.active && x.due &&
    (x.sharesPort op || x.sharesLo op || x.sharesSpare op)

/-- A strict class is A0 to A3. -/
def State.strict (s : State) (op : Op) : Bool := decide (s.airClass op.id.thread < 4)

/-- The class test of R197. -/
def State.classWins (s : State) (op : Op) : Bool :=
  let c := s.airClass op.id.thread
  let rivals := s.competitors op
  if c < 4 then rivals.all fun x => decide (c ≤ s.airClass x.id.thread)
  else (rivals.all fun x => !s.strict x) &&
    (decide (0 ≤ s.deficits[op.id.thread]) || rivals.all fun x => decide (s.deficits[x.id.thread] < 0))

/-- Whether an Active operation holds a transmit resource (R200). -/
def State.holdsTx (s : State) (op : Op) : Bool :=
  op.holds &&
    (if op.isBeam then !(s.txPorts op).isEmpty
    else op.isSend || op.cls == 1 || (op.isCal && (op.calCode == 3 || op.calCode == 6)))

/-- The colour test of R200: green; yellow with no green competitor of the same class and an idle band. -/
def State.colourWins (s : State) (op : Op) : Bool :=
  match s.colour op.id.thread with
  | 0 => true
  | 1 =>
    ((s.competitors op).all fun x =>
      !(s.airClass x.id.thread == s.airClass op.id.thread && s.colour x.id.thread == 0)) &&
    s.ops.all fun x => !(s.holdsTx x && x.id.thread != op.id.thread && x.cls == op.cls)
  | _ => false

/-- Whether `a` claims before `b` in one tick (R72); `first` says that `a` was issued first. -/
def State.before (s : State) (a b : Op) (first : Bool) : Bool :=
  let ca := s.airClass a.id.thread
  let cb := s.airClass b.id.thread
  if ca < 4 then decide (ca < cb) || (ca == cb && first)
  else if cb < 4 then false
  else
    let da := s.deficits[a.id.thread]
    let db := s.deficits[b.id.thread]
    decide (db < da) || (decide (da = db) && first)

/-! ### The checks at dispatch -/

/-- A port named by the operation is disabled (R76). -/
def State.disabledPort (s : State) (op : Op) : Bool :=
  (op.uports.any fun p => !bit (s.reg (UP_CTRL p)) 0) || op.hports.any fun p => !bit (s.reg (HP_CTRL p)) 0

/-- The lowest position of the hop sequence holding a channel (R117). -/
def State.hopPos (s : State) (c : Nat) : Option Nat := (List.range s.hopLen).find? fun i => s.hopAt i == c

/-- The channels whose limits an operation's level must meet (R117, R126). -/
def State.levelChans (s : State) (op : Op) : List Nat :=
  if op.hop then op.chan :: s.hopSeq
  else if op.cls = 3 then (List.range op.fixHops).map (s.fixChan op)
  else [op.chan]

/-- A frequency an LO accepts at dispatch: 840 to 960 MHz (R258). -/
def loRange (f : Nat) : Bool := decide (840000000 ≤ f ∧ f ≤ 960000000)

/-- The region check of a UHF operation or S.FIX (R57, R97, R117, R126, R258). -/
def State.regionOk (s : State) (op : Op) : Bool :=
  let chans := s.levelChans op
  s.sealed && (chans.all fun c => decide (c < s.chanCount) && loRange (s.chanFreq c)) && s.modAllowed (bits op.link 28 2) &&
    s.tariAllowed (bits op.link 30 2) && (!op.hop || (s.hopPos op.chan).isSome) &&
    (s.txPorts op).all fun p => chans.all fun c => decide ((s.up p).conducted (s.txpwr op) ≤ s.chanMax c)

/-- The HF field limit of the region profile (R57, R312). -/
def State.hfRegionOk (s : State) (op : Op) : Bool :=
  !s.sealed || !op.hfOn || op.hports.all fun p => decide (s.hfLevel op p ≤ bits (s.regionW 0) 0 8)

/-- A channel-table entry is usable (R165): BW 3 disables it. -/
def State.entryOk (s : State) (lo : Nat) (k : Fin 16) : Bool :=
  let cfg := s.reg (CH_CHCFG k)
  let bw := bits cfg 0 2
  let f := (s.reg (CH_FREQ k)).toNat
  let half := bwHz bw / 2
  bit cfg 31 && bw != 3 && decide (lo ≤ f + 19500000 - half ∧ f + half ≤ lo + 19500000 ∧ half ≤ f + 19500000) &&
    decide (100000 ≤ (((f : Int) - lo).natAbs - half : Int).natAbs)

/-- The checks of a C.LISTEN at dispatch (R165). -/
def State.listenOk (s : State) (op : Op) : Bool :=
  !op.zero 4 0 7 && (setBits (bits (op.w 4) 16 16)).all fun k => s.entryOk (op.w 7).toNat k

/-- The sub-band limits and the duty of a C.SEND (R179): its power is that of word 4. -/
def State.sendRegionOk (s : State) (op : Op) : Bool :=
  match s.subBand op with
  | none => false
  | some k =>
    let w := s.regionW (86 + 3 * k.val)
    decide (bits (op.w 4) 16 8 ≤ bits w 24 8) && !bit w 23 &&
      decide (s.dutyUsed k + op.sendUs ≤ s.dutyLimit k)

/-- Whether a K.CAL radiates (R272): CNC and DPD on a free port. -/
def State.calRadiates (s : State) (op : Op) : Bool :=
  op.isCal && (op.calCode == 1 || op.calCode == 3) && (s.hostOp op).isNone

/-- The region check of a UHF K.CAL on a free port (R57, R271, R272). -/
def State.calRegionOk (s : State) (op : Op) : Bool :=
  !op.onU || (s.hostOp op).isSome ||
    (s.sealed && decide (s.opChan op < s.chanCount) && loRange (s.opFreq op) &&
      (!s.calRadiates op || op.uports.all fun p => decide ((s.up p).conducted (s.txpwr op) ≤ s.chanMax (s.opChan op))))

/-- Whether a port has PPH values for the current temperature set (R125, R278). -/
def State.pphValid (s : State) (p : UPortNo) : Bool :=
  let c := if p.val < 8 then 0 else 1
  bit (s.reg (CAL_UVALID p)) (15 + (setOf (s.dieTemp c)).val)

/-- The status with which an eligible operation ends at its dispatch, if it does not become Active
(R57, R76, R97, R117, R125, R126, R165, R176, R179, R258, R356); the region is checked before the HANDLE, as in
the table of R64. -/
def State.dispatchStatus (s : State) (op : Op) : Option Nat :=
  if s.disabledPort op then some 0x07
  else match op.cls with
    | 0 =>
      if !s.regionOk op then some 0x0E
      else if op.code = 3 ∧ op.entry.isNone then some 0x0D
      else none
    | 1 => if s.hfRegionOk op then none else some 0x0E
    | 2 =>
      if !loRange (s.opFreq op) then some 0x0E
      else if op.isListen then (if s.listenOk op then none else some 0x0D)
      else if !s.sendRegionOk op then some 0x0E
      else if !s.sendFits op then some op.noFit
      else none
    | 3 =>
      if !s.atlasOk || op.uports.any (fun p => !s.uPresent p) then some 0x0C
      else if op.uports.any (fun p => !s.pphValid p) then some 0x0C
      else if linkBad op.link || !(bits op.link 0 12 == 0) then some 0x0D
      else if !s.regionOk op then some 0x0E
      else if op.entry.isNone then some 0x0D
      else none
    | _ => if s.calRegionOk op then none else some 0x0E

/-! ### Dispatch -/

/-- What an operation latches at its dispatch: the port registers of R78 for the ports whose transmit side
it takes, its link word, the configuration registers read at dispatch, its tag-table entry, its hop
position. -/
def State.latchOp (s : State) (op : Op) : State × Op :=
  let s := if op.isBeam || op.isSend || (op.isCal && (s.hostOp op).isNone)
    then op.uports.foldl (fun s p => s.latchPort p) s else s
  let link := if op.cls = 3 then s.reg SV_LINK else op.w 4
  let handle := if op.cls = 3 then op.w 4 else op.w 6
  let cfg := if op.cls = 3 then s.reg SV_CFG else s.reg HC_ACTCFG
  let sel := bits (op.w 4) 16 16
  (s, { op with
    link := link
    bscCfg := s.reg AIR_BSC_CFG
    cfg := cfg
    atlas := if op.cls = 3 then s.profile.atlas else []
    entry := if op.cls = 3 ∨ (op.cls = 0 ∧ op.code = 3) then s.tagEntry handle else none
    pos := if op.hop then (s.hopPos op.chan).getD 0 else 0
    band := if op.isSend then s.subBand op else none
    entries := if op.isListen then BitVec.ofNat 16 sel else 0
    chans := if op.isListen then (setBits sel).map fun k =>
        ((s.reg (CH_FREQ k)).toNat, bits (s.reg (CH_CHCFG k)) 0 2) else [] })

/-- A K.CAL begins to hold what it claims (R13, R271): its spare, and on a free port its LO at the channel
CAL_UHF.CHAN, listening first where it radiates and the profile requires it. -/
def State.startCal (s : State) (op : Op) : State :=
  let f := s.needFreq op
  let s := match op.spareNo with
    | some k => { s with spares := vset s.spares k (some op.id) }
    | none => s
  let host := (s.hostOp op).isSome
  let s := if op.onU && !host then
      (op.uports.foldl (fun s p =>
        if (s.up p).carrier == some (op.lo, f) then s else if s.calRadiates op then s.rampDown p else s.carrierOff p) s).loGoto op.lo f
    else s
  let listen := s.lbt && s.calRadiates op
  s.modOp op.id fun x => { x with freq := if op.onU then f else 0, lbtWait := listen }

/-- An operation becomes Active and begins to take its ports and its LO (R64, R79, R167, R175); an S.FIX without an
illuminator completes NO_REPLY at once (R126). -/
def State.activate (s : State) (op : Op) : State :=
  let o := op.id
  let s := (s.modOp o fun _ => { op with active := true }).setSlot o { s.slot o with st := .active }
  if op.cls = 3 ∧ (s.txPorts op).isEmpty then s.fixFail op {}
  else if op.isBeam then
    let s := op.uports.foldl (fun s p => s.dpdCheck op p) s
    let s := if op.hop then s.modOp o fun x => { x with dwellEnd := some s.nextBoundary } else s
    let s := s.startBeam o
    match s.op? o with
    | some x => if x.settled then s.beamSettled o else s
    | none => s
  else if op.isListen then
    let s := { s with units := s.units ++ s.newUnits op }
    (s.loGoto op.lo (op.w 7).toNat).modOp o fun x => { x with freq := (op.w 7).toNat }
  else if op.isSend then
    let s := op.uports.foldl (fun s p => s.rampDown p) s
    (s.loGoto op.lo (op.w 6).toNat).modOp o fun x => { x with freq := (op.w 6).toNat }
  else if op.isCal then s.startCal op
  else s

/-- The dispatch of an eligible operation (R64): its checks, then Active or Done. -/
def State.dispatch (s : State) (op : Op) : State :=
  let (s', op') := s.latchOp op
  match s'.dispatchStatus op' with
  | some st => s.endPending op.id st
  | none => s'.activate op'

/-- Every test of R72 holds, with the port registers as a dispatch would latch them. -/
def State.eligible (s : State) (op : Op) : Bool :=
  let (t, op') := s.latchOp op
  !op.active && op.due && !(op.isSend && !s.sendFits op) && s.airOpen && !t.waits op' && t.classWins op' &&
    t.colourWins op' && !t.serialised op'

/-- Among the eligible operations, the one that claims first of those that claim before `op` (R72). -/
def State.nextClaim (s : State) (op : Op) : Option Op :=
  let rank := fun (o : OpId) => (s.ops.takeWhile fun x => x.id != o).length
  let first := fun (a b : Op) => s.before a b (decide (rank a.id < rank b.id))
  (s.ops.filter fun x => x.id != op.id && s.eligible x && first x op).foldl (fun a x =>
    match a with
    | none => some x
    | some y => if first x y then some x else some y) none

/-- The eligible operations that claim before `op` in this tick take their resources, one after another. -/
def State.claimFirst (s : State) (op : Op) : Nat → State
  | 0 => s
  | k + 1 =>
    match s.nextClaim op with
    | some x => (s.dispatch x).claimFirst op k
    | none => s

/-- Whether the operations that claim before `op` in this tick leave it not eligible (R72). -/
def State.outranked (s : State) (op : Op) : Bool := !(s.claimFirst op s.ops.length).eligible op

/-- The colour of the thread at this test is noted (R64), and a new spell of red deferral is counted
(R200). -/
def State.noteColour (s : State) (op : Op) : State :=
  let red := s.colour op.id.thread == 2
  let s := if red && !op.counted then s.countDeferred op.id.thread else s
  s.modOp op.id fun x => { x with redLast := red, counted := red }

/-- An operation serialised by the budget or the neighbour rule is counted, once for each (R148, R149). -/
def State.countSerial (s : State) (op : Op) : State :=
  let (b, n) := s.hfObstacles op
  let s := if b && !op.pwrSer then s.countFld HC_SERCNT 0 16 1 else s
  let s := if n && !op.compSer then s.countFld HC_SERCNT 16 16 1 else s
  s.modOp op.id fun x => { x with pwrSer := x.pwrSer || b, compSer := x.compSer || n }

/-- One eligibility test of a Pending operation whose start time is reached (R72, R73, R176): it is
dispatched, waits, completes SERIALISED with CONC = 1 when a concurrency condition is its only obstacle, or,
a C.SEND that no longer fits, ends. -/
def State.testOp (s : State) (op : Op) : State :=
  let s := s.noteColour op
  match s.op? op.id with
  | none => s
  | some op =>
    let (t, op') := s.latchOp op
    if op.isSend && !s.sendFits op then s.endPending op.id op.noFit
    else if !s.airOpen || t.waits op' || !t.classWins op' || !t.colourWins op' then s
    else if t.serialised op' then
      let s := s.countSerial op
      if op.conc then s.endPending op.id 0x11 else s
    else if s.outranked op then s
    else s.dispatch op

/-- The test of a ticket's operation when it is Pending and its start time is reached. -/
def State.tryDispatch (s : State) (o : OpId) : State :=
  let s := s.refreshDue
  match s.op? o with
  | none => s
  | some op => if !op.active && op.due then s.testOp op else s

/-- The Pending operations a test picks out are tested again (R72). -/
def State.retestAll (s : State) (p : Op → Bool) : State :=
  ((s.ops.filter fun op => !op.active && p op).map (·.id)).foldl (fun s o => s.tryDispatch o) s

/-- METER_COLOUR_CHANGE (R72, R198, R199): the µs that bring the change pass, each refilling the meter and charging
the thread for what it has on the air; the Pending operations are tested again. -/
def execMeterColourChange (t : Tid) (us : Nat) (s : State) : Out :=
  .next (
    let s' := s.meterRun t us
    if s'.colour t = s.colour t then s' else s'.retestAll fun _ => true)

/-- DEFICIT_REPLENISH (R72, R198): the operations of a thread whose deficit comes from below 0 are tested again. -/
def execDeficitReplenish (s : State) : Out :=
  .next (s.replenish.retestAll fun op =>
    decide (s.deficits[op.id.thread] < 0 ∧ 0 ≤ s.replenish.deficits[op.id.thread]))

/-- OPERATION_DISPATCH (R64, R72). -/
def execOperationDispatch (o : OpId) (s : State) : Out := .next (s.tryDispatch o)

/-- START_TIME_REACHED (R69): time passes to the operation's START, and it is tested. -/
def execStartTimeReached (o : OpId) (s : State) : Out :=
  .next (match s.op? o with
    | none => s
    | some op =>
      if !op.active && !op.due && op.start != 0 then
        (if s.ahead op.start then s.advance (op.start - s.tbLo).toNat else s).tryDispatch o
      else s)

/-- C_SEND_CLAIM (R176): from 50 µs before its START the air engine claims the port and LO of a C.SEND. -/
def execCSendClaim (o : OpId) (s : State) : Out :=
  .next (match s.op? o with
    | none => s
    | some op =>
      if op.isSend && !op.active then
        let lead := usTicks 50
        let left := (op.sendStart - s.tbLo).toInt
        let s := if left ≤ lead then s else s.advance (left - lead).toNat
        s.testOp { op with due := true }
      else s)

/-- OPERATION_EXPIRY (R64, R65, R120): a Pending operation ends POLICED when its thread was red at the last
test, TIMEOUT otherwise; a U.ROUND or S.FIX paused by its meter ends POLICED. -/
def execOperationExpiry (o : OpId) (s : State) : Out :=
  .next (
    let s := s.refreshDue
    match s.op? o with
    | none => s
    | some op =>
      match op.expTick with
      | none => s
      | some e =>
        if !op.active then (s.advanceTo e).endPending o (if op.redLast then 0x08 else 0x0F)
        else if op.metered && op.ending.isNone then (s.advanceTo e).endOp o 0x08
        else s)

/-- A write of AIR_CTRL: HOLD is stored, CANCELALL requests the cancellation of every operation (R74). -/
def State.writeAirCtrl (s : State) (v : Word) : State :=
  let s := s.writeFields AIR_CTRL v
  if bit v 1 then s.cancelAll (s.ops.map (·.id)) else s

/-- CANCELALL: a write of AIR_CTRL.CANCELALL. -/
def execCancelall (v : Word) (s : State) : Out := .next (s.writeAirCtrl (v ||| 2))

end Sys2Proof.Machine
end

