-- ==== Sys2Proof/Machine/Calibration.lean ====
section
/-!
DEFINITION. Calibration (R270 to R281): the K.CAL runs, their preconditions, spare switches, plausibility,
application and storage, and the recomputation of every quantity from its temperature sets.
-/

namespace Sys2Proof.Machine

/-! ### The values of a quantity -/

/-- How a value is recomputed between two sets (R278): linear, along the shorter arc of 2^10 units, or
taken from the nearer set (the capture data of a DPD fit). -/
inductive CalKind where
  | linear | arc | nearer
deriving DecidableEq, Repr

/-- One value of a K.CAL result: how it interpolates, and the register field it shows in, if any. -/
structure CalField where
  kind : CalKind
  trim : Option TrimRef
deriving DecidableEq, Repr

/-- A value in a register field. -/
def calReg (k : CalKind) (a lo n : Nat) : CalField := ⟨k, some (.reg a lo n)⟩

/-- The values of a code on a port, in register order (R270): CNC the trims and the circulator leakage, IQR
the corrections and each step's gain and phase, DPD the coefficients with their driver level and ACPR, PPH
the phases, HDI the references, HRO the offsets, MAG the two gain trims, TSN offset and slope per sensor. -/
def calFields (code port : Nat) : List CalField :=
  match code with
  | 1 => [calReg .linear (UP_CNC port) 24 8, calReg .linear (UP_CNC port) 16 8, ⟨.linear, none⟩, ⟨.linear, none⟩]
  | 2 => [calReg .linear (UP_IQCORR port) 16 16, calReg .linear (UP_IQCORR port) 0 16] ++
      (List.range 8).flatMap fun k => [calReg .linear (UP_AGCG port k) 0 16, calReg .arc (UP_AGCG port k) 16 10]
  | 3 => ((List.range 30).map fun k => calReg .linear (UP_DPDC port k) 0 18) ++
      [calReg .nearer (UP_DPDCTRL port) 24 8, calReg .nearer (UP_DPDCTRL port) 16 8]
  | 4 => [calReg .arc (UP_PHCORR port) 16 10, calReg .arc (UP_PHCORR port) 0 10]
  | 6 => [calReg .linear (HP_HDI port) 16 16, calReg .linear (HP_HDI port) 0 16]
  | 7 => [calReg .linear (HP_RXCORR port) 16 16, calReg .linear (HP_RXCORR port) 0 16]
  | 8 => [⟨.linear, some (.mag 0)⟩, ⟨.linear, some (.mag 1)⟩]
  | 9 => (List.range 16).map fun _ => ⟨.linear, none⟩
  | _ => []

/-- The default of a quantity with no valid set (R278): trims and corrections 0, a(1,0) = 1. -/
def calDefault (code port : Nat) : List Int :=
  if code = 3 then 32768 :: List.replicate 31 0 else (calFields code port).map fun _ => 0

/-- The block whose die temperature a code uses (R277): 0 UA, 1 UB, 2 HC, 3 the rest. -/
def calBlock (code port : Nat) : Nat :=
  if 1 ≤ code ∧ code ≤ 4 then (if port < 8 then 0 else 1) else if code = 6 ∨ code = 7 then 2 else 3

/-- Whether a code's values step as analogue trims (R280). -/
def calAnalogue (code : Nat) : Bool := code == 1 || code == 7 || code == 8

/-- The trim DAC's value in force. -/
def State.trimVal (s : State) (r : TrimRef) : Int :=
  match r with
  | .reg a lo n => signed n (s.fld a lo n)
  | .mag i => s.magTrim[i]

/-- A trim DAC set. -/
def State.setTrim (s : State) (r : TrimRef) (v : Int) : State :=
  match r with
  | .reg a lo n => s.setFld a lo n (unsigned n v)
  | .mag i => { s with magTrim := vset s.magTrim i v }

/-- New values come into force (R280): analogue trims step to them, an application in progress taking the
new target; the others change at once. -/
def State.bringIn (s : State) (code port : Nat) (o : Option OpId) (vs : List Int) : State :=
  let s := { s with calBase := s.calBase.filter (fun b => !(b.code.toNat == code && b.port == port)) ++
    [⟨BitVec.ofNat 8 code, port, vs⟩] }
  ((calFields code port).zip vs).foldl (fun s x =>
    match x.1.trim with
    | none => s
    | some r =>
      if calAnalogue code then
        let o := match s.applying.find? fun a => decide (a.trim = r) with
          | some a => if o.isSome then o else a.op
          | none => o
        let rest := s.applying.filter fun a => !decide (a.trim = r)
        let due := match s.applying.find? fun a => decide (a.trim = r) with
          | some a => a.due
          | none => s.ticks + usTicks 8
        if s.trimVal r = x.2 then { s with applying := rest }
        else { s with applying := rest ++ [⟨r, x.2, o, due⟩] }
      else s.setTrim r x.2) s

/-- The valid bit of a set of a quantity (R276): CAL_UVALIDn, CAL_HVALIDn or CAL_GVALID. -/
def State.markValid (s : State) (code port : Nat) (k : Fin 5) : State :=
  match code with
  | 1 => s.setFlag (CAL_UVALID port) k.val
  | 2 => s.setFlag (CAL_UVALID port) (5 + k.val)
  | 3 => s.setFlag (CAL_UVALID port) (10 + k.val)
  | 4 => s.setFlag (CAL_UVALID port) (15 + k.val)
  | 6 => s.setFlag (CAL_HVALID port) k.val
  | 7 => s.setFlag (CAL_HVALID port) (5 + k.val)
  | 8 => s.setFlag CAL_GVALID k.val
  | 9 => s.setFlag CAL_GVALID (5 + k.val)
  | _ => s

/-- A result written to its set (R276). -/
def State.putSet (s : State) (x : CalSet) : State :=
  let same := fun (y : CalSet) => y.code == x.code && y.port == x.port && y.set == x.set
  { s with calSets := s.calSets.filter (fun y => !same y) ++ [x] }.markValid x.code.toNat x.port x.set

/-- The valid sets of a quantity, by recorded temperature. -/
def State.setsOf (s : State) (code port : Nat) : List CalSet :=
  s.calSets.filter fun x => x.code.toNat == code && x.port == port

/-- The recorded die temperature of a set, 1/16 °C. -/
def CalSet.t (x : CalSet) : Int := signed 16 x.temp.toNat

/-- The valid set nearest a temperature from below, and from above. -/
def bracket (xs : List CalSet) (t : Int) : Option CalSet × Option CalSet :=
  xs.foldl (fun (a : Option CalSet × Option CalSet) x =>
    let lo := if x.t ≤ t then
        match a.1 with
        | some y => if y.t ≤ x.t then some x else some y
        | none => some x
      else a.1
    let hi := if t ≤ x.t then
        match a.2 with
        | some y => if x.t ≤ y.t then some x else some y
        | none => some x
      else a.2
    (lo, hi)) (none, none)

/-- A value between two sets at a fraction num/den of the way, to the nearest (R278). -/
def interp (k : CalKind) (a b num den : Int) : Int :=
  let lin := fun (d : Int) => a + (2 * d * num + den) / (2 * den)
  match k with
  | .linear => lin (b - a)
  | .arc => signed 10 (unsigned 10 (lin (signed 10 (unsigned 10 (b - a)))))
  | .nearer => if 2 * num < den then a else b

/-- The value of a quantity at a die temperature from its valid sets (R278). -/
def State.calValue (s : State) (code port : Nat) (t : Int) : List Int :=
  match bracket (s.setsOf code port) t with
  | (some x, some y) =>
    if x.t = y.t then x.values
    else ((calFields code port).zip (x.values.zip y.values)).map fun v =>
      interp v.1.kind v.2.1 v.2.2 (t - x.t) (y.t - x.t)
  | (some x, none) => x.values
  | (none, some y) => y.values
  | (none, none) => calDefault code port

/-- The values of a quantity last brought into force. -/
def State.calNow (s : State) (code port : Nat) : List Int :=
  match s.calBase.find? fun b => b.code.toNat == code && b.port == port with
  | some b => b.values
  | none => calDefault code port

/-! ### Runs -/

/-- The progress of a K.CAL run that is Active and begun. -/
def Op.cal? (op : Op) : Option CalSt :=
  match op.eng with
  | .cal c => some c
  | _ => none

/-- The port number of a K.CAL, 0 for the codes with none. -/
def Op.calPort (op : Op) : Nat :=
  match setBits op.mask with
  | p :: _ => p.val
  | [] => 0

/-- The item of type 0x40 (R62). -/
def calBody (op : Op) (c : CalSt) : List RWord :=
  [rword (BitVec.ofNat 8 op.calCode ++ BitVec.ofNat 8 op.calPort ++ BitVec.ofNat 8 c.set.val ++ 0#8 ++
    c.quality ++ 0#16), rword (c.temp ++ 0#48)]

/-- A K.CAL begins (R273, R276): the die temperature and set are those of its start; a K.CAL DPD takes its
carrier, its DPD bypassed only by R83, an HDI its 100 mW field, an LBT its LO (R270, R272). -/
def State.calBegin (s : State) (o : OpId) (code : Nat) : State :=
  match s.begins o 4 1 with
  | none => s
  | some op =>
    if op.calCode ≠ code then s
    else
      let t := s.dieTemp (calBlock code op.calPort)
      let s := s.beginOp o (.cal { set := setOf t, temp := BitVec.ofInt 16 t, radiates := decide (code = 3), since := s.ticks })
      if code = 3 then
        op.uports.foldl (fun s p => (s.dpdCheck op p).carrierUp op op.freq s.ticks p) s
      else if code = 5 then s.modLo op.lo fun l => { l with lock := false, aligned := false, next := none }
      else if code = 6 then
        op.hports.foldl (fun s p =>
          let was := if (s.hp p).field then some (s.hp p).level else none
          (s.hfTurnOn op p).modHp p fun x => { x with saved := was }) s
      else s

/-- K_CAL_CNC. -/
def execKCalCnc (o : OpId) (s : State) : Out := .next (s.calBegin o 1)

/-- K_CAL_IQR. -/
def execKCalIqr (o : OpId) (s : State) : Out := .next (s.calBegin o 2)

/-- K_CAL_DPD: its carrier comes up once its listen, if any, found the channel free. -/
def execKCalDpd (o : OpId) (s : State) : Out :=
  .next (match s.op? o with
    | some op => if op.lbtWait || !(s.lo op.lo).at op.freq then s else s.calBegin o 3
    | none => s)

/-- K_CAL_PPH. -/
def execKCalPph (o : OpId) (s : State) : Out := .next (s.calBegin o 4)

/-- K_CAL_LBT. -/
def execKCalLbt (o : OpId) (s : State) : Out := .next (s.calBegin o 5)

/-- K_CAL_HDI. -/
def execKCalHdi (o : OpId) (s : State) : Out := .next (s.calBegin o 6)

/-- K_CAL_HRO. -/
def execKCalHro (o : OpId) (s : State) : Out := .next (s.calBegin o 7)

/-- K_CAL_MAG. -/
def execKCalMag (o : OpId) (s : State) : Out := .next (s.calBegin o 8)

/-- K_CAL_TSN. -/
def execKCalTsn (o : OpId) (s : State) : Out := .next (s.calBegin o 9)

/-- The measurement times of R270, µs: for DPD its capture and for LBT 0, whose fit and search end when they do. -/
def calDuration (code : Nat) : Nat :=
  match code with
  | 1 => 1800
  | 2 => 1000
  | 3 => 151
  | 4 => 2000
  | 5 => 0
  | 6 => 2000
  | 7 => 500
  | 8 => 400
  | _ => 1000

/-- The block's die temperature stayed within 2 °C of its value now over the last 1 s (R273). -/
def State.dieSteady (s : State) (c : Nat) : Bool :=
  s.dieLog.all fun x => decide ((x.2.getD c 0 - s.dieTemp c).natAbs < 32)

/-- The die temperature of a run's block has moved 2 °C or more from its value at the start (R274). -/
def State.calMoved (s : State) (op : Op) (c : CalSt) : Bool :=
  decide (32 ≤ (s.dieTemp (calBlock op.calCode op.calPort) - signed 16 c.temp.toNat).natAbs)

/-- The fault kinds that a code's precondition excludes (R273). -/
def State.calPortOk (s : State) (op : Op) : Bool :=
  let code := op.calCode
  (op.uports.all fun p =>
    let k := s.fld (UP_FAULT p) 8 4
    !(s.up p).faulted || k == 6 || (code == 1 && k == 7)) &&
  op.hports.all fun p =>
    let k := s.fld (HP_FAULT p) 8 4
    !(s.hp p).faulted || k == 6

/-- On a hopping port the code's duration plus 200 µs is left in the holder's dwell (R273). -/
def State.calDwellOk (s : State) (op : Op) : Bool :=
  match s.hostOp op with
  | some h =>
    if h.hops then
      match h.dwellEnd with
      | some e => decide (s.ticks + usTicks (calDuration op.calCode + 200) ≤ e)
      | none => true
    else true
  | none => true

/-- A device that is a fixture member, and whether its epoch is aligned (R266). -/
def State.epochOk (s : State) : Bool := s.fld CK_EPOCH 30 2 != 2 || s.clk.epState == 1

/-- Every precondition of R273. -/
def State.calPre (s : State) (op : Op) (c : CalChecks) : Bool :=
  let code := op.calCode
  let spare := decide (code = 1 ∨ code = 2 ∨ code = 4)
  s.dieSteady (calBlock code op.calPort) && s.calPortOk op && (!(code == 1 || code == 2) || decide (c.foreign ≤ -240)) &&
    (!spare || s.calDwellOk op) && (code != 4 || ((s.lo op.lo).aligned && s.epochOk)) &&
    (code != 3 || decide (-120 ≤ c.fb ∧ c.fb ≤ 20))

/-- CAL_PRECONDITIONS_END (R273, R271, R279), 50 µs after the run began: PRECOND, or on to the switch, to the silent window of a MAG,
or to the measurement. -/
def execCalPreconditionsEnd (o : OpId) (c : CalChecks) (s : State) : Out :=
  .next (match s.running o with
    | none => s
    | some op =>
      match op.cal? with
      | none => s
      | some x =>
        if x.stage ≠ .preconds then s
        else
          let s := s.advanceTo (x.since + usTicks 50)
          if !s.calPre op c then (s.countFld CAL_CNT 0 16 1).endOp o 0x0C else
          let waits := op.spareNo.isSome || (op.calCode == 8 && (s.fld ML_CFG 30 2 == 1 || s.fld ML_CFG 30 2 == 2))
          s.setEng o (.cal { x with stage := if waits then .waitSwitch else .measuring, since := s.ticks }))

/-- The port moves to its spare (R95, R159, R279): the spare takes the trims in force; in PA mode the level falls
by BACKOFF with CLAMPED; a CNC on a free port radiates there. -/
def State.toSpare (s : State) (op : Op) : State :=
  let s := op.hports.foldl (fun s p => s.modHp p fun x => { x with spare := true }) s
  op.uports.foldl (fun s (p : UPortNo) =>
    let i := s.fld (UP_CNC p) 24 8
    let q := s.fld (UP_CNC p) 16 8
    let s := s.modUp p fun x => { x with spare := true }
    let s := (s.setFld (s.cncReg p) 24 8 i).setFld (s.cncReg p) 16 8 q
    if s.calRadiates op then s.carrierUp op op.freq s.ticks p else s.relevel p) s

/-- The port returns from its spare to its own chain, with the values in force (R279). -/
def State.backFromSpare (s : State) (op : Op) : State :=
  (if op.radiates then op.uports.foldl (fun s p => s.carrierOff p) s else s).releaseSpares op

/-- The run ends with its verdict and its item (R275, R281). -/
def State.calEnd (s : State) (o : OpId) (c : CalSt) : State :=
  match s.op? o with
  | none => s
  | some op =>
    let s := if c.verdict = 0 then s else s.countFld CAL_CNT 16 16 1
    (s.emit o 0x40 c.verdict.toNat (calBody op c)).endOp o c.verdict.toNat

/-- The application is over (R280, R281): with word 4 [0] the result is written to the nonvolatile store, and
the run ends after the write; else it ends. -/
def State.calApplied (s : State) (o : OpId) : State :=
  match s.op? o with
  | none => s
  | some op =>
    match op.cal? with
    | none => s
    | some c =>
      if bit (op.w 4) 0 then
        { s with nvBusy := true }.setEng o (.cal { c with stage := .writing })
      else s.calEnd o { c with stage := .over }

/-- The band-table entries of an LO filled for a set (R260, R276). -/
def State.fillBands (s : State) (n : LoNo) (k : Fin 5) (codes : List Int) : State :=
  ((List.range 64).zip codes).foldl (fun s x =>
    let a := if k.val = 4 then CK_BTB n x.1 else CK_BTA n x.1
    s.setFld a (if k.val = 4 then 0 else 8 * k.val) 8 (128 + unsigned 7 x.2)) s

/-- The new values are brought into force (R275, R280). -/
def State.calApply (s : State) (op : Op) (c : CalSt) : State :=
  let o := op.id
  let s := s.setEng o (.cal { c with stage := .applying })
  if op.calCode = 5 then (s.fillBands op.lo c.set c.values).calApplied o
  else
    let s := s.putSet ⟨BitVec.ofNat 8 op.calCode, op.calPort, c.set, c.temp, c.values, false⟩
    let s := if op.calCode = 3 then s.setFlag (UP_DPDCTRL op.calPort) 0 else s
    let s := s.bringIn op.calCode op.calPort (some o) c.values
    if s.applying.any fun a => a.op == some o then s else s.calApplied o

/-- The crossfade of a take-over (R279): 4 µs, or none on a port that carries no carrier. -/
def State.calFade (s : State) (op : Op) : Nat :=
  if op.uports.any (fun p => (s.up p).carrier.isSome) || op.hports.any (fun p => (s.hp p).field) then usTicks 4 else 0

/-- SPARE_SWITCH (R95, R159, R279): outside every reply window of the port, a run goes to its spare, or
returns from it and applies its values or ends. With a carrier the crossfade takes 4 µs; the way back begins with
4 µs of settling. -/
def execSpareSwitch (o : OpId) (s : State) : Out :=
  .next (match s.running o with
    | none => s
    | some op =>
      match op.cal? with
      | none => s
      | some c =>
        let commanding := match s.hostOp op with
          | some h => decide (s.ticks < h.cmdEnd)
          | none => false
        if op.spareNo.isNone || op.lbtWait || commanding || op.uports.any (fun p => s.replyWin p) ||
            op.hports.any (fun p => (s.hholder p).any s.winOpen) then s
        else if c.stage = .waitSwitch then
          let s := s.advance (s.calFade op)
          (s.toSpare op).setEng o (.cal { c with stage := .measuring, radiates := s.calRadiates op, since := s.ticks })
        else if c.stage = .waitReturn then
          let s := (s.advance (usTicks 4 + s.calFade op)).backFromSpare op
          let c := { c with radiates := false }
          if c.verdict = 0 then s.calApply op c else (s.setEng o (.cal c)).calEnd o c
        else s)

/-- The load impedance a K.CAL HDI found against 16 Ω, in 1/16 % (R275): antenna voltage over driver current, each
peak to peak, from mV and mA (assumption 66). -/
def hdiError (v i : Int) : Int :=
  if i ≤ 0 then 0x7FFF else max (-0x8000) (min 0x7FFF ((v * 1600 - 2 * i * 16 * 1600) / (2 * i * 16)))

/-- The quality figure of R275 in 1/16 of its unit: for LBT the largest distance of VTUNE from 50 %, for HDI the
impedance error, for TSN the spread of the sensors, and for the others as measured. -/
def calQuality (code : Nat) (r : CalResult) : BitVec 16 :=
  match code with
  | 5 => BitVec.ofNat 16 (16 * r.tunes.foldl (fun a v => max a (((v.getD 0 : Nat) : Int) - 50).natAbs) 0)
  | 6 => BitVec.ofInt 16 (hdiError (r.values.getD 0 0) (r.values.getD 1 0))
  | 9 => match r.sensors with
    | [] => r.quality
    | x :: xs => BitVec.ofInt 16 (xs.foldl max x - xs.foldl min x)
  | _ => r.quality

/-- The values a run would bring into force: for DPD with the driver level of the capture and its ACPR in −0.5 dBc
(R83, R272). -/
def State.calValues (s : State) (op : Op) (r : CalResult) : List Int :=
  if op.calCode = 3 then
    r.values ++ [(op.uports.head?.map fun p => (s.up p).level).getD 0, -(signed 16 r.quality.toNat / 8)]
  else r.values

/-- The limits of R275 on a result. -/
def State.calPlausible (s : State) (op : Op) (c : CalSt) (r : CalResult) : Bool :=
  let q : Int := signed 16 c.quality.toNat
  let vs := c.values
  let full := decide (vs.length = (calFields op.calCode op.calPort).length)
  match op.calCode with
  | 1 => full && decide (q ≤ -960) &&
      ((calFields 1 op.calPort).zip vs).all fun x =>
        match x.1.trim with
        | some t => decide (-124 < x.2 ∧ x.2 < 123) && decide ((x.2 - s.trimVal t).natAbs ≤ 64)
        | none => true
  | 2 => full && decide (560 ≤ q) && (vs.take 2).all (fun v => decide (v.natAbs ≤ 3276)) &&
      (List.range 8).all fun k => decide ((vs.getD (2 + 2 * k) 0 - 96 * k).natAbs ≤ 32)
  | 3 => full && decide (q ≤ -720) && decide (q + 48 ≤ signed 16 r.before.toNat) &&
      (vs.take 30).all fun v => decide (v.natAbs ≤ 131072)
  | 4 => full && decide (q ≤ 32) &&
      match (s.setsOf 4 op.calPort).find? fun x => x.set == c.set with
      | some x => (vs.zip x.values).all fun v => decide ((signed 10 (unsigned 10 (v.1 - v.2))).natAbs ≤ 85)
      | none => true
  | 5 => decide (vs.length = 64 ∧ r.tunes.length = 64) && (r.tunes.all fun v =>
        match v with
        | some k => decide (25 ≤ k ∧ k ≤ 75)
        | none => false) && (vs.zip (vs.drop 1)).all fun v => decide (v.1 ≤ v.2)
  | 6 => full && decide (q.natAbs ≤ 800)
  | 7 => full && decide (q ≤ 64) && vs.all fun v => decide (v.natAbs ≤ 2048)
  | 8 => full && decide (q.natAbs ≤ 48)
  | _ => full && decide (q ≤ 48)

/-- CAL_MEASUREMENT_END (R270, R273 to R275, R279): the code's duration after the measurement began. -/
def execCalMeasurementEnd (o : OpId) (r : CalResult) (s : State) : Out :=
  .next (match s.running o with
    | none => s
    | some op =>
      match op.cal? with
      | none => s
      | some c =>
        if c.stage ≠ .measuring then s
        else
          let s := s.advanceTo (c.since + usTicks (calDuration op.calCode))
          let reversed := op.calCode == 3 && op.uports.any fun p => s.fbReversed p r.fb r.follows
          let c := { c with quality := calQuality op.calCode r, values := s.calValues op r }
          let s := if op.calCode = 3 then s.muteBeam op else s
          if reversed then op.uports.foldl (fun s p => s.uhfFault p 6) s
          else if r.opposed && op.calCode == 6 then op.hports.foldl (fun s p => s.hfFault p 6) s
          else if r.poison || s.calMoved op c ||
              (decide (op.calCode = 1 ∨ op.calCode = 2) && decide (-240 < r.foreign)) then
            (s.countFld CAL_CNT 16 16 1).endOp o 0x0D
          else
            let c := { c with verdict := if s.calPlausible op c r then 0x00 else 0x0D }
            if op.spareNo.isSome then s.setEng o (.cal { c with stage := .waitReturn })
            else if c.verdict = 0 then s.calApply op c
            else s.calEnd o c)

/-- One LSB towards a target. -/
def stepTo (v target : Int) : Int := if v < target then v + 1 else if target < v then v - 1 else v

/-- The tick of the next step that is due. -/
def State.trimDue (s : State) : Nat :=
  match s.applying with
  | [] => s.ticks
  | a :: as => as.foldl (fun t (x : Applying) => min t x.due) a.due

/-- Each trim DAC due by now steps by 1 LSB, and is done with once it has arrived (R280). -/
def State.trimStep (s : State) : State :=
  let due := fun (a : Applying) => decide (a.due ≤ s.ticks)
  let s := (s.applying.filter due).foldl (fun (s : State) (a : Applying) =>
    s.setTrim a.trim (stepTo (s.trimVal a.trim) a.target)) s
  let left := s.applying.filter fun (a : Applying) => !decide (s.trimVal a.trim = a.target)
  { s with applying := left.map fun (a : Applying) => if due a then { a with due := a.due + usTicks 8 } else a }

/-- TRIM_APPLY_STEP (R280): at the next step that is due, 8 µs after the last, each trim DAC due then steps by 1 LSB;
a run whose last DAC has arrived has applied its values. -/
def execTrimApplyStep (s : State) : Out :=
  .next (
    let before := s.applying.filterMap (·.op)
    let s := (s.advanceTo s.trimDue).trimStep
    (before.eraseDups.filter fun o => s.applying.all fun a => a.op != some o).foldl (fun s o => s.calApplied o) s)

/-- CAL_NV_WRITE_DONE (R260, R281): the result is in the nonvolatile store, and the run ends. -/
def execCalNvWriteDone (o : OpId) (s : State) : Out :=
  .next (match s.running o with
    | none => s
    | some op =>
      match op.cal? with
      | none => s
      | some c =>
        if c.stage ≠ .writing then s
        else
          let code : Byte := BitVec.ofNat 8 op.calCode
          let mine := fun (x : CalSet) => x.code == code && x.port == op.calPort && x.set == c.set
          let s := { s with
            nvBusy := false
            calSets := s.calSets.map fun x => if mine x then { x with stored := true } else x }
          let s := if op.calCode = 5 then
              { s with nv.bands := (List.range 64).foldl (fun l b =>
                  let a := if c.set.val = 4 then CK_BTB op.lo b else CK_BTA op.lo b
                  let lo := if c.set.val = 4 then 0 else 8 * c.set.val
                  Sparse.insert a (withBits (Sparse.get (fun _ => 0) l a) lo 8 (s.fld a lo 8)) l) s.nv.bands }
            else { s with nv.sets := s.nv.sets.filter (fun x => !mine x) ++ s.calSets.filter mine }
          s.calEnd o { c with stage := .over })

/-! ### Recomputation (R277, R278) -/

/-- The die temperature of a block from its two sensors, rounded down to 1/16 °C (R277). -/
def State.meanTemp (s : State) (c : Nat) : Int :=
  (signed 16 (s.fld (CAL_TEMP (2 * c)) 0 16) + signed 16 (s.fld (CAL_TEMP (2 * c + 1)) 0 16)) / 2

/-- The die temperatures and their nearest sets, kept for the last second (R273). -/
def State.retemp (s : State) : State :=
  (List.range 4).foldl (fun s c =>
    let t := s.meanTemp c
    s.setReg (CAL_DIE c) (fieldW 16 3 (setOf t).val ||| fieldW 0 16 (unsigned 16 t)))
    { s with dieLog := (s.ticks, (List.range 4).map s.meanTemp) ::
        s.dieLog.filter fun x => decide (s.ticks < x.1 + usTicks 1010000) }

/-- The quantities of R270 that are recomputed, as code and port. -/
def calQuantities : List (Nat × Nat) :=
  ([1, 2, 3, 4].flatMap fun c => (List.range 16).map fun p => (c, p)) ++
    ([6, 7].flatMap fun c => (List.range 8).map fun p => (c, p)) ++ [(8, 0), (9, 0)]

/-- Whether a quantity is valid for the current temperature set (R278). -/
def State.calValid (s : State) (code port : Nat) : Bool :=
  let k := setOf (s.dieTemp (calBlock code port))
  (s.setsOf code port).any fun x => x.set == k

/-- One quantity recomputed; a value that changes comes into force (assumption 26). -/
def State.recalc (s : State) (code port : Nat) : State :=
  let v := s.calValue code port (s.dieTemp (calBlock code port))
  let s := if code = 3 then s.setFld (UP_DPDCTRL port) 0 1 (if s.calValid 3 port then 1 else 0) else s
  if v = s.calNow code port then s else s.bringIn code port none v

/-- A run whose block's die temperature has moved 2 °C while it measures ends with REJECT (R274). -/
def State.calTemper (s : State) : State :=
  s.ops.foldl (fun s op =>
    match op.eng with
    | .cal c =>
      if c.stage = .measuring ∧ s.calMoved op c then (s.countFld CAL_CNT 16 16 1).endOp op.id 0x0D else s
    | _ => s) s

/-- TEMPERATURE_RECOMPUTE (R274, R277, R278): 10 ms after the last. -/
def execTemperatureRecompute (s : State) : Out :=
  .next (
    let s := s.advanceTo (s.retempAt + usTicks 10000)
    let s := { s with retempAt := s.ticks }.retemp
    (calQuantities.foldl (fun s q => s.recalc q.1 q.2) s).calTemper)

/-- The stored sets and band tables loaded at reset (R260, R281). -/
def State.loadCal (s : State) : State :=
  let s := s.nv.sets.foldl (fun s x => s.putSet { x with stored := true }) s
  s.nv.bands.foldl (fun s x => s.setReg x.1 x.2) s

end Sys2Proof.Machine
end

