-- ==== Sys2Proof/Machine/Clocks.lean ====
section
/-!
DEFINITION. Clocks and synthesizers (R250 to R269): the reference and the MPLL, limp operation, the locks and
steps of the LOs, the epoch, and the clock outputs.
-/

namespace Sys2Proof.Machine

/-! ### Reference and MPLL (R250 to R257) -/

/-- REFERENCE_QUALIFIED (R250, R288): the first source to qualify becomes the reference, and TB starts at 0. -/
def execReferenceQualified (refin : Bool) (s : State) : Out :=
  .next (if s.power.released && s.clk.refSrc == 0 then
    { s with clk.refSrc := if refin then 2 else 1, tb := 0 } else s)

/-- MPLL_LOCKED (R253, R257): the first lock starts the system clocks; a lock in limp operation begins the
settle. -/
def execMpllLocked (s : State) : Out :=
  .next (if s.clk.refSrc != 0 && !s.clk.mpllLock then
    { s with clk.mpllLock := true, clk.settling := s.clk.limp } else s)

/-- MPLL_UNLOCK (R75, R140, R256): every carrier and field is removed, the system domains go to the limp clock,
every Active operation ends LOCK_LOST, and the event is flagged, counted and reported. -/
def execMpllUnlock (s : State) : Out :=
  .next (if s.clk.mpllLock then
    let s := s.uhfRemoveAll.hfRemoveAll
    let s := { s.setLimp true with clk.mpllLock := false, clk.settling := false }
    (((s.killAll (fun _ => true) 0x06).setFlag CK_FLAGS 0).countFld CK_CNT 16 16 1).fault 2 0 1
  else s)

/-- MPLL_SETTLE_DONE (R257): the system domains switch back. -/
def execMpllSettleDone (s : State) : Out :=
  .next (if s.clk.mpllLock && s.clk.settling then { s.setLimp false with clk.settling := false } else s)

/-- RELOCKSLOW (R257): not relocked 350 µs after the unlock. -/
def execRelockslow (s : State) : Out :=
  .next (if s.clk.limp && !s.clk.mpllLock then (s.setFlag CK_FLAGS 1).fault 2 0 2 else s)

/-! ### Local oscillators (R258 to R265) -/

/-- LO_UNLOCK (R75, R265): the carriers of the LO are removed without a ramp, the operations holding it end
LOCK_LOST, the event is flagged, counted and reported, and the LO relocks at the M in force. -/
def execLoUnlock (n : LoNo) (s : State) : Out :=
  .next (if (s.lo n).lock then
    let s := s.loMute n
    let s := s.killAll (fun op => op.holds && op.usesLo && op.lo == n) 0x06
    let s := ((s.setFlag CK_FLAGS (12 + n.val)).countFld (CK_LO_CNT n) 16 16 1).fault 3 n.val 0
    (s.modLo n fun l => { l with unlocked := true, next := none }).loRelock n
  else s)

/-- What waits for an LO that has reached its frequency: the windows of C.LISTENs open (R167), a slewed hop of
an S.FIX begins (R127), and a K.CAL in its measurement ends REJECT (R274). -/
def State.loReached (s : State) (n : LoNo) : State :=
  let on := s.ops.filter fun op => op.holds && op.usesLo && op.lo == n && op.started && op.ending.isNone
  on.foldl (fun s op =>
    match op.eng with
    | .listen .. => if !op.settled && (s.lo n).lockedOn op.freq then s.openListen op.id else s
    | .fix _ => if (s.lo n).at op.freq then s.fixSlewed op.id else s
    | .cal c => if c.stage = .measuring ∧ op.calCode ≠ 5 ∧ !(s.lo n).relock then (s.countFld CAL_CNT 16 16 1).endOp op.id 0x0D else s
    | _ => s) s

/-- The loop of a relocking LO locks (R259 to R264). -/
def State.loLocked (s : State) (n : LoNo) (band : BitVec 7) (vtune : Byte) : State :=
  if (s.lo n).lock then s
  else (((s.loSearched n band).modLo n fun l => { l with lock := true }).loLoad n).loTune n vtune

/-- LO_RELOCK_END (R259 to R264). Without `errs` the loop has locked and its alignment runs, LOCK = 1 and ALIGNED = 0;
with them the ports are aligned, the relock is over and counted, and a step that waited is made. -/
def execLoRelockEnd (n : LoNo) (dt : Nat) (band : BitVec 7) (vtune : Byte) (errs : Option (List Int)) (s : State) : Out :=
  .next (if (s.lo n).relock then
    let s := (s.advance dt).loLocked n band vtune
    match errs with
    | none => s.loReached n
    | some es =>
      let s := ((s.countFld (CK_LO_CNT n) 0 16 1).loAlign n es).modLo n fun l => { l with relock := false, unlocked := false }
      (s.loNext n).loReached n
  else s)

/-- LO_STEP_END (R262, R264): the slew is over and the phase realigned; a step that waited is then made. -/
def execLoStepEnd (n : LoNo) (dt : Nat) (errs : List Int) (s : State) : Out :=
  .next (if (s.lo n).slewing then
    let s := ((s.advance dt).loAlign n errs).modLo n fun l => { l with slewing := false }
    (s.loNext n).loReached n
  else s)

/-- TUNEWARN (R261): the tuning voltage of a locked LO drifts. -/
def execTunewarn (n : LoNo) (vtune : Byte) (s : State) : Out :=
  .next (if (s.lo n).lock then s.loTune n vtune else s)

/-! ### The epoch (R266, R267, R288, R289) -/

/-- The reference periods of an epoch, in ticks of TB: 25,600 × 8. -/
def epochTicks : Nat := 204800

/-- CK_EPOCH.ROLE; 3 acts as 0. -/
def State.epochRole (s : State) : Nat := if s.fld CK_EPOCH 30 2 = 3 then 0 else s.fld CK_EPOCH 30 2

/-- TB copied to TB_EPHI and TB_EPLO (R288). -/
def State.latchEpoch (s : State) : State :=
  (s.setReg TB_EPHI (s.tb.extractLsb' 32 32)).setReg TB_EPLO s.tbLo

/-- An armed offset is added, and the start times of Pending operations are compared afresh (R289). -/
def State.adjustTb (s : State) : State :=
  if bit (s.reg TB_CTRL) 0 then s.applyOfs.rebaseStarts else s

/-- EPOCH_TICK (R288, R289): TB reaches the next multiple of 204,800, an armed offset is applied, and TB is
copied. A member without an aligned or free-running divider has no epoch tick. -/
def execEpochTick (s : State) : Out :=
  .next (if s.tbRuns && (s.epochRole != 2 || s.clk.epState != 0) then
    ((s.advance (epochTicks - s.tb.toNat % epochTicks)).adjustTb).latchEpoch
  else s)

/-- TB at a member's alignment (R289): an armed offset is applied, else TB is rounded up to the next multiple
of 204,800 with ROUNDED. -/
def State.alignTb (s : State) : State :=
  if bit (s.reg TB_CTRL) 0 then s.adjustTb
  else
    let up := (epochTicks - s.tb.toNat % epochTicks) % epochTicks
    ({ s with tb := s.tb + BitVec.ofNat 64 up }.setFlag TB_FLAGS 1).rebaseStarts

/-- CK_EPOCH.DELAY in ticks: the epoch tick falls so long before the edge as sampled (R266). -/
def State.epochDelay (s : State) : Nat := 8 * s.fld CK_EPOCH 0 4

/-- An edge as sampled now lies within ±2 reference periods of where the divider expects it (R267). -/
def State.epochInWindow (s : State) : Bool :=
  let off := (s.tb.toNat + epochTicks - s.epochDelay) % epochTicks
  decide (off ≤ 16 ∨ epochTicks - 16 ≤ off)

/-- The divider is set by an edge sampled now (R266, R289): at the epoch tick, DELAY before the edge, TB is aligned and
copied; TB has counted on since. -/
def State.setDivider (s : State) : State :=
  let d := BitVec.ofNat 64 s.epochDelay
  let s := ({ s with tb := s.tb - d }.alignTb).latchEpoch
  { s with tb := s.tb + d, clk.epState := 1, clk.epWait := false, clk.epSeen := s.ticks }

/-- EPOCHI_EDGE (R266, R267): sampled at the next reference edge; on acquisition or after REALIGN it sets the member's
divider, and the device is aligned; an edge within ±2 reference periods is accepted, another is flagged and
reported. -/
def execEpochiEdge (dt : Nat) (s : State) : Out :=
  .next (if s.tbRuns && s.epochRole == 2 then
    let s := s.advance dt
    let s := s.advance ((8 - s.tb.toNat % 8) % 8)
    if s.clk.epState = 0 ∨ s.clk.epWait then s.setDivider
    else if s.epochInWindow then { s with clk.epSeen := s.ticks }
    else (s.setFlag CK_FLAGS 3).fault 4 0 1
  else s)

/-- EPOCHLOST (R267): the fourth expected edge after the last accepted one has passed; the divider runs free. -/
def execEpochlost (s : State) : Out :=
  .next (if s.epochRole == 2 && s.clk.epState == 1 then
    ({ s.advanceTo (s.clk.epSeen + 4 * epochTicks + 16) with clk.epState := 2 }.setFlag CK_FLAGS 2).fault 4 0 2
  else s)

/-- A write of CK_EPOCH (R266, R267): a ROLE written to member acquires its epoch at the next edge; REALIGN
makes that edge set the divider again, and every locked LO shows ALIGNED = 0. -/
def State.writeEpoch (s : State) (v : Word) : State :=
  let was := s.epochRole
  let s := s.writeFields CK_EPOCH v
  let s := if s.epochRole = 2 then
      (if was = 2 then s else { s with clk.epState := 0, clk.epWait := false })
    else { s with clk.epState := 1, clk.epWait := false }
  if bit v 29 then
    { s with
      clk.epWait := s.epochRole == 2
      los := s.los.map fun l => if l.lock then { l with aligned := false } else l }
  else s

/-- REALIGN: a write of CK_EPOCH.REALIGN. -/
def execRealign (v : Word) (s : State) : Out := .next (s.writeEpoch (v ||| 0x20000000))

/-! ### Clock outputs (R268) -/

/-- The frequency of an output's source in units of 0.01 MHz; an LO divided by 16 is at most 60 MHz. -/
def clkoutRate (v : Word) : Nat :=
  match bits v 28 3 with
  | 1 => 21696
  | 2 => 10848
  | 3 => 5424
  | 4 => 2712
  | 5 => 1356
  | 6 => 6000
  | _ => 2712

/-- Whether a setting of output `k` is accepted (R268): no source above the format's highest frequency, no
LVCMOS format that does not match the bank's VDDIO. -/
def clkoutOk (k : Fin 4) (v : Word) : Bool :=
  let f := bits v 24 2
  let bank := Config.bankIs33 (decide (2 ≤ k.val))
  if f < 2 then decide (clkoutRate v ≤ 10848) && (f == 1) == bank else decide (clkoutRate v ≤ 21696)

/-- A write of CK_CLKOUTk (R268): stored, or refused with CFGERR. -/
def State.writeClkout (s : State) (k : Fin 4) (v : Word) : State :=
  if clkoutOk k v then s.writeFields (CK_CLKOUT k) v else s.setFlag CK_FLAGS 20

/-- What an output carries: nothing (both balls low, or held low), the reference, the MPLL divided, or an LO divided
by 16. -/
inductive ClkSource where
  | low | reference
  | mpll (div : Nat)
  | lo (n : LoNo)
deriving DecidableEq, Repr

/-- The source set for an output (R268). -/
def clkoutSource (v : Word) : ClkSource :=
  match bits v 28 3 with
  | 1 => .mpll 8
  | 2 => .mpll 16
  | 3 => .mpll 32
  | 4 => .mpll 64
  | 5 => .mpll 128
  | 6 => .lo (v.extractLsb' 26 2).toFin
  | _ => .reference

/-- Whether a source relocks now: the MPLL until its settle is over, an LO until the end of its relock (R257, R269). -/
def State.relocks (s : State) (c : ClkSource) : Bool :=
  match c with
  | .low | .reference => false
  | .mpll _ => !s.clk.mpllLock || s.clk.limp
  | .lo n => (s.lo n).relock || !(s.lo n).lock

/-- What output `k` carries now (R268, R269): while its source relocks it is held low, or with RELOCK = 1 carries the
reference when the source runs at 27.12 MHz or more. -/
def State.clkoutNow (s : State) (k : Fin 4) : ClkSource :=
  let v := s.reg (CK_CLKOUT k)
  let c := clkoutSource v
  if !bit v 31 || s.clk.refSrc == 0 then .low
  else if s.relocks c then (if bit v 21 && decide (2712 ≤ clkoutRate v) then .reference else .low)
  else c

/-- CLKOUT_CONFIG: a write of CK_CLKOUTk. -/
def execClkoutConfig (k : Fin 4) (v : Word) (s : State) : Out := .next (s.writeClkout k v)

end Sys2Proof.Machine
end

