-- ==== Sys2Proof/Machine/Serial.lean ====
section
/-!
DEFINITION. The memory serial port and the XIP cache (R221 to R224), and the peripheral serial port
(R225 to R227).
-/

namespace Sys2Proof.Machine

/-! ### Memory serial port -/

/-- An enabled region covers a byte offset of the window (R223). -/
def regionCovers (w : Word) (a : Nat) : Bool :=
  bit w 31 && decide (bits w 12 12 ≤ a / 4096 ∧ a / 4096 ≤ bits w 12 12 + bits w 0 12)

/-- The first enabled region that covers a byte offset (R223). -/
def State.xipRegion (s : State) (a : Nat) : Option Word :=
  ((List.range 4).map fun r => s.reg (MS_REGION r)).find? fun w => regionCovers w a

/-- The Saffron slot `k` when it holds a key enabled for XIP (R223, R311). -/
def State.xipKey (s : State) (k : Nat) : Option KeySlot :=
  ((s.profile.slots.find? (·.1 == k)).map (·.2)).filter (·.xip)

/-- The key stream of the 16-byte block with an index (R223): AES-128 of the nonce and the index. -/
def xipStream (k : KeySlot) (block : Nat) : BitVec 128 := Config.aes128 k.key (k.nonce ++ BitVec.ofNat 32 block)

/-- Word `i` of a 128-bit value, the lowest-addressed first. -/
def blockWord (x : BitVec 128) (i : Nat) : Word := x.extractLsb' (96 - 32 * i) 32

/-- The plaintext of an XIP line read from the flash, and whether its key slot was unusable (R223). -/
def State.decryptLine (s : State) (line : Nat) (flash : List Word) : List Word × Bool :=
  match s.xipRegion (32 * line) with
  | none => (flash, false)
  | some w =>
    if !bit w 30 then (flash, false)
    else match s.xipKey (bits w 27 3) with
      | none => (List.replicate 8 0, true)
      | some k =>
        ((List.range 8).map fun i => flash.getD i 0 ^^^ blockWord (xipStream k (2 * line + i / 4)) (i % 4), false)

/-- The cache set of a line: 512 sets of 4 ways (R222). -/
def xipSet (line : Nat) : Nat := line % 512

/-- A filled line becomes the most recent of its set, and the least recently used of five leaves (R222). -/
def State.cacheLine (s : State) (line : Nat) (ws : List Word) : State :=
  let others := s.msp.lines.filter fun e => e.1 != line
  let kept := ((others.filter fun e => xipSet e.1 == xipSet line).take 3).map (·.1)
  { s with msp.lines := (line, ws) :: others.filter fun e => xipSet e.1 != xipSet line || decide (e.1 ∈ kept) }

/-- A thread that waits for an XIP line tries again: a fetch at its next issue, an LD at once (R22, R27). -/
def State.retryLine (s : State) (line : Nat) (t : Tid) : State :=
  let x := s.th t
  if x.st = .wait ∧ x.xipLine = some line then
    match x.waiting with
    | some (.ld _ f) => s.retry t (ldBody t false f)
    | _ => s.modTh t Thread.resume
  else s

/-- XIP_LINE_FILL (R222, R223): the oldest request is served, counted, decrypted and cached, and the threads
that wait on the line go on; a fill waits for a direct command that began before it (R224). -/
def execXipLineFill (line : BitVec 19) (flash : List Word) (s : State) : Out :=
  .next (if s.msp.fills.head? = some line.toNat ∧ flash.length = 8 ∧ (s.msp.queued ∨ s.fld MS_DCMD 30 1 = 0) then
    let (ws, bad) := s.decryptLine line.toNat flash
    let s := { s with msp.fills := s.msp.fills.tail, msp.queued := false }.countFld MS_MISS 0 32 1
    let s := if bad then s.setFlag MS_FLAGS 1 else s
    (s.cacheLine line.toNat ws).forThreads fun s t => s.retryLine line.toNat t
  else s)

/-- A write of MS_CTRL (R222): INVAL empties the cache. -/
def State.writeMsCtrl (s : State) (v : Word) : State := if bit v 0 then { s with msp.lines := [] } else s

/-- INVAL: a write of MS_CTRL.INVAL. -/
def execInval (v : Word) (s : State) : Out := .next (s.writeMsCtrl (v ||| 1))

/-- A write of MS_DCMD (R224): the fields are stored, and GO starts a command unless one is in progress; it waits for
a fill in progress. -/
def State.writeDcmd (s : State) (v : Word) : State :=
  let busy := bit (s.reg MS_DCMD) 30
  let s := s.writeFields MS_DCMD v
  if bit v 31 && !busy then { s.setFlag MS_DCMD 30 with msp.queued := !s.msp.fills.isEmpty } else s

/-- MS_DCMD_GO: a write of MS_DCMD.GO. -/
def execMsDcmdGo (v : Word) (s : State) : Out := .next (s.writeDcmd (v ||| 0x80000000))

/-- DIRECT_COMMAND_DONE (R224): the NRX bytes received stand in MS_DRX0 and MS_DRX1 from their first byte on,
and BUSY clears. -/
def execDirectCommandDone (rx : DWord) (s : State) : Out :=
  .next (if bit (s.reg MS_DCMD) 30 && !s.msp.queued then
    let n := min 8 (s.fld MS_DCMD 16 4)
    let keep : DWord := BitVec.ofNat 64 (2 ^ (64 - 8 * n) - 1)
    let x := (rx &&& ~~~ keep) ||| ((s.reg MS_DRX0 ++ s.reg MS_DRX1) &&& keep)
    ((s.setReg MS_DRX0 (x.extractLsb' 32 32)).setReg MS_DRX1 (x.extractLsb' 0 32)).setFld MS_DCMD 30 1 0
  else s)

/-! ### Peripheral serial port -/

/-- The select of a queue entry. -/
def entrySel (e : Word) : BitVec 3 := e.extractLsb' 27 3

/-- An entry leaves the queue and begins (R226): a select held for another entry is released with CONTBRK,
and an emptied queue raises its event (R227). -/
def State.pspBegin (s : State) (e : Word) (rest : List Word) : State :=
  let brk := s.psp.held.isSome && s.psp.held != some (entrySel e)
  let s := { s with psp.queue := rest, psp.word := some e, psp.held := none }
  let s := if brk then s.setFlag PS_FLAGS 0 else s
  if rest.isEmpty then s.raiseRouted (s.reg PS_EVT) else s

/-- The next entry begins when the queue runs, no word is in progress, and the receive FIFO has room for an
RD entry (R225, R227). -/
def State.pspGo (s : State) : State :=
  match s.psp.word, s.psp.queue with
  | none, e :: rest =>
    if bit (s.reg PS_CTRL) 0 && !(bit e 30 && decide (64 ≤ s.psp.rx.length)) then s.pspBegin e rest else s
  | _, _ => s

/-- A write of PS_QENT (R225, R226): a full queue discards it with QOVF; SEL 6 or 7 discards it with QERR. -/
def State.writeQent (s : State) (v : Word) : State :=
  if 64 ≤ s.psp.queue.length then s.setFlag PS_FLAGS 2
  else if 6 ≤ (entrySel v).toNat then s.setFlag PS_FLAGS 1
  else { s with psp.queue := s.psp.queue ++ [v] }.pspGo

/-- PS_QENT_WRITE. -/
def execPsQentWrite (v : Word) (s : State) : Out := .next (s.writeQent v)

/-- The bits of a word on a select (R225). -/
def State.pspBits (s : State) (sel : BitVec 3) : Nat :=
  match s.fld (PS_SELCFG sel.toNat) 6 2 with
  | 0 => 8
  | 1 => 16
  | _ => 24

/-- What PS_RX gives for a word received (R227). -/
def State.rxWord (s : State) (e : Word) (rx : BitVec 24) : Word :=
  0x80000000 ||| fieldW 27 3 (entrySel e).toNat ||| fieldW 0 (s.pspBits (entrySel e)) rx.toNat

/-- PSP_WORD_DONE (R226, R227): a CONT entry holds its select, an RD entry keeps its word, and the next entry
begins. -/
def execPspWordDone (rx : BitVec 24) (s : State) : Out :=
  .next (match s.psp.word with
    | none => s
    | some e =>
      let got := if bit e 30 then [s.rxWord e rx] else []
      let held := if bit e 31 then some (entrySel e) else none
      { s with psp.word := none, psp.held := held, psp.rx := s.psp.rx ++ got }.pspGo)

/-- CONTBRK (R226): no entry follows a CONT entry within 10 µs. -/
def execContbrk (s : State) : Out :=
  .next (if s.psp.held.isSome && s.psp.word.isNone && s.psp.queue.isEmpty then
    { s with psp.held := none }.setFlag PS_FLAGS 0 else s)

/-- A read of PS_RX removes one word; an empty FIFO reads VALID = 0 (R227). -/
def State.readPsRx (s : State) : Word × State :=
  match s.psp.rx with
  | [] => (0, s)
  | w :: rest => (w, { s with psp.rx := rest }.pspGo)

/-- PS_RX_READ: the word is what the register bus returns. -/
def execPsRxRead (s : State) : Out :=
  let (w, s) := s.readPsRx
  .next { s with busData := w }

/-- A write of PS_CTRL (R225, R227): FLUSH discards the entries not yet started and releases a held select;
RUN = 1 lets the queue run. -/
def State.writePsCtrl (s : State) (v : Word) : State :=
  let s := s.writeFields PS_CTRL v
  let s := if bit v 1 then
      let was := s.psp.queue
      let s := { s with psp.queue := [], psp.held := none }
      if was.isEmpty then s else s.raiseRouted (s.reg PS_EVT)
    else s
  s.pspGo

/-- PS_FLUSH: a write of PS_CTRL.FLUSH. -/
def execPsFlush (v : Word) (s : State) : Out := .next (s.writePsCtrl (v ||| 2))

/-- PS_STAT as it reads (R227). -/
def State.psStat (s : State) : Word :=
  flagW 31 s.psp.word.isSome ||| flagW 30 s.psp.held.isSome ||| fieldW 27 3 (s.psp.held.getD 0).toNat |||
    fieldW 16 7 (64 - s.psp.queue.length) ||| fieldW 0 7 s.psp.rx.length

end Sys2Proof.Machine
end

