-- ==== Sys2Proof/Machine/Saffron.lean ====
section
/-!
DEFINITION. Saffron (R307 to R317): the mailbox and its services, change requests and the Protection
Profile, and the CRC-32 of R206 that the profile and the host frames share.
-/

namespace Sys2Proof.Machine

/-! ### Bytes, words and the CRC-32 of R206 -/

/-- One bit of the CRC-32 of R206: polynomial 0x04C1_1DB7, no reflection. -/
def crc32Bit (s : Word) (b : Bool) : Word := (s <<< 1) ^^^ (if s.msb != b then 0x04C11DB7 else 0)

/-- One word, MSB first. -/
def crc32Word (s w : Word) : Word := (List.range 32).foldl (fun s i => crc32Bit s (w.getLsbD (31 - i))) s

/-- The CRC-32 of R206 over words. -/
def crc32 (ws : List Word) : Word := ws.foldl crc32Word 0xFFFFFFFF ^^^ 0xFFFFFFFF

/-- The four bytes of a word, the first in [31:24]. -/
def wordBytes (w : Word) : List Byte :=
  [w.extractLsb' 24 8, w.extractLsb' 16 8, w.extractLsb' 8 8, w.extractLsb' 0 8]

/-- The bytes of words. -/
def wordsBytes (ws : List Word) : List Byte := ws.flatMap wordBytes

/-- Words from bytes, the last filled with zeros. -/
def packWords : List Byte → List Word
  | a :: b :: c :: d :: r => (a ++ b ++ c ++ d) :: packWords r
  | [] => []
  | [a] => [a ++ 0#24]
  | [a, b] => [a ++ b ++ 0#16]
  | [a, b, c] => [a ++ b ++ c ++ 0#8]

/-- The `n` words of a wide value, the most significant first. -/
def bigWords {w : Nat} (n : Nat) (x : BitVec w) : List Word := (List.range n).map fun i => x.extractLsb' (32 * (n - 1 - i)) 32

/-- The value of words, the first most significant. -/
def wordsNat (ws : List Word) : Nat := ws.foldl (fun a w => a * 2 ^ 32 + w.toNat) 0

/-! ### AES-128-CCM with an 8-byte MIC and a 2-byte length field (R247, R311) -/

/-- Up to 16 bytes as a block, filled with zeros. -/
def blockOf (bs : List Byte) : BitVec 128 := (List.range 16).foldl (fun a i => (a <<< 8) ||| (bs.getD i 0).setWidth 128) 0

/-- Bytes in blocks. -/
def blocksOf (bs : List Byte) : List (BitVec 128) := (List.range ((bs.length + 15) / 16)).map fun i => blockOf (bs.drop (16 * i))

/-- The associated data in blocks, behind their own length; none where there are no associated data. -/
def ccmAad (aad : List Byte) : List (BitVec 128) :=
  if aad.isEmpty then []
  else blocksOf ((BitVec.ofNat 16 aad.length).extractLsb' 8 8 :: (BitVec.ofNat 16 aad.length).extractLsb' 0 8 :: aad)

/-- The blocks that the MIC runs over: the first with nonce and length, the associated data, and the message. -/
def ccmBlocks (nonce : BitVec 104) (aad msg : List Byte) : List (BitVec 128) :=
  ((if aad.isEmpty then 0x19#8 else 0x59#8) ++ nonce ++ BitVec.ofNat 16 msg.length) :: (ccmAad aad ++ blocksOf msg)

/-- Counter block `i` enciphered. -/
def ccmStream (key : BitVec 128) (nonce : BitVec 104) (i : Nat) : BitVec 128 :=
  Config.aes128 key (0x01#8 ++ nonce ++ BitVec.ofNat 16 i)

/-- The MIC of a message with its associated data. -/
def ccmMic (key : BitVec 128) (nonce : BitVec 104) (aad msg : List Byte) : BitVec 64 :=
  let mac := (ccmBlocks nonce aad msg).foldl (fun x b => Config.aes128 key (x ^^^ b)) 0
  (mac ^^^ ccmStream key nonce 0).extractLsb' 64 64

/-- The message enciphered, or deciphered. -/
def ccmCrypt (key : BitVec 128) (nonce : BitVec 104) (msg : List Byte) : List Byte :=
  msg.mapIdx fun i b => b ^^^ (ccmStream key nonce (i / 16 + 1)).extractLsb' (8 * (15 - i % 16)) 8

/-- The message under a text, when its MIC holds. -/
def ccmOpen (key : BitVec 128) (nonce : BitVec 104) (aad text : List Byte) (mic : BitVec 64) : Option (List Byte) :=
  let msg := ccmCrypt key nonce text
  if ccmMic key nonce aad msg == mic then some msg else none

/-- The eight key-slot entries of a section 3 (R311, R314), when its MIC holds: Qe, the entries under a key from the
ECDH secret and the UID, and the MIC; the nonce is the request's counter and zeros. -/
def openKeySlots (counter : Word) (ws : List Word) : Option (List (BitVec 256)) :=
  let z := Config.deviceEcdh (BitVec.ofNat 512 (wordsNat (ws.take 16)))
  let key := (Config.sha256 (wordsBytes (bigWords 8 z ++ bigWords 3 Config.legendUid))).extractLsb' 128 128
  let mic := BitVec.ofNat 64 (wordsNat (ws.drop 80))
  (ccmOpen key (counter ++ 0#72) [] (wordsBytes ((ws.drop 16).take 64)) mic).map fun bs =>
    (List.range 8).map fun k => blockOf (bs.drop (32 * k)) ++ blockOf ((bs.drop (32 * k)).drop 16)

/-! ### Mailbox (R308, R309) -/

/-- Words of a request with this word 0: the parameter length in whole words, and word 0 itself. -/
def requestWords (w : Word) : Nat := 1 + (bits w 0 16 + 3) / 4

/-- The words of SF_REQ that a GO submits. -/
def State.sfRequest (s : State) : List Word :=
  (List.range (min 1024 (requestWords (s.reg (SF_REQ 0))))).map fun k => s.reg (SF_REQ k)

/-- A request is taken: the mailbox is held and the request is served (R308). -/
def State.sfSubmit (s : State) (by_ : Agent) (req : List Word) : State :=
  { s with saffron := { s.saffron with
      held := true, owner := by_, busy := true, ready := false, request := req, answer := [], commit := none
      shedSub := decide (5 ≤ s.power.level), tb := s.tb } }

/-- The mailbox is free again. -/
def State.sfFree (s : State) : State :=
  { s with saffron := { s.saffron with
      held := false, owner := .host, busy := false, ready := false, request := [], answer := [], commit := none } }

/-- The owner is a thread. -/
def State.sfThreadOwned (s : State) : Bool :=
  match s.saffron.owner with
  | .thread _ => true
  | _ => false

/-- EREADY of R208: a response waits that the host owns (R216, R308). -/
def State.eready (s : State) : Bool := s.saffron.ready && !s.sfThreadOwned

/-- A write of SF_CTRL (R308): DONE collects a response that a thread owns; GO submits SF_REQ, or sets
COLLIDE when the mailbox is held. -/
def State.writeSfCtrl (s : State) (by_ : Agent) (v : Word) : State :=
  let s := if bit v 1 && s.saffron.ready && s.sfThreadOwned then s.sfFree else s
  if !bit v 0 then s
  else if s.saffron.held then s.setFlag SF_FLAGS 0
  else s.sfSubmit by_ s.sfRequest

/-- GO: a write of SF_CTRL.GO. -/
def execGo (by_ : Agent) (v : Word) (s : State) : Out := .next (s.writeSfCtrl by_ (v ||| 1))

/-- DONE: a write of SF_CTRL.DONE. -/
def execDone (by_ : Agent) (v : Word) (s : State) : Out := .next (s.writeSfCtrl by_ (v ||| 2))

/-- A write of SF_REQk, ignored while the mailbox is held. -/
def State.writeSfReq (s : State) (a : Nat) (v : Word) : State := if s.saffron.held then s else s.setReg a v

/-- SERVICE of the request being served. -/
def State.sfService (s : State) : Nat := bits (s.saffron.request.headD 0) 24 8

/-- The parameter length of the request, in bytes. -/
def State.sfLength (s : State) : Nat := bits (s.saffron.request.headD 0) 0 16

/-- The parameter words. -/
def State.sfParams (s : State) : List Word := s.saffron.request.tail

/-- The parameter bytes. -/
def State.sfBytes (s : State) : List Byte := (wordsBytes s.sfParams).take s.sfLength

/-- The request carries as many words as its length says. -/
def State.sfWhole (s : State) : Bool := decide (requestWords (s.saffron.request.headD 0) ≤ s.saffron.request.length)

/-- A response (R309): SERVICE, TAG and RESULT, the length of the data in bytes, and the data. -/
def State.sfAnswer (s : State) (result bytes : Nat) (data : List Word) : State :=
  { s with saffron := { s.saffron with
      answer := ((s.saffron.request.headD 0 &&& 0xFFFF0000) ||| fieldW 8 8 result) :: BitVec.ofNat 32 bytes :: data } }

/-- A service that is being asked for and has not answered yet. -/
def State.sfServing (s : State) (service : Nat) : Bool :=
  s.saffron.busy && s.sfService == service && s.saffron.answer.isEmpty && s.saffron.commit.isNone

/-- MAILBOX_RESPONSE_READY (R308, R309): the response waits and raises its event; an unknown SERVICE is
answered RESULT 0x01. -/
def execMailboxResponseReady (s : State) : Out :=
  .next (if s.saffron.busy then
    let known := decide (1 ≤ s.sfService ∧ s.sfService ≤ 5)
    let s := if known then s else s.sfAnswer 0x01 0 []
    if s.saffron.answer.isEmpty then s
    else
      { s with saffron := { s.saffron with
          busy := false, ready := true, readyAt := s.ticks, lastRes := (s.saffron.answer.headD 0).extractLsb' 8 8 } }.raiseRouted (s.reg SF_EVT)
  else s)

/-- MAILBOX_RESPONSE_DISCARD (R308): a response left uncollected for 1 s is discarded. -/
def execMailboxResponseDiscard (s : State) : Out :=
  .next (if s.saffron.ready then (s.advanceTo (s.saffron.readyAt + usTicks 1000000)).sfFree else s)

/-! ### GET_CERT, SIGN, GET_PROFILE, IMAGE_SIG -/

/-- GET_CERT (R309): the parameter is one byte, index 0 to 2; another index is answered as a wrong length. -/
def execGetCert (s : State) : Out :=
  .next (if s.sfServing 1 then
    let k := (s.sfBytes.headD 0).toNat
    if s.sfLength ≠ 1 ∨ !s.sfWhole ∨ 2 < k then s.sfAnswer 0x02 0 []
    else s.sfAnswer 0 (Config.certificate k).1 (Config.certificate k).2
  else s)

/-- The unique ID (R307). -/
def State.uidWords (s : State) : List Word := [s.reg LG_UID0, s.reg LG_UID1, s.reg LG_UID2]

/-- A signature made by Saffron over bytes: r and s (assumptions 5 and 6), and the state that has used it. -/
def State.sfSign (s : State) (bytes : List Byte) : List Word × State :=
  (bigWords 16 (Config.sign (Config.sha256 bytes) s.freeCtr), { s with freeCtr := s.freeCtr + 1 })

/-- The digest that SIGN signs: the 32 bytes given, or the hash of the bytes given (R309). -/
def signDigest (ps : List Byte) : Option (BitVec 256) :=
  match ps with
  | f :: rest =>
    if f = 0 ∧ rest.length = 32 then some (BitVec.ofNat 256 (wordsNat (packWords rest)))
    else if f = 1 ∧ 1 ≤ rest.length ∧ rest.length ≤ 4000 then some (Config.sha256 rest)
    else none
  | [] => none

/-- SIGN (R309, R310): SIGCNT is incremented in the nonvolatile store, then the signature is made. -/
def execSign (s : State) : Out :=
  .next (if s.sfServing 2 then
    match if s.sfWhole then signDigest s.sfBytes else none with
    | none => s.sfAnswer 0x02 0 []
    | some d =>
      let s := { s with nv.sigcnt := s.nv.sigcnt + 1 }
      let head := bigWords 2 s.nv.sigcnt ++ bigWords 2 s.saffron.tb
      let (sig, s) := s.sfSign (0x01 :: wordsBytes (s.uidWords ++ head ++ bigWords 8 d))
      s.sfAnswer 0 80 (head ++ sig)
  else s)

/-- The content of a section held. -/
def Profile.section_ (p : Profile) (n : Nat) : List Word :=
  match n with
  | 0 => p.region
  | 1 => p.atlas
  | 2 => p.policy
  | 3 => p.slotsRaw
  | 4 => p.debugWs
  | _ => p.auth

/-- GET_PROFILE (R309). -/
def execGetProfile (s : State) : Out :=
  .next (if s.sfServing 3 then
    if s.sfLength ≠ 0 then s.sfAnswer 0x02 0 []
    else
      let hash := fun n =>
        if s.profile.held.getLsbD n then bigWords 8 (Config.sha256 (wordsBytes (s.profile.section_ n)))
        else List.replicate 8 0
      s.sfAnswer 0 196 (s.profile.counter :: (List.range 6).flatMap hash)
  else s)

/-- IMAGE_SIG (R309, R317): while LOADING = 1 the header and signature are kept, the last ones standing. -/
def execImageSig (s : State) : Out :=
  .next (if s.sfServing 5 then
    if !s.hsp.loading then s.sfAnswer 0x03 0 []
    else if s.sfLength ≠ 96 ∨ !s.sfWhole then s.sfAnswer 0x02 0 []
    else
      let hdr := s.sfParams.take 24
      { s with saffron := { s.saffron with imageHdr := some hdr } }.sfAnswer 0 0 []
  else s)

/-! ### Change requests (R313 to R316) -/

/-- The content length of a section, in bytes (R311). -/
def sectionBytes (n : Nat) : Nat :=
  match n with
  | 0 => 512
  | 1 => 804
  | 2 => 144
  | 3 => 328
  | 4 => 4
  | _ => 272

/-- The sections of a change request, parsed in ascending id (R313): the contents, and the words after them. -/
def takeSections : List Nat → List Word → Option (List (Nat × List Word) × List Word)
  | [], ws => some ([], ws)
  | n :: ns, ws =>
    match ws with
    | [] => none
    | h :: body =>
      let k := sectionBytes n / 4
      if h = fieldW 24 8 n ||| fieldW 0 16 (sectionBytes n) ∧ k ≤ body.length then
        (takeSections ns (body.drop k)).map fun r => ((n, body.take k) :: r.1, r.2)
      else none

/-- A change request as parsed: its UID, counter, sections, and its two signatures. -/
structure ChangeReq where
  uid      : List Word
  counter  : Word
  sections : List (Nat × List Word)
  sigs     : List (Nat × BitVec 512)
  signedWords : List Word

/-- One signature of the last 136 bytes: authority index, r and s. -/
def parseSig (ws : List Word) : Nat × BitVec 512 :=
  (bits (ws.headD 0) 24 8, BitVec.ofNat 512 (wordsNat ((ws.drop 1).take 16)))

/-- The parts of a change request, when magic, lengths, mask and sections agree (R313, R314): a sealed device
needs the signature block, an unsealed one refuses it. -/
def parseChange (sealed_ : Bool) (bytes : Nat) (ws : List Word) : Option ChangeReq :=
  let mask := bits (ws.getD 5 0) 16 16
  let ids := (List.range 6).filter fun n => mask.testBit n
  let tail := if sealed_ then 34 else 0
  if ws.headD 0 ≠ 0x50520001 ∨ bits (ws.getD 5 0) 0 16 ≠ bytes ∨ bytes ≠ 4 * ws.length ∨ 64 ≤ mask ∨ mask = 0 then none
  else match takeSections ids (ws.drop 6) with
    | none => none
    | some (secs, rest) =>
      if rest.length ≠ tail then none
      else some {
        uid := (ws.drop 1).take 3, counter := ws.getD 4 0, sections := secs
        sigs := if sealed_ then [parseSig rest, parseSig (rest.drop 17)] else []
        signedWords := ws.take (ws.length - tail) }

/-- Entry `k` of an Authority Table: enabled, and its key (R311). -/
def authEntry (tab : List Word) (k : Nat) : Bool × BitVec 512 :=
  let e := (tab.drop (17 * k)).take 17
  (bits (e.headD 0) 24 8 != 0 && decide (k < 4), BitVec.ofNat 512 (wordsNat (e.drop 1)))

/-- The enabled entries of an Authority Table. -/
def authEnabled (tab : List Word) : List (BitVec 512) :=
  (List.range 4).filterMap fun k => if (authEntry tab k).1 then some (authEntry tab k).2 else none

/-- At least two enabled entries have distinct keys (R314). -/
def authTableOk (tab : List Word) : Bool :=
  match authEnabled tab with
  | [] => false
  | k :: ks => ks.any fun x => x != k

/-- A CRC-32 of R206 in the last word covers the words before it. -/
def crcLastOk (ws : List Word) : Bool := crc32 ws.dropLast == ws.getLastD 0

/-- A section passes its own check (R314). -/
def sectionOk (counter : Word) (n : Nat) (ws : List Word) : Bool :=
  match n with
  | 0 => crcLastOk ws
  | 1 => crcLastOk ws
  | 3 => (openKeySlots counter ws).isSome
  | 4 => decide (bits (ws.headD 0) 24 8 ≤ 2)
  | 5 => authTableOk ws
  | _ => true

/-- A key-slot entry of 32 bytes (R311): its slot number and its content. -/
def keyEntry (e : BitVec 256) : Nat × KeySlot :=
  ((e.extractLsb' 248 8).toNat,
    { xip := e.getLsbD 240, bootSize := e.extractLsb' 224 16, key := e.extractLsb' 96 128, nonce := e.extractLsb' 0 96 })

/-- A profile with one section replaced; section 3 replaces all eight slots (R311). -/
def Profile.put (counter : Word) (p : Profile) (n : Nat) (ws : List Word) : Profile :=
  let p := { p with held := p.held ||| BitVec.ofNat 6 (2 ^ n) }
  match n with
  | 0 => { p with region := ws }
  | 1 => { p with atlas := ws }
  | 2 => { p with policy := ws }
  | 3 => { p with slotsRaw := ws, slots := ((openKeySlots counter ws).getD []).map keyEntry }
  | 4 => { p with debugWs := ws }
  | _ => { p with auth := ws }

/-- The profile a change request leads to. -/
def Profile.apply (p : Profile) (r : ChangeReq) : Profile :=
  { r.sections.foldl (fun p x => p.put r.counter x.1 x.2) p with counter := r.counter }

/-- A device that has never accepted a change is unsealed (R311). -/
def Profile.isSealed (p : Profile) : Bool := p.counter != 0

/-- The two signatures are by different, enabled authorities with different keys (R314 AUTHORITY). -/
def authorityOk (tab : List Word) (sigs : List (Nat × BitVec 512)) : Bool :=
  match sigs with
  | [a, b] =>
    a.1 != b.1 && (authEntry tab a.1).1 && (authEntry tab b.1).1 && (authEntry tab a.1).2 != (authEntry tab b.1).2
  | _ => true

/-- Both signatures verify over the bytes before them (R313, R314 SIGNATURE). -/
def signaturesOk (tab : List Word) (r : ChangeReq) : Bool :=
  r.sigs.all fun x => Config.ecdsaVerify (authEntry tab x.1).2 (Config.sha256 (wordsBytes r.signedWords)) x.2

/-- The checks of R314 before anything is written, in their order: the verdict of the first that fails, or the
new profile. -/
def State.checkChange (s : State) : Except Nat Profile :=
  match if s.sfWhole then parseChange s.profile.isSealed s.sfLength s.sfParams else none with
  | none => .error 0x10
  | some r =>
    let tab := s.profile.auth
    if r.uid ≠ s.uidWords then .error 0x11
    else if s.profile.counter = 0xFFFFFFFF ∨ r.counter ≠ s.profile.counter + 1 then .error 0x12
    else if !authorityOk tab r.sigs then .error 0x13
    else if !signaturesOk tab r then .error 0x14
    else if !(r.sections.all fun x => sectionOk r.counter x.1 x.2) ||
        (!s.profile.isSealed && !(r.sections.any fun x => x.1 == 5)) then .error 0x15
    else .ok (s.profile.apply r)

/-- The signed receipt of a CHANGE (R316): the counter now held, the request's hash, the result and TB. -/
def State.sfReceipt (s : State) (result : Nat) : State :=
  let body := s.uidWords ++ [s.profile.counter] ++ bigWords 8 (Config.sha256 s.sfBytes) ++
    [fieldW 24 8 result] ++ bigWords 2 s.saffron.tb
  let (sig, s) := s.sfSign (0x02 :: wordsBytes body)
  { s with saffron := { s.saffron with commit := none } }.sfAnswer result 124 (body ++ sig)

/-- CHANGE (R314, R315): a request that fails a check ends with its verdict; one submitted under shedding
level 5 or 6 is BUSY; a failed bank write is NVFAIL, reported as STORE source 4; else the checked profile
waits for its commit record. -/
def execChange (nvFail : Bool) (s : State) : Out :=
  .next (if s.sfServing 4 then
    match s.checkChange with
    | .error v => s.sfReceipt v
    | .ok p =>
      if s.saffron.shedSub then s.sfReceipt 0x17
      else if nvFail then (s.fault 15 4 0).sfReceipt 0x16
      else { s with saffron := { s.saffron with commit := some p } }
  else s)

/-- The Atlas of the profile in force is checked and stands in the SURVEY block (R122). -/
def State.loadAtlas (s : State) : State :=
  let ok := s.profile.held.getLsbD 1 && crcLastOk s.profile.atlas
  { s with atlasOk := ok }

/-- The new sections take effect (R315): an Atlas of the request is checked and stands in the SURVEY block; an Active UHF operation tests its channel, level and dwell again, and
new key slots invalidate the XIP cache. -/
def State.commitProfile (s : State) (p : Profile) : State :=
  let new := fun (n : Nat) => p.held.getLsbD n && s.profile.section_ n != p.section_ n
  let region := new 0
  let slots := p.slotsRaw != s.profile.slotsRaw
  let s := { s with profile := p, nv.older := s.nv.profile, nv.profile := p }
  let s := if (bits (s.sfParams.getD 5 0) 16 16).testBit 1 then s.loadAtlas else s
  let s := if slots then { s with msp.lines := [] } else s
  if region then
    { s with ops := s.ops.map fun (op : Op) => if op.active && op.isBeam then { op with retest := true } else op }
  else s

/-- An item of the nonvolatile store found faulty is reloaded or replaced (R357). -/
def State.storeGood (s : State) (item : Nat) : State :=
  { s with faults.badStore := s.faults.badStore &&& ~~~ BitVec.ofNat 5 (2 ^ item) }

/-- PROFILE_COMMIT (R315): the commit record is written once no calibration write is in progress, and the
request is APPLIED. -/
def execProfileCommit (s : State) : Out :=
  .next (match s.saffron.commit with
    | none => s
    | some p =>
      if s.nvBusy then s
      else
        let s := (s.commitProfile p).storeGood 2
        let s := if s.atlasOk then s.storeGood 0 else s
        s.sfReceipt 0x00)

/-- SHED (R314, R315): level 5 is entered before the commit record begins; the bank write is abandoned. -/
def State.abandonCommit (s : State) : State := if s.saffron.commit.isSome then s.sfReceipt 0x18 else s

/-! ### Registers -/

/-- SF_STATUS as it reads. -/
def State.sfStatus (s : State) : Word :=
  let owner := match s.saffron.owner with
    | .thread t => t.val
    | _ => if s.saffron.held then 0x20 else 0
  flagW 31 s.saffron.busy ||| flagW 30 s.saffron.ready ||| fieldW 24 6 owner ||| fieldW 8 8 s.saffron.lastRes.toNat

/-- The debug level of the profile in force (R318). -/
def State.debugLevel (s : State) : Nat := if s.profile.held.getLsbD 4 then bits (s.profile.debugWs.headD 0) 24 8 else 0

/-- IMGREQ of the profile in force: a signed image is required (R317). -/
def State.imgReq (s : State) : Bool := s.profile.held.getLsbD 2 && bits (s.profile.policy.headD 0) 24 8 != 0

/-- SF_PROFILE as it reads. -/
def State.sfProfile (s : State) : Word :=
  let xip := s.profile.slots.foldl (fun (w : Word) x => if x.2.xip ∧ x.1 < 8 then w ||| BitVec.ofNat 32 (2 ^ (24 + x.1)) else w) 0
  xip ||| fieldW 10 6 s.profile.held.toNat ||| fieldW 8 2 s.debugLevel ||| flagW 7 s.imgReq |||
    fieldW 4 3 (authEnabled s.profile.auth).length

end Sys2Proof.Machine
end

