-- ==== Sys2Proof/Machine/MlAir.lean ====
section
/-!
DEFINITION. What a frame of the mains link is (R230 to R236, R239, R240, R247): frame control, segments, carriers and their loading, tone maps, how long a frame lasts, and where in the cycle it may
stand.
-/

namespace Sys2Proof.Machine

/-! ### Frame control (R235) -/

/-- The nonce of a segment: SRC, DST, LINK, PN as 5 bytes, the key epoch and 4 zero bytes. -/
def mlNonce (src dst : BitVec 7) (link : BitVec 4) (pn : Nat) (epoch : Byte) : BitVec 104 :=
  (0#1 ++ src) ++ (0#1 ++ dst) ++ (0#4 ++ link) ++ BitVec.ofNat 40 pn ++ epoch ++ 0#32

/-- FCCRC: the CRC-16 of R164 over bits [95:16]. -/
def fcCrc (h : BitVec 80) : BitVec 16 := BitVec.ofNat 16 (crcRun 16 0x1021 0xFFFF (numBits 80 h.toNat))

/-- Frame control with its FCCRC. -/
def fcSeal (h : BitVec 80) : BitVec 96 := h ++ fcCrc h

/-- FCCRC holds. -/
def fcOk (fc : BitVec 96) : Bool := fc.extractLsb' 0 16 == fcCrc (fc.extractLsb' 16 80)

/-- FTYPE. -/
def fcType (fc : BitVec 96) : BitVec 4 := fc.extractLsb' 92 4

/-- SRC. -/
def fcSrc (fc : BitVec 96) : BitVec 7 := fc.extractLsb' 85 7

/-- DST. -/
def fcDst (fc : BitVec 96) : BitVec 7 := fc.extractLsb' 78 7

/-- LINK. -/
def fcLink (fc : BitVec 96) : BitVec 4 := fc.extractLsb' 74 4

/-- TMI. -/
def fcTmi (fc : BitVec 96) : BitVec 3 := fc.extractLsb' 71 3

/-- CP. -/
def fcCp (fc : BitVec 96) : Bool := fc.getLsbD 70

/-- Bit [67]: NOTCH, and in a SACK that its sender saw the acknowledged frame negated. -/
def fcBit67 (fc : BitVec 96) : Bool := fc.getLsbD 67

/-- HFON. -/
def fcHfon (fc : BitVec 96) : Bool := fc.getLsbD 66

/-- NSYM. -/
def fcNsym (fc : BitVec 96) : Nat := (fc.extractLsb' 56 10).toNat

/-- SEQ of the first segment; the base SEQ of a SACK. -/
def fcSeq (fc : BitVec 96) : Byte := fc.extractLsb' 42 8

/-- TMSEQ. -/
def fcTmseq (fc : BitVec 96) : Byte := fc.extractLsb' 34 8

/-- The 37 segment bits of a SACK, the base SEQ first. -/
def fcBits (fc : BitVec 96) : BitVec 37 := fc.extractLsb' 17 17 ++ fc.extractLsb' 50 16 ++ fc.extractLsb' 74 4

/-- TMREQ of a SACK. -/
def fcTmreq (fc : BitVec 96) : Bool := fc.getLsbD 16

/-- The loading a frame uses: its map (6 robust), the map's version, prefix and rate, and the bits of one symbol. -/
structure MlLoad where
  tmi   : BitVec 3 := 6
  tmseq : Byte := 0
  cp    : Bool := false
  cr    : BitVec 2 := 0
  bits  : Nat
deriving DecidableEq, Repr

/-- The frame control of a frame other than a SACK (R235). -/
def mlFc (ftype : BitVec 4) (src dst : BitVec 7) (link : BitVec 4) (l : MlLoad) (notch hfon : Bool) (nsym nseg : Nat)
    (seq : Byte) : BitVec 96 :=
  fcSeal (ftype ++ src ++ dst ++ link ++ l.tmi ++ BitVec.ofBool l.cp ++ l.cr ++ BitVec.ofBool notch ++ BitVec.ofBool hfon ++
    BitVec.ofNat 10 nsym ++ BitVec.ofNat 6 nseg ++ seq ++ l.tmseq ++ 0#18)

/-- The frame control of a SACK (R235). -/
def sackFc (src dst : BitVec 7) (base : Byte) (b : BitVec 37) (negated hfon tmreq : Bool) : BitVec 96 :=
  fcSeal (3#4 ++ src ++ dst ++ b.extractLsb' 0 4 ++ 6#3 ++ 0#3 ++ BitVec.ofBool negated ++ BitVec.ofBool hfon ++
    b.extractLsb' 4 16 ++ base ++ 0#8 ++ b.extractLsb' 20 17 ++ BitVec.ofBool tmreq)

/-! ### Segments (R234) -/

/-- Bits [31:24] of a segment's header: SEQ. -/
def segSeq (seg : List Word) : Byte := (seg.headD 0).extractLsb' 24 8

/-- NWORDS. -/
def segWords (seg : List Word) : Nat := bits (seg.headD 0) 18 6

/-- FIRST. -/
def segFirst (seg : List Word) : BitVec 6 := (seg.headD 0).extractLsb' 12 6

/-- PSN. -/
def segPsn (seg : List Word) : Bool := bit (seg.headD 0) 11

/-- The CRC-32 of a segment holds. -/
def segCrcOk (seg : List Word) : Bool := seg.length == 128 && crcLastOk seg

/-- The first `n` items of a list, filled with `z`. -/
def fill {α : Type} (n : Nat) (z : α) (l : List α) : List α := (l ++ List.replicate n z).take n

/-- A segment's header word. -/
def segHead (pn nwords : Nat) (first : BitVec 6) (psn : Bool) : Word :=
  BitVec.ofNat 8 pn ++ BitVec.ofNat 6 nwords ++ first ++ BitVec.ofBool psn ++ 0#11

/-- The CRC-32 behind 127 words. -/
def segClose (ws : List Word) : List Word := ws ++ [crc32 ws]

/-- A segment with a body, in the clear. -/
def segPlain (head : Word) (body : List Byte) : List Word := segClose (head :: packWords (fill 504 0 body))

/-- A segment with its body enciphered and its MIC (R247). -/
def segSecured (key : BitVec 128) (nonce : BitVec 104) (head : Word) (body : List Byte) : List Word :=
  let body := fill 496 0 body
  let mic := ccmMic key nonce (wordBytes head) body
  segClose (head :: packWords (ccmCrypt key nonce body) ++ bigWords 2 mic)

/-- The MIC in the bytes 500 to 507 of a segment. -/
def segMic (seg : List Word) : BitVec 64 := seg.getD 125 0 ++ seg.getD 126 0

/-- The body of a segment in the clear. -/
def segBody (seg : List Word) : List Byte := wordsBytes ((seg.drop 1).take 126)

/-- The body of a secured segment, when its MIC holds. -/
def segOpen (key : BitVec 128) (nonce : BitVec 104) (seg : List Word) : Option (List Byte) :=
  ccmOpen key nonce (wordBytes (seg.headD 0)) (wordsBytes ((seg.drop 1).take 124)) (segMic seg)

/-! ### Carriers, loading and tone maps (R230, R231, R233, R236, R239) -/

/-- The 19 pilots. -/
def pilot (k : Nat) : Bool := decide (102 ≤ k ∧ k ≤ 1038) && (k - 102) % 52 == 0

/-- The carriers of the HF notch. -/
def hfNotch (k : Nat) : Bool := decide (508 ≤ k ∧ k ≤ 516) || decide (1020 ≤ k ∧ k ≤ 1028)

/-- A carrier in the permanent notch mask of the sealed region profile (R239, R312). -/
def State.lineNotch (s : State) (k : Nat) : Bool := bit (s.profile.region.getD (96 + (k - 76) / 32) 0) (31 - (k - 76) % 32)

/-- A data carrier that is not notched for good. -/
def State.dataCarrier (s : State) (k : Nat) : Bool := !pilot k && !s.lineNotch k

/-- The usable carriers of a frame (R230), as indices from carrier 76. -/
def State.usable (s : State) (notch : Bool) : List Nat :=
  (List.range 982).filter fun i => s.dataCarrier (76 + i) && !(notch && hfNotch (76 + i))

/-- The bits of a loading code. -/
def loadBits (c : BitVec 3) : Nat := [0, 1, 2, 3, 4, 6, 8, 10].getD c.toNat 0

/-- The bits of one symbol with a map; 10 bits go as 8 with the short prefix (R231). -/
def State.mapBits (s : State) (notch : Bool) (m : MlMap) : Nat :=
  (s.usable notch).foldl (fun n i => n + (let b := loadBits (m.codes.getD i 0); if m.cp then min b 8 else b)) 0

/-- The coded bits of one symbol with the robust map: every usable carrier 1 bit, each coded bit twice (R233). -/
def State.robust (s : State) (notch : Bool) : MlLoad := { bits := (s.usable notch).length / 2 }

/-- The coded bits of one segment, 4,096 bits and 6 tail bits, at a rate (R164, R233). -/
def segCoded (cr : BitVec 2) : Nat := [8204, 6153, 5470, 4923].getD cr.toNat 0

/-- The payload symbols of `n` segments. -/
def MlLoad.symbols (l : MlLoad) (n : Nat) : Nat := (n * segCoded l.cr + l.bits - 1) / l.bits

/-- A preamble and the FC symbol, in ticks of 216.96 MHz: 3,584 and 2,560 samples of 4 (R230, R232). -/
def fcTicks : Nat := 24576

/-- A frame's ticks: its payload symbols have 2,560 or 2,304 samples. -/
def frameTicks (cp : Bool) (nsym : Nat) : Nat := fcTicks + nsym * (if cp then 9216 else 10240)

/-- From the end of a frame to the end of the SACK that answers it (R242). -/
def sackTicks : Nat := usTicks 100 + fcTicks

/-- The SNR thresholds of loading codes 1 to 7 at rate 1/2, in 0.5 dB (R236). -/
def snrHalves : List Nat := [6, 12, 20, 26, 38, 50, 62]

/-- What a rate adds to every threshold, in 0.5 dB. -/
def rateHalves (cr : Nat) : Nat := [0, 3, 5, 7].getD cr 0

/-- A rate in twelfths. -/
def rateNum (cr : Nat) : Nat := [6, 8, 9, 10].getD cr 0

/-- The largest loading code whose threshold a carrier meets: its signal power, and the sum of `n` noise powers; the
short prefix allows 8 bits at most. -/
def snrCode (signal noise n halves : Nat) (cp : Bool) : Nat :=
  ((snrHalves.take (if cp then 6 else 7)).filter fun t =>
    decide (0 < signal ∧ noise * dbPow (4 * ((t + halves : Nat) : Int)) ≤ signal * n * dbUnit)).length

/-- The noise of a region by carrier: how many windows, and their sums. -/
def State.noiseOf (s : State) (r : Nat) : Nat × List Nat :=
  let ws := s.ml.noise.filter (·.1 == r)
  (ws.length, (List.range 982).map fun i => ws.foldl (fun n w => n + w.2.getD i 0) 0)

/-- What one region gives for a map: the signal, the noise and how many windows it was measured in. -/
def State.snrOf (s : State) (p : MlPeer) (r : Nat) : Option (List Nat × List Nat × Nat) :=
  match p.signal.find? (·.1 == r), s.noiseOf r with
  | some x, (n, noise) => if n = 0 then none else some (x.2, noise, n)
  | none, _ => none

/-- The loading codes at a rate over the regions given: the least of them on each carrier; 0 for pilots and
permanently notched carriers. -/
def State.mapCodes (s : State) (xs : List (List Nat × List Nat × Nat)) (cp : Bool) (cr : Nat) : List (BitVec 3) :=
  let halves := rateHalves cr + bits (s.reg ML_TMCFG) 0 8
  (List.range 982).map fun i =>
    if s.dataCarrier (76 + i) then
      BitVec.ofNat 3 (xs.foldl (fun c x => min c (snrCode (x.1.getD i 0) (x.2.1.getD i 0) x.2.2 halves cp)) 7)
    else 0

/-- Σ bits of a list of codes. -/
def codeSum (codes : List (BitVec 3)) : Nat := codes.foldl (fun n c => n + loadBits c) 0

/-- The rate and codes with the largest Σ bits × rate, the lower rate on a tie. -/
def bestRate (best : BitVec 2 × List (BitVec 3)) : List (BitVec 2 × List (BitVec 3)) → BitVec 2 × List (BitVec 3)
  | [] => best
  | x :: xs =>
    bestRate (if codeSum best.2 * rateNum best.1.toNat < codeSum x.2 * rateNum x.1.toNat then x else best) xs

/-- The map a receiver builds for a region, or over all six regions for index 7 (R236). -/
def State.buildMap (s : State) (p : MlPeer) (index : Nat) : Option MlMap :=
  match (if index = 7 then List.range 6 else [index]).mapM fun r => s.snrOf p r with
  | none => none
  | some xs =>
    let cp := bit (s.reg ML_TMCFG) 31
    let at_ := fun cr : Nat => (BitVec.ofNat 2 cr, s.mapCodes xs cp cr)
    let (cr, codes) := bestRate (at_ 0) [at_ 1, at_ 2, at_ 3]
    some { index := BitVec.ofNat 3 index, tmseq := p.tmSeq + 1, cp := cp, cr := cr, codes := codes }

/-- The loading sum of a map. -/
def MlMap.sum (m : MlMap) : Nat := codeSum m.codes * rateNum m.cr.toNat

/-- The content of a TMAP message: the index, TMSEQ, CP and CR, and the codes packed MSB first (R237). -/
def MlMap.bytes (m : MlMap) : List Byte :=
  let bs := (fill 982 0 m.codes).flatMap fun c => numBits 3 c.toNat
  [m.index.setWidth 8, m.tmseq, (BitVec.ofBool m.cp ++ m.cr).setWidth 8] ++
    (List.range 369).map fun i => BitVec.ofNat 8 (((bs.drop (8 * i)).take 8 ++ List.replicate 8 false).take 8 |>.foldl (fun n b => 2 * n + b.toNat) 0)

/-- The map that a TMAP message holds. -/
def mapOfBytes (c : List Byte) : MlMap :=
  let bs := (c.drop 3).flatMap fun b => numBits 8 b.toNat
  { index := (c.getD 0 0).setWidth 3, tmseq := c.getD 1 0, cp := (c.getD 2 0).getLsbD 2, cr := (c.getD 2 0).setWidth 2
    codes := (List.range 982).map fun i => BitVec.ofNat 3 (((bs.drop (3 * i)).take 3).foldl (fun n b => 2 * n + b.toNat) 0) }

/-! ### The place of a frame in the cycle (R238, R240, R242) -/

/-- Ticks since the cycle started. -/
def State.cyclePos (s : State) : Option Nat := s.ml.start.map fun t => s.ticks - t

/-- The boundary `r` of a half-cycle, 1 to 5, in 1/64 of it; 0 begins it and 6 ends it. -/
def State.mlBound (s : State) (r : Nat) : Nat :=
  if r = 0 then 0 else if r = 6 then 64 else s.fld ML_REGION (6 * (5 - r)) 6

/-- Region `r` of a half-cycle of `h` ticks, its start and end. -/
def State.regionSpan (s : State) (h r : Nat) : Nat × Nat := (h * s.mlBound r / 64, h * s.mlBound (r + 1) / 64)

/-- The region at a place in the cycle, and where it ends. -/
def State.regionAt (s : State) (pos : Nat) : Nat × Nat :=
  let h := usTicks s.ml.length / 4
  let r := ((List.range 5).filter fun i => decide ((s.regionSpan h (i + 1)).1 ≤ pos % h)).length
  (r, pos - pos % h + (s.regionSpan h r).2)

/-- The interval at a place in the cycle that this station may start a frame in: whether by contention, and where it
ends; only management frames stand in the control slot. -/
def State.mlSlot (s : State) (management : Bool) (pos : Nat) : Option (Bool × Nat) :=
  let m := s.ml
  let contEnd := usTicks (2400 + m.contLen)
  if usTicks (m.length - 1000) ≤ pos ∨ pos < usTicks 1200 then none
  else if pos < usTicks 2400 then (if management then some (true, usTicks 2400) else none)
  else if pos < contEnd then some (true, contEnd)
  else
    (m.allocs.find? fun a => a.1 == m.myId && decide (usTicks a.2.1 ≤ pos ∧ pos < usTicks (a.2.1 + a.2.2))).map fun a =>
      (false, usTicks (a.2.1 + a.2.2))

/-- `n` ticks from a place in the cycle lie outside the silent window. -/
def State.clearOf (s : State) (pos n : Nat) : Bool :=
  decide (pos + n ≤ usTicks s.ml.silent) || decide (usTicks (s.ml.silent + 400) ≤ pos)

/-- How many of `want` segments a frame at a place in the cycle carries with a loading: the frame, and its SACK when
`sack`, end before `slotEnd`, before the silent window, and, with the map of a region, the frame in its region. -/
def State.segsFit (s : State) (l : MlLoad) (pos slotEnd want : Nat) (sack : Bool) : Nat :=
  let tail := if sack then sackTicks else 0
  let ok := fun n =>
    let d := frameTicks l.cp (l.symbols n)
    decide (l.symbols n ≤ 1023 ∧ pos + d + tail ≤ slotEnd) && s.clearOf pos (d + tail) &&
      (decide (6 ≤ l.tmi.toNat) || decide (pos + d ≤ (s.regionAt pos).2))
  if l.bits = 0 then 0 else ((List.range (min 48 want)).map (· + 1)).foldl (fun best n => if ok n then n else best) 0

end Sys2Proof.Machine
end

