-- ==== Sys2Proof/Machine/Mains.lean ====
section
/-!
DEFINITION. The mains link (R228 to R249, R326): zero crossing, the cycle and its beacon, access to the line,
segments sent and received with their acknowledgement and repair, tone maps, and the disturbances.
-/

namespace Sys2Proof.Machine

/-- The mains link with a change. -/
def State.modMl (s : State) (f : Mlink → Mlink) : State := { s with ml := f s.ml }

/-- ML_CFG.ROLE; 3 acts as 0. -/
def State.mlRole (s : State) : Nat := if s.fld ML_CFG 30 2 = 3 then 0 else s.fld ML_CFG 30 2

/-- The modem's clocks and power are there: a role, Run or Idle, and no limp operation (R254, R301). -/
def State.mlRuns (s : State) : Bool :=
  s.mlRole != 0 && s.clk.mpllLock && !s.clk.limp && (s.power.st == .run || s.power.st == .idle)

/-- The station is a member that has its id, or a head. -/
def State.mlUp (s : State) : Bool := s.mlRuns && (s.ml.st == 3 || s.ml.st == 4)

/-- A peer by its station id. -/
def State.peer? (s : State) (id : BitVec 7) : Option MlPeer := s.ml.peers.find? (·.id == id)

/-- A peer, new if need be, changed. -/
def State.modPeer (s : State) (id : BitVec 7) (f : MlPeer → MlPeer) : State :=
  s.modMl fun m =>
    if m.peers.any (·.id == id) then { m with peers := m.peers.map fun p => if p.id == id then f p else p }
    else { m with peers := m.peers ++ [f { id := id }] }

/-- A peer is up: it was admitted and has a link key. -/
def State.peerUp (s : State) (id : BitVec 7) : Bool :=
  match s.peer? id with
  | some p => p.up
  | none => false

/-- One fault of class MLINE (R320, R326). -/
def State.mline (s : State) (detail : Nat) : State := s.fault 14 0 detail

/-- Its own HF fields are on (R141, R239). -/
def State.mlHfon (s : State) : Bool := s.hports.toList.any (·.field)

/-- SRC of the frames this station sends: its id, and the broadcast id while it has none. -/
def State.mlSrc (s : State) : BitVec 7 := if s.ml.st.toNat < 3 ∧ s.ml.myId = 0 then 0x7F else s.ml.myId

/-- The least time between frames (R242). -/
def gapTicks : Nat := usTicks 50

/-! ### Zero crossing (R229) -/

/-- The nominal mains period in ticks: 50 Hz, or 60 Hz with FREQ = 1. -/
def State.nominalPeriod (s : State) : Nat := if bit (s.reg ML_CFG) 29 then 3616000 else 4339200

/-- The mains period: as last measured, else nominal (R240, R249). -/
def State.mainsPeriod (s : State) : Nat := s.ml.zcLen.getD s.nominalPeriod

/-- Ticks of a cycle of two mains periods, in µs. -/
def cycleUs (period : Nat) : Nat := 2 * period * 100 / 21696

/-- The zero-crossing offset measured is not the one expected. -/
def State.zcMis (s : State) : Bool := s.ml.zcOk && s.mlRole == 1 && s.ml.zcSeen && s.ml.zcOfs.toNat != s.fld ML_CFG 24 3

/-- An offset newly other than the one expected is flagged and reported. -/
def State.zcReport (s : State) (was : Bool) : State := if s.zcMis && !was then (s.setFlag ML_FLAGS 1).mline 1 else s

/-- How far the present tick lies behind a start of the head's mains period, to the nearest 60°. -/
def State.zcSteps (s : State) (start : Nat) : BitVec 3 :=
  let p := usTicks s.ml.length / 2
  BitVec.ofNat 3 ((12 * ((s.ticks - start) % p) + p) / (2 * p) % 6)

/-- ZC_EDGE (R229, R240): the edge is timestamped, and two edges measure the mains period; a member that knows the
head's cycle shows its offset from it. -/
def execZcEdge (dt : Nat) (s : State) : Out :=
  .next (
    let s := s.advance dt
    let was := s.zcMis
    let ofs := if s.mlRole = 1 then s.ml.start.map s.zcSteps else none
    (s.modMl fun m =>
      { m with zcOk := true, zcGone := false, zcTick := s.ticks
               zcLen := if m.zcOk then some (s.ticks - m.zcTick) else m.zcLen
               zcOfs := ofs.getD m.zcOfs, zcSeen := m.zcSeen || ofs.isSome }).zcReport was)

/-- ZC_LOST (R229, R249): no rising edge within 1.5 nominal periods; a head runs on, and re-phases when ZC returns. -/
def execZcLost (s : State) : Out :=
  .next (if s.mlRole != 0 && !s.ml.zcGone then
    (((s.advanceTo (s.ml.zcTick + 3 * s.nominalPeriod / 2)).modMl fun m =>
      { m with zcOk := false, zcGone := true, rephase := m.rephase || s.mlRole == 2 }).setFlag ML_FLAGS 0).mline 2
  else s)

/-! ### Links and keys (R243, R246, R247) -/

/-- A link this station sends on. -/
def State.txLink (s : State) (dst : BitVec 7) (link : BitVec 4) : MlTxLink :=
  (s.ml.tx.find? fun x => x.dst == dst && x.link == link).getD { dst := dst, link := link }

/-- A sending link replaced. -/
def State.setTxLink (s : State) (x : MlTxLink) : State :=
  s.modMl fun m => { m with tx := x :: m.tx.filter fun y => !(y.dst == x.dst && y.link == x.link) }

/-- The group key and its epoch, and the one before it while it is accepted (R246). -/
def State.groupKeys (s : State) : List (BitVec 128 × Byte) :=
  (s.ml.group.map fun k => (k, s.ml.epoch)).toList ++
    if s.ml.oldKeys = 0 then [] else (s.ml.oldGroup.map fun k => (k, s.ml.epoch - 1)).toList

/-- The keys of the links with a peer: its link key, or the group keys for a broadcast (R247). -/
def State.mlKeys (s : State) (peer : BitVec 7) (bc : Bool) : List (BitVec 128 × Byte) :=
  if bc then s.groupKeys
  else match s.peer? peer with
    | some p => (p.key.map fun k => (k, (0 : Byte))).toList
    | none => []

/-- A segment of a link to or from a peer opened with one of its keys (R247). -/
def mlOpen (src dst : BitVec 7) (link : BitVec 4) (pn : Nat) (seg : List Word) : List (BitVec 128 × Byte) → Option (List Byte)
  | [] => none
  | (k, e) :: ks =>
    match segOpen k (mlNonce src dst link pn e) seg with
    | some body => some body
    | none => mlOpen src dst link pn seg ks

/-- PN numbers are used up: the pair associates again before (R246). -/
def pnSpent (pn : Nat) : Bool := decide (2 ^ 40 ≤ pn + 256)

/-- A management message queued (R245). -/
def State.mlQueue (s : State) (dst : BitVec 7) (mtype : Byte) (content : List Byte) : State :=
  s.modMl fun m => { m with outMsgs := m.outMsgs ++ [(dst, mtype, content)] }

/-! ### The cycle and its beacon (R238, R240 to R242, R246) -/

/-- The start of the silent window of a cycle, in µs (R238): where region (cycle mod 6) of the third half-cycle
begins. -/
def State.silentStart (s : State) (cycle len : Nat) : Nat := len / 2 + (len / 4) * s.mlBound (cycle % 6) / 64

/-- The head's own allocations, in force: owner, start and length in µs. -/
def State.ownAllocs (s : State) : List (BitVec 7 × Nat × Nat) :=
  (List.range 32).filterMap fun k =>
    let w := s.reg (ML_ALLOC k)
    if bit w 31 then some (w.extractLsb' 24 7, 10 * bits w 12 12, 10 * bits w 0 12) else none

/-- Grants placed one after the other from `t`: each demand in full when `room` takes them all, else in
proportion (R242). -/
def grants (t room total : Nat) : List (BitVec 7 × Nat) → List (BitVec 7 × Nat × Nat)
  | [] => []
  | (id, d) :: r =>
    let g := if total ≤ room then d else d * room / total
    (id, t, g) :: grants (t + g) room total r

/-- The allocations of a head's beacon (R241, R242): its own, then with AUTOALLOC the demands of its peers. -/
def State.headAllocs (s : State) : List (BitVec 7 × Nat × Nat) :=
  let own := s.ownAllocs
  let free := own.foldl (fun t a => max t (a.2.1 + a.2.2)) (2400 + s.fld ML_CONT 0 16)
  let want := (s.ml.peers.filter fun p => p.up && p.demand != 0).map fun p => (p.id, p.demand.toNat)
  let total := want.foldl (fun n d => n + d.2) 0
  if bit (s.reg ML_CFG) 28 then (own ++ grants free (s.ml.length - 1000 - free) total want).take 32 else own

/-- How far the nearest start of a mains period lies from a tick. -/
def State.zcOff (s : State) (due : Nat) : Int :=
  let p : Int := s.mainsPeriod
  let d := ((s.ml.zcTick : Int) - due) % p
  if 2 * d ≤ p then d else d - p

/-- How far the next cycle of a head moves back to ZC: all of it, or 200 µs at most after a loss (R240, R249). -/
def State.cycleMove (s : State) (due : Nat) : Int :=
  if s.ml.st == 4 && s.ml.zcOk then
    let off := s.zcOff due
    if s.ml.rephase then max (-(usTicks 200 : Int)) (min (usTicks 200) off) else off
  else 0

/-- Where the next cycle starts (R240): a cycle's length on, a head's at its ZC rising edge; a first cycle at the next
edge, or now. -/
def State.nextCycle (s : State) : Nat :=
  match s.ml.start with
  | some t => let due := t + usTicks s.ml.length; ((due : Int) + s.cycleMove due).toNat
  | none => if s.ml.zcOk then s.ticks + (((s.ml.zcTick : Int) - s.ticks) % (s.mainsPeriod : Int)).toNat else s.ticks

/-- A 16-bit number as bytes. -/
def halfBytes (h : BitVec 16) : List Byte := [h.extractLsb' 8 8, h.extractLsb' 0 8]

/-- Bytes 4 to 487 of a beacon's segment (R241). -/
def beaconBytes (b : MlBeacon) : List Byte :=
  fill 484 0 (halfBytes b.nid ++ wordBytes b.cycle ++ halfBytes b.lengthUs ++ wordBytes (b.regions.setWidth 32) ++
    halfBytes b.silent ++ halfBytes b.contLen ++ [0#6 ++ BitVec.ofBool b.epochChanging ++ BitVec.ofBool b.zcLost, b.epoch] ++
    [BitVec.ofNat 8 (min 32 b.allocs.length), 0] ++
    fill 192 0 (b.allocs.flatMap fun a => [0#1 ++ a.1] ++ halfBytes a.2.1 ++ halfBytes a.2.2 ++ [0]) ++
    wordsBytes (bigWords 2 b.members))

/-- The number in `n` bytes from byte `i`. -/
def bytesNat (bs : List Byte) (i n : Nat) : Nat := ((bs.drop i).take n).foldl (fun a b => a * 256 + b.toNat) 0

/-- The beacon in bytes 4 onward of a segment (R241). -/
def beaconOf (bs : List Byte) : MlBeacon :=
  { nid := BitVec.ofNat 16 (bytesNat bs 0 2), cycle := BitVec.ofNat 32 (bytesNat bs 2 4), lengthUs := BitVec.ofNat 16 (bytesNat bs 6 2)
    regions := BitVec.ofNat 30 (bytesNat bs 8 4), silent := BitVec.ofNat 16 (bytesNat bs 12 2)
    contLen := BitVec.ofNat 16 (bytesNat bs 14 2), zcLost := (bs.getD 16 0).getLsbD 0, epochChanging := (bs.getD 16 0).getLsbD 1
    epoch := bs.getD 17 0
    allocs := (List.range (min 32 (bs.getD 18 0).toNat)).map fun k =>
      ((bs.getD (20 + 6 * k) 0).setWidth 7, BitVec.ofNat 16 (bytesNat bs (21 + 6 * k) 2), BitVec.ofNat 16 (bytesNat bs (23 + 6 * k) 2))
    members := BitVec.ofNat 64 (bytesNat bs 212 8) }

/-- The beacon of a head's cycle (R241). -/
def State.headBeacon (s : State) : MlBeacon :=
  let m := s.ml
  { nid := (s.reg ML_CFG).setWidth 16, cycle := m.cycle, lengthUs := BitVec.ofNat 16 m.length, regions := (s.reg ML_REGION).setWidth 30
    silent := BitVec.ofNat 16 m.silent, contLen := BitVec.ofNat 16 m.contLen, zcLost := m.zcLostHead, epochChanging := m.changing
    epoch := m.epoch, allocs := m.allocs.map fun a => (a.1, BitVec.ofNat 16 a.2.1, BitVec.ofNat 16 a.2.2), members := m.members }

/-- A head sends its beacon (R241): one unsecured segment with the group key's MIC over bytes 4 to 487 as associated
data. -/
def State.sendBeacon (s : State) : State :=
  let x := s.txLink 0x7F 0
  let l := s.robust true
  let body := beaconBytes s.headBeacon
  let mic := ccmMic (s.ml.group.getD 0) (mlNonce 0 0x7F 0 x.pn s.ml.epoch) body []
  let seg := segPlain (segHead x.pn 0 63 false) (body ++ wordsBytes (bigWords 2 mic))
  (s.setTxLink { x with pn := x.pn + 1 }).modMl fun m => { m with
    sent := some ⟨mlFc 0 0 0x7F 0 l true s.mlHfon (l.symbols 1) 1 (BitVec.ofNat 8 x.pn), [seg]⟩
    quiet := s.ticks + frameTicks false (l.symbols 1) + gapTicks }

/-- The group key changes (R246): a new key and epoch, the old key accepted for 2 cycles, and KEY to every peer. -/
def State.rekey (s : State) : State :=
  let g := Config.groupKey s.ml.ephemeral
  let s := s.modMl fun m => { m with ephemeral := m.ephemeral + 1, group := some g, epoch := m.epoch + 1, oldGroup := m.group, oldKeys := 2 }
  (s.ml.peers.filter (·.up)).foldl (fun s p => s.mlQueue p.id 0x07 (wordsBytes (bigWords 4 g) ++ [s.ml.epoch])) s

/-- A cycle of a head (R240, R241): its length, silent window and schedule; its beacon goes out unless its transmitter
is shed or held off. -/
def State.headCycle (s : State) : State :=
  let len := cycleUs s.mainsPeriod
  let s := if pnSpent (s.txLink 0x7F 0).pn then s.rekey.setTxLink { dst := 0x7F, link := 0 } else s
  let s := s.modMl fun m => { m with length := len }
  let s := s.modMl fun m =>
    { m with silent := s.silentStart m.cycle.toNat len, contLen := s.fld ML_CONT 0 16, zcLostHead := m.zcGone
             changing := m.oldKeys != 0, allocs := s.headAllocs }
  if 4 ≤ s.power.level then s else s.sendBeacon

/-- The ring words of items that are whole at the front of a ring (R234): `n` words are behind, `best` of them whole. -/
def wholeWords : List RWord → Nat → Nat → Nat
  | [], _, best => best
  | w :: ws, n, best =>
    if w.e then wholeWords ws (n + 1) (n + 1)
    else if w.s then wholeWords ws (n + 1) n
    else wholeWords ws (n + 1) best

/-- The words of a ring that a link may send now: those of whole items, or all when the ring is full. -/
def State.mlReady (s : State) (n : RingNo) : Nat :=
  let ws := (s.ring n).words
  if ws.length = s.ringCap n then ws.length else wholeWords ws 0 0

/-- The egress ring Ek. -/
def egRing (k : Fin 16) : RingNo := ⟨16 + k.val, by omega⟩

/-- ML_LINKk carries Ek: enabled, a destination ring, the ring in service with consumer 0x41. -/
def State.mlCarries (s : State) (k : Fin 16) : Bool :=
  let w := s.reg (ML_LINK k)
  bit w 31 && bits w 0 4 != 0 && s.ringOn (egRing k) && s.ringCons (egRing k) == 0x41

/-- The µs a station wants in a cycle: what waits in its egress rings, in robust frames (R242). -/
def State.mlDemand (s : State) : Nat :=
  let l := s.robust true
  let n := (List.finRange 16).foldl (fun n k => if s.mlCarries k then n + (s.mlReady (egRing k) + 61) / 62 else n) 0
  if n = 0 then 0 else min 65535 (((frameTicks false (l.symbols n) + sackTicks) * 100 + 21695) / 21696)

/-- A member asks the head for time when what it wants has changed (R242, R245). -/
def State.askAlloc (s : State) : State :=
  let us := s.mlDemand
  if us = s.ml.demand then s else (s.modMl fun m => { m with demand := us }).mlQueue 0 0x06 (halfBytes (BitVec.ofNat 16 us))

/-- CYCLE_START (R240, R241, R246): the cycle number moves on and an old group key ages; a head sets its schedule and
sends its beacon; a member's cycle runs on from its last beacon. -/
def execCycleStart (s : State) : Out :=
  .next (if s.mlRuns && decide (3 ≤ s.ml.st.toNat) then
    let left := s.ml.rephase && s.ml.start.any fun t => decide (usTicks 200 < (s.zcOff (t + usTicks s.ml.length)).natAbs)
    let s := s.advanceTo s.nextCycle
    let s := s.modMl fun m =>
      { m with cycle := m.cycle + 1, start := some s.ticks, rephase := m.rephase && (!m.zcOk || left)
               oldKeys := m.oldKeys - 1, oldGroup := if m.oldKeys ≤ 1 then none else m.oldGroup }
    if s.ml.st = 4 then s.headCycle else s.askAlloc
  else s)

/-- Ephemeral key `n` as bytes. -/
def ephemeralBytes (n : Nat) : List Byte := wordsBytes (bigWords 16 (Config.ephemeral n))

/-- This device's certificate. -/
def certBytes : List Byte := (wordsBytes (Config.certificate 0).2).take (Config.certificate 0).1

/-- A member asks to associate (R246): its UID, a new ephemeral key and its certificate. -/
def State.askAssoc (s : State) : State :=
  let n := s.ml.ephemeral
  (s.modMl fun m => { m with st := 2, ephemeral := n + 1, reqOwn := n, reqAt := s.ticks }).mlQueue 0 0x01
    (wordsBytes s.uidWords ++ ephemeralBytes n ++ certBytes)

/-- This station asks a member for pairing (R246). -/
def State.askPair (s : State) (dst : BitVec 7) : State :=
  if s.ml.pend.any (fun p => p.id == dst) || s.ml.outMsgs.any (fun m => m.1 == dst) then s
  else
    let e := s.ml.ephemeral
    let pend : MlPend := { idx := 7, pair := true, asked := true, stage := 1, own := e, id := dst, a := { peer := dst }, since := s.ticks }
    (s.modMl fun m => { m with ephemeral := e + 1, pend := m.pend ++ [pend] }).mlQueue dst 0x08
      (wordsBytes s.uidWords ++ ephemeralBytes e ++ certBytes)

/-- What a member takes from a beacon (R241): beacon timing always, its cycle starting where the preamble did; the rest
once it holds the group key. -/
def State.takeBeacon (s : State) (b : MlBeacon) (start : Nat) : State :=
  let s := s.modMl fun m =>
    { m with cycle := b.cycle, length := b.lengthUs.toNat, start := some start, missed := 0, noBeacon := false, beaconAt := s.ticks }
  if s.ml.group.isNone then s
  else
    (s.setReg ML_REGION (b.regions.setWidth 32)).modMl fun m =>
      { m with silent := b.silent.toNat, contLen := b.contLen.toNat, zcLostHead := b.zcLost, changing := b.epochChanging
               allocs := b.allocs.map fun a => (a.1, a.2.1.toNat, a.2.2.toNat), members := b.members }

/-! ### What every frame says (R232, R235, R239) -/

/-- The sign of a peer's frames (R232): with every peer seen negated, RXSWAP is set and reported once. -/
def State.signOf (s : State) (id : BitVec 7) (negated : Bool) : State :=
  let s := s.modPeer id fun p => { p with negated := some negated }
  let seen := s.ml.peers.filterMap (·.negated)
  let now := !seen.isEmpty && seen.all fun n => n
  let new := now && !s.ml.rxswap
  let s := s.modMl fun m => { m with rxswap := now }
  if new then (s.setFlag ML_FLAGS 2).mline 3 else s

/-- What a peer says of its HF fields in any frame (R239). -/
def State.hearPeer (s : State) (id : BitVec 7) (hfon : Bool) : State :=
  if hfon then s.modPeer id fun p => { p with hfonTick := some s.ticks } else s

/-- What every frame gives: the sign and the HF fields of its sender, and the line's rest before the next frame. -/
def State.heard (s : State) (f : MlFrame) : State :=
  let src := fcSrc f.fc
  let s := if src == 0x7F || src == s.mlSrc then s else (s.signOf src f.negated).hearPeer src (fcHfon f.fc)
  let sack := (fcType f.fc == 1 || fcType f.fc == 2) && fcDst f.fc != 0x7F
  s.modMl fun m => { m with quiet := max m.quiet (s.ticks + gapTicks + if sack then sackTicks else 0) }

/-- A frame of a type ends `dt` ticks on (R232, R235): one whose FCCRC fails is ignored whole. -/
def State.rxFrame (s : State) (ftype : BitVec 4) (dt : Nat) (f : MlFrame) (k : State → State) : State :=
  let s := s.advance dt
  if s.mlRuns && fcOk f.fc && fcType f.fc == ftype then k (s.heard f) else s

/-- The frame is for this station, or for all, and another's. -/
def State.forMe (s : State) (fc : BitVec 96) : Bool :=
  (fcDst fc == s.mlSrc || fcDst fc == 0x7F) && (fcSrc fc != s.mlSrc || fcSrc fc == 0x7F)

/-- Where a frame that ends now began. -/
def State.frameStart (s : State) (fc : BitVec 96) : Nat := s.ticks - frameTicks (fcCp fc) (fcNsym fc)

/-! ### Receiving links (R243, R244) -/

/-- A link this station receives on. One that starts with a new link key starts at PN 0; of a broadcast link not heard
before, the bits of PN above SEQ are not known. -/
def State.rxLink (s : State) (fc : BitVec 96) (link : BitVec 4) : MlRxLink × State :=
  let src := fcSrc fc
  let bc := fcDst fc == 0x7F
  match s.ml.rx.find? fun x => x.src == src && x.link == link && x.bc == bc with
  | some x => (x, s)
  | none =>
    if src == 0x7F then ({ src := src, bc := bc, link := link, next := (fcSeq fc).toNat }, s)
    else if bc then
      let (w, s) := s.freeW
      ({ src := src, bc := bc, link := link, next := w.toNat * 256 + (fcSeq fc).toNat }, s)
    else ({ src := src, bc := bc, link := link, next := 0 }, s)

/-- A receiving link replaced; of stations that have no id yet none is kept. -/
def State.setRxLink (s : State) (x : MlRxLink) : State :=
  if x.src == 0x7F then s
  else s.modMl fun m => { m with rx := x :: m.rx.filter fun y => !(y.src == x.src && y.link == x.link && y.bc == x.bc) }

/-- The PN that a SEQ names: within 128 of the next one. -/
def MlRxLink.pnOf (x : MlRxLink) (seq : Byte) : Nat :=
  let d := (seq - BitVec.ofNat 8 x.next).toNat
  if d < 128 then x.next + d else x.next + d - 256

/-- The segment with a PN is received and placed. -/
def MlRxLink.placed (x : MlRxLink) (pn : Nat) : Bool :=
  (decide (pn < x.next) && !x.lost.contains pn) || x.ahead.any (·.1 == pn)

/-- The 37 bits of a SACK from a base PN (R243): 1 for a segment received and placed. -/
def MlRxLink.sackBits (x : MlRxLink) (base : Nat) : BitVec 37 :=
  BitVec.ofNat 37 ((List.range 37).foldl (fun n i => 2 * n + (x.placed (base + i)).toNat) 0)

/-- A segment placed. -/
def MlRxLink.place (x : MlRxLink) (pn : Nat) (first : BitVec 6) (ws : List RWord) (now : Nat) : MlRxLink :=
  { x with ahead := x.ahead ++ [(pn, first, ws)], since := now }

/-- A SACK is due 100 µs after a unicast data or management frame (R242, R243). -/
def State.oweSack (s : State) (f : MlFrame) (b : BitVec 37) : State :=
  if fcDst f.fc == 0x7F then s
  else s.modMl fun m =>
    { m with sackDue := m.sackDue ++ [⟨fcSrc f.fc, fcSeq f.fc, b, f.negated, s.ticks + usTicks 100⟩] }

/-- BEACON (R241, R246): a member hears its network's beacon; one whose MIC fails under the group key of its epoch is
counted and dropped; a searching member asks to associate. -/
def execBeacon (dt : Nat) (f : MlFrame) (s : State) : Out :=
  .next (s.rxFrame 0 dt f fun s =>
    let seg := f.segs.headD []
    let b := beaconOf (segBody seg)
    if s.mlRole != 1 || fcSrc f.fc != 0 || !segCrcOk seg || b.nid.toNat != s.fld ML_CFG 0 16 then s
    else
      let (x, s) := s.rxLink f.fc 0
      let pn := x.pnOf (segSeq seg)
      let micOk := (s.groupKeys.filter (·.2 == b.epoch)).any fun k =>
        ccmMic k.1 (mlNonce 0 0x7F 0 pn b.epoch) ((segBody seg).take 484) [] == seg.getD 122 0 ++ seg.getD 123 0
      if s.ml.group.isSome && !micOk then s.countFld ML_CNT0 0 16 1
      else if s.ml.group.isSome && x.placed pn then s
      else
        let s := (s.setRxLink { x with next := pn + 1 }).takeBeacon b (s.frameStart f.fc)
        if s.ml.st = 1 then s.askAssoc else s)

/-- BEACON_MISSED (R249): after BCNLOSS missed beacons a member stops transmitting and sets NOBEACON. -/
def execBeaconMissed (s : State) : Out :=
  .next (if s.mlRuns && s.mlRole == 1 && decide (2 ≤ s.ml.st.toNat) then
    let k := s.ml.missed + 1
    s.modMl fun m => { m with missed := k, noBeacon := m.noBeacon || decide (max 1 (s.fld ML_CFG 20 4) ≤ k) }
  else s)

/-! ### Items of the mains link -/

/-- A header that the mains link writes: SOURCE 0x41 and TICKET the station's id (R185, R244). -/
def mlHeader (d : DWord) (id : BitVec 7) : DWord :=
  d.extractLsb' 40 24 ++ 0x41#8 ++ (0#1 ++ id) ++ d.extractLsb' 0 24

/-- Ring `n` is written by the mains link. -/
def State.mlWrites (s : State) (n : RingNo) : Bool := s.ringOn n && s.ringProd n == 0x41

/-- A whole item written to an ingress ring; a ring that cannot take it drops it, counted. -/
def State.mlItem (s : State) (n : RingNo) (ws : List RWord) : State :=
  if s.mlWrites n && decide (ws.length ≤ s.ringRoom n) then s.ringPutAll n .mains ws else s.dropWords n ws.length

/-- The ring of ML_CFG.MGMTRING; 0 is none. -/
def State.mgmtRing (s : State) : Option RingNo :=
  let n := s.fld ML_CFG 16 4
  if n = 0 then none else some (Fin.ofNat 32 n)

/-- An item of type 0x50 or 0x51 for the program (R246). -/
def State.mgmtItem (s : State) (type : Nat) (id : BitVec 7) (body : List DWord) : State :=
  match s.mgmtRing with
  | none => s
  | some n =>
    let h : DWord := BitVec.ofNat 16 (body.length + 1) ++ BitVec.ofNat 8 type ++ 0x41#8 ++ (0#1 ++ id) ++ 0#24
    s.mlItem n (closeItem ({ data := h, v := true, s := true } :: body.map rword))

/-- A peer change is reported: up or down, and why (R246). -/
def State.peerItem (s : State) (id : BitVec 7) (up : Bool) (reason : Byte) : State :=
  s.mgmtItem 0x51 id [id ++ BitVec.ofBool up ++ reason ++ 0#48]

/-- A peer's links end. -/
def State.dropPeer (s : State) (id : BitVec 7) : State :=
  s.modMl fun m =>
    { m with peers := m.peers.filter (·.id != id), tx := m.tx.filter (·.dst != id), rx := m.rx.filter (·.src != id)
             pend := m.pend.filter (·.id != id), members := m.members &&& ~~~ BitVec.ofNat 64 (2 ^ id.toNat) }

/-- Every peer that is up goes down with a reason. -/
def State.peersDown (s : State) (reason : Byte) : State :=
  ((s.ml.peers.filter (·.up)).map (·.id)).foldl (fun s id => (s.dropPeer id).peerItem id false reason) s

/-- BEACON_LOSS_10S (R249): 10 s after the last beacon the peer links of a member are down with reason 2, and
association restarts. -/
def execBeaconLoss10s (s : State) : Out :=
  .next (if s.mlRuns && s.mlRole == 1 && decide (2 ≤ s.ml.st.toNat) then
    ((s.advanceTo (s.ml.beaconAt + usTicks 10000000)).peersDown 2).modMl fun m =>
      { m with st := 1, myId := 0, group := none, oldGroup := none, oldKeys := 0, pend := [], outMsgs := [], sackDue := []
               peers := [], tx := [], rx := [], onAir := none, start := none, demand := 0 }
  else s)

/-! ### Tone maps (R236, R237, R238) -/

/-- A map is sent to a peer: its version moves on, and the one before it is kept. -/
def State.sendMap (s : State) (id : BitVec 7) (m : MlMap) : State :=
  (s.modPeer id fun p =>
    { p with tmSeq := m.tmseq, mapTick := s.ticks
             own := (m, s.ticks) :: ((p.own.filter (·.1.index == m.index)).take 1 ++ p.own.filter (·.1.index != m.index)) }).mlQueue
    id 0x04 m.bytes

/-- A map towards a peer is looked at after a measurement (R237): it is sent when it is first complete, and when its
loading sum has changed by more than DELTA %. -/
def State.reviewMap (s : State) (id : BitVec 7) (index : Nat) : State :=
  match s.peer? id with
  | none => s
  | some p =>
    match s.buildMap p index with
    | none => s
    | some m =>
      match p.own.find? (·.1.index == m.index) with
      | none => s.sendMap id m
      | some (o, _) =>
        if s.fld ML_TMCFG 8 8 * o.sum < 100 * (max m.sum o.sum - min m.sum o.sum) then s.sendMap id m else s

/-- The maps of every region a peer was measured in, and the all-region map (R237). -/
def State.sendMaps (s : State) (id : BitVec 7) : State :=
  [0, 1, 2, 3, 4, 5, 7].foldl (fun s r =>
    match (s.peer? id).bind fun p => s.buildMap p r with
    | some m => s.sendMap id m
    | none => s) s

/-- The version of a map that a frame of a peer used is the newest sent, or the one before it within 1 s (R237). -/
def State.mapKept (s : State) (p : MlPeer) (tmi : BitVec 3) (tmseq : Byte) : Bool :=
  tmi == 6 ||
    match p.own.filter (·.1.index == tmi) with
    | [] => false
    | (m, t) :: rest => m.tmseq == tmseq || rest.any fun o => o.1.tmseq == tmseq && decide (s.ticks < t + usTicks 1000000)

/-- A receiver that lacks maps asks the peer for sounding in their regions, once (R238). -/
def State.askSounding (s : State) (id : BitVec 7) : State :=
  match s.peer? id with
  | none => s
  | some p =>
    let want := ((List.range 6).filter fun r => !p.asked.getLsbD r && !p.signal.any (·.1 == r)).foldl
      (fun b r => b ||| BitVec.ofNat 6 (2 ^ r)) 0#6
    if want = 0 then s
    else (s.modPeer id fun p => { p with asked := p.asked ||| want }).mlQueue id 0x05 [want.setWidth 8]

/-- The signal power measured on a frame, for the region the frame began in (R236). -/
def State.hearLevel (s : State) (f : MlFrame) : State :=
  let id := fcSrc f.fc
  match s.ml.start with
  | none => s
  | some t =>
    if f.level.isEmpty || !s.peerUp id then s
    else
      let r := (s.regionAt (s.frameStart f.fc - t)).1
      ((s.modPeer id fun p => { p with signal := (r, f.level) :: p.signal.filter (·.1 != r) }).reviewMap id r).reviewMap id 7

/-! ### Sending (R239, R240, R242, R243) -/

/-- A transmission is allowed: a role that is up or associating, the line not held off, the transmitter not shed
(R249, R326), and a member not without a beacon. -/
def State.mlMaySend (s : State) : Bool :=
  s.mlRuns && decide (2 ≤ s.ml.st.toNat) && !s.ml.noBeacon && decide (s.power.level < 4) &&
    match s.ml.shortAt with
    | some t => decide (t + usTicks 1000000 ≤ s.ticks)
    | none => true

/-- Whether a frame to a station is started with the HF notch (R239): own fields on, HFON reported within the
last 100 ms, or a broadcast. -/
def State.mlNotch (s : State) (dst : BitVec 7) : Bool :=
  s.mlHfon || dst == 0x7F ||
    match s.peer? dst with
    | some p => p.hfonTick.any fun t => decide (s.ticks < t + usTicks 100000)
    | none => false

/-- The index of the first header word, 63 for none. -/
def firstHeader (ws : List RWord) : BitVec 6 := BitVec.ofNat 6 ((ws.findIdx? (·.s)).getD 63)

/-- The bytes of ring words. -/
def ringBytes (ws : List RWord) : List Byte := wordsBytes (ws.flatMap fun w => bigWords 2 w.data)

/-- A segment of ring words, secured under a link's key (R234, R247). -/
def State.dataSeg (s : State) (x : MlTxLink) (k : BitVec 128 × Byte) (ws : List RWord) : List Word :=
  segSecured k.1 (mlNonce s.mlSrc x.dst x.link x.pn k.2) (segHead x.pn ws.length (firstHeader ws) (ws.any (·.p))) (ringBytes ws)

/-- `j` words read from a ring; a word that fails its parity check comes with P = 1 (R184). -/
def State.takeWords (s : State) (n : RingNo) (bad : List Nat) (i : Nat) : Nat → State × List RWord
  | 0 => (s, [])
  | j + 1 =>
    match s.ringTake n (bad.contains i) with
    | none => (s, [])
    | some (w, s) =>
      let (s, ws) := s.takeWords n bad (i + 1) j
      (s, w :: ws)

/-- Up to `k` new segments of up to 62 ring words each taken from an egress ring, while fewer than 128 are
outstanding (R234, R243); `i` words were taken before. -/
def State.newSegs (s : State) (n : RingNo) (key : BitVec 128 × Byte) (bad : List Nat) (i : Nat) (x : MlTxLink) :
    Nat → State × MlTxLink
  | 0 => (s, x)
  | k + 1 =>
    let j := min 62 (s.mlReady n)
    if j = 0 ∨ 128 ≤ x.out.length ∨ pnSpent x.pn then (s, x)
    else
      let (s, ws) := s.takeWords n bad i j
      s.newSegs n key bad (i + j) { x with pn := x.pn + 1, out := x.out ++ [⟨x.pn, 0, s.dataSeg x key ws⟩] } k

/-- The loadings a frame to a station may use at a place in the cycle, the best first (R237): the map of the region and
the all-region map; the robust map where the region has none, after a fall-back and for a broadcast. -/
def State.loadsFor (s : State) (dst : BitVec 7) (notch : Bool) (pos : Nat) : List MlLoad :=
  match s.peer? dst with
  | none => [s.robust notch]
  | some p =>
    let use := fun (m : MlMap) =>
      { tmi := m.index, tmseq := m.tmseq, cp := m.cp, cr := m.cr, bits := s.mapBits notch m : MlLoad }
    match p.maps.find? fun m => m.index.toNat == (s.regionAt pos).1 with
    | some m =>
      if dst == 0x7F || p.fallback then [s.robust notch]
      else use m :: (p.maps.filter (·.index == 7)).map use
    | none => [s.robust notch]

/-- The first loading with which a segment at least fits, and how many fit. -/
def State.pickLoad (s : State) (pos slotEnd want : Nat) (sack : Bool) : List MlLoad → Option (MlLoad × Nat)
  | [] => none
  | l :: ls =>
    let n := s.segsFit l pos slotEnd want sack
    if n = 0 then s.pickLoad pos slotEnd want sack ls else some (l, n)

/-- The first `n` segments outstanding on a link sent in one frame (R235, R242, R243): a unicast frame awaits its SACK; a
broadcast segment leaves after BCREP sends. -/
def State.sendFrame (s : State) (x : MlTxLink) (ftype : BitVec 4) (l : MlLoad) (notch : Bool) (n : Nat) : State :=
  let frame := (x.out.take n).map fun o => { o with tries := o.tries + 1 }
  let bc := x.dst == 0x7F
  let keep := if bc then frame.filter fun o => decide (o.tries < max 1 (s.fld ML_ARQ 8 4)) else frame
  let nsym := l.symbols frame.length
  let fc := mlFc ftype s.mlSrc x.dst x.link l notch s.mlHfon nsym frame.length (BitVec.ofNat 8 ((frame.map (·.pn)).headD 0))
  let ended := s.ticks + frameTicks l.cp nsym + if bc then 0 else sackTicks
  (s.setTxLink { x with out := keep ++ x.out.drop n }).modMl fun m => { m with
    sent := some ⟨fc, frame.map (·.seg)⟩
    onAir := if bc then none else some ⟨x.dst, x.link, frame.map (·.pn), ended⟩
    ready := false, drawnAt := ended, quiet := ended + gapTicks }

/-- A data frame of an egress ring at a place in the cycle (R242, R243): repeats ahead of new segments. -/
def State.sendData (s : State) (k : Fin 16) (bad : List Nat) (pos slotEnd : Nat) : Option State :=
  let w := s.reg (ML_LINK k)
  let dst : BitVec 7 := w.extractLsb' 8 7
  let x := s.txLink dst (w.extractLsb' 0 4)
  let notch := s.mlNotch dst
  match s.mlKeys dst (dst == 0x7F) with
  | [] => none
  | key :: _ =>
    match s.pickLoad pos slotEnd (x.out.length + (s.mlReady (egRing k) + 61) / 62) (dst != 0x7F) (s.loadsFor dst notch pos) with
    | none => none
    | some (l, n) =>
      let (s, x) := s.newSegs (egRing k) key bad 0 x (n - x.out.length)
      if x.out.isEmpty then none else some (s.sendFrame x 1 l notch n)

/-- A message type that travels in unsecured segments (R245). -/
def mtypeOpen (mtype : Byte) : Bool := [0x01, 0x02, 0x03, 0x08, 0x09, 0x0A].contains mtype

/-- Segment `i` of a message's bytes. -/
def State.msgSeg (s : State) (x : MlTxLink) (key : Option (BitVec 128 × Byte)) (bytes : List Byte) (i : Nat) : MlOut :=
  let cap := if key.isSome then 496 else 504
  let body := (bytes.drop (cap * i)).take cap
  let pn := x.pn + i
  let head := segHead pn ((body.length + 7) / 8) 63 false
  { pn := pn, tries := 0
    seg := match key with
      | some k => segSecured k.1 (mlNonce s.mlSrc x.dst 0 pn k.2) head body
      | none => segPlain head body }

/-- A message in segments behind those outstanding (R234, R245): its 4-byte header, its content, at most 4 segments; all
but six types are secured. A message without a key, or too long, is not sent. -/
def State.formMsg (s : State) (dst : BitVec 7) (mtype : Byte) (content : List Byte) : State :=
  let x := s.txLink dst 0
  let bytes := [mtype, 0] ++ halfBytes (BitVec.ofNat 16 content.length) ++ content
  let key := if mtypeOpen mtype then none else (s.mlKeys dst (dst == 0x7F)).head?
  let n := (bytes.length + (if key.isSome then 495 else 503)) / (if key.isSome then 496 else 504)
  if 4 < n ∨ (!mtypeOpen mtype && key.isNone) ∨ pnSpent x.pn then s
  else s.setTxLink { x with pn := x.pn + n, out := x.out ++ (List.range n).map fun i => s.msgSeg x key bytes i }

/-- The first management message queued is formed, when none is outstanding. -/
def State.loadMsg (s : State) : State :=
  if s.ml.tx.any fun x => x.link == 0 && !x.out.isEmpty then s
  else
    match s.ml.outMsgs with
    | [] => s
    | (dst, mt, c) :: rest => (s.modMl fun m => { m with outMsgs := rest }).formMsg dst mt c

/-- A management frame at a place in the cycle: the segments of the message outstanding, with the robust map. -/
def State.sendMsg (s : State) (pos slotEnd : Nat) : Option State :=
  let s := s.loadMsg
  match s.ml.tx.find? fun x => x.link == 0 && !x.out.isEmpty with
  | none => none
  | some x =>
    let notch := s.mlNotch x.dst
    (s.pickLoad pos slotEnd x.out.length (x.dst != 0x7F) [s.robust notch]).map fun l => s.sendFrame x 2 l.1 notch l.2

/-- A sounding frame for the region at hand, to a peer that asked for it (R238): four symbols. -/
def State.sendSounding (s : State) (pos slotEnd : Nat) : Option State :=
  let (r, e) := s.regionAt pos
  let d := frameTicks false 4
  match s.ml.peers.find? fun p => p.soundReq.getLsbD r with
  | none => none
  | some p =>
    if pos + d ≤ min slotEnd e ∧ s.clearOf pos d = true then
      some ((s.modPeer p.id fun p => { p with soundReq := p.soundReq &&& ~~~ BitVec.ofNat 6 (2 ^ r) }).modMl fun m =>
        { m with sent := some ⟨mlFc 4 s.mlSrc p.id 0 (s.robust true) true s.mlHfon 4 0 0, []⟩
                 ready := false, drawnAt := s.ticks + d, quiet := s.ticks + d + gapTicks })
    else none

/-- The SACK that is due (R235, R243), with TMREQ when this station fell back to the robust map (R237). -/
def State.sendSack (s : State) : Option State :=
  match s.ml.sackDue with
  | [] => none
  | k :: ks =>
    let s := s.advanceTo k.tick
    let tm := match s.peer? k.dst with
      | some p => p.tmreq
      | none => false
    let s := if tm then s.modPeer k.dst fun p => { p with tmreq := false } else s
    some (s.modMl fun m => { m with
      sackDue := ks, sent := some ⟨sackFc s.mlSrc k.dst k.base k.bits k.negated s.mlHfon tm, []⟩
      quiet := s.ticks + fcTicks + gapTicks })

/-- The frame this station may start at its opportunity (R240, R242): no SACK is owed or awaited, the line has rested
50 µs, the interval is open to it, and a contention frame's backoff has expired. -/
def State.sendKind (s : State) (kind : MlTxKind) (bad : List Nat) : Option State :=
  match kind with
  | .sack => s.sendSack
  | _ =>
    if !s.ml.sackDue.isEmpty || s.ml.onAir.isSome || decide (s.ticks < s.ml.quiet) then none
    else
      match s.cyclePos with
      | none => none
      | some pos =>
        match s.mlSlot (kind == .management) pos with
        | none => none
        | some (contended, slotEnd) =>
          if contended && !s.ml.ready then none
          else match kind with
            | .data k => if s.mlCarries k && decide (3 ≤ s.ml.st.toNat) then s.sendData k bad pos slotEnd else none
            | .management => s.sendMsg pos slotEnd
            | .sounding => s.sendSounding pos slotEnd
            | .sack => none

/-- Ek has words for a member this station has no link to, or its link's numbers are used up: it asks for pairing, and a
member towards its head for a new association (R246). -/
def State.askLink (s : State) (k : Fin 16) : State :=
  let w := s.reg (ML_LINK k)
  let dst : BitVec 7 := w.extractLsb' 8 7
  let ask := s.mlCarries k && dst != 0x7F && dst != s.ml.myId && s.mlReady (egRing k) != 0 && s.ml.st == 3 &&
    (!s.peerUp dst || pnSpent (s.txLink dst (w.extractLsb' 0 4)).pn)
  if !ask then s else if dst == 0 then s.askAssoc else s.askPair dst

/-- ML_FRAME_TRANSMIT (R242, R326): the frame of this opportunity, and whether its own preamble was seen. -/
def execMlFrameTransmit (dt : Nat) (x : MlTx) (s : State) : Out :=
  .next (
    let s := s.advance dt
    if s.mlMaySend then
      let s := match x.kind with
        | .data k => s.askLink k
        | _ => s
      match s.sendKind x.kind x.bad with
      | none => s
      | some t => t.modMl fun m =>
          { m with shortAt := none, unseen := if x.seen then 0 else m.unseen + 1, openLine := m.openLine && !x.seen }
    else s)

/-- BACKOFF_EXPIRY (R242): the backoff drawn, from 0 to CW - 1 slots of 50 µs, has counted down to zero, and the
station may start its frame. -/
def execBackoffExpiry (draw : Nat) (s : State) : Out :=
  .next (if s.mlMaySend then
    (s.advanceTo (s.ml.drawnAt + usTicks (50 * (draw % s.ml.cw)))).modMl fun m => { m with backoff := draw % m.cw, ready := true }
  else s)

/-- LINE_SHORT (R326): transmission stops, and is held off for at least 1 s. -/
def execLineShort (s : State) : Out :=
  .next (if s.mlRuns then (s.modMl fun m => { m with shortAt := some s.ticks }).mline 5 else s)

/-- LINE_OPEN (R326): its own preamble was not seen in 3 consecutive transmissions. -/
def execLineOpen (s : State) : Out :=
  .next (if s.mlRuns && decide (3 ≤ s.ml.unseen) && !s.ml.openLine then
    (s.modMl fun m => { m with openLine := true }).mline 6 else s)

/-! ### Acknowledgement and repair (R237, R243) -/

/-- A frame's segments are counted for R237: after 16 frames, more than FAILTHR % failed falls back to the
robust map and asks for a new one. -/
def State.countFrame (s : State) (id : BitVec 7) (sent failed : Nat) : State :=
  s.modPeer id fun p =>
    let p := { p with frames := p.frames + 1, sentSegs := p.sentSegs + sent, failed := p.failed + failed }
    if p.frames < 16 then p
    else
      let bad := decide (s.fld ML_TMCFG 24 7 * p.sentSegs < 100 * p.failed)
      { p with frames := 0, sentSegs := 0, failed := 0, fallback := p.fallback || bad, tmreq := p.tmreq || bad }

/-- The segments of the frame on the air that the peer has not acknowledged stay to be repeated; one sent MAXTRY
times is dropped and counted (R243). -/
def State.settleFrame (s : State) (dst : BitVec 7) (link : BitVec 4) (acked : Byte → Bool) : State :=
  let x := s.txLink dst link
  let out := x.out.filter fun o => !acked (BitVec.ofNat 8 o.pn)
  let gone := out.filter fun o => decide (max 1 (s.fld ML_ARQ 0 8) ≤ o.tries)
  let s := s.setTxLink { x with out := out.filter fun o => decide (o.tries < max 1 (s.fld ML_ARQ 0 8)) }
  s.countFld ML_CNT0 16 16 gone.length

/-- The segment with a SEQ is acknowledged by a SACK's bitmap. -/
def sackBit (base : Byte) (b : BitVec 37) (seq : Byte) : Bool := b.getLsbD (36 - (seq - base).toNat) && decide ((seq - base).toNat < 37)

/-- A peer reports how it sees this station (R232): negated sets TXSWAP and is reported once. -/
def State.seenBy (s : State) (id : BitVec 7) (negated : Bool) : State :=
  let s := s.modPeer id fun p => { p with seesNeg := negated }
  let now := s.ml.peers.any (·.seesNeg)
  let new := now && !s.ml.txswap
  let s := s.modMl fun m => { m with txswap := now }
  if new then (s.setFlag ML_FLAGS 3).mline 4 else s

/-- SACK (R237, R243): of the frame that awaits it, the acknowledged segments leave, the others are repeated or dropped;
TMREQ asks for this station's maps. -/
def execSack (dt : Nat) (f : MlFrame) (s : State) : Out :=
  .next (s.rxFrame 3 dt f fun s =>
    match s.ml.onAir with
    | none => s
    | some a =>
      if a.dst != fcSrc f.fc || !s.forMe f.fc then s
      else
        let acked := sackBit (fcSeq f.fc) (fcBits f.fc)
        let s := (s.seenBy a.dst (fcBit67 f.fc)).modMl fun m => { m with cw := 8, onAir := none, drawnAt := s.ticks }
        let s := s.settleFrame a.dst a.link acked
        let s := if a.link = 0 then s
          else s.countFrame a.dst a.pns.length (a.pns.filter fun n => !acked (BitVec.ofNat 8 n)).length
        if fcTmreq f.fc then s.sendMaps a.dst else s)

/-- SACK_MISSING (R242, R243): no SACK when it would have ended: every segment of the frame counts as unacknowledged,
and CW doubles up to 64. -/
def execSackMissing (s : State) : Out :=
  .next (match s.ml.onAir with
    | none => s
    | some a =>
      if s.mlRuns then
        let s := (s.advanceTo a.due).modMl fun m => { m with cw := min 64 (2 * m.cw), onAir := none }
        let s := s.settleFrame a.dst a.link fun _ => false
        if a.link = 0 then s else s.countFrame a.dst a.pns.length a.pns.length
      else s)

/-! ### Receiving (R232, R234, R244) -/

/-- The ring of a LINK number. -/
def linkRing (link : BitVec 4) : RingNo := ⟨link.toNat, by omega⟩

/-- Items discarded are counted (R244). -/
def State.lostItem (s : State) : State := s.countFld ML_CNT1 16 16 1

/-- A word of the item being completed, which is written when its LENGTH words are there (R244). -/
def State.rxItem (s : State) (x : MlRxLink) (w : RWord) : State × MlRxLink :=
  let item := x.item ++ [w]
  let len := itemLength ((item.headD {}).data)
  if item.length < len then (s, { x with item := item })
  else
    let tagged := match item with
      | h :: r => closeItem ({ h with data := mlHeader h.data x.src, s := true, v := true } :: r)
      | [] => []
    (s.mlItem (linkRing x.link) tagged, { x with item := [] })

/-- One word of a link's stream (R234, R244): an item is written when its LENGTH words are there. After a loss, the
words before the next header are the rest of the item counted, or of one more, and are discarded; a loss that touched
no item seen counts one when the stream resumes. -/
def State.rxWord1 (s : State) (x : MlRxLink) (isFirst : Bool) (w : RWord) : State × MlRxLink :=
  match x.gap with
  | some (counted, owed) =>
    if isFirst then
      let s := if counted then s else s.lostItem
      s.rxItem { x with gap := none } w
    else if owed = 0 then (s.lostItem, { x with gap := some (true, 65536) })
    else (s, x)
  | none => s.rxItem x w

/-- The words of one segment in order; `i` is the index of the first, `first` the index of the segment's first
header. -/
def State.rxWords (s : State) (x : MlRxLink) (first i : Nat) : List RWord → State × MlRxLink
  | [] => (s, x)
  | w :: ws =>
    let (s, x) := s.rxWord1 x (i == first) w
    s.rxWords x first (i + 1) ws

/-- The next segment delivered, when it is placed; the words of a message are gathered. -/
def State.rxNext (s : State) (x : MlRxLink) : Option (State × MlRxLink) :=
  match x.ahead.find? (·.1 == x.next) with
  | none => none
  | some (_, first, ws) =>
    let x := { x with next := x.next + 1, ahead := x.ahead.filter (·.1 != x.next) }
    some (if x.link = 0 then (s, { x with item := x.item ++ ws }) else s.rxWords x first.toNat 0 ws)

/-- Segments placed ahead are delivered as far as they follow on. -/
def State.rxFollow (s : State) (x : MlRxLink) : Nat → State × MlRxLink
  | 0 => (s, x)
  | k + 1 =>
    match s.rxNext x with
    | none => (s, x)
    | some (s, x) => s.rxFollow x k

/-- The next segment given up (R244): the item with words already there is discarded and counted. -/
def State.rxLose (s : State) (x : MlRxLink) : State × MlRxLink :=
  let len := itemLength ((x.item.headD {}).data)
  let y := { x with next := x.next + 1, lost := (x.next :: x.lost).take 128, item := [] }
  if x.link = 0 then (s, y)
  else match x.gap, x.item with
    | some (c, owed), _ => (s, { y with gap := some (c, owed - 62) })
    | none, [] => (s, { y with gap := some (false, 0) })
    | none, _ :: _ => (s.lostItem, { y with gap := some (true, len - x.item.length - 62) })

/-- Every segment before `stop` delivered, or given up where it is missing (R244). -/
def State.rxGiveUp (s : State) (x : MlRxLink) (stop : Nat) : Nat → State × MlRxLink
  | 0 => (s, x)
  | k + 1 =>
    if stop ≤ x.next then (s, x)
    else
      let (s, x) := (s.rxNext x).getD (s.rxLose x)
      s.rxGiveUp x stop k

/-- The ring words that segments placed ahead, and the item being completed, will still write. -/
def MlRxLink.owed (x : MlRxLink) : Nat := x.item.length + x.ahead.foldl (fun n a => n + a.2.2.length) 0

/-- The ring words in the body of a segment. -/
def bodyWords (body : List Byte) (n : Nat) : List DWord := (bytesToWords (body.take (8 * n))).take n

/-- One segment of a data frame (R243, R244, R247): one whose CRC fails, that was placed before, or that the ring has no
room for is not placed; one whose MIC fails is counted. -/
def State.rxSeg (s : State) (x : MlRxLink) (dst : BitVec 7) (seg : List Word) : State × MlRxLink :=
  let pn := x.pnOf (segSeq seg)
  if !segCrcOk seg || decide (pn < x.next) || x.placed pn then (s, x)
  else
    match mlOpen x.src dst x.link pn seg (s.mlKeys x.src x.bc) with
    | none => (s.countFld ML_CNT0 0 16 1, x)
    | some body =>
      let ws := (bodyWords body (min 62 (segWords seg))).map fun d => pword (segPsn seg) d
      if s.ringRoom (linkRing x.link) < x.owed + ws.length then (s, x)
      else s.rxFollow (x.place pn (segFirst seg) ws s.ticks) 128

/-- The segments of a data frame in turn. -/
def State.rxSegs (s : State) (x : MlRxLink) (dst : BitVec 7) : List (List Word) → State × MlRxLink
  | [] => (s, x)
  | g :: gs =>
    let (s, x) := s.rxSeg x dst g
    s.rxSegs x dst gs

/-- The SACK bits of the segments of a frame whose CRC passed. -/
def crcBits (base : Byte) (segs : List (List Word)) : BitVec 37 :=
  BitVec.ofNat 37 ((List.range 37).foldl (fun n i =>
    2 * n + (segs.any fun g => segCrcOk g && segSeq g == base + BitVec.ofNat 8 i).toNat) 0)

/-- DATA_FRAME (R232, R236, R243, R244): a frame to this station or to all is taken; on a ring the mains link does not
write it is acknowledged, discarded and counted; a frame that starts beyond the next segment gives up those
before it. -/
def execDataFrame (dt : Nat) (f : MlFrame) (s : State) : Out :=
  .next (s.rxFrame 1 dt f fun s =>
    let link := fcLink f.fc
    if !s.mlUp || !s.forMe f.fc || link == 0 then s
    else if !s.mlWrites (linkRing link) then (s.countFld ML_CNT1 8 8 1).oweSack f (crcBits (fcSeq f.fc) f.segs)
    else
      let kept := match s.peer? (fcSrc f.fc) with
        | some p => s.mapKept p (fcTmi f.fc) (fcTmseq f.fc)
        | none => fcTmi f.fc == 6
      if !kept then s
      else
        let s := s.hearLevel f
        let s := if fcTmi f.fc == 6 && s.peerUp (fcSrc f.fc) then s.askSounding (fcSrc f.fc) else s
        let (x, s) := s.rxLink f.fc link
        let base := x.pnOf (fcSeq f.fc)
        let (s, x) := s.rxGiveUp x base 256
        let (s, x) := s.rxSegs x (fcDst f.fc) f.segs
        (s.setRxLink x).oweSack f (x.sackBits base))

/-- SEGMENT_GIVE_UP (R244): 500 ms have passed since a segment was last placed, and the one missing before others, or in
an item, is given up. -/
def execSegmentGiveUp (src : BitVec 7) (link : BitVec 4) (broadcast : Bool) (s : State) : Out :=
  .next (match s.ml.rx.find? fun x => x.src == src && x.link == link && x.bc == broadcast with
    | none => s
    | some x =>
      if s.mlUp && (!x.ahead.isEmpty || !x.item.isEmpty) then
        let s := s.advanceTo (x.since + usTicks 500000)
        let (s, x) := s.rxLose { x with since := s.ticks }
        let (s, x) := s.rxFollow x 128
        s.setRxLink x
      else s)

/-- SILENT_WINDOW (R236, R238, R270): the silent window of the cycle opens; its noise is kept for the tone maps, which
are looked at again, and a K.CAL MAG that waits runs. -/
def execSilentWindow (noise : List Nat) (s : State) : Out :=
  .next (match s.ml.start with
    | none => s
    | some t =>
      if s.mlRuns then
        let s := s.advanceTo (t + usTicks s.ml.silent)
        let r := s.ml.cycle.toNat % 6
        let s := s.modMl fun m =>
          { m with noise := if noise.isEmpty then m.noise
              else (r, noise) :: ((m.noise.filter (·.1 == r)).take 7 ++ m.noise.filter (·.1 != r)) }
        let s := (s.ml.peers.filter (·.up)).foldl (fun s p => (s.reviewMap p.id r).reviewMap p.id 7) s
        { s with ops := s.ops.map fun (op : Op) =>
            match op.eng with
            | .cal c => if op.calCode = 8 ∧ c.stage = .waitSwitch then { op with eng := .cal { c with stage := .measuring, since := s.ticks } } else op
            | _ => op }
      else s)

/-- A write of ML_CFG (R228, R229): a new role starts the link afresh: off, a member that searches, or a head that is
up with a new group key; a new ZCEXP is held against the offset measured. -/
def State.writeMlCfg (s : State) (v : Word) : State :=
  let was := s.mlRole
  let mis := s.zcMis
  let s := s.writeFields ML_CFG v
  if s.mlRole = was then s.zcReport mis
  else
    let e := s.ml.ephemeral
    let fresh : Mlink :=
      { zcOk := s.ml.zcOk, zcTick := if s.ml.zcOk then s.ml.zcTick else s.ticks, zcLen := s.ml.zcLen, ephemeral := e + 1
        cycle := s.ml.cycle, shortAt := s.ml.shortAt, unseen := s.ml.unseen, openLine := s.ml.openLine }
    { s with ml := match s.mlRole with
        | 1 => { fresh with st := 1 }
        | 2 => { fresh with st := 4, group := some (Config.groupKey e), length := s.ml.length }
        | _ => fresh }

/-- ML_STATUS as it reads. -/
def State.mlStatus (s : State) : Word :=
  fieldW 29 3 s.ml.st.toNat ||| fieldW 22 7 s.ml.myId.toNat ||| fieldW 19 3 s.ml.zcOfs.toNat ||| flagW 18 s.ml.zcOk |||
    flagW 17 s.ml.noBeacon ||| flagW 16 s.mlHfon ||| fieldW 0 16 s.ml.cycle.toNat

end Sys2Proof.Machine
end

