-- ==== Sys2Proof/Machine/MainsMsg.lean ====
section
/-!
DEFINITION. The management messages and keys of the mains link (R236 to R238, R242, R245 to R247), and STOP
over the mains (R248) with the shared STOP of R219.
-/

namespace Sys2Proof.Machine

/-! ### STOP, shared by R219, R220 and R248 -/

/-- Every operation ends CANCELLED, notwithstanding R74 (R219). -/
def State.cancelEvery (s : State) : State :=
  (s.ops.map fun (op : Op) => (op.id, op.active)).foldl (fun s x =>
    if x.2 then s.endOp x.1 0x09 else s.endPending x.1 0x09) s

/-- MUTE (R219): every carrier, chirp downlink and field ends, and every operation ends CANCELLED. -/
def State.muteAll (s : State) : State := (s.uhfRemoveAll.hfRemoveAll).cancelEvery

/-- A STOP (R219): halt requests to the threads of the mask, MUTE, and HOLD. -/
def State.stopAll (s : State) (src : BitVec 3) (mask : Word) (mute hold : Bool) : State :=
  let s := s.forThreads fun s t => if mask.getLsbD t.val then s.haltTh t src else s
  let s := if mute then s.muteAll else s
  if hold then s.setFld AIR_CTRL 0 1 1 else s

/-- A station that was admitted to the network: a peer that is up, or one of the member bitmap. -/
def State.admitted (s : State) (id : BitVec 7) : Bool := s.peerUp id || s.ml.members.getLsbD id.toNat

/-- CONTROL_FRAME (R248): accepted from the head, or from an admitted station with STOPANY, with a valid MIC and
a new PN; it acts as a STOP with HALTSRC 3. The thread mask stands in bytes 4 to 7, the flags in byte 8. -/
def execControlFrame (dt : Nat) (f : MlFrame) (s : State) : Out :=
  .next (s.rxFrame 5 dt f fun s =>
    let src := fcSrc f.fc
    let seg := f.segs.headD []
    if !s.mlUp || !s.forMe f.fc || !(src == 0 || (bit (s.reg ML_CFG) 27 && s.admitted src)) || !segCrcOk seg then s
    else
      let (x, s) := s.rxLink f.fc 0
      let pn := x.pnOf (segSeq seg)
      match mlOpen src (fcDst f.fc) 0 pn seg (s.mlKeys src x.bc) with
      | none => s.countFld ML_CNT0 0 16 1
      | some body =>
        if pn < x.next ∨ x.placed pn = true then s
        else
          let (s, x) := s.rxFollow (x.place pn 63 [] s.ticks) 128
          let flags := body.getD 4 0
          (s.setRxLink x).stopAll 3 (BitVec.ofNat 32 (bytesNat body 0 4)) (flags.getLsbD 0) (flags.getLsbD 1))

/-! ### Messages (R234, R245) -/

/-- The message that the words gathered hold, when all of it is there: MTYPE and content. -/
def msgDone (item : List RWord) : Option (Byte × List Byte) :=
  let bs := ringBytes item
  if 4 ≤ bs.length ∧ 4 + bytesNat bs 2 2 ≤ bs.length then some (bs.getD 0 0, (bs.drop 4).take (bytesNat bs 2 2)) else none

/-- The next whole message of a link, its segments being delivered in order. -/
def State.takeMsg (s : State) (x : MlRxLink) : Nat → MlRxLink × Option (Byte × List Byte)
  | 0 => (x, none)
  | k + 1 =>
    match msgDone x.item with
    | some m => ({ x with item := [] }, some m)
    | none =>
      match s.rxNext x with
      | some (_, x) => s.takeMsg x k
      | none => (x, none)

/-- One segment of a management frame: in the clear, or opened with a key of its link (R245, R247). -/
def State.msgRxSeg (s : State) (x : MlRxLink) (clear : Bool) (dst : BitVec 7) (seg : List Word) : State × MlRxLink :=
  let pn := x.pnOf (segSeq seg)
  if !segCrcOk seg || decide (pn < x.next) || x.placed pn then (s, x)
  else
    match if clear then some (segBody seg) else mlOpen x.src dst 0 pn seg (s.mlKeys x.src x.bc) with
    | none => (s.countFld ML_CNT0 0 16 1, x)
    | some body => (s, x.place pn 63 ((bodyWords body (segWords seg)).map rword) s.ticks)

/-- The segments of a management frame in turn. -/
def State.msgRxSegs (s : State) (x : MlRxLink) (clear : Bool) (dst : BitVec 7) : List (List Word) → State × MlRxLink
  | [] => (s, x)
  | g :: gs =>
    let (s, x) := s.msgRxSeg x clear dst g
    s.msgRxSegs x clear dst gs

/-- What a management frame for this station gives: its segments are placed, a SACK is due, and its message, once
whole, is there to be taken (R242, R245). -/
def State.mgmtTake (s : State) (clear : Bool) (f : MlFrame) : State × Option (Byte × List Byte) :=
  let l := s.rxLink f.fc 0
  let base := l.1.pnOf (fcSeq f.fc)
  let g := l.2.rxGiveUp l.1 base 256
  let r := g.1.msgRxSegs g.2 clear (fcDst f.fc) f.segs
  let m := r.1.takeMsg r.2 128
  ((r.1.setRxLink m.1).oweSack f (r.2.sackBits base), m.2)

/-- A message that a frame brought is taken, when it is of a type. -/
def takenAs (mtype : Byte) (k : State → List Byte → State) : State × Option (Byte × List Byte) → State
  | (s, some (mt, c)) => if mt = mtype then k s c else s
  | (s, none) => s

/-- A management frame that brings a message of a type (R242, R245): the message, once whole, is taken with its
sender. -/
def State.mgmtFrame (s : State) (mtype : Byte) (dt : Nat) (f : MlFrame) (k : State → BitVec 7 → List Byte → State) : State :=
  s.rxFrame 2 dt f fun s =>
    if s.forMe f.fc then takenAs mtype (fun s c => k s (fcSrc f.fc) c) (s.mgmtTake (mtypeOpen mtype) f) else s

/-! ### Association and pairing (R246) -/

/-- A public key as eight ring words. -/
def qValue (ws : List DWord) : BitVec 512 := BitVec.ofNat 512 (ws.foldl (fun a w => a * 2 ^ 64 + w.toNat) 0)

/-- The bytes of a 512-bit value. -/
def qBytes (q : BitVec 512) : List Byte := wordsBytes (bigWords 16 q)

/-- The bytes of a unique ID. -/
def uidBytes (u : BitVec 96) : List Byte := wordsBytes (bigWords 3 u)

/-- This station's unique ID (R307). -/
def State.uid (s : State) : BitVec 96 := s.reg LG_UID0 ++ s.reg LG_UID1 ++ s.reg LG_UID2

/-- NID as two bytes. -/
def State.nidBytes (s : State) : List Byte := [(s.reg ML_CFG).extractLsb' 8 8, (s.reg ML_CFG).extractLsb' 0 8]

/-- The hash both sides sign (R246): Qm, Qh, UIDm, UIDh, NID and the id. -/
def State.assocHash (s : State) (qm qh : BitVec 512) (um uh : BitVec 96) (id : BitVec 7) : BitVec 256 :=
  Config.sha256 (qBytes qm ++ qBytes qh ++ uidBytes um ++ uidBytes uh ++ s.nidBytes ++ [0#1 ++ id])

/-- The hash of an attempt in which this station asked (it is the m side) or was asked; in a pairing the id is the
asking member's on both sides. -/
def State.pendHash (s : State) (p : MlPend) : BitVec 256 :=
  let mine := Config.ephemeral p.own
  let theirs := qValue p.a.q
  if p.asked then s.assocHash mine theirs s.uid p.a.uid (if p.pair then s.ml.myId else p.id)
  else s.assocHash theirs mine p.a.uid s.uid p.id

/-- The link key (R246): the first 16 bytes of SHA-256(Z, UIDh, UIDm, NID). -/
def State.linkKey (s : State) (p : MlPend) : BitVec 128 :=
  let z := Config.ecdh p.own (qValue p.a.q)
  let uids := if p.asked then uidBytes p.a.uid ++ uidBytes s.uid else uidBytes s.uid ++ uidBytes p.a.uid
  (Config.sha256 (wordsBytes (bigWords 8 z) ++ uids ++ s.nidBytes)).extractLsb' 128 128

/-- The message of association or pairing as its bytes give it (R245). -/
def assocOf (mtype : Byte) (src : BitVec 7) (c : List Byte) : MlAssoc :=
  let rsp := mtype == 0x02 || mtype == 0x09
  let b := if rsp then c.drop 1 else c
  let cert := if rsp then (b.drop 76).take (b.length - 140) else b.drop 76
  if mtype == 0x03 || mtype == 0x0A then { peer := src, sig := BitVec.ofNat 512 (bytesNat c 0 64) }
  else
    { peer := src, id := if rsp then (c.getD 0 0).setWidth 7 else 0, uid := BitVec.ofNat 96 (bytesNat b 0 12)
      q := bytesToWords ((b.drop 12).take 64), cert := bytesToWords cert, certBytes := BitVec.ofNat 16 cert.length
      sig := if rsp then BitVec.ofNat 512 (bytesNat b (b.length - 64) 64) else 0 }

/-- An attempt is abandoned: KEYFAIL and ASSOCFAIL (R246). -/
def State.assocFail (s : State) : State := (s.setFlag ML_FLAGS 4).countFld ML_CNT1 0 8 1

/-- An attempt leaves the list: an id the head had assigned is free again, and a member that was associating
searches. -/
def State.dropPend (s : State) (p : MlPend) : State :=
  s.modMl fun m =>
    { m with pend := m.pend.filter fun x => !(x.idx == p.idx && x.id == p.id && x.pair == p.pair)
             st := if !p.pair && p.asked && m.st == 2 then 1 else m.st
             members := if p.pair || p.asked || p.stage == 0 then m.members
               else m.members &&& ~~~ BitVec.ofNat 64 (2 ^ p.id.toNat) }

/-- An attempt changed. -/
def State.setPend (s : State) (p : MlPend) : State :=
  s.modMl fun m => { m with pend := m.pend.map fun x => if x.idx == p.idx && x.pair == p.pair then p else x }

/-- The lowest pending index no attempt uses. -/
def State.freeIdx (s : State) : Option (BitVec 3) :=
  ((List.range 8).map fun i => BitVec.ofNat 3 i).find? fun i => s.ml.pend.all fun p => p.idx != i

/-- The body of an item of type 0x50 (R246). -/
def admitBody (idx : BitVec 3) (mtype : Byte) (a : MlAssoc) : List DWord :=
  ((0#5 ++ idx) ++ mtype ++ a.certBytes ++ a.uid.extractLsb' 64 32) :: a.uid.extractLsb' 0 64 ::
    ((a.q ++ List.replicate 8 0).take 8 ++ a.cert)

/-- An attempt waits for ML_ADMIT, its item delivered to the program; with MGMTRING = 0 it is denied. -/
def State.askProgram (s : State) (mtype : Byte) (pair asked : Bool) (own : Nat) (id : BitVec 7) (a : MlAssoc) : State :=
  match s.freeIdx with
  | none => s
  | some i =>
    if s.mgmtRing.isNone then
      let s := s.assocFail
      if asked && !pair then s.modMl fun m => { m with st := 1 } else s
    else
      let p : MlPend := { idx := i, pair := pair, asked := asked, stage := 0, own := own, id := id, a := a, since := s.ticks }
      (s.modMl fun m => { m with pend := m.pend ++ [p] }).mgmtItem 0x50 a.peer (admitBody i mtype a)

/-- ASSOC_REQ (R246 steps 1 and 2): a head delivers the request to its program. -/
def execAssocReq (dt : Nat) (f : MlFrame) (s : State) : Out :=
  .next (s.mgmtFrame 0x01 dt f fun s src c =>
    let a := assocOf 0x01 src c
    if s.ml.st == 4 && s.ml.pend.all (fun p => p.pair || p.a.uid != a.uid) then
      let e := s.ml.ephemeral
      (s.modMl fun m => { m with ephemeral := e + 1 }).askProgram 0x01 false false e 0 a
    else s)

/-- ASSOC_RSP (R246 step 5): a member that is associating delivers its own item. -/
def execAssocRsp (dt : Nat) (f : MlFrame) (s : State) : Out :=
  .next (s.mgmtFrame 0x02 dt f fun s src c =>
    let a := assocOf 0x02 src c
    if src == 0 && s.ml.st == 2 && s.ml.pend.all (fun p => p.pair) then s.askProgram 0x02 false true s.ml.reqOwn a.id a else s)

/-- The lowest station id from 1 to 63 that is not in the member bitmap. -/
def State.freeId (s : State) : Option (BitVec 7) :=
  ((List.range 64).find? fun i => 1 ≤ i && !s.ml.members.getLsbD i).map fun i => BitVec.ofNat 7 i

/-- A signature of this device over an attempt's hash, and the state that has used it. -/
def State.mlSign (s : State) (p : MlPend) : List Byte × State :=
  (wordsBytes (bigWords 16 (Config.sign (s.pendHash p) s.freeCtr)), { s with freeCtr := s.freeCtr + 1 })

/-- A response of the side that was asked: id, UID, Q, certificate and signature (R245, R246). -/
def State.sendRsp (s : State) (p : MlPend) (mtype : Byte) : State :=
  let (sig, s) := s.mlSign p
  s.mlQueue p.a.peer mtype ([0#1 ++ p.id] ++ wordsBytes s.uidWords ++ ephemeralBytes p.own ++ certBytes ++ sig)

/-- A confirmation of the side that asked (R246). -/
def State.sendConf (s : State) (p : MlPend) (dst : BitVec 7) (mtype : Byte) : State :=
  let (sig, s) := s.mlSign p
  s.mlQueue dst mtype sig

/-- The link key of an attempt comes into force: its links number their segments from 0, and what was outstanding under
an older key is lost and counted. -/
def State.keyLink (s : State) (id : BitVec 7) (p : MlPend) : State :=
  let k := s.linkKey p
  let old := (s.ml.tx.filter (·.dst == id)).foldl (fun n x => n + x.out.length) 0
  ((s.modMl fun m => { m with tx := m.tx.filter (·.dst != id), rx := m.rx.filter fun x => !(x.src == id && !x.bc) }).countFld
    ML_CNT0 16 16 old).modPeer id fun x => { x with key := some k }

/-- The peer of an attempt is up; a head keeps it in its member bitmap, and a station that associates again leaves its
old id. Maps are asked for anew (R238). -/
def State.linkUp (s : State) (id : BitVec 7) (p : MlPend) : State :=
  let s := ((s.ml.peers.filter fun x => x.up && x.uid == p.a.uid && x.id != id).map (·.id)).foldl (fun s o => s.dropPeer o) s
  let s := if s.ml.st == 4 then s.modMl fun m => { m with members := m.members ||| BitVec.ofNat 64 (2 ^ id.toNat) } else s
  ((s.modPeer id fun x => { x with up := true, uid := p.a.uid, maps := [], own := [], signal := [], asked := 0 }).peerItem
    id true 0).askSounding id

/-- The peer's signature verifies with the Q received (R246). -/
def State.peerSigOk (s : State) (p : MlPend) (sig : BitVec 512) : Bool :=
  Config.ecdsaVerify (qValue p.a.q) (s.pendHash p) sig

/-- ACCEPT at the head or at the member that was asked: the response with its signature is sent (R246 step 4). -/
def State.acceptAsked (s : State) (p : MlPend) : State :=
  match if p.pair then some p.id else s.freeId with
  | none => (s.dropPend p).assocFail
  | some id =>
    let p := { p with id := id, stage := 1, since := s.ticks }
    let s := if p.pair then s else s.modMl fun m => { m with members := m.members ||| BitVec.ofNat 64 (2 ^ id.toNat) }
    (s.setPend p).sendRsp p (if p.pair then 0x09 else 0x02)

/-- ACCEPT at the side that asked: the signature received is verified, and the confirmation is sent (R246 steps
5 and 6). -/
def State.acceptAsker (s : State) (p : MlPend) : State :=
  if !s.peerSigOk p p.a.sig then ((s.dropPend p).assocFail).peerItem p.a.peer false 3
  else if p.pair then (((s.sendConf p p.id 0x0A).dropPend p).keyLink p.id p).linkUp p.id p
  else
    let s := ((s.keyLink 0 p).sendConf p 0 0x03).modMl fun m => { m with myId := p.id }
    s.setPend { p with stage := 2, since := s.ticks }

/-- A write of ML_ADMIT (R246). -/
def State.writeAdmit (s : State) (v : Word) : State :=
  match s.ml.pend.find? fun p => p.idx == v.extractLsb' 0 3 && p.stage == 0 with
  | none => s
  | some p =>
    if !bit v 4 then (s.dropPend p).assocFail
    else if p.asked then s.acceptAsker p
    else s.acceptAsked p

/-- ML_ADMIT_WRITE. -/
def execMlAdmitWrite (v : Word) (s : State) : Out := .next (s.writeAdmit v)

/-- A confirmation arrives at the side that was asked (R246 step 7). -/
def State.takeConf (s : State) (pair : Bool) (a : MlAssoc) : Option State :=
  match s.ml.pend.find? fun p => p.pair == pair && p.stage == 1 && !p.asked && p.id == a.peer with
  | none => none
  | some p =>
    if s.peerSigOk p a.sig then some (((s.dropPend p).keyLink p.id p).linkUp p.id p)
    else some (((s.dropPend p).assocFail).peerItem p.id false 3)

/-- The content of a KEY message: the group key and its epoch (R245). -/
def State.keyBytes (s : State) : List Byte := wordsBytes (bigWords 4 (s.ml.group.getD 0)) ++ [s.ml.epoch]

/-- ASSOC_CONF (R246 step 7): the head verifies the signature and sends KEY. -/
def execAssocConf (dt : Nat) (f : MlFrame) (s : State) : Out :=
  .next (s.mgmtFrame 0x03 dt f fun s src c =>
    if s.ml.st == 4 then
      match s.takeConf false (assocOf 0x03 src c) with
      | none => s
      | some s => if s.peerUp src then s.mlQueue src 0x07 s.keyBytes else s
    else s)

/-- KEY (R246): a member that has confirmed is up with the head; a later KEY changes the group key, the old one
being accepted for 2 cycles. -/
def execKey (dt : Nat) (f : MlFrame) (s : State) : Out :=
  .next (s.mgmtFrame 0x07 dt f fun s src c =>
    let group := BitVec.ofNat 128 (bytesNat c 0 16)
    let epoch := c.getD 16 0
    if s.mlRole == 1 && src == 0 then
      match s.ml.pend.find? fun p => p.stage == 2 && !p.pair with
      | some p => ((s.dropPend p).modMl fun m => { m with st := 3, group := some group, epoch := epoch }).linkUp 0 p
      | none =>
        if s.ml.st = 3 then
          s.modMl fun m => { m with group := some group, epoch := epoch, oldGroup := m.group, oldKeys := 2 }
        else s
    else s)

/-- PAIR_REQ (R246): another member asks; the program is asked in turn. -/
def execPairReq (dt : Nat) (f : MlFrame) (s : State) : Out :=
  .next (s.mgmtFrame 0x08 dt f fun s src c =>
    if s.mlUp && s.ml.pend.all (fun p => p.id != src) then
      let e := s.ml.ephemeral
      (s.modMl fun m => { m with ephemeral := e + 1 }).askProgram 0x08 true false e src (assocOf 0x08 src c)
    else s)

/-- PAIR_RSP (R246): the answer to this station's PAIR_REQ goes to the program. -/
def execPairRsp (dt : Nat) (f : MlFrame) (s : State) : Out :=
  .next (s.mgmtFrame 0x09 dt f fun s src c =>
    if s.mlUp then
      match s.ml.pend.find? fun p => p.pair && p.asked && p.stage == 1 && p.id == src with
      | none => s
      | some p => (s.dropPend p).askProgram 0x09 true true p.own p.id (assocOf 0x09 src c)
    else s)

/-- PAIR_CONF (R246). -/
def execPairConf (dt : Nat) (f : MlFrame) (s : State) : Out :=
  .next (s.mgmtFrame 0x0A dt f fun s src c => if s.mlUp then (s.takeConf true (assocOf 0x0A src c)).getD s else s)

/-- LEAVE (R245, R246): a peer leaves, reason 1; a head changes the group key, and a member whose head leaves
associates again. -/
def execLeave (dt : Nat) (f : MlFrame) (s : State) : Out :=
  .next (s.mgmtFrame 0x0B dt f fun s src _ =>
    if s.peerUp src then
      let s := (s.dropPeer src).peerItem src false 1
      if s.ml.st = 4 then s.rekey
      else if src = 0 ∧ s.ml.st = 3 then s.modMl fun m => { m with st := 1, myId := 0 }
      else s
    else s)

/-- ASSOCIATION_TIMEOUT (R246): no progress for 2 s in an attempt, or in a member's request that nothing has
answered. -/
def execAssociationTimeout (idx : BitVec 3) (s : State) : Out :=
  .next (match s.ml.pend.find? fun p => p.idx == idx with
    | none =>
      if s.ml.st = 2 ∧ s.ml.pend.all (·.pair) then
        ((s.advanceTo (s.ml.reqAt + usTicks 2000000)).modMl fun m => { m with st := 1 }).assocFail
      else s
    | some p => ((s.advanceTo (p.since + usTicks 2000000)).dropPend p).assocFail)

/-! ### Tone maps, sounding, allocation (R236 to R238, R242) -/

/-- SOUNDING (R236, R238): a peer's signal power in the region of the frame. -/
def execSounding (dt : Nat) (f : MlFrame) (s : State) : Out :=
  .next (s.rxFrame 4 dt f fun s => if s.mlUp && s.forMe f.fc then s.hearLevel f else s)

/-- TMAP_PERIOD_EXPIRY (R237, R238): TMPERIOD s have passed since the maps of a peer were sent; 0 is never. Regions still
without a map are asked for again. -/
def execTmapPeriodExpiry (src : BitVec 7) (s : State) : Out :=
  .next (match s.peer? src with
    | none => s
    | some p =>
      if s.mlUp && p.up && s.fld ML_TMCFG 16 8 != 0 then
        let s := s.advanceTo (p.mapTick + s.fld ML_TMCFG 16 8 * usTicks 1000000)
        ((s.modPeer src fun p => { p with asked := 0, mapTick := s.ticks }).sendMaps src).askSounding src
      else s)

/-- TMAP (R237): a map to use towards the peer, in place of its older version. -/
def execTmap (dt : Nat) (f : MlFrame) (s : State) : Out :=
  .next (s.mgmtFrame 0x04 dt f fun s src c =>
    let m := mapOfBytes c
    if s.mlUp && s.peerUp src then
      s.modPeer src fun p => { p with maps := m :: p.maps.filter (·.index != m.index), fallback := false }
    else s)

/-- SOUND_REQ (R238): a peer asks for sounding in regions. -/
def execSoundReq (dt : Nat) (f : MlFrame) (s : State) : Out :=
  .next (s.mgmtFrame 0x05 dt f fun s src c =>
    if s.mlUp && s.peerUp src then s.modPeer src fun p => { p with soundReq := p.soundReq ||| (c.getD 0 0).setWidth 6 } else s)

/-- ALLOC_REQ (R242): a peer asks the head for time. -/
def execAllocReq (dt : Nat) (f : MlFrame) (s : State) : Out :=
  .next (s.mgmtFrame 0x06 dt f fun s src c =>
    if s.mlUp && s.ml.st == 4 && s.peerUp src then s.modPeer src fun p => { p with demand := BitVec.ofNat 16 (bytesNat c 0 2) } else s)

end Sys2Proof.Machine
end

