-- ==== Sys2Proof/Machine/Power.lean ====
section
/-!
DEFINITION. Supplies, resets, start-up, power states, the housekeeping ADC and shedding (R296 to R306), with
the snapshot of R305, the image check of R317 and the resets of R252 and R318.
-/

namespace Sys2Proof.Machine

/-! ### Thread registers that the snapshot shares (R54, R305) -/

/-- The code of a thread state in THn_STATUS. -/
def ThState.code : ThState → Nat
  | .off => 0
  | .run => 1
  | .wait => 2
  | .refetch => 3
  | .halted => 4
  | .trapped => 5

/-- The code of a slot state in THn_TICKETS. -/
def SlotState.code : SlotState → Nat
  | .free => 0
  | .pending => 1
  | .active => 2
  | .done => 3

/-- THn_STATUS but for WAITON, as the snapshot keeps it. -/
def Thread.statusCore (x : Thread) : Word :=
  fieldW 20 3 x.haltsrc.toNat ||| flagW 19 x.z ||| flagW 18 x.n ||| flagW 17 x.c ||| flagW 16 x.v |||
    flagW 12 x.tactive ||| fieldW 8 4 x.rstack.length ||| fieldW 0 3 x.st.code

/-- THn_STATUS. -/
def Thread.status (x : Thread) : Word := x.statusCore ||| fieldW 4 4 x.waitOn.toNat

/-- THn_TICKETS. -/
def Thread.tickets (x : Thread) : Word :=
  (List.finRange 16).foldl (fun w k => w ||| fieldW (2 * k.val) 2 (x.slots[k]).st.code) 0

/-! ### Reset (R298) -/

/-- The registers of the VBAT island: they outlast every reset but POWERON (R298, R301). -/
def inVbat (a : Nat) : Bool := a == SYS_WAKECNT || a == SYS_RSTCAUSE || (decide (SYS_KEEP 0 ≤ a ∧ a < SYS_KEEP 8))

/-- The machine in reset (R298): everything at its reset value but the VBAT island and the nonvolatile store;
the queue and the model's own counters go on. -/
def State.cleared (s : State) : State :=
  { State.reset with
    pending := s.pending, freeCtr := s.freeCtr, nv := s.nv, regs := s.regs.filter fun e => inVbat e.1
    ml := { State.reset.ml with ephemeral := s.ml.ephemeral } }

/-- A reset with a cause (R298); reset is held until RESET_RELEASE. -/
def State.doReset (s : State) (cause : Nat) : State := s.cleared.setReg SYS_RSTCAUSE (fieldW 0 4 cause)

/-- POWERON: VBAT is applied; the VBAT island starts at its reset values too. -/
def execPoweron (s : State) : Out := .next (({ s with regs := [] }).doReset 1)

/-- RESETN: low for at least 1 µs. -/
def execResetn (s : State) : Out := .next (s.doReset 2)

/-- BROWNOUT (R296). -/
def execBrownout (s : State) : Out := .next (s.doReset 3)

/-- A write of SYS_RST: KEY 0xA5 resets (R298). -/
def State.writeRst (s : State) (v : Word) : State := if bits v 0 8 = 0xA5 then s.doReset 5 else s

/-- SOFTWARE_RESET. -/
def execSoftwareReset (v : Word) (s : State) : Out := .next (s.writeRst v)

/-- Run or Idle: the device's rails and register bus are powered (R301, R350). -/
def State.powered (s : State) : Bool := s.power.st == .run || s.power.st == .idle

/-- DEBUG_RESET (R318): at debug level 0. -/
def execDebugReset (s : State) : Out := .next (if s.debugLevel = 0 then s.doReset 10 else s)

/-- DEBUG_HALT (R22, R318): at debug level 0, HALTSRC 6. -/
def execDebugHalt (t : Tid) (s : State) : Out := .next (if s.debugLevel = 0 then s.haltTh t 6 else s)

/-- REFLOSS (R252): the reference stops; carriers and fields go, and the device resets with cause REFLOSS. -/
def execRefloss (s : State) : Out := .next (if s.clk.refSrc != 0 then s.doReset 4 else s)

/-! ### Start-up (R299, R300) -/

/-- RESET_RELEASE (R297, R299): BOOT1:BOOT0 are sampled and the reference search begins. -/
def execResetRelease (boot : BitVec 2) (s : State) : Out :=
  .next (if s.power.st == .starting && !s.power.released then { s with power.released := true, power.boot := boot } else s)

/-- An item of the nonvolatile store found faulty at start-up (R320, R327). -/
def State.storeBad (s : State) (item : Nat) : State :=
  { s with faults.badStore := s.faults.badStore ||| BitVec.ofNat 5 (2 ^ item) }.fault 15 item 0

/-- A list without the entries at given places. -/
def dropAt {α : Type} (bad : List Nat) (l : List α) : List α := (l.zipIdx.filter fun e => decide (e.2 ∉ bad)).map (·.1)

/-- The loads from the nonvolatile store (R122, R260, R281, R315): an item whose check fails is not used and is
reported. -/
def State.loadStore (s : State) (bad : StoreFaults) : State :=
  let anySet := bad.sets.any fun k => decide (k < s.nv.sets.length)
  let nv := { s.nv with
    sets := dropAt bad.sets s.nv.sets
    bands := if bad.bands then [] else s.nv.bands
    profile := if bad.bank then s.nv.older else s.nv.profile
    snapHeld := s.nv.snapHeld && !bad.snap }
  let badSnap := bad.snap && s.nv.snapHeld
  let s := { s with nv := nv, profile := nv.profile, power.snapValid := nv.snapHeld }.loadCal.loadAtlas
  let badAtlas := s.profile.held.getLsbD 1 && (bad.atlas || !s.atlasOk)
  let s := { s with atlasOk := s.atlasOk && !bad.atlas }
  let s := if badAtlas then s.storeBad 0 else s
  let s := if anySet || bad.bands then s.storeBad 1 else s
  let s := if bad.bank then s.storeBad 2 else s
  if badSnap then s.storeBad 3 else s

/-- MINVER of the image policy (R311). -/
def State.minVer (s : State) : Nat := (s.profile.policy.getD 1 0).toNat

/-- Image key `k` of the policy: enabled, and the key (R311). -/
def State.imageKey (s : State) (k : Nat) : Bool × BitVec 512 :=
  let e := (s.profile.policy.drop (2 + 17 * k)).take 17
  (bits (e.headD 0) 24 8 != 0 && decide (k < 2), BitVec.ofNat 512 (wordsNat (e.drop 1)))

/-- The check of an image under the policy in force (R317), whose signature holds when `sigOk`. -/
def State.imageOk (s : State) (version key : Nat) (sigOk : Bool) : Bool :=
  !s.imgReq || ((s.imageKey key).1 && decide (s.minVer ≤ version) && sigOk)

/-- The code length that the IMAGE_SIG of a host load gives, in bytes. -/
def hdrLength (hdr : List Word) : Nat := (hdr.getD 1 0).toNat

/-- The first `n` bytes of the program store. -/
def State.storeBytes (s : State) (n : Nat) : List Byte := (List.range n).map fun a => Memory.byte s.pstore a

/-- A signature r and s verifies over the header and the code with image key `k` (R317). -/
def State.imageSigOk (s : State) (k : Nat) (signed : List Byte) (sig : List Word) : Bool :=
  Config.ecdsaVerify (s.imageKey k).2 (Config.sha256 signed) (BitVec.ofNat 512 (wordsNat sig))

/-- The check of a host load (R317): under IMGREQ its IMAGE_SIG must be there and verify over the header and the
program store. -/
def State.hostImageOk (s : State) : Bool :=
  match s.saffron.imageHdr with
  | none => !s.imgReq
  | some h =>
    let n := min 0x40000 (hdrLength h)
    let key := (h.getD 3 0).toNat
    s.imageOk (h.getD 2 0).toNat key (s.imageSigOk key (wordsBytes (h.take 8) ++ s.storeBytes n) (h.drop 8))

/-- T0 enters Run at 0x1000_0000 when it is Off (R22, R25). -/
def State.startT0 (s : State) : State :=
  let s := { s with power.booting := false }
  if (s.th 0).st = .off then s.modTh 0 fun x => { x with st := .run, pc := 0x10000000 } else s

/-- An image that fails its check leaves T0 Off (R300). -/
def State.bootFail (s : State) (host : Bool) : State :=
  let s := { s with power.booting := false, power.bootErr := true }
  if host then { s with hsp.loadErr := true } else s

/-- MS_REGION0 after an XIP boot with slot 0 enabled for XIP (R317). -/
def State.xipBootRegion (s : State) : State :=
  match s.xipKey 0 with
  | some k => if k.bootSize = 0 then s else s.setReg (MS_REGION 0) (0xC0000000 ||| fieldW 0 12 (k.bootSize.toNat - 1))
  | none => s

/-- The words of the XIP window from offset 0 as they read: decrypted where a region says so (R223). -/
def State.xipPlain (s : State) (image : List Word) : List Word :=
  (List.range (image.length / 8)).flatMap fun i => (s.decryptLine i ((image.drop (8 * i)).take 8)).1

/-- The code of an image (R317), which stands behind its 32-byte header. -/
def imageCode (image : List Word) : List Word := (image.drop 8).take (hdrLength image / 4)

/-- An image of the nonvolatile store or of the XIP window is present and no longer than R317 allows. -/
def imageFits (boot : BitVec 2) (image : List Word) : Bool :=
  let n := hdrLength image
  image.headD 0 == 0x50583234 && decide (n % 32 = 0 ∧ n ≤ (if boot = 1 then 262144 else 65536) ∧ 8 + n / 4 ≤ image.length)

/-- The check of an image with its header, code and signature (R317). -/
def State.storedOk (s : State) (image : List Word) : Bool :=
  let key := (image.getD 3 0).toNat
  let k := 8 + hdrLength image / 4
  s.imageOk (image.getD 2 0).toNat key (s.imageSigOk key (wordsBytes (image.take k)) ((image.drop k).take 16))

/-- The digests of the 4 KiB pages of a nonvolatile image, the last page filled with zeros (R317). -/
def pageDigests (code : List Word) : List (BitVec 256) :=
  (List.range ((code.length + 1023) / 1024)).map fun i => Config.sha256 (wordsBytes (fill 1024 0 (code.drop (1024 * i))))

/-- A host load ends (R300, R317): checked, the words at and beyond the code length cleared, and T0 started. -/
def State.bootHost (s : State) : State :=
  let s := { s with image.source := 2 }
  if !s.hostImageOk then s.bootFail true
  else
    match s.saffron.imageHdr with
    | none => s.startT0
    | some h => { s with pstore := s.pstore.filter fun c => decide (c.1 < hdrLength h) }.startT0

/-- BOOT_IMAGE_READY (R299, R300, R317): the selected image is loaded and checked; in mode 0b11 a nonvolatile image
that is absent or fails falls back to a host load. -/
def execBootImageReady (image : List Word) (s : State) : Out :=
  .next (if !s.power.booting || s.hsp.loading then s
  else if s.power.boot = 0 ∨ s.image.source = 2 then s.bootHost
  else
    let s := if s.power.boot = 1 then s.xipBootRegion else s
    let image := if s.power.boot = 1 then s.xipPlain image else image
    if imageFits s.power.boot image && s.storedOk image then
      { s with pstore := Memory.setWords [] 0 (imageCode image)
               image := if s.power.boot = 1 then { source := 1 } else { source := 0, pages := pageDigests (imageCode image) } }.startT0
    else if s.power.boot = 3 then { s with hsp.loading := true, image.source := 2 }
    else s.bootFail false)

/-! ### Power states (R301) -/

/-- The registers that Watch keeps beside the VBAT island (R155). -/
def inWatch (a : Nat) : Bool :=
  a == HC_WATCHCFG || hpAll.any fun p => a == HP_WATCH p || a == HP_WATCH2 p || a == HP_WBASE p

/-- A state without power outside the VBAT island is entered; Watch keeps the card-watch registers, and its first
scan sets the baselines unless KEEPBASE = 1; one that was to be set by the next scan still is (R152, R155, R301). -/
def State.powerDown (s : State) (p : PState) : State :=
  let keep := s.regs.filter fun e => inVbat e.1 || (p == .watch && inWatch e.1)
  let base := p == .watch && s.fld HC_WATCHCFG 1 1 == 0
  let c := s.cleared
  { c with regs := keep, power.st := p
           hports := if p == .watch then s.hports.map fun x => ({ needBase := base || x.needBase } : HPort) else c.hports }

/-- A write of SYS_PWRCTL (R301): REQ 0 returns to Run from Idle; another waits until no operation is Active;
2 to 4 are ignored while ACOK is low; 5 to 7 act as 0. -/
def State.writePwrCtl (s : State) (v : Word) : State :=
  let ask := fun (s : State) (p : PState) => { s.writeFields SYS_PWRCTL v with power.req := some p }
  match bits v 0 3 with
  | 1 => if s.power.st == .idle then s.writeFields SYS_PWRCTL v else ask s .idle
  | 2 => if s.power.acok then ask s .watch else s
  | 3 => if s.power.acok then ask s .hibernate else s
  | 4 => if s.power.acok then ask s .hibernateClocked else s
  | _ =>
    { s.writeFields SYS_PWRCTL v with
      power.req := none, power.st := if s.power.st == .idle then .run else s.power.st }

/-- POWER_REQ_RUN: SYS_PWRCTL.REQ = 0. -/
def execPowerReqRun (s : State) : Out := .next (s.writePwrCtl 0)

/-- POWER_REQ_IDLE: SYS_PWRCTL.REQ = 1. -/
def execPowerReqIdle (s : State) : Out := .next (s.writePwrCtl 1)

/-- POWER_REQ_WATCH: SYS_PWRCTL.REQ = 2. -/
def execPowerReqWatch (s : State) : Out := .next (s.writePwrCtl 2)

/-- POWER_REQ_HIBERNATE: SYS_PWRCTL.REQ = 3. -/
def execPowerReqHibernate (s : State) : Out := .next (s.writePwrCtl 3)

/-- POWER_REQ_HIBERNATE_CLOCKED: SYS_PWRCTL.REQ = 4. -/
def execPowerReqHibernateClocked (s : State) : Out := .next (s.writePwrCtl 4)

/-- POWER_STATE_ENTRY (R301): once no operation is Active, carriers in holdover and fields left on are removed,
and the state changes. -/
def execPowerStateEntry (s : State) : Out :=
  .next (match s.power.req with
    | none => s
    | some p =>
      if s.ops.any (·.active) then s
      else
        let s := s.uhfRemoveAll.hfRemoveAll
        if p = .idle then { s with power.req := none, power.st := .idle } else s.powerDown p)

/-- A state that WAKE and ACOK end. -/
def State.asleep (s : State) : Bool :=
  s.power.st == .watch || s.power.st == .hibernate || s.power.st == .hibernateClocked

/-- WAKE (R298, R301). -/
def execWake (s : State) : Out := .next (if s.asleep then s.doReset 6 else s)

/-- ACOK_WAKE (R298, R301). -/
def execAcokWake (s : State) : Out := .next (if s.asleep then s.doReset 7 else s)

/-- WAKE_COUNTER_EXPIRY (R298, R301). -/
def execWakeCounterExpiry (s : State) : Out :=
  .next (if s.power.st == .hibernateClocked then s.doReset 8 else s)

/-- The ports of a Watch scan one after another: the first change, with its port. -/
def State.watchPorts (s : State) : List (HPortNo × WatchSample) → State × Option (HPortNo × Nat)
  | [] => (s, none)
  | (p, x) :: rest =>
    let (s, m) := s.watchPort p x
    let (s, r) := s.watchPorts rest
    (s, match m with
      | some m => some (p, m)
      | none => r)

/-- WATCH_STATE_SCAN (R155): a scan in Watch; a change wakes the device with cause WATCH and stands in
HC_WAKESRC. -/
def execWatchStateScan (xs : List WatchSample) (s : State) : Out :=
  .next (if s.power.st == .watch && scanHolds (hpAll.filter fun p => (s.fld HC_WATCHCFG 8 8).testBit p.val) xs then
    let n := s.power.watchScans + 1
    let (s, r) := { s with power.watchScans := n }.watchPorts
      (scanOrder (hpAll.filter fun p => (s.fld HC_WATCHCFG 8 8).testBit p.val) xs)
    match r with
    | none => s
    | some (p, m) =>
      (s.doReset 9).setReg HC_WAKESRC (fieldW 29 3 p.val ||| flagW 28 true ||| fieldW 16 12 (min n 0xFFF) ||| fieldW 0 16 (min m 0xFFFF))
  else s)

/-! ### Housekeeping ADC (R277, R302) -/

/-- A block's die temperature crosses 110 °C or falls below 105 °C: the notice of class 17 (R320, R327). -/
def State.thermal (s : State) (c : Nat) : State :=
  let t := s.meanTemp c
  let hot := s.faults.hot.getLsbD c
  if !hot && decide (1760 ≤ t) then { s with faults.hot := s.faults.hot ||| BitVec.ofNat 4 (2 ^ c) }.fault 17 c 1
  else if hot && decide (t < 1680) then { s with faults.hot := s.faults.hot &&& ~~~ BitVec.ofNat 4 (2 ^ c) }.fault 17 c 0
  else s

/-- HK_ADC_SEQUENCE (R302): the results of the 16 channels, the sensors' also in CAL_TEMPk; a trigger held starts
the next sequence. -/
def execHkAdcSequence (xs : List (BitVec 16)) (s : State) : Out :=
  .next (if s.powered && xs.length == 16 then
    let s := (List.range 16).foldl (fun s k =>
      let w : Word := (xs.getD k 0).setWidth 32
      let s := s.setReg (SYS_HK k) w
      if k < 8 then s.setReg (CAL_TEMP k) w else s) s
    let s := s.setFld HC_VHF 0 16 (xs.getD 13 0).toNat
    let s := { s with power.hkBusy := s.power.hkHeld, power.hkHeld := false }
    (List.range 4).foldl (fun s c => s.thermal c) s
  else s)

/-! ### Snapshot (R305) -/

/-- The state block of a thread and its local memory. -/
def Thread.snapWords (x : Thread) : List Word :=
  let block := [x.statusCore, x.pc] ++ ((List.range 15).map fun i => x.rg (BitVec.ofNat 4 (i + 1))) ++
    (x.rstack.reverse ++ List.replicate 8 0).take 8 ++ [x.tickets] ++
    (x.slots.toList.map fun k => if k.st = .done then k.word else 0) ++ [x.event, x.tvec, flagW 0 x.tven]
  (block ++ List.replicate 64 0).take 64 ++ (List.range 512).map fun k => Memory.word x.mem (4 * k)

/-- The tags of up to eight ring words, four bits each from [31:28] down: V, P, S and E (R209). -/
def tagWord (ws : List RWord) : Word :=
  (List.range 8).foldl (fun w i =>
    match ws[i]? with
    | some x => w ||| fieldW (28 - 4 * i) 4 ((if x.v then 8 else 0) + (if x.p then 4 else 0) + (if x.s then 2 else 0) + (if x.e then 1 else 0))
    | none => w) 0

/-- A ring word as two words, [63:32] first. -/
def ringHalves (w : RWord) : List Word := [w.data.extractLsb' 32 32, w.data.extractLsb' 0 32]

/-- Ring words in groups of eight, each after its tag word (R209, R305). -/
def ringBlocks : Nat → List RWord → List Word
  | 0, _ => []
  | _, [] => []
  | k + 1, w :: ws =>
    let g := (w :: ws).take 8
    (tagWord g :: g.flatMap ringHalves) ++ ringBlocks k ((w :: ws).drop 8)

/-- The rings in the order of the snapshot: E0 to E15, then I0 to I15, as far as enabled. -/
def State.snapRings (s : State) : List RingNo := (ringAll.drop 16 ++ ringAll.take 16).filter fun n => s.ringOn n

/-- How many words of ring `n` the snapshot saves: what is left of 6,704 after the rings before it. -/
def State.snapSaved (s : State) (n : RingNo) : Nat :=
  let before := ((s.snapRings.takeWhile fun m => m != n).map fun m => (s.ring m).words.length).foldl (· + ·) 0
  min (s.ring n).words.length (6704 - before)

/-- The configuration entry of a ring. -/
def State.snapRing (s : State) (n : RingNo) : List Word :=
  let k := (s.ring n).words.length
  [s.reg (RG_CFG n), flagW 31 (s.ringOn n && decide (s.snapSaved n < k)) ||| fieldW 0 13 k]

/-- The snapshot of R305 after its header. -/
def State.snapBody (s : State) : List Word :=
  (s.threads.toList.flatMap Thread.snapWords) ++ (ringAll.flatMap fun n => s.snapRing n) ++
    ringBlocks 838 (s.snapRings.flatMap fun n => ((s.ring n).words.take (s.snapSaved n)))

/-- The bytes of words as a canonical memory. -/
def wordsMem (ws : List Word) : Mem :=
  ((wordsBytes ws).zipIdx.filter fun e => e.1 != 0).map fun e => (e.2, e.1)

/-- The snapshot is written (R305): its header holds TB, the level and the cause, and a CRC-32 over the whole; the
places within the header are the model's choice. -/
def State.writeSnapshot (s : State) (cause : Nat) : State :=
  let head := bigWords 2 s.tb ++ [BitVec.ofNat 32 5, BitVec.ofNat 32 cause]
  let rest := List.replicate 11 0 ++ s.snapBody
  { s with nv.snap := wordsMem (head ++ [crc32 (head ++ [0] ++ rest)] ++ rest), nv.snapHeld := true }

/-- A write of SYS_SNAP (R305): DISCARD invalidates the snapshot. -/
def State.writeSnap (s : State) (v : Word) : State :=
  if bit v 0 then { s with nv.snapHeld := false, power.snapValid := false } else s

/-- DISCARD: a write of SYS_SNAP.DISCARD. -/
def execDiscard (v : Word) (s : State) : Out := .next (s.writeSnap (v ||| 1))

/-! ### Shedding (R296, R303 to R306) -/

/-- The level a rail below its warn threshold forces (R296). -/
def railLevel (r : Nat) : Nat :=
  match r with
  | 0 => 5
  | 1 => 3
  | 2 => 3
  | 3 => 5
  | 4 => 5
  | 5 => 2
  | _ => 0

/-- The highest level forced by rail warnings. -/
def State.forced (s : State) : Nat :=
  (List.range 7).foldl (fun m r => if s.power.rails.getLsbD r then max m (railLevel r) else m) 0

/-- The Active operations that satisfy a test end SHED. -/
def State.shedOps (s : State) (p : Op → Bool) : State := s.killAll p 0x0A

/-- Level 1: every UPAn deasserted, and every driver capped at +6 dBm with CLAMPED (R81, R304). -/
def State.capDrivers (s : State) : State :=
  upAll.foldl (fun s p =>
    let x := s.up p
    let s := if x.carrier.isSome && x.pa then s.setFlag (UP_FLAGS p) 1 else s
    (s.modUp p fun x => { x with pa := false, capped := x.carrier.isSome }).relevel p) s

/-- A thread halted by shedding level 5, to be restarted when it ends (R304, R306). -/
def Thread.shed (x : Thread) : Thread :=
  match x.st with
  | .run | .wait | .refetch => { x.halt 4 with shedHalt := true }
  | _ => x

/-- Unacknowledged segments are lost and counted (R249). -/
def State.dropSegments (s : State) : State :=
  let n := s.ml.tx.foldl (fun n x => n + x.out.length) 0
  (s.modMl fun m => { m with tx := m.tx.map fun x => { x with out := [] }, onAir := none }).countFld ML_CNT0 16 16 n

/-- The actions of one level on entry (R304). -/
def State.enterLevel (s : State) (k : Nat) : State :=
  let s := { s with power.level := k, power.levelAt := s.ticks }
  match k with
  | 1 => s.capDrivers
  | 2 => (s.hfRemoveAll).shedOps fun op => op.onH
  | 3 => (s.uhfRemoveAll).shedOps fun op => op.cls == 0 || op.cls == 2 || op.cls == 3 || (op.isCal && op.calCode ≤ 5)
  | 4 => s.shedOps fun op => op.isCal && op.calCode == 8
  | 5 =>
    let s := (s.setFld AIR_CTRL 0 1 1).forThreads fun s t => s.modTh t Thread.shed
    (((s.shedOps fun _ => true).abandonCommit).dropSegments).writeSnapshot (if s.power.schedOn then 7 else 0)
  | 6 => s.powerDown .hibernate
  | _ => s

/-- The level rises to `k`, through every level between (R304). -/
def State.raiseTo (s : State) (k : Nat) : State :=
  (List.range k).foldl (fun s j => if s.power.level = j then s.enterLevel (j + 1) else s) s

/-- READY (R300): once the system clocks run, the stores are loaded and frames are accepted; LOADING is set for a
host load, MS_CFG.EN for an XIP boot (R299). A level that a rail or the lost ACOK forces is entered now (R304). -/
def execReady (bad : StoreFaults) (s : State) : Out :=
  .next (if s.power.st == .starting && s.power.released && s.clk.refSrc != 0 && s.clk.mpllLock then
    let s := s.loadStore bad
    let s := { s with power.st := .run, power.booting := true, hsp.ready := true, hsp.loading := s.power.boot == 0 }
    let s := if s.power.boot = 1 then s.setFlag MS_CFG 0 else s
    s.raiseTo (max s.forced (if s.power.schedOn then s.power.schedule else 0))
  else s)

/-- The monitors of the rails and of ACOK act: the device is powered, or starts up. -/
def State.monitored (s : State) : Bool := s.powered || s.power.st == .starting

/-- RAIL_WARNING (R296, R304): below its warn threshold a rail forces its level, VBAT only VBATLOW; a rail that
recovers releases it. Before READY the level is not entered yet. -/
def execRailWarning (rail : Fin 7) (below : Bool) (s : State) : Out :=
  .next (if s.monitored then
    let m : BitVec 7 := BitVec.ofNat 7 (2 ^ rail.val)
    if below && !s.power.rails.getLsbD rail.val then
      let s := { s with power.rails := s.power.rails ||| m, power.vbatLow := s.power.vbatLow || rail.val == 6 }.fault 16 rail.val 0
      if s.powered then s.raiseTo s.forced else s
    else if !below then
      { s with power.rails := s.power.rails &&& ~~~ m, power.vbatLow := s.power.vbatLow && rail.val != 6 }
    else s
  else s)

/-- ACOK_LOSS_CONFIRMED (R303): the schedule starts, at level 1. Before READY the level is not entered yet. -/
def execAcokLossConfirmed (s : State) : Out :=
  .next (if s.monitored && !s.power.schedOn then
    let s := { s with power.acok := false, power.schedOn := true, power.schedule := 1, power.lossAt := s.ticks }.fault 16 7 0
    if s.powered then s.raiseTo 1 else s
  else s)

/-- ACOK_RESTORE_CONFIRMED (R303): the schedule stops. -/
def execAcokRestoreConfirmed (s : State) : Out :=
  .next (if s.monitored then { s with power.acok := true, power.schedOn := false } else s)

/-- The entry time of a level after the confirmation, in 0.5 ms units: at least the previous level's (SYS_SHEDTIME). -/
def State.shedTime (s : State) (k : Nat) : Nat :=
  ((List.range (k - 1)).map fun i => s.fld SYS_SHEDTIME (6 * i) 6).foldl max 0

/-- SHED_LEVEL_ENTRY (R303, R304): the schedule reaches its next level, at the time of SYS_SHEDTIME. -/
def execShedLevelEntry (s : State) : Out :=
  .next (if s.powered && s.power.schedOn && decide (s.power.schedule < 6) then
    let k := s.power.schedule + 1
    let s := s.advanceTo (s.power.lossAt + usTicks (500 * s.shedTime k))
    { s with power.schedule := k }.raiseTo k
  else s)

/-- Leaving level 5 (R306): HOLD is cleared, and the threads it halted go on at their PC. -/
def State.leaveFive (s : State) : State :=
  (s.setFld AIR_CTRL 0 1 0).forThreads fun s t =>
    if (s.th t).shedHalt ∧ (s.th t).st = .halted then s.startTh t else s

/-- SHED_RESTORE (R306): with ACOK high and no rail forcing the level, it falls by one once it has held for 50 ms. -/
def execShedRestore (s : State) : Out :=
  .next (if s.powered && s.power.acok && decide (0 < s.power.level) && decide (s.forced < s.power.level) then
    let k := s.power.level
    let s := s.advanceTo (s.power.levelAt + usTicks 50000)
    let s := { s with power.level := k - 1, power.levelAt := s.ticks, power.schedule := min s.power.schedule (k - 1) }
    if k = 5 then s.leaveFive else s
  else s)

/-! ### Registers -/

/-- SYS_STATUS as it reads. -/
def State.sysStatus (s : State) : Word :=
  flagW 7 s.power.snapValid ||| flagW 6 s.power.bootErr ||| flagW 5 s.power.vbatLow ||| flagW 4 s.power.req.isSome |||
    flagW 3 s.power.acok ||| fieldW 0 3 (if s.power.st == .idle then 1 else 0)

/-- SYS_SHED as it reads. -/
def State.sysShed (s : State) : Word := fieldW 8 3 s.forced ||| fieldW 0 3 s.power.level

end Sys2Proof.Machine
end

