-- ==== Sys2Proof/Machine/Residue.lean ====
section
/-!
DEFINITION. Program-store refetch (R323), the residue checks of the DSP array (R324), and the pad checks
(R325).
-/

namespace Sys2Proof.Machine

/-! ### Program-store refetch (R323) -/

/-- The words of a program-store line written. -/
def State.writeLine (s : State) (line : Nat) (data : List Word) : State :=
  { s with pstore := Memory.setWords s.pstore (32 * line) (data.take 8) }

/-- The threads in Refetch for a line go back to Run, and execute afresh (R22, R30). -/
def State.wakeRefetch (s : State) (line : Nat) : State :=
  s.forThreads fun s t =>
    s.modTh t fun x =>
      if x.st = .refetch ∧ x.refLine = some line then { x with st := .run, refLine := none } else x

/-- A line is rewritten and good: it no longer waits for a refetch, and its threads go on. -/
def State.lineGood (s : State) (line : Nat) (data : List Word) : State :=
  let s := s.writeLine line data
  let s := { s with image.bad := s.image.bad.filter (· != line), hsp.refetch := s.hsp.refetch.filter (· != line) }
  s.wakeRefetch line

/-- A line has been rewritten and is checked again (R323): when it fails, one of 8 spare lines takes its place,
with detail 1; with no spare left, detail 2 is recorded and its threads stay in Refetch until reset. -/
def State.rewriteLine (s : State) (line : Nat) (data : List Word) (failed : Bool) : State :=
  if !failed then s.lineGood line data
  else if s.image.spares < 8 then
    ({ s with image.spares := s.image.spares + 1 }.fault 5 s.imageSource 1).lineGood line data
  else
    { s with image.dead := line :: s.image.dead
             hsp.refetch := s.hsp.refetch.filter (· != line) }.fault 5 s.imageSource 2

/-- A line that waits for its image source: found faulty, and not without a spare. -/
def State.lineWaits (s : State) (line : Nat) : Bool := decide (line ∈ s.image.bad ∧ line ∉ s.image.dead)

/-- A line as its image source gives it (R323): from the 4 KiB page of the nonvolatile image, when its digest is the one
of R317, or from an XIP line, decrypted, behind the image's header. -/
def State.refetched (s : State) (line : Nat) (data : List Word) : Option (List Word) :=
  if s.image.source = 1 then some (s.decryptLine (line + 1) data).1
  else if s.image.source = 0 ∧ s.image.pages[line / 128]? = some (Config.sha256 (wordsBytes data)) then
    some (fill 8 0 (data.drop (8 * (line % 128))))
  else none

/-- REFETCH_LINE_REWRITTEN (R323): the line arrived from the nonvolatile or XIP image; a line of a host load
arrives by LOAD_REPAIR. -/
def execRefetchLineRewritten (line : BitVec 13) (data : List Word) (failed : Bool) (s : State) : Out :=
  .next (match s.refetched line.toNat data with
    | some ws => if s.lineWaits line.toNat then s.rewriteLine line.toNat ws failed else s
    | none => s)

/-! ### Residue checks (R324) -/

/-- The stream of a receive front end restarts: a reply or a chirp reception on the port spans the gap. -/
def State.gapPort (s : State) (p : UPortNo) : State :=
  { s with
    ops := s.ops.map fun (op : Op) => if op.active && op.reply && decide (p ∈ op.uports) then { op with gap := true } else op
    decoders := s.decoders.map fun (r : Option Recep) => r.map fun x => if x.port = p then { x with gap := true } else x }

/-- The RN16 of an interrogation on an LO is taken as failed. -/
def State.gapRn (s : State) (n : Nat) : State :=
  { s with ops := s.ops.map fun (op : Op) =>
      if op.active && op.reply && op.rnWanted && decide (op.lo.val = n) then { op with gap := true } else op }

/-- The K.CAL runs in their measurement end REJECT (R274). -/
def State.rejectCals (s : State) : State :=
  let measuring := fun (op : Op) => match op.eng with
    | .cal c => c.stage == .measuring
    | _ => false
  ((s.ops.filter measuring).map (·.id)).foldl (fun s o => (s.countFld CAL_CNT 16 16 1).endOp o 0x0D) s

/-- RESIDUE_MISMATCH (R324): the recomputation of a block of a function takes a reserve slice, or waits for
one; the fault is noted at its detection, and recorded with its detail when the recomputation is done. -/
def execResidueMismatch (source : Fin 32) (s : State) : Out :=
  .next (
    let s := { s with faults.residues := s.faults.residues ++ [(source, s.tbLo)] }.noteFault 9
    if h : source.val < 16 then s.gapPort ⟨source.val, h⟩
    else if 24 ≤ source.val ∧ source.val < 28 then s.gapRn (source.val - 24)
    else if source.val = 31 then s.rejectCals
    else s)

/-- A list without its first entry that satisfies a test. -/
def eraseFirst {α : Type} (p : α → Bool) : List α → List α
  | [] => []
  | x :: r => if p x then r else x :: eraseFirst p r

/-- RECOMPUTATION_DONE (R324, R327): one of the four reserve slices is done; detail 1, or 2 when it
mismatched again. -/
def execRecomputationDone (source : Fin 32) (again : Bool) (s : State) : Out :=
  .next (match (s.faults.residues.take 4).find? (fun x => x.1 == source) with
    | none => s
    | some x =>
      { s with faults.residues := eraseFirst (fun y => y.1 == source) s.faults.residues }.logFault 9 source.val
        (if again then 2 else 1) x.2)

/-! ### Pads (R325) -/

/-- The SOURCE numbers of the pads that are compared. -/
def padOk (p : BitVec 6) : Bool := decide (p.toNat ≤ 11 ∨ (16 ≤ p.toNat ∧ p.toNat ≤ 31) ∨ p.toNat = 36)

/-- IOPAD (R325): a pad disagrees with its input on 8 consecutive comparisons, or agrees again. -/
def execIopad (source : BitVec 6) (persists : Bool) (s : State) : Out :=
  .next (if !padOk source then s
  else
    let rest := s.faults.iopads.filter (· != source)
    if persists then { s with faults.iopads := source :: rest }.fault 13 source.toNat 0
    else { s with faults.iopads := rest })

end Sys2Proof.Machine
end

