-- ==== Sys2Proof/Machine/Bus.lean ====
section
/-!
DEFINITION. The register bus (R4, R17, R45, R348 to R353, R357): what a read of any register returns, and
what a write does, whoever makes the access.
-/

namespace Sys2Proof.Machine

/-! ### Addresses -/

/-- The end of the register space (R17). -/
def regSpace : Nat := 0x130000

/-- The UHF port and the offset in its block, for an address in UA or UB; none for the cluster page and the
spare's block (R18, R351). -/
def upOf (a : Nat) : Option (UPortNo × Nat) :=
  let page := a / 0x1000 % 16
  if h : 1 ≤ page ∧ page ≤ 8 then
    if a / 0x10000 = 2 then some (⟨page - 1, by omega⟩, a % 0x1000)
    else if a / 0x10000 = 3 then some (⟨page + 7, by omega⟩, a % 0x1000)
    else none
  else none

/-- The HF port and the offset in its block, for an address in HC. -/
def hpOf (a : Nat) : Option (HPortNo × Nat) :=
  let page := a / 0x1000 % 16
  if h : 1 ≤ page ∧ page ≤ 8 then
    if a / 0x10000 = 4 then some (⟨page - 1, by omega⟩, a % 0x1000) else none
  else none

/-- The index of an instance: `n` of them from `base`, `stride` apart. -/
def instOf (n base stride a : Nat) : Option (Fin n) :=
  if h : (a - base) / stride < n then
    if base ≤ a ∧ (a - base) % stride = 0 then some ⟨(a - base) / stride, h⟩ else none
  else none

/-! ### Live values -/

/-- A receive chain in use (R88). -/
def State.rxOn (s : State) (p : UPortNo) : Bool := (s.holder p).isSome || !(s.listeners p).isEmpty

/-- The LO a port uses: its carrier's, else that of the operation on it. -/
def State.portLo (s : State) (p : UPortNo) : Nat :=
  match (s.up p).carrier with
  | some c => c.1.val
  | none =>
    match s.holder p with
    | some op => op.lo.val
    | none => ((s.listeners p).head?.map fun op => op.lo.val).getD 0



/-- UPn_STATUS. -/
def State.upStatus (s : State) (p : UPortNo) : Word :=
  let x := s.up p
  let on := x.carrier.isSome
  fieldW 24 8 (if on then unsigned 8 x.level else 0) |||
    fieldW 20 4 (if on || s.rxOn p then s.portLo p else 0) ||| flagW 16 (s.rxOn p) ||| flagW 15 x.spare |||
    flagW 14 x.faulted ||| flagW 13 x.holdover.isSome ||| flagW 12 on ||| flagW 11 x.pa |||
    flagW 10 (s.replyWin p) ||| flagW 9 (s.frozen p) ||| flagW 8 x.cncLock

/-- UPn_AGC_STAT but for RSSI. -/
def State.agcStat (s : State) (p : UPortNo) : Word :=
  flagW 26 (s.chirpOn p) ||| flagW 25 (s.replyWin p) ||| flagW 24 (s.freezeBit p) ||| fieldW 16 3 (s.up p).step

/-- HPn_STATUS. -/
def State.hpStatus (s : State) (p : HPortNo) : Word :=
  let x := s.hp p
  fieldW 12 10 (if x.field then x.level else 0) ||| flagW 9 x.present ||| flagW 8 x.spare ||| flagW 7 x.faulted |||
    flagW 6 (s.hholder p).isSome ||| flagW 5 x.field

/-- HC_STATUS. -/
def State.hcStatus (s : State) : Word :=
  let mask := fun (p : HPortNo → Bool) => hpAll.foldl (fun n x => if p x then n + 2 ^ x.val else n) 0
  fieldW 16 10 s.hfBudgetUnits ||| fieldW 8 8 (mask fun p => (s.hp p).field) |||
    fieldW 0 8 (mask fun p => hpAll.any fun q => s.compWord p q != 0)

/-- HC_PWR.COMMITTED in 10 mW (R148). -/
def State.hcCommitted (s : State) : Nat :=
  let t := s.hfAhead
  min 1023 ((t.committed t.hfPlan + dbUnit / 2) / dbUnit)

/-- CK_STATUS. -/
def State.ckStatus (s : State) : Word :=
  fieldW 30 2 s.clk.refSrc.toNat ||| flagW 29 s.clk.mpllLock ||| flagW 28 s.clk.limp |||
    fieldW 26 2 (if s.epochRole = 2 then s.clk.epState.toNat else 1) |||
    fieldW 16 4 ((List.finRange 4).foldl (fun n k => if (s.lo k).lock then n + 2 ^ k.val else n) 0)

/-- CK_LOn_STATUS. -/
def Lo.status (l : Lo) : Word :=
  flagW 31 l.lock ||| flagW 30 l.slewing ||| flagW 29 l.aligned ||| fieldW 24 3 l.tset.val |||
    fieldW 16 7 l.band.toNat ||| fieldW 8 8 l.vtune.toNat

/-- CH_STATUS. -/
def State.chStatus (s : State) : Word :=
  fieldW 16 5 s.units.length ||| fieldW 8 5 (s.decoders.toList.filter (·.isSome)).length

/-- SV_STATUS. -/
def State.svStatus (s : State) : Word :=
  fieldW 24 8 (if s.atlasOk then bits (s.profile.atlas.headD 0) 24 8 else 0) ||| fieldW 16 3 s.solving.length |||
    fieldW 8 5 s.solveQ.length ||| flagW 0 s.atlasOk

/-- AIR_OCC. -/
def State.airOcc (s : State) : Word :=
  fieldW 16 10 (s.ops.filter (·.active)).length ||| fieldW 0 10 (s.ops.filter fun op => !op.active).length

/-- TH_RUNMASK. -/
def State.runMask (s : State) : Word :=
  BitVec.ofNat 32 ((List.finRange 32).foldl (fun n t =>
    if (s.th t).st = .run ∨ (s.th t).st = .wait then n + 2 ^ t.val else n) 0)

/-- A register of a thread's page by its offset (R54). -/
def Thread.page (x : Thread) (o : Nat) : Word :=
  match o with
  | 0x00 => flagW 8 x.tven
  | 0x04 => x.status
  | 0x08 => x.pc
  | 0x0C => x.tvec
  | 0x10 => x.tpc
  | 0x14 => x.tcause
  | 0x18 => x.taddr
  | 0x1C => x.event
  | 0x24 => x.tickets
  | _ =>
    let shown := x.st = .off ∨ x.st = .halted ∨ x.st = .trapped
    if 0x40 ≤ o ∧ o < 0x80 ∧ shown then x.rg (BitVec.ofNat 4 ((o - 0x40) / 4)) else 0

/-- RG_STATn. -/
def State.rgStat (s : State) (n : RingNo) : Word :=
  let k := (s.ring n).words.length
  fieldW 16 13 k ||| flagW 4 (!(s.ring n).orphans.isEmpty) ||| flagW 3 (s.ring n).open_.isSome |||
    flagW 2 (s.ringOn n && decide (s.fld (RG_WM n) 16 13 ≤ k)) ||| flagW 1 (s.ringOn n && decide (s.ringCap n ≤ k)) |||
    flagW 0 (k == 0)

/-- SC_AMLVLt (R199). -/
def State.amLevel (s : State) (t : Tid) : Word :=
  fieldW 16 16 (unsigned 16 (s.meters[t].tp / 100000000)) ||| fieldW 0 16 (unsigned 16 (s.meters[t].tc / 100000000))

/-- HS_STATUS. -/
def State.hsStatus (s : State) : Word :=
  fieldW 24 8 s.hsp.expect.toNat ||| fieldW 16 8 s.hsp.devAlive.toNat ||| fieldW 8 8 s.hsp.verdict.toNat |||
    flagW 5 s.hsp.split ||| flagW 4 s.hsp.loading ||| flagW 3 s.hsp.silent ||| flagW 2 (!s.hsp.refetch.isEmpty) |||
    flagW 1 s.clk.limp ||| flagW 0 s.hsp.ready

/-- CAL_STATUS. -/
def State.calStatus (s : State) : Word :=
  flagW 8 s.nvBusy ||| flagW 2 (s.spares[2]).isSome ||| flagW 1 (s.spares[1]).isSome ||| flagW 0 (s.spares[0]).isSome

/-- A mains-link condition of class 14 (R357). -/
def State.mlineActive (s : State) : Bool :=
  (s.mlRuns && (s.zcMis || s.ml.zcGone)) || s.ml.rxswap || s.ml.txswap || s.ml.openLine || s.ml.shortAt.isSome

/-- Whether the condition of a fault class persists (R357). -/
def State.classActive (s : State) (c : Nat) : Bool :=
  match c with
  | 0 => s.uports.toList.any (·.faulted)
  | 1 => s.hports.toList.any (·.faulted)
  | 2 => s.clk.limp
  | 3 => s.los.toList.any fun l => l.unlocked
  | 4 => s.epochRole == 2 && s.clk.epState == 2
  | 5 => s.threads.toList.any (·.st == .refetch)
  | 9 => !s.faults.residues.isEmpty
  | 10 => s.threads.toList.any (·.st == .trapped)
  | 11 => s.hsp.silent
  | 12 => decide (16 ≤ s.hsp.badRun)
  | 13 => !s.faults.iopads.isEmpty
  | 14 => s.mlineActive
  | 15 => s.faults.badStore != 0
  | 16 => decide (0 < s.power.level) || s.power.rails != 0
  | 17 => s.faults.hot != 0
  | _ => false

/-- FLT_ACTIVE. -/
def State.fltActive (s : State) : Word :=
  BitVec.ofNat 32 ((List.range 18).foldl (fun n c => if s.classActive c then n + 2 ^ c else n) 0)

/-- The sources of the IRQ balls (R328). -/
def State.irqSources (s : State) : Word :=
  (s.reg FLT_STATUS &&& 0x3FFFF) ||| flagW 24 s.eready |||
    flagW 25 (decide (max 1 (s.fld FLT_IRQCFG 16 12) ≤ s.hsp.txq.length)) ||| flagW 26 (!s.hsp.refetch.isEmpty)

/-- The asserted state of IRQ0 or IRQ1 (R328). -/
def State.irq (s : State) (k : Fin 2) : Bool :=
  s.powered && (s.irqSources &&& s.reg (if k = 0 then FLT_IRQ0EN else FLT_IRQ1EN)) != 0

/-! ### Reads -/

/-- A 16-bit field of a read left open while its source runs: the register with those bits free. -/
def State.freeField (s : State) (w mask : Word) : Word × State :=
  let (x, s) := s.freeW
  ((w &&& ~~~ mask) ||| (x &&& mask), s)

/-- A read of the SYS block. -/
def State.readSys (s : State) (a : Nat) : Word :=
  if a = SYS_STATUS then s.sysStatus else if a = SYS_SHED then s.sysShed else s.reg a

/-- A read of the CLK block. -/
def State.readClk (s : State) (a : Nat) : Word :=
  if a = CK_STATUS then s.ckStatus
  else match instOf 4 (CK_LO_STATUS 0) 0x20 a, instOf 4 (CK_LO_FREQ 0) 0x20 a with
    | some n, _ => (s.lo n).status
    | _, some n => (s.lo n).m
    | _, _ => s.reg a

/-- The port that a cluster's spare chain serves (R95). -/
def State.spareFor (s : State) (a : Nat) : Option UPortNo :=
  upAll.find? fun p => (s.up p).spare && decide (p.val / 8 + 2 = a / 0x10000)

/-- UPn_STATUS of a spare chain: the LO, level and carrier it has taken over (R95). -/
def State.spareStatus (s : State) (a : Nat) : Word :=
  match s.spareFor a with
  | none => 0
  | some p =>
    let x := s.up p
    let on := x.carrier.isSome
    fieldW 24 8 (if on then unsigned 8 x.level else 0) |||
      fieldW 20 4 (if on || s.rxOn p then s.portLo p else 0) ||| flagW 16 (s.rxOn p) ||| flagW 15 true |||
      flagW 12 on ||| flagW 8 x.cncLock

/-- A read of UA or UB (R88, R95): RSSI and the return loss are measurements the commands do not carry, and
read as free values (assumption 5). With the carrier off, when nothing updates it, the return loss reads 0
(DESIGN CHOICE: assumption 67). -/
def State.readUhf (s : State) (a : Nat) : Word × State :=
  match upOf a with
  | some (p, 0x004) => (s.upStatus p, s)
  | some (p, 0x024) => s.freeField (s.agcStat p) 0xFFFF
  | some (p, 0x030) => if (s.up p).carrier.isSome then s.freeField 0 0x03FFFFFF else (s.reg (UP_RLOSS p), s)
  | some _ => (s.reg a, s)
  | none =>
    match a % 0x10000 with
    | 0x9004 => (s.spareStatus a, s)
    | 0x9038 => ((s.spareFor a).elim 0 fun p => Config.sparePhase p.val &&& 0x03FF03FF, s)
    | 0x9024 => s.freeField (s.reg a) 0xFFFF
    | _ => (s.reg a, s)

/-- A read of HC: the antenna measurements are free values while the field is on (assumption 5). -/
def State.readHc (s : State) (a : Nat) : Word × State :=
  match hpOf a with
  | some (p, 0x004) => (s.hpStatus p, s)
  | some (p, 0x018) => if (s.hp p).field then s.freeField 0 0xFFFFFFFF else (s.reg a, s)
  | some (p, o) =>
    match instOf 8 0x40 4 o with
    | some q => (s.compWord p q, s)
    | none => (s.reg a, s)
  | none =>
    if a = HC_STATUS then (s.hcStatus, s)
    else if a = HC_PWR then (withBits (s.reg a) 16 10 s.hcCommitted, s)
    else if a = 0x49004 then (flagW 8 (s.hports.toList.any (·.spare)), s)
    else (s.reg a, s)

/-- A read of CHIRP. -/
def State.readChirp (s : State) (a : Nat) : Word :=
  if a = CH_STATUS then s.chStatus
  else match instOf 4 (CH_DUTY 0) 8 a, instOf 4 (CH_DUTYLIM 0) 8 a with
    | some k, _ => BitVec.ofNat 32 (s.dutyUsed k)
    | _, some k => BitVec.ofNat 32 (s.dutyLimit k.val)
    | _, _ => s.reg a

/-- A read of SURVEY (R122, R123). -/
def State.readSurvey (s : State) (a : Nat) : Word :=
  if a = SV_STATUS then s.svStatus
  else if SV_ATLAS 0 ≤ a then (if s.atlasOk then s.profile.atlas.getD ((a - SV_ATLAS 0) / 4) 0 else 0)
  else s.reg a

/-- A read of THREAD: TH_SEMk is test-and-set (R46). -/
def State.readThread (s : State) (a : Nat) : Word × State :=
  match instOf 32 (TH_SEM 0) 4 a with
  | some k => s.semRead k
  | none =>
    if a = TH_RUNMASK then (s.runMask, s)
    else if h : (a - TH_CTRL 0) / 0x100 < 32 then ((s.th ⟨(a - TH_CTRL 0) / 0x100, h⟩).page (a % 0x100), s)
    else (s.reg a, s)

/-- A read of RING. -/
def State.readRing (s : State) (a : Nat) : Word :=
  match instOf 32 (RG_STAT 0) 0x20 a with
  | some n => s.rgStat n
  | none => s.reg a

/-- The live latency page (R202): the means of no sample read 0. -/
def State.readLat (s : State) (a : Nat) : Word :=
  let o := a - SC_LDEPTH 0
  (s.ring ⟨o / 0x40 % 32, by omega⟩).lat.word (o % 0x40 / 4)

/-- A read of SCHED. -/
def State.readSched (s : State) (a : Nat) : Word :=
  if SC_LDEPTH 0 ≤ a ∧ a < SC_LDEPTH 0 + 0x800 then s.readLat a
  else match instOf 16 (SC_EGR 0) 0x10 a, instOf 16 (SC_SHLEVEL 0) 0x10 a, instOf 32 (SC_DEF 0) 4 a with
    | some k, _, _ => withBits (s.reg a) 0 16 (unsigned 16 (s.ring (egressRing k)).deficit)
    | _, some k, _ => BitVec.ofInt 32 (s.shLevels[k] / 1000000)
    | _, _, some t => BitVec.ofInt 32 (s.deficits[t] / 1000000)
    | _, _, _ =>
      match instOf 32 (SC_AMCTL 0) 0x10 a, instOf 32 (SC_AMLVL 0) 0x10 a with
      | some t, _ => withBits (s.reg a) 16 2 (s.colour t)
      | _, some t => s.amLevel t
      | _, _ => s.reg a

/-- A read of SERIAL: PS_RX removes a word (R227). -/
def State.readSerial (s : State) (a : Nat) : Word × State :=
  if a = HS_STATUS then (s.hsStatus, s)
  else if a = PS_STAT then (s.psStat, s)
  else if a = PS_RX then s.readPsRx
  else (s.reg a, s)

/-- A read of TIMER: TB, and the count of a unit. -/
def State.readTimer (s : State) (a : Nat) : Word :=
  if a = TB_LO then s.tbLo
  else if a = TB_HI then s.tbShown.extractLsb' 32 32
  else match instOf 8 (TU_COUNT 0) 0x100 a with
    | some u => s.tuCount u
    | none => s.reg a

/-- A read of CRC. -/
def State.readCrc (s : State) (a : Nat) : Word :=
  match instOf 8 (CC_RESULT 0) 0x40 a with
  | some c => s.ccResult c.val
  | none => s.reg a

/-- A read of SAFFRON: a response is readable while READY = 1 (R308). -/
def State.readSaffron (s : State) (a : Nat) : Word :=
  if a = SF_STATUS then s.sfStatus
  else if a = SF_PROFILE then s.sfProfile
  else if a = SF_COUNTER then s.profile.counter
  else if SF_RSP 0 ≤ a ∧ a < SF_RSP 1024 then
    (if s.saffron.ready then s.saffron.answer.getD ((a - SF_RSP 0) / 4) 0 else 0)
  else s.reg a

/-- A read of FAULT: a read of FLT_LOGAk reads record k, so that overwriting it loses nothing (R327). -/
def State.readFault (s : State) (a : Nat) : Word × State :=
  if a = FLT_ACTIVE then (s.fltActive, s)
  else match instOf 16 (FLT_LOGA 0) 8 a with
    | some k => (s.reg a, { s with faults.unread := s.faults.unread.filter (· != k.val) })
    | none => (s.reg a, s)

/-- A read of NV (R353): pages 4 to 7 show the snapshot; the layout of pages 0 to 3 is not specified, and
their words are free values (assumption 5). -/
def State.readNv (s : State) (a : Nat) : Word × State :=
  let page := s.fld NV_PAGE 0 3
  if a < 0x128000 then (s.reg a, s)
  else if 4 ≤ page then (Memory.word s.nv.snap ((page - 4) * 0x8000 + (a - 0x128000)), s)
  else s.freeW

/-- A read of the register at an address (R4, R7, R350). -/
def State.busRead (s : State) (a : Nat) : Word × State :=
  match a / 0x10000 with
  | 0x0 => (s.readSys a, s)
  | 0x1 => (s.readClk a, s)
  | 0x2 => s.readUhf a
  | 0x3 => s.readUhf a
  | 0x4 => s.readHc a
  | 0x5 => (s.readChirp a, s)
  | 0x6 => (s.readSurvey a, s)
  | 0x7 => (if a = AIR_OCC then s.airOcc else s.reg a, s)
  | 0x8 => s.readThread a
  | 0x9 => (s.readRing a, s)
  | 0xA => (s.readSched a, s)
  | 0xB => s.readSerial a
  | 0xC => (if a = ML_STATUS then s.mlStatus else s.reg a, s)
  | 0xD => (s.readTimer a, s)
  | 0xE => (s.readCrc a, s)
  | 0xF => (if a = CAL_STATUS then s.calStatus else s.reg a, s)
  | 0x10 => (s.readSaffron a, s)
  | 0x11 => s.readFault a
  | 0x12 => s.readNv a
  | _ => (0, s)

/-! ### Writes -/

/-- A write of the SYS block. -/
def State.busSys (s : State) (a : Nat) (v : Word) : State :=
  if a = SYS_RST then s.writeRst v
  else if a = SYS_PWRCTL then s.writePwrCtl v
  else if a = SYS_SNAP then s.writeSnap v
  else s.writeFields a v

/-- A write of the CLK block. -/
def State.busClk (s : State) (a : Nat) (v : Word) : State :=
  if a = CK_EPOCH then s.writeEpoch v
  else match instOf 4 (CK_CLKOUT 0) 4 a with
    | some k => s.writeClkout k v
    | none => s.writeFields a v

/-- A write of UA or UB. -/
def State.busUhf (s : State) (a : Nat) (v : Word) : State :=
  match upOf a with
  | some (p, 0x000) => s.writeUpCtrl p v
  | some (p, 0x02C) => s.writeUpFault p v
  | _ => s.writeFields a v

/-- A write of HC. -/
def State.busHc (s : State) (a : Nat) (v : Word) : State :=
  match hpOf a with
  | some (p, 0x000) => s.writeHpCtrl p v
  | some (p, 0x010) => s.writeHpFault p v
  | _ => if a = HC_WATCHCFG then s.writeWatchCfg v else s.writeFields a v

/-- A write of a thread's page by its offset (R54): THn_PC is writable only in Off, Halted and Trapped. -/
def State.busThPage (s : State) (t : Tid) (o : Nat) (v : Word) : State :=
  let x := s.th t
  match o with
  | 0x00 => s.writeThCtrl t v
  | 0x08 =>
    if x.st = .off ∨ x.st = .halted ∨ x.st = .trapped then s.modTh t fun x => { x with pc := v &&& 0xFFFFFFFC } else s
  | 0x0C => s.modTh t fun x => { x with tvec := v &&& 0xFFFFFFFC }
  | 0x1C => s.modTh t fun x => { x with event := x.event &&& ~~~ v }
  | 0x20 => s.setEvents t (v &&& 0xFFFF)
  | _ => s

/-- A write of THREAD. -/
def State.busThread (s : State) (a : Nat) (v : Word) : State :=
  match instOf 32 (TH_SEM 0) 4 a with
  | some k => s.semWrite k v
  | none => if h : (a - TH_CTRL 0) / 0x100 < 32 then s.busThPage ⟨(a - TH_CTRL 0) / 0x100, h⟩ (a % 0x100) v else s

/-- A write of RING. -/
def State.busRing (s : State) (a : Nat) (v : Word) : State :=
  match instOf 32 (RG_CFG 0) 0x20 a, instOf 32 (RG_CTRL 0) 0x20 a, instOf 4 (RG_XFCFG 0) 0x10 a with
  | some n, _, _ => s.cfgRing n v
  | _, some n, _ => s.writeRingCtrl n v
  | _, _, some x => s.writeXfCfg x v
  | _, _, _ => s.writeFields a v

/-- A write of SCHED. -/
def State.busSched (s : State) (a : Nat) (v : Word) : State :=
  if a = SC_LATCFG then s.writeLatCfg v
  else match instOf 32 (SC_AMCTL 0) 0x10 a, instOf 16 (SC_IMCTL 0) 0x10 a, instOf 16 (SC_IMRATE 0) 0x10 a with
    | some t, _, _ => s.writeAmCtl t v
    | _, some i, _ => s.writeImCtl i v
    | _, _, some i => (s.imRefill i).writeFields a v
    | _, _, _ => s.writeFields a v

/-- A write of SERIAL. -/
def State.busSerial (s : State) (a : Nat) (v : Word) : State :=
  if a = MS_CTRL then s.writeMsCtrl v
  else if a = MS_DCMD then s.writeDcmd v
  else if a = PS_QENT then s.writeQent v
  else if a = PS_CTRL then s.writePsCtrl v
  else s.writeFields a v

/-- A write of MLINK. -/
def State.busMlink (s : State) (a : Nat) (v : Word) : State :=
  if a = ML_CFG then s.writeMlCfg v
  else if a = ML_ADMIT then s.writeAdmit v
  else s.writeFields a v

/-- A write of TIMER. -/
def State.busTimer (s : State) (a : Nat) (v : Word) : State :=
  if a = TB_CTRL then (if bit v 0 then s.armTb else s)
  else match instOf 8 (TU_CTRL 0) 0x100 a, instOf 8 (TU_RELOAD 0) 0x100 a with
    | some u, _ => s.writeTuCtrl u v
    | _, some u => s.writeReload u v
    | _, _ =>
      match (List.finRange 4).findSome? fun k => (instOf 8 (TU_CMP 0 k.val) 0x100 a).map fun u => (u, k) with
      | some (u, k) => s.writeCmp u k v
      | none => s.writeFields a v

/-- A write of CRC: while a transfer channel feeds the channel its settings are ignored with BUSYERR
(R291). -/
def State.busCrc (s : State) (a : Nat) (v : Word) : State :=
  let c := (a - CC_CFG 0) / 0x40
  match (a - CC_CFG 0) % 0x40 with
  | 0x14 => if c < 8 then s.writeCcState c v else s
  | 0x1C => if c < 8 then s.writeCcCtrl c v else s
  | 0x00 | 0x04 | 0x08 | 0x0C => if s.ccFed c then s.setFlag (CC_FLAGS c) 1 else s.writeFields a v
  | _ => s.writeFields a v

/-- A write of SAFFRON. -/
def State.busSaffron (s : State) (by_ : Agent) (a : Nat) (v : Word) : State :=
  if a = SF_CTRL then s.writeSfCtrl by_ v
  else if SF_REQ 0 ≤ a ∧ a < SF_REQ 1024 then s.writeSfReq a v
  else s.writeFields a v

/-- A write of the register at an address by an agent (R4, R349). -/
def State.busWrite (s : State) (by_ : Agent) (a : Nat) (v : Word) : State :=
  match a / 0x10000 with
  | 0x0 => s.busSys a v
  | 0x1 => s.busClk a v
  | 0x2 => s.busUhf a v
  | 0x3 => s.busUhf a v
  | 0x4 => s.busHc a v
  | 0x7 => if a = AIR_CTRL then s.writeAirCtrl v else s.writeFields a v
  | 0x8 => s.busThread a v
  | 0x9 => s.busRing a v
  | 0xA => s.busSched a v
  | 0xB => s.busSerial a v
  | 0xC => s.busMlink a v
  | 0xD => s.busTimer a v
  | 0xE => s.busCrc a v
  | 0x10 => s.busSaffron by_ a v
  | _ => s.writeFields a v

/-- The word address of an access: the host's and the test access port's low two bits are ignored (R348). -/
def wordAddr (a : Word) : Nat := (a &&& 0xFFFFFFFC).toNat

end Sys2Proof.Machine
end

