-- ==== Sys2Proof/Machine/Hsp.lean ====
section
/-!
DEFINITION. The host serial port (R203 to R220): selects, frames, verdicts, replies, RESEND, STOP and the
host-silent policy.
-/

namespace Sys2Proof.Machine

/-! ### Replies (R208) -/

/-- The header word of a host frame of a type (R205). -/
def frameHeader (ftype : Nat) (f : HostFrame) : Word :=
  fieldW 28 4 ftype ||| fieldW 20 8 f.alive.toNat ||| fieldW 8 12 f.body.length ||| fieldW 0 8 f.flags.toNat

/-- The answer that a header word names, with a verdict and data (R209). -/
def answerOf (hdr : Word) (verdict : Byte) (data : List Word) : Answer :=
  { verdict := verdict, ftype := hdr.extractLsb' 28 4, alive := hdr.extractLsb' 20 8, length := hdr.extractLsb' 8 12
    data := data }

/-- The answer of the next reply; NONE before any frame (R210). -/
def State.nextAnswer (s : State) : Answer := s.hsp.answer.getD (answerOf 0 0xFF [])

/-- The device state of reply word 1 (R208). -/
def State.replyState (s : State) : Word :=
  flagW 31 s.clk.limp ||| flagW 30 s.hsp.silent ||| flagW 29 (s.irq 0) ||| flagW 28 (s.irq 1) |||
    flagW 27 s.eready ||| flagW 26 s.saffron.held ||| flagW 25 s.hsp.loading ||| flagW 24 s.hsp.loadErr |||
    fieldW 0 12 s.hsp.txq.length

/-- The credit of an ingress ring: its free words when it is enabled and the host produces into it. -/
def State.credit (s : State) (k : Nat) : Nat :=
  if h : k < 32 then
    let n : RingNo := ⟨k, h⟩
    if s.ringOn n && s.ringProd n == 0x40 then s.ringRoom n else 0
  else 0

/-- Reply word 11: the program-store line that waits for a host refetch. -/
def State.replyLine (s : State) : Word :=
  match s.hsp.refetch with
  | [] => 0
  | l :: _ => flagW 31 true ||| fieldW 0 18 (32 * l)

/-- The words of a reply: header, device state, echo and expected alive value, credits, refetch line, data of
the answered frame, CRC (R206, R208). -/
def State.replyWords (s : State) : List Word :=
  let a := s.nextAnswer
  let head := fieldW 28 4 8 ||| fieldW 20 8 s.hsp.devAlive.toNat ||| fieldW 8 12 (11 + a.data.length) |||
    fieldW 0 8 a.verdict.toNat
  let echo := fieldW 28 4 a.ftype.toNat ||| fieldW 20 8 a.alive.toNat ||| fieldW 8 12 a.length.toNat |||
    fieldW 0 8 s.hsp.expect.toNat
  let credits := (List.range 8).map fun k => fieldW 16 16 (s.credit (2 * k)) ||| fieldW 0 16 (s.credit (2 * k + 1))
  let ws := head :: s.replyState :: echo :: credits ++ [s.replyLine] ++ a.data
  ws ++ [crc32 ws]

/-! ### Verdicts (R210) and the record of an answered frame -/

/-- A verdict counts in its HS_CNT field. -/
def State.countVerdict (s : State) (v : Byte) : State :=
  match v.toNat with
  | 1 => s.countFld HS_CNT0 16 16 1
  | 2 => s.countFld HS_CNT0 0 16 1
  | 3 => s.countFld HS_CNT1 16 16 1
  | 4 => s.countFld HS_CNT1 0 16 1
  | 5 => s.countFld HS_CNT2 0 16 1
  | _ => s

/-- The run of BADCRC or TRUNCATED verdicts, and HSPBAD at the sixteenth (R325). -/
def State.badVerdict (s : State) (v : Byte) : State :=
  if v = 1 ∨ v = 3 then
    let s := { s with hsp.badRun := s.hsp.badRun + 1 }
    if s.hsp.badRun = 16 then s.fault 12 0 0 else s
  else { s with hsp.badRun := 0 }

/-- A frame is answered; the answers to the last four frames other than RESEND are kept (R215). -/
def State.answered (s : State) (a : Answer) (keep : Bool) : State :=
  let s := { s with hsp.answer := some a }
  let s := if keep then { s with hsp.kept := (a :: s.hsp.kept).take 4 } else s
  (s.countVerdict a.verdict).badVerdict a.verdict

/-! ### Selects -/

/-- A select the device answers with a reply (R211). -/
def State.selectLive (s : State) (sel : SelectInfo) : Bool := s.hsp.ready && sel.ready

/-- A select answered with zeros (R211): counted, once the device is out of reset. -/
def State.selectZeros (s : State) : State :=
  let s := { s with hsp.reply := [] }
  if s.power.released then s.countFld HS_CNT1 0 16 1 else s

/-- The reply of a select that begins: built of the state at its first clock; a select that continues a split
frame begins no reply (R208, R217). -/
def State.selectBegin (s : State) : State := if s.hsp.split then s else { s with hsp.reply := s.replyWords }

/-- A reply was sent to its CRC word (R208, R218). -/
def State.replySent (s : State) : State :=
  { s with hsp.devAlive := s.hsp.devAlive + 1, hsp.verdict := (s.hsp.reply.headD 0).extractLsb' 0 8 }

/-- The end of a select whose words did `f`: a device that has gone into reset meanwhile answers nothing. -/
def State.select (s : State) (sel : SelectInfo) (f : State → State) : State :=
  let sent := s.hsp.split && s.hsp.splitSent
  let s := f s.selectBegin
  if s.hsp.ready && sel.full && !sent then s.replySent else s

/-! ### Executing a frame (R212, R213) -/

/-- What the execution of a frame comes to: verdict, data of the answer, and the state it leaves. -/
structure Exec where
  verdict : Byte
  data    : List Word := []
  state   : State

/-- Executed. -/
def Exec.ok (s : State) (data : List Word) : Exec := ⟨0x00, data, s⟩

/-- REFUSED (R207). -/
def Exec.refused (s : State) : Exec := ⟨0x05, [], s⟩

/-- Register reads in body order. -/
def State.readAll (s : State) : List Nat → List Word × State
  | [] => ([], s)
  | a :: as =>
    let (w, s) := s.busRead a
    let (ws, s) := s.readAll as
    (w :: ws, s)

/-- Register writes of the host in body order. -/
def State.writeAll (s : State) : List (Nat × Word) → State
  | [] => s
  | (a, v) :: r => (s.busWrite .host a v).writeAll r

/-- Addresses that ascend by 4. -/
def burstFrom (a : Word) (n : Nat) : List Nat := (List.range n).map fun i => wordAddr a + 4 * i

/-- The addresses of a REGRD (R207). -/
def regrdAddrs (f : HostFrame) : Option (List Nat) :=
  let as := if f.flags.getLsbD 0 then
      (match f.body with
      | [a, n] => if n.toNat ≤ 1024 then burstFrom a n.toNat else []
      | _ => [])
    else f.body.map wordAddr
  if f.flags &&& 0xFE = 0 ∧ 1 ≤ as.length ∧ as.length ≤ 1024 ∧ as.all (fun a => decide (a < regSpace)) then some as else none

/-- REGRD executed. -/
def State.doRegrd (s : State) (f : HostFrame) : Exec :=
  match regrdAddrs f with
  | none => .refused s
  | some as => let (ws, s) := s.readAll as; .ok s ws

/-- Address and value pairs. -/
def pairUp : List Word → Option (List (Nat × Word))
  | [] => some []
  | [_] => none
  | a :: v :: r => (pairUp r).map fun ps => (wordAddr a, v) :: ps

/-- The writes of a REGWR (R207). -/
def regwrPairs (f : HostFrame) : Option (List (Nat × Word)) :=
  let ps := if f.flags.getLsbD 0 then
      (match f.body with
      | a :: v :: vs => some ((burstFrom a (vs.length + 1)).zip (v :: vs))
      | _ => none)
    else pairUp f.body
  ps.bind fun ps =>
    if f.flags &&& 0xFE = 0 ∧ ps.length ≤ 1024 ∧ ps.all (fun x => decide (x.1 < regSpace)) then some ps else none

/-- REGWR executed. -/
def State.doRegwr (s : State) (f : HostFrame) : Exec :=
  match regwrPairs f with
  | none => .refused s
  | some ps => .ok (s.writeAll ps) []

/-- Ring words from the words of a frame, [63:32] first. -/
def frameRingWords : List Word → Option (List DWord)
  | [] => some []
  | [_] => none
  | a :: b :: r => (frameRingWords r).map fun ws => (a ++ b) :: ws

/-- Ring words cut into items by their LENGTH fields, when these add up exactly (R214). -/
def cutItems : Nat → List DWord → Option (List (List DWord))
  | _, [] => some []
  | 0, _ => none
  | k + 1, w :: ws =>
    let n := itemLength w
    if 1 ≤ n ∧ n ≤ (w :: ws).length then
      (cutItems k ((w :: ws).drop n)).map fun is => (w :: ws).take n :: is
    else none

/-- The ring words of a host item (R214): S on the first and E on the last, and 0x40 in SOURCE. -/
def hostItem (ws : List DWord) : List RWord :=
  ws.zipIdx.map fun x =>
    { data := if x.2 = 0 then (x.1 &&& 0xFFFFFF00FFFFFFFF) ||| 0x0000004000000000 else x.1
      v := true, s := x.2 == 0, e := x.2 + 1 == ws.length }

/-- One host item passes its ingress meter and is written whole, or is dropped whole and counted by its colour, a
red one in SC_IMDROPi.RED and a yellow one in YELLOW (R201). -/
def State.hostPut (s : State) (n : RingNo) (i : Fin 16) (ws : List DWord) : State :=
  let (colour, s) := s.imVerdict i ws.length
  let below := decide ((s.ring n).words.length < s.fld (RG_WM n) 16 13)
  if colour = 0 ∨ (colour = 1 ∧ below) then s.ringPutAll n .host (hostItem ws)
  else s.countFld (SC_IMDROP i) (if colour = 2 then 16 else 0) 16 1

/-- RINGWR executed (R214). -/
def State.doRingwr (s : State) (f : HostFrame) : Exec :=
  let i : Fin 16 := (f.flags.extractLsb' 0 4).toFin
  let n : RingNo := ⟨i.val, by omega⟩
  match frameRingWords f.body with
  | none => .refused s
  | some ws =>
    match cutItems ws.length ws with
    | none => .refused s
    | some is =>
      if f.flags.extractLsb' 4 4 ≠ 0 ∨ !s.ringOn n ∨ s.ringProd n ≠ 0x40 ∨ s.ringCap n < ws.length then .refused s
      else if s.ringRoom n < ws.length then ⟨0x04, [], s⟩
      else .ok (is.foldl (fun s ws => s.hostPut n i ws) s) []

/-- RINGRD executed (R215): up to 1,920 ring words from the transmit queue, in order. -/
def State.doRingrd (s : State) (f : HostFrame) : Exec :=
  match f.body with
  | [w] =>
    let k := min 1920 (bits w 0 12)
    if f.flags ≠ 0 ∨ k = 0 then .refused s
    else .ok { s with hsp.txq := s.hsp.txq.drop k } (ringBlocks 240 (s.hsp.txq.take k))
  | _ => .refused s

/-- STOP executed (R219). -/
def State.doStop (s : State) (f : HostFrame) : Exec :=
  match f.body with
  | [mask, w] =>
    if f.flags ≠ 0 then .refused s
    else .ok ((s.countFld HS_CNT2 16 16 1).stopAll 3 mask (bit w 0) (bit w 1)) []
  | _ => .refused s

/-- The words of a request stand in SF_REQ too. -/
def State.putRequest (s : State) (ws : List Word) : State :=
  ws.zipIdx.foldl (fun s x => s.setReg (SF_REQ x.2) x.1) s

/-- ENCLAVE executed (R216, R308): with words a request, BUSY and COLLIDE while the mailbox is held; with none
the fetch of a response the host owns. -/
def State.doEnclave (s : State) (f : HostFrame) : Exec :=
  if f.flags ≠ 0 ∨ 1024 < f.body.length then .refused s
  else if f.body.isEmpty then
    (if s.eready then .ok s.sfFree s.saffron.answer else .refused s)
  else if s.saffron.held then ⟨0x04, [], s.setFlag SF_FLAGS 0⟩
  else .ok ((s.putRequest f.body).sfSubmit .host f.body) []

/-- LOAD executed (R207, R213): words of the program store while LOADING = 1, LAST ending the load; with REPAIR
the 8 words of the line in reply word 11. -/
def State.doLoad (s : State) (f : HostFrame) : Exec :=
  match f.body with
  | [] => .refused s
  | o :: ws =>
    if f.flags &&& 0xFC ≠ 0 ∨ bits o 0 5 ≠ 0 ∨ ws.length % 8 ≠ 0 ∨ 4088 < ws.length then .refused s
    else if f.flags.getLsbD 1 then
      (match s.hsp.refetch with
      | [] => .refused s
      | l :: _ => if ws.length = 8 ∧ o.toNat = 32 * l then .ok (s.rewriteLine l ws false) [] else .refused s)
    else if !s.hsp.loading ∨ 0x40000 < o.toNat + 4 * ws.length then .refused s
    else .ok { s with pstore := Memory.setWords s.pstore o.toNat ws, hsp.loading := !f.flags.getLsbD 0 } []

/-- A frame of a type executed. -/
def State.execFrame (s : State) (ftype : Nat) (f : HostFrame) : Exec :=
  match ftype with
  | 1 => s.doRegrd f
  | 2 => s.doRegwr f
  | 3 => s.doRingwr f
  | 4 => s.doRingrd f
  | 5 => s.doStop f
  | 6 => s.doEnclave f
  | _ => s.doLoad f

/-- The alive value after `a`: 0xFF is followed by 0x01 (R212). -/
def aliveNext (a : Byte) : Byte := if a = 0xFF then 1 else a + 1

/-- The expected alive value after a frame (R212): 0x00 sets it to 0x01 whatever the verdict; a frame executed
with the value expected advances it. -/
def State.newExpect (s : State) (alive : Byte) (ok : Bool) : State :=
  if alive = 0 then { s with hsp.expect := 1 }
  else if ok && alive == s.hsp.expect then { s with hsp.expect := aliveNext alive } else s

/-- A frame whose CRC passes clears SILENT, and starts the host-silent timer when it is in force (R220). -/
def State.goodFrame (s : State) : State :=
  { s with hsp.silent := false, hsp.timerOn := bit (s.reg HS_TMO) 31 }

/-- RESEND (R215): the most recent kept answer to the frame named is repeated; with none the frame is REFUSED.
The repeat is neither kept nor counted again. -/
def State.doResend (s : State) (f : HostFrame) : State :=
  let named := match f.body with
    | [w] => if f.flags = 0x80 then s.hsp.kept.find? fun a => a.alive == w.extractLsb' 0 8 else none
    | _ => none
  match named with
  | some a => { s with hsp.answer := some a, hsp.badRun := 0 }.newExpect f.alive true
  | none => (s.newExpect f.alive false).answered (answerOf (frameHeader 1 f) 0x05 []) false

/-- The CRC word of a frame holds (R206). -/
def frameCrcOk (ftype : Nat) (f : HostFrame) : Bool := crc32 (frameHeader ftype f :: f.body) == f.crc

/-- A frame judged and executed at the end of its CRC word (R210, R212, R213): BADCRC first, then RESEND, then
BADALIVE for every frame but a STOP, then execution. -/
def State.takeFrame (s : State) (ftype : Nat) (f : HostFrame) : State :=
  let hdr := frameHeader ftype f
  let s := { s with hsp.split := false }
  if !frameCrcOk ftype f then s.answered (answerOf hdr 0x01 []) !(ftype == 1 && f.flags.getLsbD 7)
  else
    let s := s.goodFrame
    if ftype = 1 ∧ f.flags.getLsbD 7 then s.doResend f
    else if ftype ≠ 5 ∧ f.alive ≠ 0 ∧ f.alive ≠ s.hsp.expect then s.answered (answerOf hdr 0x02 []) true
    else
      let x := s.execFrame ftype f
      if !x.state.hsp.ready then x.state
      else (x.state.newExpect f.alive (x.verdict == 0)).answered (answerOf hdr x.verdict x.data) true

/-- A STOP with a good CRC acts in a select the device answers with zeros, once it accepts frames (R211,
R212, R219). -/
def State.stopUnready (s : State) (ftype : Nat) (f : HostFrame) : State :=
  if ftype = 5 ∧ s.hsp.ready ∧ frameCrcOk ftype f then
    let x := s.goodFrame.doStop f
    x.state.newExpect f.alive (x.verdict == 0)
  else s

/-- A select that carries a frame of a type. -/
def State.hostFrame (s : State) (ftype : Nat) (f : HostFrame) : State :=
  if s.selectLive f.sel then s.select f.sel fun s => s.takeFrame ftype f
  else s.selectZeros.stopUnready ftype f

/-! ### The commands -/

/-- REGRD (R207, R213): a frame of type 0x1 without RESEND. -/
def execRegrd (f : HostFrame) (s : State) : Out := .next (s.hostFrame 1 { f with flags := f.flags &&& 0x7F })

/-- REGWR (R207, R213): a frame of type 0x2. -/
def execRegwr (f : HostFrame) (s : State) : Out := .next (s.hostFrame 2 f)

/-- RINGWR (R214): a frame of type 0x3. -/
def execRingwr (f : HostFrame) (s : State) : Out := .next (s.hostFrame 3 f)

/-- RINGRD (R215): a frame of type 0x4. -/
def execRingrd (f : HostFrame) (s : State) : Out := .next (s.hostFrame 4 f)

/-- RESEND (R215): a frame of type 0x1 with RESEND. -/
def execResend (f : HostFrame) (s : State) : Out := .next (s.hostFrame 1 { f with flags := f.flags ||| 0x80 })

/-- STOP (R219): a frame of type 0x5. -/
def execStop (f : HostFrame) (s : State) : Out := .next (s.hostFrame 5 f)

/-- ENCLAVE (R216): a frame of type 0x6. -/
def execEnclave (f : HostFrame) (s : State) : Out := .next (s.hostFrame 6 f)

/-- ENCLAVE_FETCH (R216): a frame of type 0x6 without words. -/
def execEnclaveFetch (f : HostFrame) (s : State) : Out := .next (s.hostFrame 6 { f with body := [] })

/-- LOAD (R213): a frame of type 0x7 without REPAIR. -/
def execLoad (f : HostFrame) (s : State) : Out := .next (s.hostFrame 7 { f with flags := f.flags &&& 0xFD })

/-- LOAD_REPAIR (R213): a frame of type 0x7 with REPAIR. -/
def execLoadRepair (f : HostFrame) (s : State) : Out := .next (s.hostFrame 7 { f with flags := f.flags ||| 0x02 })

/-- NOFRAME (R210): a select that carried only filler; a split frame stays open (R217). -/
def execNoframe (sel : SelectInfo) (s : State) : Out :=
  .next (if s.selectLive sel then
    s.select sel fun s => if s.hsp.split then s else { s with hsp.answer := some (answerOf 0 0xFE []) }
  else s.selectZeros)

/-- A frame discarded as TRUNCATED, with the header word received of it, 0 for none (R218). -/
def State.truncate (s : State) (hdr : Word) : State :=
  let resend := bits hdr 28 4 == 1 && bit hdr 7
  { s with hsp.split := false }.answered (answerOf hdr 0x03 []) (hdr != 0 && !resend)

/-- TRUNCATED (R217, R218): a select that ends before the frame's CRC word. With SPLIT = 1 and an end at a word
boundary the frame stays open; otherwise it is discarded. A header of type 0 or above 7 ends the reception of the
select, which counts as TRUNCATED (R205). -/
def execTruncated (hdr : Word) (sel : SelectInfo) (s : State) : Out :=
  .next (if s.selectLive sel then
    let sent := if s.hsp.split then s.hsp.splitSent || sel.full else sel.full
    let first := if s.hsp.split ∧ s.hsp.splitHdr ≠ 0 then s.hsp.splitHdr else hdr
    let known := hdr = 0 ∨ (1 ≤ bits first 28 4 ∧ bits first 28 4 ≤ 7)
    let open_ := sel.boundary && bit (s.reg HS_CFG) 0 && decide known
    s.select sel fun s =>
      if open_ then { s with hsp.split := true, hsp.splitHdr := first, hsp.splitSent := sent }
      else s.truncate first
  else s.selectZeros)

/-- SPLIT_FRAME_TIMEOUT (R217): a frame left open for 1 ms is discarded as TRUNCATED. -/
def execSplitFrameTimeout (s : State) : Out := .next (if s.hsp.split then s.truncate s.hsp.splitHdr else s)

/-- HOST_SILENT_TIMEOUT (R220): SILENT is set and reported; under QUIESCE every thread is halted with HALTSRC 5
and the device acts as on a STOP with MUTE and HOLD. -/
def execHostSilentTimeout (s : State) : Out :=
  .next (if s.hsp.timerOn && bit (s.reg HS_TMO) 31 then
    let s := { s with hsp.timerOn := false, hsp.silent := true }.fault 11 0 0
    if bit (s.reg HS_TMO) 30 then s.stopAll 5 0xFFFFFFFF true true else s
  else s)

end Sys2Proof.Machine
end

