-- ==== Sys2Proof/Machine/ThreadIo.lean ====
section
/-!
DEFINITION. A thread's register accesses (R45), the end of a wait (R22), and register writes that have no
command of their own (R349).
-/

namespace Sys2Proof.Machine

/-- The earlier posted writes of a thread take effect in issue order (R45). -/
def State.drainPosted (s : State) (t : Tid) : State :=
  let ws := (s.th t).posted
  ws.foldl (fun s x => s.busWrite (.thread t) x.1.toNat x.2) (s.modTh t fun x => { x with posted := [] })

/-- The traps of a register address (R45): ALIGN, and ACCESS at or above 0x0013_0000. -/
def ioTrap (s : State) (a : Word) (r : Unit → IssueRes) : IssueRes :=
  if bits a 0 2 ≠ 0 then .trap s 0x02 0 (some a)
  else if regSpace ≤ a.toNat then .trap s 0x03 0 (some a)
  else r ()

/-- A register access in issue order (R45): the thread's earlier posted writes take effect first; an access whose
thread one of them halted, reset or moved is not made. -/
def State.busInOrder (s : State) (t : Tid) (k : State → IssueRes) : IssueRes :=
  let s' := s.drainPosted t
  if (s'.th t).st = .run ∧ (s'.th t).pc = (s.th t).pc then k s' else .done s'

/-- LDIO (R45): the thread's earlier writes take effect, and rd takes the register; while the register bus is
contended it waits. -/
def ldioBody (t : Tid) (contended : Bool) (f : IFields) (s : State) : IssueRes :=
  let a := (s.th t).addr f
  ioTrap s a fun _ =>
    if contended then .wait 8 none
    else s.busInOrder t fun s =>
      let (w, s) := s.busRead a.toNat
      .th s t fun x => (x.setRg f.rd w).advance

/-- LDIO rd, off(ra). -/
def execLdio (i : Issue) (f : IFields) (s : State) : Out :=
  .next (s.issue i (.ldio i f) (ldioBody i.thread i.contended f))

/-- STIO (R45): the thread goes on at once. An uncontended write takes effect after the thread's earlier ones; a
contended one is posted, and waits when four are. The PC moves on before the write acts, so that a write which
resets the device or halts the thread finds it past the STIO. -/
def stioBody (t : Tid) (contended : Bool) (f : IFields) (s : State) : IssueRes :=
  let x := s.th t
  let a := x.addr f
  let v := x.rg f.rd
  ioTrap s a fun _ =>
    if !contended then .done (((s.modTh t Thread.advance).drainPosted t).busWrite (.thread t) a.toNat v)
    else if 4 ≤ x.posted.length then .wait 9 none
    else .th s t fun x => { x.advance with posted := x.posted ++ [(a, v)] }

/-- STIO rd, off(ra). -/
def execStio (i : Issue) (f : IFields) (s : State) : Out :=
  .next (s.issue i (.stio i f) (stioBody i.thread i.contended f))

/-- CRCW ch, ra, width: a posted write of CCn_STATE before it takes effect first (R45, R293). -/
def execCrcw (i : Issue) (f : AFields) (s : State) : Out :=
  .next (s.issue i (.crcw i f) fun s => s.busInOrder i.thread (crcwBody i.thread f))

/-- CRCF rd, ch[, R], in issue order as CRCW. -/
def execCrcf (i : Issue) (f : AFields) (s : State) : Out :=
  .next (s.issue i (.crcf i f) fun s => s.busInOrder i.thread (crcfBody i.thread f))

/-! ### The end of a wait -/

/-- What the instruction of a thread in Wait does once it can go on (R22); SLEEPU ends by its own command. `bad`
says that a ring, descriptor or data word it then reads fails its parity check. -/
def waitBody (t : Tid) (bad : Bool) (ins : Instr) : Option (State → IssueRes) :=
  match ins with
  | .waitk _ f => some (waitkBody t f)
  | .waitany _ f => some (waitanyBody t f)
  | .pop _ f => some (popBody t bad f)
  | .push _ f => some (pushBody t f)
  | .evw _ f => some (evwBody t f)
  | .ldio _ f => some (ldioBody t false f)
  | .stio _ f => some (stioBody t false f)
  | .ld _ f => some (ldBody t bad f)
  | .air _ f => some (airBody t bad false f)
  | _ => none

/-- The wait condition of a thread is met (R22): its posted writes take effect, and the instruction that waits
completes, or times out where what it awaited came too late (R39, R48); one whose condition does not hold stays
in Wait. A fetch that waited for an XIP line is issued again. -/
def State.meetWait (s : State) (t : Tid) (bad : Bool) : State :=
  let s := s.drainPosted t
  let x := s.th t
  if x.st ≠ .wait then s
  else match x.waiting with
    | some ins =>
      (match waitBody t bad ins, x.tooLate, x.deadline with
      | some _, true, some d => s.timeUp t ins d
      | some body, _, _ => s.retry t body
      | none, _, _ => s)
    | none =>
      (match x.xipLine with
      | some l => if (s.cached l).isSome then s.modTh t Thread.resume else s
      | none => s)

/-- WAIT_CONDITION_MET (R22). A thread that does not wait sees its posted writes take effect (R45). -/
def execWaitConditionMet (t : Tid) (bad : Bool) (s : State) : Out := .next (s.meetWait t bad)

/-! ### Register writes -/

/-- REGISTER_WRITE (R4, R349): a write by the host, a thread or the test access port, the latter at debug level
0 (R318), over a powered register bus (R350). An address above the register space is outside every rule that
gives the access an effect, and stops. -/
def execRegisterWrite (by_ : Agent) (addr v : Word) (s : State) : Out :=
  let a := wordAddr addr
  if regSpace ≤ a then .fault (.outsideRegisterSpace addr)
  else
    let allowed := match by_ with
      | .tap => s.debugLevel == 0
      | _ => true
    .next (if s.powered && allowed then s.busWrite by_ a v else s)

end Sys2Proof.Machine
end

