-- ==== Sys2Proof/Machine/Dispatch.lean ====
section
/-!
DEFINITION. The meaning of every command, arm by arm.
-/

namespace Sys2Proof.Machine

/-- The effect of a command on everything but the queue. -/
def exec (i : Instr) (s : State) : Host.Outcome State Fault Refusal :=
  match i with
  | .add iss f => Sys2Proof.Machine.execAdd iss f s
  | .sub iss f => Sys2Proof.Machine.execSub iss f s
  | .and iss f => Sys2Proof.Machine.execAnd iss f s
  | .or iss f => Sys2Proof.Machine.execOr iss f s
  | .xor iss f => Sys2Proof.Machine.execXor iss f s
  | .shl iss f => Sys2Proof.Machine.execShl iss f s
  | .shr iss f => Sys2Proof.Machine.execShr iss f s
  | .sar iss f => Sys2Proof.Machine.execSar iss f s
  | .mul iss f => Sys2Proof.Machine.execMul iss f s
  | .min iss f => Sys2Proof.Machine.execMin iss f s
  | .max iss f => Sys2Proof.Machine.execMax iss f s
  | .cmp iss f => Sys2Proof.Machine.execCmp iss f s
  | .addi iss f => Sys2Proof.Machine.execAddi iss f s
  | .andi iss f => Sys2Proof.Machine.execAndi iss f s
  | .ori iss f => Sys2Proof.Machine.execOri iss f s
  | .lui iss f => Sys2Proof.Machine.execLui iss f s
  | .ld iss f => Sys2Proof.Machine.execLd iss f s
  | .st iss f => Sys2Proof.Machine.execSt iss f s
  | .ldio iss f => Sys2Proof.Machine.execLdio iss f s
  | .stio iss f => Sys2Proof.Machine.execStio iss f s
  | .b iss f => Sys2Proof.Machine.execB iss f s
  | .call iss f => Sys2Proof.Machine.execCall iss f s
  | .ret iss f => Sys2Proof.Machine.execRet iss f s
  | .air iss f => Sys2Proof.Machine.execAir iss f s
  | .waitk iss f => Sys2Proof.Machine.execWaitk iss f s
  | .testk iss f => Sys2Proof.Machine.execTestk iss f s
  | .waitany iss f => Sys2Proof.Machine.execWaitany iss f s
  | .canck iss f => Sys2Proof.Machine.execCanck iss f s
  | .push iss f => Sys2Proof.Machine.execPush iss f s
  | .pop iss f => Sys2Proof.Machine.execPop iss f s
  | .crcw iss f => Sys2Proof.Machine.execCrcw iss f s
  | .crcf iss f => Sys2Proof.Machine.execCrcf iss f s
  | .tbr iss f => Sys2Proof.Machine.execTbr iss f s
  | .sleepu iss f => Sys2Proof.Machine.execSleepu iss f s
  | .evw iss f => Sys2Proof.Machine.execEvw iss f s
  | .evs iss f => Sys2Proof.Machine.execEvs iss f s
  | .halt iss f => Sys2Proof.Machine.execHalt iss f s
  | .trap iss f => Sys2Proof.Machine.execTrap iss f s
  | .nop iss x => Sys2Proof.Machine.execNop iss x s
  | .waitConditionMet t dataErr => Sys2Proof.Machine.execWaitConditionMet t dataErr s
  | .sleepuExpiry t => Sys2Proof.Machine.execSleepuExpiry t s
  | .waitanyTimeout t => Sys2Proof.Machine.execWaitanyTimeout t s
  | .evwTimeout t => Sys2Proof.Machine.execEvwTimeout t s
  | .threadReset t v => Sys2Proof.Machine.execThreadReset t v s
  | .threadHalt t v => Sys2Proof.Machine.execThreadHalt t v s
  | .threadStart t v => Sys2Proof.Machine.execThreadStart t v s
  | .evsetWrite t v => Sys2Proof.Machine.execEvsetWrite t v s
  | .semaphoreRead k => Sys2Proof.Machine.execSemaphoreRead k s
  | .semaphoreRelease k => Sys2Proof.Machine.execSemaphoreRelease k s
  | .registerWrite by_ addr v => Sys2Proof.Machine.execRegisterWrite by_ addr v s
  | .refetchLineRewritten line data failed => Sys2Proof.Machine.execRefetchLineRewritten line data failed s
  | .startTimeReached o => Sys2Proof.Machine.execStartTimeReached o s
  | .operationDispatch o => Sys2Proof.Machine.execOperationDispatch o s
  | .operationExpiry o => Sys2Proof.Machine.execOperationExpiry o s
  | .cancelall v => Sys2Proof.Machine.execCancelall v s
  | .heldItemWritten o => Sys2Proof.Machine.execHeldItemWritten o s
  | .uSelect o => Sys2Proof.Machine.execUSelect o s
  | .uRound o => Sys2Proof.Machine.execURound o s
  | .uAccess o => Sys2Proof.Machine.execUAccess o s
  | .uRaw o => Sys2Proof.Machine.execURaw o s
  | .hField o => Sys2Proof.Machine.execHField o s
  | .hActivate o => Sys2Proof.Machine.execHActivate o s
  | .hFrame o parityErr => Sys2Proof.Machine.execHFrame o parityErr s
  | .hWatch o => Sys2Proof.Machine.execHWatch o s
  | .cListen o => Sys2Proof.Machine.execCListen o s
  | .cSend o parityErr => Sys2Proof.Machine.execCSend o parityErr s
  | .sFix o => Sys2Proof.Machine.execSFix o s
  | .kCalCnc o => Sys2Proof.Machine.execKCalCnc o s
  | .kCalIqr o => Sys2Proof.Machine.execKCalIqr o s
  | .kCalDpd o => Sys2Proof.Machine.execKCalDpd o s
  | .kCalPph o => Sys2Proof.Machine.execKCalPph o s
  | .kCalLbt o => Sys2Proof.Machine.execKCalLbt o s
  | .kCalHdi o => Sys2Proof.Machine.execKCalHdi o s
  | .kCalHro o => Sys2Proof.Machine.execKCalHro o s
  | .kCalMag o => Sys2Proof.Machine.execKCalMag o s
  | .kCalTsn o => Sys2Proof.Machine.execKCalTsn o s
  | .calPreconditionsEnd o c => Sys2Proof.Machine.execCalPreconditionsEnd o c s
  | .spareSwitch o => Sys2Proof.Machine.execSpareSwitch o s
  | .calMeasurementEnd o r => Sys2Proof.Machine.execCalMeasurementEnd o r s
  | .trimApplyStep => Sys2Proof.Machine.execTrimApplyStep s
  | .calNvWriteDone o => Sys2Proof.Machine.execCalNvWriteDone o s
  | .temperatureRecompute => Sys2Proof.Machine.execTemperatureRecompute s
  | .carrierSettled o dt => Sys2Proof.Machine.execCarrierSettled o dt s
  | .holdoverExpiry p => Sys2Proof.Machine.execHoldoverExpiry p s
  | .lbtListenEnd o levels => Sys2Proof.Machine.execLbtListenEnd o levels s
  | .replyPreambleDetected o dt d => Sys2Proof.Machine.execReplyPreambleDetected o dt d s
  | .noReplyDecision o energy => Sys2Proof.Machine.execNoReplyDecision o energy s
  | .collisionDecision o onset energy => Sys2Proof.Machine.execCollisionDecision o onset energy s
  | .replyEnd o dt r => Sys2Proof.Machine.execReplyEnd o dt r s
  | .dwellBoundary o dt => Sys2Proof.Machine.execDwellBoundary o dt s
  | .meterResume o => Sys2Proof.Machine.execMeterResume o s
  | .solveComplete o poison => Sys2Proof.Machine.execSolveComplete o poison s
  | .uhfPortFault p m => Sys2Proof.Machine.execUhfPortFault p m s
  | .uhfFaultProbe p pass => Sys2Proof.Machine.execUhfFaultProbe p pass s
  | .uhfFaultClear p v => Sys2Proof.Machine.execUhfFaultClear p v s
  | .uhfPortDisable p v => Sys2Proof.Machine.execUhfPortDisable p v s
  | .cancellerTrimStep p di dq resid => Sys2Proof.Machine.execCancellerTrimStep p di dq resid s
  | .agcStepDown p clips => Sys2Proof.Machine.execAgcStepDown p clips s
  | .agcStepUp p peak resid us => Sys2Proof.Machine.execAgcStepUp p peak resid us s
  | .agcOverloadStep p clips => Sys2Proof.Machine.execAgcOverloadStep p clips s
  | .agcUnfreeze p => Sys2Proof.Machine.execAgcUnfreeze p s
  | .hfReplyReceived o dt r => Sys2Proof.Machine.execHfReplyReceived o dt r s
  | .hfReplyWindowClose o => Sys2Proof.Machine.execHfReplyWindowClose o s
  | .hfFieldSettled o => Sys2Proof.Machine.execHfFieldSettled o s
  | .hfWatchScan o xs => Sys2Proof.Machine.execHfWatchScan o xs s
  | .watchStateScan xs => Sys2Proof.Machine.execWatchStateScan xs s
  | .rebase v => Sys2Proof.Machine.execRebase v s
  | .hfPortFault p m => Sys2Proof.Machine.execHfPortFault p m s
  | .hfFaultProbe p pass => Sys2Proof.Machine.execHfFaultProbe p pass s
  | .hfFaultClear p v => Sys2Proof.Machine.execHfFaultClear p v s
  | .chirpDetection p chan so dt level tracked => Sys2Proof.Machine.execChirpDetection p chan so dt level tracked s
  | .reanchor d dt level => Sys2Proof.Machine.execReanchor d dt level s
  | .headerVerdict d bits => Sys2Proof.Machine.execHeaderVerdict d bits s
  | .preempted d dt level tracked => Sys2Proof.Machine.execPreempted d dt level tracked s
  | .payloadVerdict d dt bytes poison => Sys2Proof.Machine.execPayloadVerdict d dt bytes poison s
  | .listenWindowClose o => Sys2Proof.Machine.execListenWindowClose o s
  | .cSendClaim o => Sys2Proof.Machine.execCSendClaim o s
  | .cSendFrameEnd o => Sys2Proof.Machine.execCSendFrameEnd o s
  | .dutyBucketRoll => Sys2Proof.Machine.execDutyBucketRoll s
  | .ringEnable n v => Sys2Proof.Machine.execRingEnable n v s
  | .ringDisable n v => Sys2Proof.Machine.execRingDisable n v s
  | .flush n v => Sys2Proof.Machine.execFlush n v s
  | .ringPointerReset n => Sys2Proof.Machine.execRingPointerReset n s
  | .transferRequest x => Sys2Proof.Machine.execTransferRequest x s
  | .transferMove x bad => Sys2Proof.Machine.execTransferMove x bad s
  | .egressDecision bad => Sys2Proof.Machine.execEgressDecision bad s
  | .shaperRefill => Sys2Proof.Machine.execShaperRefill s
  | .deficitReplenish => Sys2Proof.Machine.execDeficitReplenish s
  | .meterColourChange t us => Sys2Proof.Machine.execMeterColourChange t us s
  | .meterEnable t v => Sys2Proof.Machine.execMeterEnable t v s
  | .ingressMeterEnable iss v => Sys2Proof.Machine.execIngressMeterEnable iss v s
  | .latencySample => Sys2Proof.Machine.execLatencySample s
  | .snap v => Sys2Proof.Machine.execSnap v s
  | .clear v => Sys2Proof.Machine.execClear v s
  | .regrd f => Sys2Proof.Machine.execRegrd f s
  | .regwr f => Sys2Proof.Machine.execRegwr f s
  | .ringwr f => Sys2Proof.Machine.execRingwr f s
  | .ringrd f => Sys2Proof.Machine.execRingrd f s
  | .resend f => Sys2Proof.Machine.execResend f s
  | .stop f => Sys2Proof.Machine.execStop f s
  | .enclave f => Sys2Proof.Machine.execEnclave f s
  | .enclaveFetch f => Sys2Proof.Machine.execEnclaveFetch f s
  | .load f => Sys2Proof.Machine.execLoad f s
  | .loadRepair f => Sys2Proof.Machine.execLoadRepair f s
  | .noframe sel => Sys2Proof.Machine.execNoframe sel s
  | .truncated hdr sel => Sys2Proof.Machine.execTruncated hdr sel s
  | .splitFrameTimeout => Sys2Proof.Machine.execSplitFrameTimeout s
  | .hostSilentTimeout => Sys2Proof.Machine.execHostSilentTimeout s
  | .xipLineFill line flash => Sys2Proof.Machine.execXipLineFill line flash s
  | .inval v => Sys2Proof.Machine.execInval v s
  | .msDcmdGo v => Sys2Proof.Machine.execMsDcmdGo v s
  | .directCommandDone rx => Sys2Proof.Machine.execDirectCommandDone rx s
  | .psQentWrite v => Sys2Proof.Machine.execPsQentWrite v s
  | .pspWordDone rx => Sys2Proof.Machine.execPspWordDone rx s
  | .contbrk => Sys2Proof.Machine.execContbrk s
  | .psRxRead => Sys2Proof.Machine.execPsRxRead s
  | .psFlush v => Sys2Proof.Machine.execPsFlush v s
  | .zcEdge dt => Sys2Proof.Machine.execZcEdge dt s
  | .zcLost => Sys2Proof.Machine.execZcLost s
  | .cycleStart => Sys2Proof.Machine.execCycleStart s
  | .backoffExpiry draw => Sys2Proof.Machine.execBackoffExpiry draw s
  | .mlFrameTransmit dt x => Sys2Proof.Machine.execMlFrameTransmit dt x s
  | .beacon dt f => Sys2Proof.Machine.execBeacon dt f s
  | .dataFrame dt f => Sys2Proof.Machine.execDataFrame dt f s
  | .sack dt f => Sys2Proof.Machine.execSack dt f s
  | .sackMissing => Sys2Proof.Machine.execSackMissing s
  | .sounding dt f => Sys2Proof.Machine.execSounding dt f s
  | .segmentGiveUp src link broadcast => Sys2Proof.Machine.execSegmentGiveUp src link broadcast s
  | .assocReq dt f => Sys2Proof.Machine.execAssocReq dt f s
  | .assocRsp dt f => Sys2Proof.Machine.execAssocRsp dt f s
  | .assocConf dt f => Sys2Proof.Machine.execAssocConf dt f s
  | .tmap dt f => Sys2Proof.Machine.execTmap dt f s
  | .soundReq dt f => Sys2Proof.Machine.execSoundReq dt f s
  | .allocReq dt f => Sys2Proof.Machine.execAllocReq dt f s
  | .key dt f => Sys2Proof.Machine.execKey dt f s
  | .pairReq dt f => Sys2Proof.Machine.execPairReq dt f s
  | .pairRsp dt f => Sys2Proof.Machine.execPairRsp dt f s
  | .pairConf dt f => Sys2Proof.Machine.execPairConf dt f s
  | .leave dt f => Sys2Proof.Machine.execLeave dt f s
  | .mlAdmitWrite v => Sys2Proof.Machine.execMlAdmitWrite v s
  | .associationTimeout idx => Sys2Proof.Machine.execAssociationTimeout idx s
  | .tmapPeriodExpiry src => Sys2Proof.Machine.execTmapPeriodExpiry src s
  | .controlFrame dt f => Sys2Proof.Machine.execControlFrame dt f s
  | .beaconMissed => Sys2Proof.Machine.execBeaconMissed s
  | .beaconLoss10s => Sys2Proof.Machine.execBeaconLoss10s s
  | .lineShort => Sys2Proof.Machine.execLineShort s
  | .lineOpen => Sys2Proof.Machine.execLineOpen s
  | .referenceQualified refin => Sys2Proof.Machine.execReferenceQualified refin s
  | .refloss => Sys2Proof.Machine.execRefloss s
  | .mpllLocked => Sys2Proof.Machine.execMpllLocked s
  | .mpllUnlock => Sys2Proof.Machine.execMpllUnlock s
  | .mpllSettleDone => Sys2Proof.Machine.execMpllSettleDone s
  | .relockslow => Sys2Proof.Machine.execRelockslow s
  | .loUnlock n => Sys2Proof.Machine.execLoUnlock n s
  | .loRelockEnd n dt band vtune errs => Sys2Proof.Machine.execLoRelockEnd n dt band vtune errs s
  | .loStepEnd n dt errs => Sys2Proof.Machine.execLoStepEnd n dt errs s
  | .epochTick => Sys2Proof.Machine.execEpochTick s
  | .epochiEdge dt => Sys2Proof.Machine.execEpochiEdge dt s
  | .epochlost => Sys2Proof.Machine.execEpochlost s
  | .realign v => Sys2Proof.Machine.execRealign v s
  | .clkoutConfig k v => Sys2Proof.Machine.execClkoutConfig k v s
  | .arm v => Sys2Proof.Machine.execArm v s
  | .timerWrap u => Sys2Proof.Machine.execTimerWrap u s
  | .compareMatch u k => Sys2Proof.Machine.execCompareMatch u k s
  | .captureEdge u k rising dt => Sys2Proof.Machine.execCaptureEdge u k rising dt s
  | .swcap u k => Sys2Proof.Machine.execSwcap u k s
  | .timerClr u v => Sys2Proof.Machine.execTimerClr u v s
  | .check c v => Sys2Proof.Machine.execCheck c v s
  | .initnow c v => Sys2Proof.Machine.execInitnow c v s
  | .ccStateRestore c v => Sys2Proof.Machine.execCcStateRestore c v s
  | .poweron => Sys2Proof.Machine.execPoweron s
  | .resetn => Sys2Proof.Machine.execResetn s
  | .brownout => Sys2Proof.Machine.execBrownout s
  | .softwareReset v => Sys2Proof.Machine.execSoftwareReset v s
  | .debugReset => Sys2Proof.Machine.execDebugReset s
  | .debugHalt t => Sys2Proof.Machine.execDebugHalt t s
  | .bootImageReady image => Sys2Proof.Machine.execBootImageReady image s
  | .ready bad => Sys2Proof.Machine.execReady bad s
  | .powerReqRun => Sys2Proof.Machine.execPowerReqRun s
  | .powerReqIdle => Sys2Proof.Machine.execPowerReqIdle s
  | .powerReqWatch => Sys2Proof.Machine.execPowerReqWatch s
  | .powerReqHibernate => Sys2Proof.Machine.execPowerReqHibernate s
  | .powerReqHibernateClocked => Sys2Proof.Machine.execPowerReqHibernateClocked s
  | .powerStateEntry => Sys2Proof.Machine.execPowerStateEntry s
  | .wake => Sys2Proof.Machine.execWake s
  | .acokWake => Sys2Proof.Machine.execAcokWake s
  | .wakeCounterExpiry => Sys2Proof.Machine.execWakeCounterExpiry s
  | .hkAdcSequence xs => Sys2Proof.Machine.execHkAdcSequence xs s
  | .railWarning rail below => Sys2Proof.Machine.execRailWarning rail below s
  | .acokLossConfirmed => Sys2Proof.Machine.execAcokLossConfirmed s
  | .acokRestoreConfirmed => Sys2Proof.Machine.execAcokRestoreConfirmed s
  | .shedLevelEntry => Sys2Proof.Machine.execShedLevelEntry s
  | .shedRestore => Sys2Proof.Machine.execShedRestore s
  | .discard v => Sys2Proof.Machine.execDiscard v s
  | .go by_ v => Sys2Proof.Machine.execGo by_ v s
  | .done by_ v => Sys2Proof.Machine.execDone by_ v s
  | .getCert => Sys2Proof.Machine.execGetCert s
  | .sign => Sys2Proof.Machine.execSign s
  | .getProfile => Sys2Proof.Machine.execGetProfile s
  | .change nvFail => Sys2Proof.Machine.execChange nvFail s
  | .imageSig => Sys2Proof.Machine.execImageSig s
  | .mailboxResponseReady => Sys2Proof.Machine.execMailboxResponseReady s
  | .mailboxResponseDiscard => Sys2Proof.Machine.execMailboxResponseDiscard s
  | .profileCommit => Sys2Proof.Machine.execProfileCommit s
  | .residueMismatch source => Sys2Proof.Machine.execResidueMismatch source s
  | .recomputationDone source again => Sys2Proof.Machine.execRecomputationDone source again s
  | .iopad source persists => Sys2Proof.Machine.execIopad source persists s
  | .resetRelease boot => Sys2Proof.Machine.execResetRelease boot s
  | .identifierEnd d dt netid rssi snr offset => Sys2Proof.Machine.execIdentifierEnd d dt netid rssi snr offset s
  | .tunewarn n vtune => Sys2Proof.Machine.execTunewarn n vtune s
  | .silentWindow noise => Sys2Proof.Machine.execSilentWindow noise s
  | .replyCap o => Sys2Proof.Machine.execReplyCap o s

end Sys2Proof.Machine
end

