-- ==== Sys2Proof/Machine/Fetch.lean ====
section
/-!
DEFINITION. A thread's instruction fetch (R27, R30 to R32): the word at its PC, and the issue of the instruction
that word spells.
-/

namespace Sys2Proof.Machine

/-- The word at a thread's PC: in the program store, or in a cached line of the XIP window (R27). -/
def State.fetched (s : State) (t : Tid) : Option Word :=
  let pc := (s.th t).pc
  if inStore pc then some (Memory.word s.pstore (pc.toNat - 0x10000000))
  else if inXip pc then (s.cached (xipLine pc)).map fun ws => ws.getD (bits pc 2 3) 0
  else none

/-- The issue slot of a thread that runs from its memory: the word at the PC runs as the instruction it spells;
a word of an opcode absent from R34 traps ILLEGAL (R32). -/
def runFetched (i : Issue) (s : State) : Host.Outcome State Fault Refusal :=
  match s.fetched i.thread with
  | none => .next (s.issue i (.nop i 0) .done)
  | some w =>
    match decodeBenlon i w with
    | some c => exec c s
    | none => .next (s.issue i (.nop i 0) illegal)

end Sys2Proof.Machine
end

