-- ==== Sys2Proof/Safety.lean ====
section
/-!
DEFINITION. What a sound state is, in the terms the statements use: the canonical form every step keeps, and the
condition under which a thread's issue slot runs the instruction given to it.
-/

namespace Sys2Proof.Machine

/-- A thread's memory is canonical, its return stack holds at most 8 entries (R35) and at most four of its writes
are posted (R45). -/
def Thread.sound (x : Thread) : Prop := Memory.wf x.mem ∧ x.rstack.length ≤ 8 ∧ x.posted.length ≤ 4

/-- The registers and every memory hold their canonical form, so that equal contents are equal data, and every
thread is sound. -/
def State.sound (s : State) : Prop :=
  s.regsWf ∧ Memory.wf s.smem ∧ Memory.wf s.pstore ∧ Memory.wf s.nv.snap ∧ ∀ t, (s.th t).sound

/-- The fetch of an issue slot succeeds: no parity error in the program-store line (R30), and from the XIP window
a served window (R221) and a cached line without a parity error (R222). -/
def State.fetches (s : State) (i : Issue) : Prop :=
  let pc := (s.th i.thread).pc
  (inStore pc = true → i.fetchErr = false ∧ storeLine pc ∉ s.image.bad) ∧
  (inXip pc = true → s.xipOn = true ∧ (s.cached (xipLine pc)).isSome = true ∧ i.fetchErr = false)

/-- The issue slot runs its instruction: the thread is in Run (R20, R22) and its fetch succeeds. -/
def State.issues (s : State) (i : Issue) : Prop := (s.th i.thread).st = .run ∧ s.fetches i

end Sys2Proof.Machine
end

