-- ==== Sys2Proof/Certificates/Slice0/Obligations.lean ====
section
/-!
DEFINITION. The statements for the provers, family by family, each about every state and operand that meets its
hypotheses; the small definitions they share stand first.
-/

open Sys2Proof Sys2Proof.Machine

namespace Sys2Proof.Machine

/-! ### Words the statements share -/

/-- A thread and a later state of it agree but for the general registers, the flags and the program counter. -/
def Thread.sameBut (x y : Thread) : Prop := y = { x with g := y.g, z := y.z, n := y.n, c := y.c, v := y.v, pc := y.pc }

/-- `y` has the general registers of `x` but for rd, which holds `r`; g0 keeps reading 0 (R21). -/
def Thread.wrote (x y : Thread) (rd : BitVec 4) (r : Word) : Prop :=
  ∀ q, y.rg q = if q = rd ∧ q ≠ 0 then r else x.rg q

/-- `y` has the flags of `x`. -/
def Thread.flagsOf (x y : Thread) : Prop := y.z = x.z ∧ y.n = x.n ∧ y.c = x.c ∧ y.v = x.v

/-- The command completes: it answers a next state that differs in thread `t` alone, which meets `post`. -/
def Completes (c : Instr) (t : Tid) (s : State) (post : Thread → Thread → Prop) : Prop :=
  ∃ y, exec c s = .next (s.setTh t y) ∧ post (s.th t) y

/-- The command completes in the issue slot `i`: beside the XIP line it is fetched from, which becomes the most recently
used (R27, R222), the next state differs in the issuing thread alone, which meets `post`. -/
def Runs (c : Instr) (i : Issue) (s : State) (post : Thread → Thread → Prop) : Prop :=
  ∃ y, exec c s = .next ((s.touched i.thread).setTh i.thread y) ∧ post (s.th i.thread) y

/-- The fields of ADD to CMP obey R32: the immediate form has rb 0, the register form fn[12:0] 0. -/
def aluLegal (f : AFields) : Prop := if f.fn.getLsbD 13 then f.rb = 0 else f.fn.toNat % 0x2000 = 0

/-- The second operand of ADD to CMP by R32. -/
def aluB (x : Thread) (f : AFields) : Word :=
  if f.fn.getLsbD 13 then BitVec.ofNat 32 (f.fn.toNat % 0x2000) else x.rg f.rb

/-- The rule of one A-format instruction: its result and its C and V, which may keep their old value. -/
def AluRule (c : Issue → AFields → Instr) (ok : AFields → Prop) (r : Word → Word → Word)
    (cf vf : Word → Word → Bool → Bool) : Prop :=
  ∀ (s : State) (i : Issue) (f : AFields), s.issues i → aluLegal f → ok f →
    Runs (c i f) i s fun x y =>
      let a := x.rg f.ra
      let b := aluB x f
      x.wrote y f.rd (r a b) ∧ y.z = decide (r a b = 0) ∧ y.n = (r a b).getLsbD 31 ∧ y.c = cf a b x.c ∧
      y.v = vf a b x.v ∧ y.pc = x.pc + 4 ∧ x.sameBut y

/-- The rule of one I-format instruction. -/
def ImmRule (c : Issue → IFields → Instr) (r : Word → BitVec 18 → Word) (cf vf : Word → BitVec 18 → Bool → Bool) : Prop :=
  ∀ (s : State) (i : Issue) (f : IFields), s.issues i →
    Runs (c i f) i s fun x y =>
      let a := x.rg f.ra
      x.wrote y f.rd (r a f.imm) ∧ y.z = decide (r a f.imm = 0) ∧ y.n = (r a f.imm).getLsbD 31 ∧
      y.c = cf a f.imm x.c ∧ y.v = vf a f.imm x.v ∧ y.pc = x.pc + 4 ∧ x.sameBut y

/-- An integer lies outside the 32-bit signed range. -/
def outside32 (n : Int) : Bool := decide (n < -2147483648 ∨ 2147483647 < n)

end Sys2Proof.Machine

/-! ### Thread arithmetic (R32, R34) -/

/-- The register and short-immediate forms of the ALU (R32, R34): the result, Z and N of it. ADD, SUB, MUL and CMP give C
as the carry out, no borrow or a nonzero high half, and V as signed overflow; CMP writes no register. AND, OR, XOR, MIN
and MAX keep C and V. SHL, SHR and SAR by n = B[4:0] multiply or divide by 2^n, C taking the last bit shifted out and
keeping for n = 0; V keeps. Only the thread changes. -/
def Obligations.AluRegisterFormsResultAndFlags : Prop :=
  (AluRule .add (fun _ => True) (fun a b => a + b) (fun a b _ => decide (2 ^ 32 ≤ a.toNat + b.toNat))
    (fun a b _ => outside32 (a.toInt + b.toInt)) ∧
  AluRule .sub (fun _ => True) (fun a b => a - b) (fun a b _ => decide (b.toNat ≤ a.toNat))
    (fun a b _ => outside32 (a.toInt - b.toInt)) ∧
  AluRule .mul (fun _ => True) (fun a b => a * b) (fun a b _ => decide (a.toNat * b.toNat / 2 ^ 32 ≠ 0))
    (fun a b _ => outside32 (a.toInt * b.toInt)) ∧
  AluRule .cmp (fun f => f.rd = 0) (fun a b => a - b) (fun a b _ => decide (b.toNat ≤ a.toNat))
    (fun a b _ => outside32 (a.toInt - b.toInt))) ∧
  ((AluRule .and (fun _ => True) (fun a b => a &&& b) (fun _ _ c => c) (fun _ _ v => v) ∧
  AluRule .or (fun _ => True) (fun a b => a ||| b) (fun _ _ c => c) (fun _ _ v => v) ∧
  AluRule .xor (fun _ => True) (fun a b => a ^^^ b) (fun _ _ c => c) (fun _ _ v => v) ∧
  AluRule .min (fun _ => True) (fun a b => if a.toInt ≤ b.toInt then a else b) (fun _ _ c => c) (fun _ _ v => v) ∧
  AluRule .max (fun _ => True) (fun a b => if a.toInt ≤ b.toInt then b else a) (fun _ _ c => c) (fun _ _ v => v)) ∧
  (AluRule .shl (fun _ => True) (fun a b => BitVec.ofNat 32 (a.toNat * 2 ^ (b.toNat % 32)))
    (fun a b c => if b.toNat % 32 = 0 then c else decide (a.toNat / 2 ^ (32 - b.toNat % 32) % 2 = 1)) (fun _ _ v => v) ∧
  AluRule .shr (fun _ => True) (fun a b => BitVec.ofNat 32 (a.toNat / 2 ^ (b.toNat % 32)))
    (fun a b c => if b.toNat % 32 = 0 then c else decide (a.toNat / 2 ^ (b.toNat % 32 - 1) % 2 = 1)) (fun _ _ v => v) ∧
  AluRule .sar (fun _ => True) (fun a b => BitVec.ofInt 32 (a.toInt / 2 ^ (b.toNat % 32)))
    (fun a b c => if b.toNat % 32 = 0 then c else decide (a.toNat / 2 ^ (b.toNat % 32 - 1) % 2 = 1)) (fun _ _ v => v)))

/-- ADDI, ANDI and ORI on the 18-bit immediate, sign-extended for ADDI and zero-extended for the others, and LUI,
which writes imm18 << 14 and changes no flag (R34). -/
def Obligations.AluImmediateFormsResultAndFlags : Prop :=
  ImmRule .addi (fun a i => a + BitVec.ofInt 32 i.toInt)
    (fun a i _ => decide (2 ^ 32 ≤ a.toNat + (BitVec.ofInt 32 i.toInt).toNat)) (fun a i _ => outside32 (a.toInt + i.toInt)) ∧
  ImmRule .andi (fun a i => a &&& BitVec.ofNat 32 i.toNat) (fun _ _ c => c) (fun _ _ v => v) ∧
  ImmRule .ori (fun a i => a ||| BitVec.ofNat 32 i.toNat) (fun _ _ c => c) (fun _ _ v => v) ∧
  ∀ (s : State) (i : Issue) (f : IFields), s.issues i → f.ra = 0 →
    Runs (.lui i f) i s fun x y =>
      x.wrote y f.rd (BitVec.ofNat 32 (f.imm.toNat * 2 ^ 14)) ∧ x.flagsOf y ∧ y.pc = x.pc + 4 ∧ x.sameBut y

/-! ### Thread memory, registers and control (R27 to R35, R45, R49, R50, R52) -/

namespace Sys2Proof.Machine

/-- The address of LD, ST, LDIO, STIO and AIR: ra + sx(off18). -/
def memAddr (x : Thread) (f : IFields) : Word := x.rg f.ra + BitVec.ofInt 32 f.imm.toInt

/-- A load leaves the word in rd, the flags as they were and the PC at the next instruction. -/
def Loaded (f : IFields) (w : Word) (x y : Thread) : Prop :=
  x.wrote y f.rd w ∧ x.flagsOf y ∧ y.pc = x.pc + 4 ∧ x.sameBut y

/-- Byte `k` of a word as it stands in memory, the most significant first (assumption 3). -/
def byteAt (w : Word) (k : Nat) : Byte := BitVec.ofNat 8 (w.toNat / 2 ^ (8 * (3 - k)))

/-- `m'` is `m` with the word `w` in the four bytes from `a`, every other byte as before. -/
def Stored (m m' : Mem) (a : Nat) (w : Word) : Prop :=
  ∀ b, Memory.byte m' b = if a ≤ b ∧ b < a + 4 then byteAt w (b - a) else Memory.byte m b

/-- The condition of B by R33, for cond 0 to 0xE. -/
def taken (x : Thread) (cond : BitVec 4) : Option Bool :=
  [true, x.z, !x.z, x.c, !x.c, x.n, !x.n, x.v, !x.v, x.c && !x.z, !x.c || x.z, x.n == x.v, x.n != x.v,
    !x.z && x.n == x.v, x.z || x.n != x.v][cond.toNat]?

/-- Ticks of a duration in µs at 216.96 ticks per µs, rounded up (R49). -/
def ticksOf (us : Nat) : Nat := (21696 * us + 99) / 100

/-- Trap entry by R22 and R52, as it shows in the state after: what the trapping thread saves and where it goes on,
the thread-trap fault when it does not vector, and all that a trap leaves alone. -/
def Trapped (s s' : State) (t : Tid) (cause arg : Nat) (ret : Word) (addr : Option Word) : Prop :=
  let x := s.th t
  let y := s'.th t
  y.tpc = ret ∧
  y.tcause = BitVec.ofNat 32 (cause + 0x100 * arg + (if x.tactive then 0x10000 else 0)) ∧
  (∀ a, addr = some a → y.taddr = a &&& 0xFFFFFFFC) ∧
  y.g = x.g ∧ x.flagsOf y ∧ y.rstack = x.rstack ∧ y.mem = x.mem ∧ y.slots = x.slots ∧
  (if x.tven ∧ x.tactive = false then y.st = .run ∧ y.pc = x.tvec ∧ y.tactive = true ∧ s'.regs = s.regs
   else y.st = .trapped ∧ y.tactive = x.tactive ∧ (s'.reg FLT_STATUS).getLsbD 10 = true) ∧
  (∀ u, u ≠ t → ∃ e m, s'.th u = { s.th u with event := e, met := m }) ∧
  s'.smem = s.smem ∧ s'.pstore = s.pstore ∧ s'.rings = s.rings ∧ s'.ops = s.ops

end Sys2Proof.Machine

/-- LD (R27, R30, R222): from local memory, from a program-store line that is good, from shared memory and from a cached line
of a served XIP window; the flags keep, and only the thread, and for a XIP hit the order of the cache, changes. ST (R27,
R28): to local and to shared memory, the four bytes at ra + sx(off18) and no other byte; rd, every register and flag
keep. The byte order within a word is the model's reading (assumption 3). -/
def Obligations.LoadsReadAndStoresWriteOneWord : Prop :=
  (∀ (s : State) (i : Issue) (f : IFields), s.issues i → i.dataErr = false →
    let a := (memAddr (s.th i.thread) f).toNat
    a % 4 = 0 →
    (a < 0x800 → Runs (.ld i f) i s fun x y => Loaded f (Memory.word x.mem a) x y) ∧
    (0x10000000 ≤ a → a < 0x10040000 → (a - 0x10000000) / 32 ∉ s.image.bad →
      Runs (.ld i f) i s fun x y => Loaded f (Memory.word s.pstore (a - 0x10000000)) x y) ∧
    (0x11000000 ≤ a → a < 0x11040000 →
      Runs (.ld i f) i s fun x y => Loaded f (Memory.word s.smem (a - 0x11000000)) x y) ∧
    (0x20000000 ≤ a → a < 0x21000000 → s.xipOn = true → ∀ ws, s.cached ((a - 0x20000000) / 32) = some ws →
      ∃ y, exec (.ld i f) s = .next (((s.touched i.thread).touchLine ((a - 0x20000000) / 32)).setTh i.thread y) ∧
        Loaded f (ws.getD (a / 4 % 8) 0) (s.th i.thread) y)) ∧
  (∀ (s : State) (i : Issue) (f : IFields), s.sound → s.issues i →
    let a := (memAddr (s.th i.thread) f).toNat
    a % 4 = 0 →
    (a < 0x800 → Runs (.st i f) i s fun x y =>
      Stored x.mem y.mem a (x.rg f.rd) ∧ y = { x with mem := y.mem, pc := x.pc + 4 }) ∧
    (0x11000000 ≤ a → a < 0x11040000 →
      ∃ m, exec (.st i f) s =
          .next ({ s.touched i.thread with smem := m }.setTh i.thread { s.th i.thread with pc := (s.th i.thread).pc + 4 }) ∧
        Stored s.smem m (a - 0x11000000) ((s.th i.thread).rg f.rd)))

/-- LDIO and STIO on an uncontended register bus (R45): the thread's posted writes take effect first; LDIO then gives
rd the register at ra + sx(off18), or is not made when one of them halted, reset or moved the thread (assumption 14);
STIO writes rd there with the PC already past it; a contended LDIO waits, and a contended STIO with fewer than four
writes posted is posted. -/
def Obligations.LdioReadsAndStioWritesRegisters : Prop :=
  ∀ (s : State) (i : Issue) (f : IFields), s.issues i →
    let a := memAddr (s.th i.thread) f
    a.toNat % 4 = 0 → a.toNat < 0x130000 →
    (i.contended = false →
      (let s1 := (s.touched i.thread).drainPosted i.thread
       let ready := (s1.th i.thread).st = .run ∧ (s1.th i.thread).pc = (s.th i.thread).pc
       (ready → ∃ y, exec (.ldio i f) s = .next ((s1.busRead a.toNat).2.setTh i.thread y) ∧
         Loaded f (s1.busRead a.toNat).1 ((s1.busRead a.toNat).2.th i.thread) y) ∧
       (¬ ready → exec (.ldio i f) s = .next s1)) ∧
      exec (.stio i f) s = .next
        ((((s.touched i.thread).setTh i.thread
            { s.th i.thread with pc := (s.th i.thread).pc + 4 }).drainPosted i.thread).busWrite
          (.thread i.thread) a.toNat ((s.th i.thread).rg f.rd))) ∧
    (i.contended = true → Runs (.ldio i f) i s fun x y =>
      y = { x with st := .wait, waiting := some (.ldio i f), waitOn := 8, deadline := none, xipLine := none, met := none }) ∧
    (i.contended = true → (s.th i.thread).posted.length < 4 →
      Runs (.stio i f) i s fun x y =>
        y = { x with pc := x.pc + 4, posted := x.posted ++ [(a, x.rg f.rd)] })

/-- A register write in the blocks whose registers have no effect beyond their fields (R4, R5, R348): each bit by its
access type, every other register and the rest of the machine unchanged; an unassigned offset ignores it. A write at or
above 0x0013_0000, which R17 gives no block, stops the machine under its own name. -/
def Obligations.RegisterWritesFollowAccessTypes : Prop :=
  (∀ (s : State) (by_ : Agent) (addr v : Word), s.sound → s.powered = true → by_ ≠ .tap →
    let a := addr.toNat / 4 * 4
    (a / 0x10000 = 5 ∨ a / 0x10000 = 6 ∨ a / 0x10000 = 15 ∨ a / 0x10000 = 17 ∨ a / 0x10000 = 18) →
    (regRow a = none → exec (.registerWrite by_ addr v) s = .next s) ∧
    ∀ r, regRow a = some r → ∃ t : State, exec (.registerWrite by_ addr v) s = .next t ∧ t = { s with regs := t.regs } ∧
      (∀ b, b ≠ a → t.reg b = s.reg b) ∧
      ∀ k : Fin 32,
        (r.rw[k] = true → r.w1c[k] = false → r.w1s[k] = false → (t.reg a)[k] = v[k]) ∧
        (r.rw[k] = false → r.w1c[k] = true → r.w1s[k] = false → (t.reg a)[k] = ((s.reg a)[k] && !v[k])) ∧
        (r.rw[k] = false → r.w1c[k] = false → r.w1s[k] = true → (t.reg a)[k] = ((s.reg a)[k] || v[k])) ∧
        (r.rw[k] = false → r.w1c[k] = false → r.w1s[k] = false → (t.reg a)[k] = (s.reg a)[k])) ∧
  (∀ (s : State) (by_ : Agent) (addr v : Word), 0x130000 ≤ addr.toNat →
    exec (.registerWrite by_ addr v) s = .fault (.outsideRegisterSpace addr))

/-- B, CALL and RET (R33 to R35): the target is PC + 4 × sx(off22); CALL pushes PC + 4 on a stack of fewer than 8;
RET pops it, and its register forms go to an aligned ra, RET.T leaving the trap handler. -/
def Obligations.BranchesAndCallsSetThePc : Prop :=
  ∀ (s : State) (i : Issue) , s.issues i →
    (∀ f b, taken (s.th i.thread) f.cond = some b → Runs (.b i f) i s fun x y =>
      y = { x with pc := if b then x.pc + BitVec.ofInt 32 (4 * f.off.toInt) else x.pc + 4 }) ∧
    (∀ f, f.cond = 0 → (s.th i.thread).rstack.length < 8 → Runs (.call i f) i s fun x y =>
      y = { x with pc := x.pc + BitVec.ofInt 32 (4 * f.off.toInt), rstack := (x.pc + 4) :: x.rstack }) ∧
    (∀ f a rest, f.fn = 0 → f.rd = 0 → f.ra = 0 → f.rb = 0 → (s.th i.thread).rstack = a :: rest →
      Runs (.ret i f) i s fun x y => y = { x with pc := a, rstack := rest }) ∧
    (∀ f, f.fn = 1 → f.rd = 0 → f.rb = 0 → ((s.th i.thread).rg f.ra).toNat % 4 = 0 →
      Runs (.ret i f) i s fun x y => y = { x with pc := x.rg f.ra }) ∧
    (∀ f, f.fn = 2 → f.rd = 0 → f.rb = 0 → ((s.th i.thread).rg f.ra).toNat % 4 = 0 → (s.th i.thread).tactive = true →
      Runs (.ret i f) i s fun x y => y = { x with pc := x.rg f.ra, tactive := false })

/-- TBR captures both halves of the timebase into an even pair from g2 to g14 (R50), which in limp operation reads a
multiple of 8 (R255); NOP only moves on, whatever its
bits [25:0]; HALT enters Halted with HALTSRC 1 at the next instruction (R22). SLEEPU waits from its issue until the
timebase has advanced by at least ra + zx(imm18) µs, at 216.96 ticks per µs rounded up; a total of 0 gives up one issue
slot (R49). -/
def Obligations.TbrSleepuNopAndHaltEffects : Prop :=
  (∀ (s : State) (i : Issue), s.issues i →
    (∀ f, f.fn = 0 → f.ra = 0 → f.rb = 0 → f.rd.toNat % 2 = 0 → f.rd ≠ 0 → Runs (.tbr i f) i s fun x y =>
      let tb : BitVec 64 := if s.clk.limp then BitVec.ofNat 64 (s.tb.toNat / 8 * 8) else s.tb
      (∀ q, y.rg q = if q = f.rd then tb.extractLsb' 0 32 else if q = f.rd + 1 then tb.extractLsb' 32 32 else x.rg q) ∧
      x.flagsOf y ∧ y.pc = x.pc + 4 ∧ x.sameBut y) ∧
    (∀ w, Runs (.nop i w) i s fun x y => y = { x with pc := x.pc + 4 }) ∧
    (∀ f, f.fn = 0 → f.rd = 0 → f.ra = 0 → f.rb = 0 → Runs (.halt i f) i s fun x y =>
      y.st = .halted ∧ y.haltsrc = 1 ∧ y.pc = x.pc + 4 ∧ y.g = x.g ∧ x.flagsOf y ∧ y.rstack = x.rstack ∧
      y.slots = x.slots ∧ y.mem = x.mem ∧ y.event = x.event)) ∧
  (∀ (s : State) (i : Issue) (f : IFields), s.issues i → f.rd = 0 →
    let us := ((s.th i.thread).rg f.ra).toNat + f.imm.toNat
    (us = 0 → Runs (.sleepu i f) i s fun x y => y = { x with pc := x.pc + 4 }) ∧
    (us ≠ 0 → Runs (.sleepu i f) i s fun x y =>
      y = { x with st := .wait, waiting := some (.sleepu i f), waitOn := 6, deadline := some (s.ticks + ticksOf us),
                   xipLine := none, met := none }))

/-- TRAP takes a software trap with ARG = imm18[7:0], THn_TPC holding the address of the next instruction (R52). A trap is
precise (R52, R53): a misaligned LD or ST, one outside the data space, a CALL on a full stack, a RET on an empty one,
RET.T outside a handler, an illegal field and a reserved condition each take the trap of their cause, with no effect and
with THn_TPC at the trapping instruction. -/
def Obligations.TrapsArePreciseWithTheirCause : Prop :=
  (∀ (s : State) (i : Issue) (f : IFields), s.sound → s.issues i → f.rd = 0 → f.ra = 0 → f.imm.toNat < 0x100 →
    ∃ s' : State, exec (.trap i f) s = .next s' ∧
      Trapped s s' i.thread 0x20 f.imm.toNat ((s.th i.thread).pc + 4) none) ∧
  (∀ (s : State) (i : Issue), s.sound → s.issues i →
    let x := s.th i.thread
    let traps := fun (c : Instr) (cause : Nat) (addr : Option Word) =>
      ∃ s' : State, exec c s = .next s' ∧ Trapped s s' i.thread cause 0 x.pc addr
    (∀ f, (memAddr x f).toNat % 4 ≠ 0 →
      traps (.ld i f) 0x02 (some (memAddr x f)) ∧ traps (.st i f) 0x02 (some (memAddr x f)) ∧
      traps (.ldio i f) 0x02 (some (memAddr x f)) ∧ traps (.stio i f) 0x02 (some (memAddr x f))) ∧
    (∀ f, (memAddr x f).toNat % 4 = 0 → 0x800 ≤ (memAddr x f).toNat → (memAddr x f).toNat < 0x10000000 →
      traps (.ld i f) 0x03 (some (memAddr x f)) ∧ traps (.st i f) 0x03 (some (memAddr x f))) ∧
    (∀ f, (memAddr x f).toNat % 4 = 0 → 0x10000000 ≤ (memAddr x f).toNat → (memAddr x f).toNat < 0x10040000 →
      traps (.st i f) 0x03 (some (memAddr x f))) ∧
    (∀ f, (memAddr x f).toNat % 4 = 0 → 0x130000 ≤ (memAddr x f).toNat →
      traps (.ldio i f) 0x03 (some (memAddr x f)) ∧ traps (.stio i f) 0x03 (some (memAddr x f))) ∧
    (∀ f, f.cond = 0 → x.rstack.length = 8 → traps (.call i f) 0x04 none) ∧
    (∀ f, f.fn = 0 → f.rd = 0 → f.ra = 0 → f.rb = 0 → x.rstack = [] → traps (.ret i f) 0x05 none) ∧
    (∀ f, f.fn = 2 → f.rd = 0 → f.rb = 0 → x.tactive = false → traps (.ret i f) 0x01 none) ∧
    (∀ f, f.fn.toNat % 4 = 3 → traps (.ret i f) 0x01 none) ∧
    (∀ f, f.cond = 15 → traps (.b i f) 0x01 none) ∧
    (∀ f, ¬ aluLegal f → traps (.add i f) 0x01 none ∧ traps (.mul i f) 0x01 none) ∧
    (∀ f, f.rd ≠ 0 → traps (.cmp i f) 0x01 none) ∧
    (∀ f, f.ra ≠ 0 → traps (.lui i f) 0x01 none) ∧
    (∀ f, 0x100 ≤ f.imm.toNat → traps (.trap i f) 0x01 none))

/-! ### Events, waits, thread registers and semaphores (R22 to R26, R39, R46 to R49) -/

namespace Sys2Proof.Machine

/-- The instruction of a thread in Wait, with the deadline of a timed one. -/
def Thread.waitsOn (x : Thread) (c : Instr) : Prop := x.st = .wait ∧ x.waiting = some c

/-- A wait that ended: back in Run, nothing waiting. -/
def Thread.woke (y : Thread) : Prop := y.st = .run ∧ y.waiting = none ∧ y.waitOn = 0 ∧ y.deadline = none

/-- What a write of THn_CTRL and a halt leave alone in a thread: its registers, PC, memory and tickets. -/
def Thread.keeps (x y : Thread) : Prop := y.g = x.g ∧ y.pc = x.pc ∧ y.mem = x.mem ∧ y.tpc = x.tpc ∧ y.tvec = x.tvec

/-- Time has passed until the elapsed count is at least `d`, and nothing else: TB and the count move together, and only
once TB runs. -/
def State.waitedTo (s t : State) (d : Nat) : Prop :=
  t = { s with ticks := if s.tbRuns then max s.ticks d else s.ticks
               tb := s.tb + BitVec.ofNat 64 ((if s.tbRuns then max s.ticks d else s.ticks) - s.ticks) }

end Sys2Proof.Machine

/-- EVW, EVS and THn_EVSET (R47, R48): EVW takes a pending event bit of rb, clearing the bits it takes and setting C, or waits
with the time out of ra; EVS sets the software bits of rb in one thread or in all of them, and a write of THn_EVSET sets
those written 1; no software write sets an HE bit. -/
def Obligations.EventBitsAreSetAndTaken : Prop :=
  (∀ (s : State) (i : Issue) (f : AFields), s.issues i →
    let x := s.th i.thread
    (f.fn = 0 → x.event &&& x.rg f.rb ≠ 0 → Runs (.evw i f) i s fun x y =>
      x.wrote y f.rd (x.event &&& x.rg f.rb) ∧ y.event = x.event &&& ~~~ (x.rg f.rb) ∧ y.c = true ∧ y.z = x.z ∧
      y.n = x.n ∧ y.v = x.v ∧ y.pc = x.pc + 4 ∧ y = { x with g := y.g, c := y.c, pc := y.pc, event := y.event }) ∧
    (f.fn = 0 → x.event &&& x.rg f.rb = 0 → Runs (.evw i f) i s fun x y =>
      y = { x with st := .wait, waiting := some (.evw i f), waitOn := 5, xipLine := none, met := none
                   deadline := if f.ra = 0 then none else some (s.ticks + ticksOf (x.rg f.ra).toNat) }) ∧
    (f.fn.toNat < 2 → f.rd = 0 → ∃ t : State, exec (.evs i f) s = .next t ∧ t = { s.touched i.thread with threads := t.threads } ∧
      ∀ u, t.th u =
        { s.th u with event := if f.fn = 1 ∨ u.val = (x.rg f.ra).toNat % 32 then (s.th u).event ||| (x.rg f.rb &&& 0xFFFF) else (s.th u).event
                      pc := if u = i.thread then x.pc + 4 else (s.th u).pc, met := (t.th u).met })) ∧
  (∀ (s : State) (t : Tid) (v : Word), Completes (.evsetWrite t v) t s fun x y =>
    y = { x with event := x.event ||| BitVec.ofNat 32 (v.toNat % 0x10000), met := y.met })

/-- The tickets of a thread (R36, R38 to R40): WAITK collects a Done slot, waits on a Pending or Active one and traps
TKSTATE on a Free one; TESTK never waits; WAITANY answers the lowest Done slot of its mask, collecting nothing. -/
def Obligations.TicketInstructionsCollectOrWait : Prop :=
  ∀ (s : State) (i : Issue) (f : IFields), s.issues i →
    let x := s.th i.thread
    let k := x.slots[f.rd.toNat]'f.rd.isLt
    (f.imm = 0 → k.st = .done → Runs (.waitk i f) i s fun x y =>
      x.wrote y f.ra k.word ∧ y.slots = vset x.slots ⟨f.rd.toNat, f.rd.isLt⟩ {} ∧ x.flagsOf y ∧ y.pc = x.pc + 4 ∧
      y = { x with g := y.g, slots := y.slots, pc := y.pc }) ∧
    (f.imm = 0 → k.st = .pending ∨ k.st = .active → Runs (.waitk i f) i s fun x y =>
      y = { x with st := .wait, waiting := some (.waitk i f), waitOn := 1, deadline := none, xipLine := none, met := none }) ∧
    (f.imm = 0 → k.st = .done → Runs (.testk i f) i s fun x y =>
      x.wrote y f.ra k.word ∧ y.slots = vset x.slots ⟨f.rd.toNat, f.rd.isLt⟩ {} ∧ y.c = true ∧ y.z = true ∧ y.n = x.n ∧
      y.v = x.v ∧ y.pc = x.pc + 4 ∧ y = { x with g := y.g, slots := y.slots, z := y.z, c := y.c, pc := y.pc }) ∧
    (f.imm = 0 → k.st ≠ .done → Runs (.testk i f) i s fun x y =>
      y = { x with c := false, z := decide (k.st = .free), pc := x.pc + 4 }) ∧
    (∀ j : Fin 16, f.imm.toNat < 0x10000 → f.imm.toNat.testBit j → x.slots[j].st = .done →
      (∀ l : Fin 16, l < j → f.imm.toNat.testBit l → x.slots[l].st ≠ .done) →
      Runs (.waitany i f) i s fun x y =>
        x.wrote y f.rd (BitVec.ofNat 32 j) ∧ y.c = true ∧ y.z = x.z ∧ y.n = x.n ∧ y.v = x.v ∧ y.pc = x.pc + 4 ∧
        y = { x with g := y.g, c := y.c, pc := y.pc })

/-- CANCK and AIR (R37, R39, R57, R64): CANCK on a slot with nothing in flight only says so; on a Pending operation it
ends it, its slot Done with status CANCELLED and no words. AIR with an aligned descriptor in local memory and a Free
slot makes the slot Pending and hands the sixteen words to the air engine, or, where they fail its checks, completes
at once with REJECT; while the engine copies for others it waits (R54). -/
def Obligations.AirIssuesAndCanckCancels : Prop :=
  ∀ (s : State) (i : Issue) (f : IFields), s.issues i → i.dataErr = false →
    let x := s.th i.thread
    let o : OpId := ⟨i.thread, ⟨f.rd.toNat, f.rd.isLt⟩⟩
    let k := x.slots[f.rd.toNat]'f.rd.isLt
    let a := (memAddr x f).toNat
    (f.imm = 0 → f.ra = 0 → k.st = .done ∨ k.st = .free → Runs (.canck i f) i s fun x y =>
      y = { x with c := false, z := decide (k.st = .free), pc := x.pc + 4 }) ∧
    (∀ op, f.imm = 0 → f.ra = 0 → k.st = .pending → s.op? o = some op → op.active = false → op.words = 0 →
      k.discard = false → ∃ t : State, exec (.canck i f) s = .next t ∧
        (t.th i.thread).slots = vset x.slots o.slot
          { st := .done, word := BitVec.ofNat 32 (0x100 * op.code + 0x09), discard := false } ∧
        (t.th i.thread).c = true ∧ (t.th i.thread).z = false ∧ (t.th i.thread).pc = x.pc + 4 ∧
        (t.th i.thread).g = x.g ∧ t.ops = s.ops.filter (·.id != o)) ∧
    (a % 4 = 0 → a + 64 ≤ 0x800 → k.st = .free → i.contended = true → Runs (.air i f) i s fun x y =>
      y = { x with st := .wait, waiting := some (.air i f), waitOn := 7, deadline := none, xipLine := none, met := none }) ∧
    (a % 4 = 0 → a + 64 ≤ 0x800 → k.st = .free → s.op? o = none → i.contended = false →
      let op := s.dueOp { id := o, desc := Vector.ofFn fun j => Memory.word x.mem (a + 4 * j) }
      (s.copyOk op = true → ∃ t : State, exec (.air i f) s = .next t ∧
        t = { (s.touched i.thread).setTh i.thread { x with slots := vset x.slots o.slot { st := .pending }, pc := x.pc + 4
                                                           met := (t.th i.thread).met } with
              ops := s.ops ++ [op] }) ∧
      (s.copyOk op = false → ∃ t : State, exec (.air i f) s = .next t ∧ t.ops = s.ops ∧
        let rejected : Slot := { st := .done, word := BitVec.ofNat 32 (0x100 * op.code + 0x0D) }
        t.th i.thread = { x with pc := x.pc + 4, slots := vset x.slots o.slot rejected, met := (t.th i.thread).met }))

/-- The end of a wait (R22, R39, R48, R49): a WAITK whose slot is Done, and an EVW or WAITANY that met its event or slot
before its deadline, complete and the thread is back in Run, by their own command or by that of the timeout; a fetch
whose XIP line is cached is issued again; a sleep and a timeout that nothing came before end once their time has passed,
a timed-out WAITANY with gd = 0xFFFF_FFFF and a timed-out EVW with rd = 0, both with C = 0. -/
def Obligations.WaitsEndWithTheirResult : Prop :=
  ∀ (s : State) (t : Tid) (bad : Bool),
    let x := s.th t
    let inTime := ∀ d m, x.deadline = some d → x.met = some m → m < d
    (∀ i (f : IFields), x.posted = [] → x.deadline = none → x.waitsOn (.waitk i f) → f.imm = 0 →
      (x.slots[f.rd.toNat]'f.rd.isLt).st = .done →
      Completes (.waitConditionMet t bad) t s fun x y =>
        y.woke ∧ x.wrote y f.ra (x.slots[f.rd.toNat]'f.rd.isLt).word ∧
        y.slots = vset x.slots ⟨f.rd.toNat, f.rd.isLt⟩ {} ∧ x.flagsOf y ∧ y.pc = x.pc + 4 ∧ y.mem = x.mem) ∧
    (∀ i (f : AFields), x.posted = [] → inTime → x.waitsOn (.evw i f) → f.fn = 0 → x.event &&& x.rg f.rb ≠ 0 →
      let took := fun (x y : Thread) =>
        y.woke ∧ x.wrote y f.rd (x.event &&& x.rg f.rb) ∧ y.event = x.event &&& ~~~ (x.rg f.rb) ∧ y.c = true ∧
        y.pc = x.pc + 4 ∧ y.mem = x.mem
      Completes (.waitConditionMet t bad) t s took ∧
      (x.waitOn = 5 → x.deadline ≠ none → x.met ≠ none → Completes (.evwTimeout t) t s took)) ∧
    (∀ i (f : IFields) (j : Fin 16), x.posted = [] → inTime → x.waitsOn (.waitany i f) → f.imm.toNat < 0x10000 →
      f.imm.toNat.testBit j → x.slots[j].st = .done →
      (∀ l : Fin 16, l < j → f.imm.toNat.testBit l → x.slots[l].st ≠ .done) →
      let found := fun (x y : Thread) =>
        y.woke ∧ x.wrote y f.rd (BitVec.ofNat 32 j) ∧ y.c = true ∧ y.slots = x.slots ∧ y.pc = x.pc + 4
      Completes (.waitConditionMet t bad) t s found ∧
      (x.waitOn = 2 → x.deadline ≠ none → x.met ≠ none → Completes (.waitanyTimeout t) t s found)) ∧
    (∀ l ws, x.posted = [] → x.st = .wait → x.waiting = none → x.xipLine = some l → s.cached l = some ws →
      Completes (.waitConditionMet t bad) t s fun x y =>
        y = { x with st := .run, waiting := none, waitOn := 0, deadline := none, xipLine := none, met := none }) ∧
    (∀ i f d, x.waitsOn (.sleepu i f) → x.waitOn = 6 → x.deadline = some d →
      ∃ (s' : State) (y : Thread), exec (.sleepuExpiry t) s = .next (s'.setTh t y) ∧ s.waitedTo s' d ∧
        y.woke ∧ y.g = x.g ∧ x.flagsOf y ∧ y.pc = x.pc + 4) ∧
    (∀ i (f : IFields) d, x.waitsOn (.waitany i f) → x.waitOn = 2 → x.deadline = some d →
      (∀ m, x.met = some m → d ≤ m) →
      ∃ (s' : State) (y : Thread), exec (.waitanyTimeout t) s = .next (s'.setTh t y) ∧ s.waitedTo s' d ∧
        y.woke ∧ x.wrote y f.rd 0xFFFFFFFF ∧ y.c = false ∧ y.slots = x.slots ∧ y.pc = x.pc + 4) ∧
    (∀ i (f : AFields) d, x.waitsOn (.evw i f) → x.waitOn = 5 → x.deadline = some d →
      (∀ m, x.met = some m → d ≤ m) →
      ∃ (s' : State) (y : Thread), exec (.evwTimeout t) s = .next (s'.setTh t y) ∧ s.waitedTo s' d ∧
        y.woke ∧ x.wrote y f.rd 0 ∧ y.c = false ∧ y.event = x.event ∧ y.pc = x.pc + 4)

/-- RESET, HALT and START of THn_CTRL, and a halt through the test access port (R22 to R24, R26, R318, R355): each on
its own, on a thread with nothing in flight; TVEN is stored with any of them, THn_PC keeps, and a START in Run, Wait or
Refetch is ignored. -/
def Obligations.ThreadControlChangesThreadState : Prop :=
  ∀ (s : State) (t : Tid) (v : Word),
    let x := s.th t
    (v.toNat % 8 = 4 → s.opsOf t = [] → (∀ k ∈ x.slots.toList, k.st = .done ∨ k = {}) →
      Completes (.threadReset t v) t s fun x y =>
        y.st = .off ∧ y.rstack = [] ∧ y.z = false ∧ y.n = false ∧ y.c = false ∧ y.v = false ∧ y.tactive = false ∧
        y.event = 0 ∧ (∀ k ∈ y.slots.toList, k = {}) ∧ y.tven = v.getLsbD 8 ∧ x.keeps y) ∧
    (v.toNat % 8 = 2 → x.st = .run ∨ x.st = .wait ∨ x.st = .refetch →
      Completes (.threadHalt t v) t s fun x y =>
        y.st = .halted ∧ y.haltsrc = 2 ∧ y.waiting = none ∧ y.slots = x.slots ∧ y.event = x.event ∧ x.flagsOf y ∧
        y.rstack = x.rstack ∧ y.tven = v.getLsbD 8 ∧ x.keeps y) ∧
    (v.toNat % 8 = 1 → Completes (.threadStart t v) t s fun x y =>
        y.st = (if x.st = .off ∨ x.st = .halted ∨ x.st = .trapped then .run else x.st) ∧
        y.tactive = (if x.st = .trapped then false else x.tactive) ∧ y.slots = x.slots ∧ y.event = x.event ∧
        x.flagsOf y ∧ y.rstack = x.rstack ∧ y.tven = v.getLsbD 8 ∧ x.keeps y) ∧
    (s.debugLevel = 0 → x.st = .run ∨ x.st = .wait ∨ x.st = .refetch →
      Completes (.debugHalt t) t s fun x y =>
        y.st = .halted ∧ y.haltsrc = 6 ∧ y.waiting = none ∧ y.slots = x.slots ∧ y.event = x.event ∧ x.flagsOf y ∧
        y.rstack = x.rstack ∧ x.keeps y)

/-- The semaphores (R46): a read returns the current value of LOCK and leaves LOCK = 1, so that of several readers of
a released semaphore the first alone reads 0; a write of 0 releases it. No other register and nothing else changes. -/
def Obligations.SemaphoreReadTestsAndSets : Prop :=
  ∀ (s : State) (k : Fin 32), s.sound →
    (∃ t : State, exec (.semaphoreRead k) s = .next t ∧ t = { s with regs := t.regs, busData := t.busData } ∧
      t.busData.toNat = (s.reg (TH_SEM k)).toNat % 2 ∧ (t.reg (TH_SEM k)).toNat % 2 = 1 ∧
      (∀ a, a ≠ TH_SEM k → t.reg a = s.reg a) ∧
      ∃ t' : State, exec (.semaphoreRead k) t = .next t' ∧ t'.busData = 1) ∧
    (∃ t : State, exec (.semaphoreRelease k) s = .next t ∧ t = { s with regs := t.regs } ∧ (t.reg (TH_SEM k)).toNat % 2 = 0 ∧
      (∀ a, a ≠ TH_SEM k → t.reg a = s.reg a) ∧
      ∃ t' : State, exec (.semaphoreRead k) t = .next t' ∧ t'.busData = 0)

/-! ### Rings and check values in a thread (R41 to R43, R51, R290 to R293) -/

namespace Sys2Proof.Machine

/-- The bits of a value of `n` bits in feeding order: least significant first with REFIN, else most significant first
(R291). -/
def feedBits (refin : Bool) (w : Word) (n : Nat) : List Bool :=
  if refin then (List.range n).map fun j => w.getLsbD j else (List.range n).map fun j => w.getLsbD (n - 1 - j)

/-- The state of a check-value register of `width` bits after input bits (R290). -/
def crcAfter (width : Nat) (poly : Word) (s : Word) (bs : List Bool) : Word :=
  bs.foldl (fun s b =>
    let mask := BitVec.ofNat 32 (2 ^ width - 1)
    if s.getLsbD (width - 1) != b then ((s <<< 1) &&& mask) ^^^ (poly &&& mask) else (s <<< 1) &&& mask) s

/-- WIDTH of channel `c`, 0 meaning 32 (R291). -/
def State.crcBits (s : State) (c : Nat) : Nat :=
  if (s.reg (CC_CFG c)).toNat % 32 = 0 then 32 else (s.reg (CC_CFG c)).toNat % 32

end Sys2Proof.Machine

/-- PUSH (R42) to an enabled ring of the thread, the word being one the ring stores (R186, R191): the word stands last on
the ring, ra in [63:32], rb in [31:0], V = 1, with S, E and P from fn[7:5] and the thread's number in [39:32] of an S
word; the other rings, the general registers and the flags keep. On a full ring the thread waits on the PUSH, and the
word is stored when one is free. -/
def Obligations.PushStoresItsWordOrWaits : Prop :=
  ∀ (s : State) (i : Issue) (f : AFields), f.rd = 0 → f.fn.toNat < 0x100 →
    let n : RingNo := ⟨f.fn.toNat % 32, Nat.mod_lt _ (by omega)⟩
    let first := f.fn.getLsbD 5
    let x := s.th i.thread
    s.ringOn n = true → s.ringProd n = i.thread →
    (if first then s.openByOther n (.thread i.thread) = false
     else s.openBy n (.thread i.thread) = true ∧ s.orphan n (.thread i.thread) = none) →
    let hi : Word := if first then BitVec.ofNat 32 ((x.rg f.ra).toNat / 256 * 256 + i.thread.val) else x.rg f.ra
    let stores := fun (t : State) =>
      (t.ring n).words = (s.ring n).words ++ [{ data := hi ++ x.rg f.rb, v := true, p := f.fn.getLsbD 7, s := first,
                                                e := f.fn.getLsbD 6, tick := s.ticks }] ∧
      (∀ m, m ≠ n → t.ring m = s.ring m) ∧ t.smem = s.smem ∧ t.ops = s.ops
    (s.issues i → s.ringRoom n ≠ 0 → ∃ (t : State) (e : Word) (m : Option Nat), exec (.push i f) s = .next t ∧ stores t ∧
      t.th i.thread = { x with pc := x.pc + 4, event := e, met := m }) ∧
    (s.issues i → s.ringRoom n = 0 → Runs (.push i f) i s fun x y =>
      y = { x with st := .wait, waiting := some (.push i f), waitOn := 4, deadline := none, xipLine := none, met := none }) ∧
    (∀ bad, x.waitsOn (.push i f) → x.posted = [] → x.deadline = none → s.ringRoom n ≠ 0 →
      ∃ (t : State) (e : Word), exec (.waitConditionMet i.thread bad) s = .next t ∧ stores t ∧ (t.th i.thread).woke ∧
        t.th i.thread = { x with st := .run, waiting := none, waitOn := 0, deadline := none, xipLine := none, met := none
                                 pc := x.pc + 4, event := e })

/-- POP (R41, R43, R184): the oldest word leaves the ring, [63:32] into rd and [31:0] into rd+1, Z = not V, N = P, C = S,
V = E; an empty ring without W answers zeros, or on a 4,096-word ring the last word read with UNDERRUN; with W it
waits, and a POP that waited takes the word the same way. -/
def Obligations.PopTakesTheOldestWord : Prop :=
  ∀ (s : State) (i : Issue) (f : AFields), s.sound → s.issues i → i.dataErr = false → f.ra = 0 → f.rb = 0 →
    f.rd.toNat % 2 = 0 → f.rd ≠ 0 → f.fn.toNat % 0x100 < 32 → f.fn.toNat < 0x200 →
    let n : RingNo := ⟨f.fn.toNat % 32, Nat.mod_lt _ (by omega)⟩
    s.ringOn n = true → s.ringCons n = i.thread →
    let popped := fun (w : RWord) (x y : Thread) =>
      (∀ q, y.rg q = if q = f.rd then w.data.extractLsb' 32 32 else if q = f.rd + 1 then w.data.extractLsb' 0 32 else x.rg q) ∧
      y.z = !w.v ∧ y.n = w.p ∧ y.c = w.s ∧ y.v = w.e ∧ y.pc = x.pc + 4 ∧ x.sameBut y
    (∀ w ws, (s.ring n).words = w :: ws → ∃ y, popped w (s.th i.thread) y ∧
      exec (.pop i f) s = .next (((s.touched i.thread).setRing n { s.ring n with words := ws, last := w }).setTh i.thread y)) ∧
    ((s.ring n).words = [] → f.fn.getLsbD 8 = false → s.ringCap n ≠ 4096 →
      Runs (.pop i f) i s (popped {})) ∧
    ((s.ring n).words = [] → f.fn.getLsbD 8 = false → s.ringCap n = 4096 →
      ∃ (s' : State) (y : Thread), exec (.pop i f) s = .next (s'.setTh i.thread y) ∧ popped (s.ring n).last (s.th i.thread) y ∧
        s' = { s.touched i.thread with regs := s'.regs } ∧ (s'.reg (RG_FLAGS n)).getLsbD 1 = true ∧
        ∀ a, a ≠ RG_FLAGS n → s'.reg a = s.reg a) ∧
    ((s.ring n).words = [] → f.fn.getLsbD 8 = true → Runs (.pop i f) i s fun x y =>
      y = { x with st := .wait, waiting := some (.pop i f), waitOn := 3, deadline := none, xipLine := none, met := none })

/-- Check values (R45, R51, R290 to R293), once the thread's posted writes have taken effect: CRCW feeds a byte, halfword or word of ra to a channel that no transfer feeds; CRCF
reads the value masked to WIDTH, with Z when it equals EXPECT, its form 32 reloading INIT. A check is counted,
saturating at 16 bits, and a mismatch sets MISMATCH and is counted; INITNOW loads INIT masked to WIDTH; a state write
restores the register, but on a channel that a transfer feeds sets BUSYERR and leaves it. -/
def Obligations.CheckValuesAreFedReadAndChecked : Prop :=
  (∀ (s0 : State) (i : Issue) (f : AFields), s0.issues i →
    let c := f.fn.toNat % 8
    let n := 8 * 2 ^ (f.fn.toNat / 8)
    let s := (s0.touched i.thread).drainPosted i.thread
    let x := s.th i.thread
    s.sound → x.st = .run → x.pc = (s0.th i.thread).pc →
    let mask := BitVec.ofNat 32 (2 ^ s.crcBits c - 1)
    s.ccFed c = false →
    (f.fn.toNat < 24 → f.rd = 0 → f.rb = 0 →
      ∃ s' : State, exec (.crcw i f) s0 = .next (s'.setTh i.thread { x with pc := x.pc + 4 }) ∧ s' = { s with regs := s'.regs } ∧
        s'.reg (CC_STATE c) = crcAfter (s.crcBits c) (s.reg (CC_POLY c)) (s.reg (CC_STATE c))
          (feedBits ((s.reg (CC_CFG c)).getLsbD 8) (x.rg f.ra) n) ∧
        ∀ a, a ≠ CC_STATE c → s'.reg a = s.reg a) ∧
    (f.fn.toNat < 8 ∨ (32 ≤ f.fn.toNat ∧ f.fn.toNat < 40) → f.ra = 0 → f.rb = 0 → (s.reg (CC_CFG c)).getLsbD 9 = false →
      let r := (s.reg (CC_STATE c) ^^^ s.reg (CC_XOROUT c)) &&& mask
      ∃ (s' : State) (y : Thread), exec (.crcf i f) s0 = .next (s'.setTh i.thread y) ∧ (s.th i.thread).wrote y f.rd r ∧
        y.z = decide (r = s.reg (CC_EXPECT c) &&& mask) ∧ y.pc = x.pc + 4 ∧
        (32 ≤ f.fn.toNat → s'.reg (CC_STATE c) = s.reg (CC_INIT c) &&& mask) ∧
        (f.fn.toNat < 8 → s'.reg (CC_STATE c) = s.reg (CC_STATE c)) ∧ s'.smem = s.smem ∧ s'.rings = s.rings)) ∧
  (∀ (s : State) (c : Fin 8) (v : Word), s.sound →
    let mask := BitVec.ofNat 32 (2 ^ s.crcBits c - 1)
    (v.toNat % 2 = 0 → ∃ t : State, exec (.check c v) s = .next t ∧ t.rings = s.rings ∧
      t.reg (CC_STATE c) = s.reg (CC_STATE c) ∧
      (t.reg (CC_CNT c)).toNat % 65536 = min ((s.reg (CC_CNT c)).toNat % 65536 + 1) 65535 ∧
      (s.ccMatches c = true → t = { s with regs := t.regs } ∧ t.reg (CC_FLAGS c) = s.reg (CC_FLAGS c)) ∧
      (s.ccMatches c = false → (t.reg (CC_FLAGS c)).getLsbD 0 = true ∧
        (t.reg (CC_CNT c)).toNat / 65536 = min ((s.reg (CC_CNT c)).toNat / 65536 + 1) 65535)) ∧
    (v.toNat / 2 % 2 = 0 → ∃ t : State, exec (.initnow c v) s = .next t ∧ t = { s with regs := t.regs } ∧
      t.reg (CC_STATE c) = s.reg (CC_INIT c) &&& mask ∧ ∀ a, a ≠ CC_STATE c → t.reg a = s.reg a) ∧
    (∃ t : State, exec (.ccStateRestore c v) s = .next t ∧ t = { s with regs := t.regs } ∧
      (s.ccFed c = false → t.reg (CC_STATE c) = v ∧ ∀ a, a ≠ CC_STATE c → t.reg a = s.reg a) ∧
      (s.ccFed c = true → (t.reg (CC_FLAGS c)).getLsbD 1 = true ∧ ∀ a, a ≠ CC_FLAGS c → t.reg a = s.reg a)))

/-! ### The air engine: operations in flight (R38, R64 to R74) -/

namespace Sys2Proof.Machine

/-- The operation of ticket `o` is over: none is in flight, and its slot is Done with the completion word of R38. -/
def State.doneAs (t : State) (o : OpId) (words code st : Nat) : Prop :=
  t.op? o = none ∧ t.slot o = { st := .done, word := BitVec.ofNat 32 (65536 * min words 65535 + 256 * code + st) }

/-- Of the threads nothing differs but slot `o`, and the mark of a WAITANY that it met. -/
def State.onlySlot (s t : State) (o : OpId) : Prop :=
  ∃ m, t.threads = vset s.threads o.thread
    { s.th o.thread with slots := vset (s.th o.thread).slots o.slot (t.slot o), met := m }

/-- Nothing differs but what the air engine holds: operations, ports, spares, synthesizers, receptions, solves,
trims, the registers, the threads and time. -/
def State.airFrame (s t : State) : Prop :=
  t = { s with ticks := t.ticks, tb := t.tb, regs := t.regs, threads := t.threads, ops := t.ops, ended := t.ended
               endedAt := t.endedAt, uports := t.uports, hports := t.hports, spares := t.spares, los := t.los, decoders := t.decoders, units := t.units
               solving := t.solving, solveQ := t.solveQ, applying := t.applying }

/-- No end item and nothing held: the operation's end is one step (R62, R66). -/
def Op.plain (op : Op) : Prop := op.held = [] ∧ op.endItem = false ∧ op.ending = none

/-- The operation of ticket `o` in `t` is `op` but for what it commands, awaits and does, with these values. -/
def State.sent (t : State) (o : OpId) (op : Op) (c : AirCmd) (start : Nat) (opens closes : Option Nat) (e : Engine) : Prop :=
  ∃ x : Op, t.op? o = some x ∧ x.active = op.active ∧ x.started = true ∧ x.ending = op.ending ∧ x.desc = op.desc ∧
    x.words = op.words ∧ x.cmd = c ∧ x.cmdEnd = start + cmdTicks op.link c ∧ x.reply = false ∧
    x.winFrom = opens.map (x.cmdEnd + ·) ∧ (∀ n, closes = some n → x.winTo = x.cmdEnd + n) ∧ x.eng = e

end Sys2Proof.Machine

/-- U.SELECT, U.ROUND, U.ACCESS and U.RAW (R103, R106, R111, R115): dispatched on a beam that is not settled an
operation begins and waits for its carrier; on a settled one the first command goes out 0.80 µs later: the Select,
after which a U.SELECT completes OK once T4 has passed; the Query of a round's first slot at its initial Q; the Select
and the Query for target A of a U.ACCESS; the bits of a U.RAW. -/
def Obligations.UhfOperationsBeginOnTheirBeam : Prop :=
  ∀ (s : State) (o : OpId) (op : Op), s.regsWf →
    let waits := fun (c : Instr) (e : Engine) =>
      exec c s = .next (s.modOp o fun x => { x with started := true, eng := e })
    let start := s.ticks + 174
    (op.settled = false →
      (s.begins o 0 1 = some op → waits (.uSelect o) .select) ∧
      (s.begins o 0 2 = some op → waits (.uRound o) (.round { trunc := s.truncOf op })) ∧
      (s.begins o 0 3 = some op → waits (.uAccess o) (.access {})) ∧
      (s.begins o 0 4 = some op → waits (.uRaw o) .raw)) ∧
    (op.settled = true → op.cancel = false → op.held = [] → (s.slot o).discard = false →
      (s.begins o 0 1 = some op → op.fits op.selectCmd .none start = true →
        ∃ t : State, exec (.uSelect o) s = .next t ∧ t.doneAs o op.words 1 0 ∧ s.onlySlot t o ∧ s.airFrame t ∧
          (s.tbRuns = true → t.ticks = start + cmdTicks op.link op.selectCmd + t4Ticks op.link) ∧
          ∀ p ∈ op.uports, bit (op.w 6) 23 = true →
            (t.up p).truncP = some (start, (op.w 7).toNat + bits (op.w 6) 0 9)) ∧
      (s.begins o 0 2 = some op → op.retest = false → s.colour o.thread ≠ 2 →
        let c := cmdQuery op.link op.sel op.session op.target op.q0
        op.fits c (.immediate 16) start = true →
        ∃ (t : State) (slotTb : Word), exec (.uRound o) s = .next t ∧ t = { s with ops := t.ops } ∧
          t.sent o op c start (some (winOpenTicks op.link)) (some (winCloseTicks op.link))
            (.round { st := .waitRN, fresh := false, qfp := 100 * op.q0, q := op.q0, slots := 1, slotTb := slotTb
                      trunc := s.truncOf op })) ∧
      (∀ e, s.begins o 0 3 = some op → op.entry = some e → op.retest = false → op.fits (reselect e) .none start = true →
        let c := cmdQuery op.link 3 (bits op.bscCfg 4 2) false 0
        let start2 := start + cmdTicks op.link (reselect e) + t4Ticks op.link
        op.fits c (.immediate 16) start2 = true →
        ∃ t : State, exec (.uAccess o) s = .next t ∧ t = { s with ops := t.ops } ∧
          t.sent o op c start2 (some (winOpenTicks op.link)) (some (winCloseTicks op.link)) (.access { step := .queryA })) ∧
      (s.begins o 0 4 = some op → op.fits op.rawCmd op.rawExpect start = true →
        (bits (op.w 7) 0 16 = 0 →
          ∃ t : State, exec (.uRaw o) s = .next t ∧ t.doneAs o op.words 4 0 ∧ s.onlySlot t o ∧ s.airFrame t) ∧
        (bits (op.w 7) 0 16 ≠ 0 →
          ∃ t : State, exec (.uRaw o) s = .next t ∧ t = { s with ops := t.ops } ∧
            t.sent o op op.rawCmd start (some (nearest (bits (op.w 7) 16 16 * 21696) 100))
              (some (nearest ((bits (op.w 7) 16 16 + bits (op.w 7) 0 16) * 21696) 100)) .raw)))

/-- The beam (R79, R80, R103, R117 to R120): a settled carrier is on every transmitting port at the operation's LO,
frequency and level; a listen that finds every port below the profile's threshold lets the carrier start, and one that
does not ends a non-hopping operation REGION; at a dwell boundary a round goes to the next position of the hop sequence,
or keeps its carrier while an item is held (R187); a paused round finds its meter not
red and takes its channel again; a holdover carrier ends, its UPAn deasserted. -/
def Obligations.BeamEventsMoveOperationsOn : Prop :=
  (∀ (s : State) (o : OpId) (op : Op) (dt : Nat), s.op? o = some op → op.active = true → op.isBeam = true →
    op.holds = true → op.ending = none → op.settled = false → op.lbtWait = false → op.started = false →
    op.metered = false → (s.lo op.lo).at op.freq = true → (∀ x ∈ s.ops, x.isListen = false) →
    ∃ (t : State) (x : Op), exec (.carrierSettled o dt) s = .next t ∧ s.airFrame t ∧ t.threads = s.threads ∧
      t.op? o = some x ∧ x = { op with settled := true, dwellEnd := x.dwellEnd } ∧
      (∀ p ∈ s.txPorts op, (t.up p).carrier = some (op.lo, op.freq) ∧ (t.up p).holdover = none ∧
        (s.power.level = 0 → (s.up p).capped = false → (s.up p).spare = false →
          (t.up p).level = ((s.up p).driver (s.txpwr op)).1 ∧
          (t.up p).pa = ((s.up p).paMode && bit (s.reg (UP_CTRL p)) 0 && !(s.up p).faulted))) ∧
      ∀ p, p ∉ s.txPorts op → t.up p = s.up p) ∧
  (∀ (s : State) (o : OpId) (op : Op) (levels : List Int), s.regsWf → s.op? o = some op → op.active = true → op.cls = 0 →
    op.hop = false → op.lbtWait = true → op.plain → (s.lo op.lo).at op.freq = true → (s.slot o).discard = false →
    let free := ∀ p ∈ s.txPorts op, (s.up p).carrier = some (op.lo, op.freq) ∨
      levels.getD p.val (-32768) < signed 16 ((s.regionW 2).toNat % 65536)
    (free → exec (.lbtListenEnd o levels) s = .next (s.modOp o fun x => { x with lbtWait := false })) ∧
    (¬ free → op.fix? = none → ∃ t : State, exec (.lbtListenEnd o levels) s = .next t ∧ t.doneAs o op.words op.code 0x0E ∧
      s.onlySlot t o ∧ s.airFrame t)) ∧
  (∀ (s : State) (o : OpId) (op : Op) (dt d : Nat) (r : RoundSt), s.op? o = some op → op.active = true →
    op.ending = none → op.hop = true → op.retest = false → op.eng = .round r → r.st ≠ .metered →
    op.dwellEnd = some d → d ≤ (s.advance dt).ticks →
    let p := (op.pos + 1) % max 1 s.hopLen
    (op.held ≠ [] → ∃ (t : State) (x : Op), exec (.dwellBoundary o dt) s = .next t ∧ s.airFrame t ∧
      t.threads = s.threads ∧ t.uports = s.uports ∧ t.op? o = some x ∧ x.pos = p ∧ x.hopDue = true ∧ x.eng = op.eng) ∧
    (op.held = [] → (∃ q ∈ op.uports, 0 < bits (s.reg (UP_BEAMW q)) 0 8 ∧ bit (s.up q).ctrl 1 = false) →
      ∃ (t : State) (x : Op), exec (.dwellBoundary o dt) s = .next t ∧ s.airFrame t ∧ t.threads = s.threads ∧
      t.op? o = some x ∧ x.pos = p ∧ x.moved = 0 ∧ x.eng = .round { r with st := .start } ∧
      x.freq = s.chanFreq (s.hopAt (p % max 1 s.hopLen)) ∧ x.dwellEnd = some (s.advance dt).nextBoundary ∧
      ∀ q ∈ op.uports, (t.up q).carrier = none ∧ (t.up q).beam = s.reg (UP_BEAMW q))) ∧
  (∀ (s : State) (o : OpId) (op : Op) (r : RoundSt), s.running o = some op → op.eng = .round r → r.st = .metered →
    s.colour o.thread ≠ 2 → s.carried op (s.opFreq op) = false →
    ∃ (t : State) (x : Op), exec (.meterResume o) s = .next t ∧ s.airFrame t ∧ t.threads = s.threads ∧
      t.op? o = some x ∧ x.eng = .round { r with st := .start } ∧ x.freq = s.opFreq op ∧ x.words = op.words) ∧
  (∀ (s : State) (p : UPortNo), (s.up p).holdover ≠ none →
    exec (.holdoverExpiry p) s = .next (s.modUp p fun x =>
      { x with carrier := none, level := 0, full := 0, pa := false, capped := false, holdover := none, cncLock := false }))

/-- The replies of a round (R99 to R101, R103 to R105, R107, R110): a preamble that is detected with its start in the
window is a reply in progress, one whose frequency lies more than 25 % from BLF is not; a window without a reply ends at
its decision tick, an empty slot taking C from qfp, and energy in it, or an RN16 that does not decode, is a collision,
adding C up to 15; the next command is the QueryRep or QueryAdjust of the rounded qfp, or the round ends; an RN16 draws
its ACK; a tag read with CRC passed takes AIR_TAGTAB.NEXT and heads the tag table; 1,640 µs after a cancellation the
reply is abandoned and the operation completes CANCELLED. -/
def Obligations.RoundRepliesDecideTheSlot : Prop :=
  ∀ (s : State) (o : OpId) (op : Op) (r : RoundSt) (dt : Nat), s.regsWf → s.running o = some op → op.eng = .round r →
    op.plain → op.cancel = false → op.failItems = false → (s.slot o).discard = false →
    let s1 := s.advance dt
    let next := fun (c : Instr) (r' : RoundSt) (start : Nat) =>
      let r1 := { r' with st := .next }
      (roundOver op r1 = true → ∃ t : State, exec c s = .next t ∧ s.onlySlot t o ∧ s.airFrame t ∧
        t.doneAs o op.words 2 (if 0 < op.okItems then 0x00 else 0x01)) ∧
      (roundOver op r1 = false →
        let q := (r1.qfp + 50) / 100
        let cmd := if r1.q < q then cmdQueryAdjust op.session 6 else if q < r1.q then cmdQueryAdjust op.session 3
          else if r1.q = 0 then cmdQueryAdjust op.session 0 else cmdQueryRep op.session
        op.fits cmd (.immediate 16) start = true →
        ∃ (t : State) (slotTb : Word), exec c s = .next t ∧ s.airFrame t ∧ t.threads = s.threads ∧ t.regs = s.regs ∧
          t.sent o op cmd start (some (winOpenTicks op.link)) (some (winCloseTicks op.link))
            (.round { r1 with st := .waitRN, q := q, slots := r.slots + 1, outcome := .none, slotTb := slotTb }))
    let collided := { r with outcome := .collision, qfp := min 1500 (r.qfp + op.cStep), colls := r.colls + 1, empties := 0 }
    let steady := fun (d : ReplyData) => ∀ l, op.latched = some l → 40 * d.drift ≤ l.freq
    op.code = 2 → op.cls = 0 →
    (∀ w (d : PreambleData), op.winFrom = some w → op.reply = false →
      let back := detectTicks op.link d.freq
      (4 * d.freq < 3000 * blf op.link ∨ 5000 * blf op.link < 4 * d.freq →
        exec (.replyPreambleDetected o dt d) s = .next s1) ∧
      (op.detects d = true → ¬ (w + back ≤ s1.ticks ∧ s1.ticks < op.winTo + back) →
        exec (.replyPreambleDetected o dt d) s = .next s1) ∧
      (op.detects d = true → w + back ≤ s1.ticks → s1.ticks < op.winTo + back →
        ∃ (t : State) (x : Op), exec (.replyPreambleDetected o dt d) s = .next t ∧ t = { s1 with ops := t.ops } ∧
          t.op? o = some x ∧ x.reply = true ∧ x.winFrom = none ∧ x.eng = op.eng ∧
          ∃ l, x.latched = some l ∧ l.tb = s1.tb - 108 ∧ l.start = s1.tb - BitVec.ofNat 64 back ∧ l.freq = d.freq)) ∧
    (∀ energy : List Int, op.winFrom ≠ none → op.reply = false → r.st = .waitRN →
      (∀ p ∈ op.uports, energy.getD p.val 0 < 48) →
      let s2 := s.advanceTo (op.winTo + decisionTicks op.link)
      next (.noReplyDecision o energy)
        { r with outcome := .empty, qfp := r.qfp - op.cStep, empties := if r.q = 0 then r.empties + 1 else 0 }
        (max s2.ticks (op.cmdEnd + t4Ticks op.link))) ∧
    (∀ w onset (energy : List Int), op.winFrom = some w → op.reply = false → r.st = .waitRN →
      (∃ p ∈ op.uports, 48 ≤ energy.getD p.val 0) → w ≤ s.ticks + onset → s.ticks + onset < op.winTo →
      let s2 := s.advance (onset + collisionTicks op.link)
      next (.collisionDecision o onset energy) collided (max s2.ticks (s2.ticks - 108 + t2Ticks op.link op.bscCfg))) ∧
    (∀ d : ReplyData, op.reply = true → r.st = .waitRN → d.bits.length ≠ 16 → steady d →
      let s2 := s1.advance (collisionTicks op.link - (s1.tbLo - op.replyTb).toNat)
      next (.replyEnd o dt d) collided (max s2.ticks (s2.ticks - 108 + t2Ticks op.link op.bscCfg))) ∧
    (∀ d : ReplyData, op.reply = true → op.gap = false → r.st = .waitRN → d.poison = false → d.lead = none →
      d.bits.length = 16 → steady d →
      let rn := BitVec.ofNat 16 (bitsNum d.bits)
      let start := s1.ticks + t2Ticks op.link op.bscCfg
      op.fits (cmdAck rn) (.immediate 560) start = true →
      ∃ t : State, exec (.replyEnd o dt d) s = .next t ∧ t = { s1 with ops := t.ops } ∧
        t.sent o op (cmdAck rn) start (some (winOpenTicks op.link)) (some (winCloseTicks op.link))
          (.round { r with st := .waitEPC, rn16 := rn })) ∧
    (∀ d : ReplyData, op.reply = true → op.gap = false → r.st = .waitEPC → d.poison = false → crcHolds d.bits = true →
      steady d →
      let g := parseTag (decide (op.sel = 3) && r.trunc.isSome) d.bits
      ∃ (t : State) (e : TagEntry), exec (.replyEnd o dt d) s = .next t ∧ t.tags = (e :: s.tags).take 4096 ∧
        e.handle = s.reg AIR_TAGTAB ∧ e.pc = g.pc ∧ e.epc = g.epc.take (g.pc.extractLsb' 11 5).toNat ∧
        t.reg AIR_TAGTAB = s.reg AIR_TAGTAB + 1) ∧
    (op.reply = true →
      ∃ t : State, exec (.replyCap o) (s.modOp o fun x => { x with cancel := true }) = .next t ∧
        t.doneAs o op.words 2 0x09 ∧ s.onlySlot t o ∧ s.airFrame t)

/-- The tests of an operation (R38, R64 to R66, R69, R72 to R74, R176, R187, R192): one whose START is reached, or a
C.SEND from 50 µs before its START, that passes every test is dispatched: its slot is Active, or Done with the
status of the check it fails; with CONC and only a concurrency condition in its way it completes SERIALISED. At its
expiry a Pending operation completes TIMEOUT, or POLICED when last red. A C.SEND whose frame no longer fits
completes with its own status. CANCELALL ends a lone Pending operation CANCELLED. A held item stays while its ring
takes none of it; the last word of one that stands open on its ring is written when there is room, and its operation
then goes on, or, had it ended, completes, with the item's words counted; a ring out of service discards it,
counted, and an operation that had ended then completes. -/
def Obligations.OperationsDispatchExpireAndCancel : Prop :=
  (∀ (s : State) (o : OpId) (op : Op), s.regsWf → s.op? o = some op → op.active = false → op.words = 0 →
      (s.slot o).discard = false →
      let passes := fun (s1 : State) (op1 : Op) =>
        let l := s1.latchOp op1
        s1.airOpen = true ∧ l.1.waits l.2 = false ∧ l.1.classWins l.2 = true ∧ l.1.colourWins l.2 = true ∧
          (op1.isSend = true → s1.sendFits op1 = true)
      let tests := fun (c : Instr) (s1 : State) => ∀ op1, s1.op? o = some op1 → passes s1 op1 →
        let l := s1.latchOp op1
        (l.1.serialised l.2 = true → op1.conc = true →
          ∃ t : State, exec c s = .next t ∧ t.doneAs o 0 op.code 0x11 ∧ s.onlySlot t o ∧ s.airFrame t) ∧
        (l.1.serialised l.2 = false → s1.outranked op1 = false →
          (∀ st, l.1.dispatchStatus l.2 = some st →
            ∃ t : State, exec c s = .next t ∧ t.doneAs o 0 op.code st ∧ s.onlySlot t o ∧ s.airFrame t) ∧
          (l.1.dispatchStatus l.2 = none → op.isBeam = false →
            ∃ (t : State) (x : Op), exec c s = .next t ∧ t.op? o = some x ∧ x.active = true ∧ x.started = op.started ∧
              x.desc = op.desc ∧ t.slot o = { s.slot o with st := .active } ∧ s.onlySlot t o ∧ s.airFrame t) ∧
          (l.1.dispatchStatus l.2 = none → op.isBeam = true → op.eng = .idle → l.1.txPorts l.2 ≠ [] →
            ∃ (t : State) (x : Op), exec c s = .next t ∧ t.op? o = some x ∧ x.active = true ∧ x.started = op.started ∧
              x.desc = op.desc ∧ t.slot o = { s.slot o with st := .active }))
      let tested := fun (c : Instr) (s0 : State) => ∀ op0, s0.refreshDue.op? o = some op0 → op0.due = true →
        tests c (s0.refreshDue.noteColour op0)
      tested (.operationDispatch o) s ∧
      (op.due = false → op.start ≠ 0 → s.tbRuns = true → s.ahead op.start = true →
        tested (.startTimeReached o) (s.advance (op.start - s.tbLo).toNat)) ∧
      (∀ op0 e, s.refreshDue.op? o = some op0 → op0.expTick = some e →
        ∃ t : State, exec (.operationExpiry o) s = .next t ∧ t.doneAs o 0 op.code (if op.redLast then 0x08 else 0x0F) ∧
          s.onlySlot t o ∧ s.airFrame t ∧ (s.tbRuns = true → t.ticks = max s.ticks e)) ∧
      (op.isSend = true →
        let left := (op.sendStart - s.tbLo).toInt
        let s0 := if left ≤ ticksOf 50 then s else s.advance (left - ticksOf 50).toNat
        tests (.cSendClaim o) (s0.noteColour op) ∧
        (s0.sendFits op = false → s.colour o.thread ≠ 2 →
          ∃ t : State, exec (.cSendClaim o) s = .next t ∧ t.doneAs o 0 op.code 0x05 ∧ s.onlySlot t o ∧ s.airFrame t)) ∧
      (∀ v : Word, s.ops = [op] →
        ∃ t : State, exec (.cancelall v) s = .next t ∧ t.doneAs o 0 op.code 0x09 ∧ s.onlySlot t o ∧ s.airFrame t ∧
          (t.reg AIR_CTRL).getLsbD 0 = v.getLsbD 0)) ∧
  (∀ (s : State) (o : OpId) (op : Op) (w : RWord) (ws : List RWord), s.regsWf → s.op? o = some op → op.held = w :: ws →
      (s.slot o).discard = false →
      let n := op.egress
      let open_ := w.s = false ∧ s.openBy n (.air o) = true ∧ s.orphan n (.air o) = none
      (s.ringOn n = true → s.ringRoom n = 0 → w.s = true ∨ open_ →
        ∃ t : State, exec (.heldItemWritten o) s = .next t ∧ t.op? o = some op ∧ t = { s with ops := t.ops }) ∧
      (ws = [] → w.e = true → s.ringOn n = true → s.ringRoom n ≠ 0 → open_ →
        let words := op.words + (op.part + 1)
        let written := fun (t : State) =>
          (t.ring n).words = (s.ring n).words ++ [{ w with v := true, tick := s.ticks }] ∧
          (t.ring n).open_ = none ∧ ∀ m, m ≠ n → t.ring m = s.ring m
        (∀ st, op.ending = some st →
          ∃ t : State, exec (.heldItemWritten o) s = .next t ∧ written t ∧ t.doneAs o words op.code st.toNat) ∧
        (op.ending = none → op.round? = none → (∀ a, op.eng ≠ .hactivate a) →
          ∃ t : State, exec (.heldItemWritten o) s = .next t ∧ written t ∧
            t.op? o = some { op with held := [], words := words, part := 0 })) ∧
      (∀ st, s.ringOn n = false → op.ending = some st →
        ∃ t : State, exec (.heldItemWritten o) s = .next t ∧ t.doneAs o op.words op.code st.toNat ∧ s.onlySlot t o ∧
          s.airFrame t ∧ (t.reg (RG_DROP n)).toNat = min ((s.reg (RG_DROP n)).toNat + (ws.length + 1)) 0xFFFFFFFF))

/-! ### HF operations (R136 to R154) -/

namespace Sys2Proof.Machine

/-- The operation `x` has sent the frame `c` at `start`: it ends after its carrier cycles, and its reply window runs from
the protocol's opening to `close` cycles after that (R142, R143). -/
def Op.framed (x op : Op) (c : AirCmd) (start close : Nat) : Prop :=
  x.cmd = c ∧ x.cmdFrom = start ∧ x.cmdEnd = start + 16 * hfCycles op.proto (bits (op.w 4) 24 4) c ∧
    x.winFrom = some (x.cmdEnd + 16 * hfOpen op.proto) ∧ x.winTo = x.cmdEnd + 16 * close

/-- The tick before which an operation's port takes no frame (R144). -/
def State.gapOf (s : State) (op : Op) : Nat := (op.hports.head?.map fun p => (s.hp p).gapTo).getD 0

/-- An H.ACTIVATE may go on: it has neither found its maximum of cards, nor passed LIMIT, nor been cancelled, and no card
is to be halted first. -/
def Op.mayAsk (op : Op) (a : ActSt) : Prop :=
  op.cancel = false ∧ op.limitHit = false ∧ op.okItems < bits (op.w 5) 24 8 ∧ a.halt = false

end Sys2Proof.Machine

/-- H.FIELD, H.ACTIVATE, H.FRAME and H.WATCH begin (R136 to R138, R142, R143, R146, R147, R152): H.FIELD turns each port's
field on at its level and waits, or off and completes OK once the ramp of 16 cycles has ended; H.ACTIVATE and H.FRAME
take their port and, on a field that is on already, send their first frame; a field just turned on is waited for; H.WATCH
turns its ports' fields off, their next scan setting the baseline; a frame with a parity error is not sent and the
operation completes REJECT. A write of HC_WATCHCFG with REBASE makes the next scan of every port set its baseline. -/
def Obligations.HfOperationsTurnFieldsOn : Prop :=
  ∀ (s : State) (o : OpId) (op : Op), s.regsWf → op.plain → (s.slot o).discard = false →
    let on := fun (t : State) => ∀ p ∈ op.hports, (t.hp p).field = true ∧ (t.hp p).level = s.hfLevel op p
    let begun := fun (c : Instr) (post : State → Op → Prop) =>
      ∃ (t : State) (x : Op), exec c s = .next t ∧ t = { s with regs := t.regs, ops := t.ops, hports := t.hports } ∧
        t.op? o = some x ∧ x.active = true ∧ x.started = true ∧ x.desc = op.desc ∧ x.words = op.words ∧
        (∀ p, p ∉ op.hports → t.hp p = s.hp p) ∧ post t x
    let allOn := op.hports.all fun p => (s.hp p).field
    let first : ActSt := { exp := min 4 (bits (s.reg HC_ACTCFG) 8 3) }
    let start := max s.ticks (s.gapOf op)
    let frame := s.frameCmd op
    (s.begins o 1 1 = some op → bit (op.w 5) 31 = true →
      begun (.hField o) fun t x => x.eng = .hfield true ∧ x.cmdFrom = s.ticks + 256 + ticksOf (bits (op.w 5) 0 24) ∧ on t ∧
        ∀ p ∈ op.hports, (t.hp p).leftBy = some (o, s.ticks)) ∧
    (s.begins o 1 1 = some op → bit (op.w 5) 31 = false →
      ∃ t : State, exec (.hField o) s = .next t ∧ t.doneAs o op.words 1 0 ∧ s.onlySlot t o ∧ s.airFrame t ∧
        (s.tbRuns = true → t.ticks = s.ticks + 256) ∧
        (∀ p ∈ op.hports, (t.hp p).field = false ∧ (t.hp p).level = 0) ∧ ∀ p, p ∉ op.hports → t.hp p = s.hp p) ∧
    (s.begins o 1 2 = some op → allOn = false →
      begun (.hActivate o) fun t x => x.eng = .hactivate first ∧ x.settled = false ∧ on t) ∧
    (s.begins o 1 2 = some op → allOn = true → op.mayAsk first →
      begun (.hActivate o) fun t x => x.eng = .hactivate { first with later := true } ∧ x.settled = true ∧ on t ∧
        x.framed op ({ op with cfg := s.reg HC_ACTCFG }.actCmd 0 first) start (op.actClose first)) ∧
    (s.begins o 1 3 = some op → begun (.hFrame o false) fun t x =>
      x.eng = .hframe true ∧ x.settled = allOn ∧ on t ∧ x.cmd = frame ∧
        (allOn = true → x.framed op frame start (op.w 6).toNat)) ∧
    (s.begins o 1 3 = some op → ∃ t : State, exec (.hFrame o true) s = .next t ∧ t.doneAs o op.words 3 0x0D ∧
      (t.reg FLT_STATUS).getLsbD 6 = true ∧ ∀ p, (t.hp p).field = (s.hp p).field) ∧
    (s.begins o 1 4 = some op → begun (.hWatch o) fun t x => x.eng = .hwatch 0 0 ∧ x.cmdFrom = s.ticks ∧
      ∀ p ∈ op.hports, (t.hp p).field = false ∧ (t.hp p).level = 0 ∧ (t.hp p).needBase = true) ∧
    (∀ v : Word, ∃ t : State, exec (.rebase v) s = .next t ∧ t = { s with regs := t.regs, hports := t.hports } ∧
      ∀ p, t.hp p = { s.hp p with needBase := true })

/-- The exchanges of the HF cluster (R136, R143, R144, R146, R147): a settled H.FIELD completes OK, and a settled
H.ACTIVATE or H.FRAME sends its first frame; a reply that starts outside the window, or is still being received, changes
nothing; an H.FRAME completes NO_REPLY when its window closes, and with a reply OK, POISON, or CRC_FAIL for one cut short
or a checked one that fails; with FAILITEMS its NO_REPLY item is two words on its ring: the header of R61 and a word of
0. An H.ACTIVATE whose Type A request drew no reply ends OK when it had found a card, COLLISION when replies came,
NO_REPLY when none did; an ATQA draws the ANTICOLLISION of level 1 no sooner than the least gap; an empty slot of the
other protocols is followed by the next. -/
def Obligations.HfExchangesEndWithTheirStatus : Prop :=
  ∀ (s : State) (o : OpId) (op : Op) (dt : Nat), s.regsWf → s.running o = some op → op.plain →
    (s.slot o).discard = false → op.cancel = false →
    let ends := fun (c : Instr) (st : Nat) =>
      ∃ t : State, exec c s = .next t ∧ t.doneAs o op.words op.code st ∧ s.onlySlot t o ∧ s.airFrame t
    let goes := fun (c : Instr) (post : State → Op → Prop) =>
      ∃ (t : State) (x : Op), exec c s = .next t ∧
        t = { s with ticks := t.ticks, tb := t.tb, ops := t.ops, hports := t.hports } ∧ t.op? o = some x ∧
        x.active = true ∧ x.desc = op.desc ∧ x.words = op.words ∧ post t x
    let on := s.advanceTo op.cmdFrom
    let closed := s.advanceTo op.winTo
    let heard := s.advance dt
    let received := fun (r : HfReply) =>
      hfEnd op.proto (hfBytes op.proto r.bits).1 (heard.ticks - replyStart r heard.ticks) op.hfWait r.eof
    (op.eng = .hfield true → ends (.hfFieldSettled o) 0x00) ∧
    (op.eng = .hframe true → op.settled = false → goes (.hfFieldSettled o) fun _ x =>
      x.settled = true ∧ x.eng = op.eng ∧ x.framed op op.cmd (max on.ticks (s.gapOf op)) (op.w 6).toNat) ∧
    (∀ a, op.eng = .hactivate a → op.settled = false → op.mayAsk a → goes (.hfFieldSettled o) fun _ x =>
      x.settled = true ∧ x.eng = .hactivate { a with later := a.later || a.step == .request } ∧
        x.framed op (op.actCmd (s.reg HC_ATTRIB) a) (max on.ticks (s.gapOf op)) (op.actClose a)) ∧
    (∀ r : HfReply, op.hfInside (replyStart r heard.ticks) = false ∨ received r = none →
      exec (.hfReplyReceived o dt r) s = .next heard) ∧
    (op.eng = .hframe true →
      (op.winFrom ≠ none → op.failItems = false → ends (.hfReplyWindowClose o) 0x01) ∧
      (op.winFrom ≠ none → op.failItems = true → op.mem = false → s.ringOn op.egress = true → 2 ≤ s.ringRoom op.egress →
        (s.ring op.egress).open_ = none → (s.ring op.egress).orphans = [] →
        let hdr : DWord := 2#16 ++ 0x11#8 ++ BitVec.ofNat 8 o.thread ++ BitVec.ofNat 8 o.slot ++ 0x01#8 ++ 0#16
        ∃ t : State, exec (.hfReplyWindowClose o) s = .next t ∧ t.doneAs o (op.words + (op.part + 2)) op.code 0x01 ∧
          (t.ring op.egress).words = (s.ring op.egress).words ++
            [{ data := hdr, v := true, s := true, tick := closed.ticks },
             { data := 0, v := true, e := true, tick := closed.ticks }] ∧
          ∀ m, m ≠ op.egress → t.ring m = s.ring m) ∧
      ∀ (r : HfReply) bs cut, op.mem = true → op.limit < op.memWords + 2 →
        op.hfInside (replyStart r heard.ticks) = true → received r = some (bs, cut) →
        ends (.hfReplyReceived o dt r)
          (if r.poison then 0x0B else if cut || (bit (op.w 5) 11 && !hfCrcOk op.proto bs) then 0x02 else 0x00)) ∧
    (∀ a, op.eng = .hactivate a →
      (op.winFrom ≠ none → op.proto = 0 → a.step = .request →
        ends (.hfReplyWindowClose o) (if 0 < op.okItems then 0x00 else if a.replies then 0x03 else 0x01)) ∧
      (∀ b, op.winFrom ≠ none → op.proto ≠ 0 → (a.step = .request ∨ a.step = .slot) → a.next op.proto = some b →
        op.mayAsk b → goes (.hfReplyWindowClose o) fun _ x =>
          x.eng = .hactivate { b with later := b.later || b.step == .request } ∧
            x.framed op (op.actCmd (s.reg HC_ATTRIB) b) (max closed.ticks (s.gapOf op)) (op.actClose b)) ∧
      ∀ (r : HfReply) bs, op.proto = 0 → a.step = .request → op.mayAsk a → r.poison = false → r.coll ≠ none →
        op.hfInside (replyStart r heard.ticks) = true → received r = some (bs, false) → op.hports ≠ [] →
        goes (.hfReplyReceived o dt r) fun _ x =>
          (∃ b, x.eng = .hactivate b ∧ b.step = .anticoll ∧ b.replies = true ∧ b.known = [] ∧ b.level = a.level) ∧
          x.framed op (anticollCmd { a with known := [] }) (max heard.ticks (max (s.gapOf op) (heard.ticks + 16 * 1172))) 1300)

/-- A scan of an Active H.WATCH (R152 to R154): it comes word 5 µs after the one before, and must show every watched
port; a port whose turn it is to set its baseline takes the sample as its baseline; a port that is faulted is skipped and
counted; after the last scan the operation completes, NO_REPLY when no change was reported. -/
def Obligations.CardWatchScanSetsBaselines : Prop :=
  ∀ (s : State) (o : OpId) (op : Op) (p : HPortNo) (x : WatchSample) (n m : Nat), s.regsWf → s.running o = some op →
    op.plain → op.limitHit = false → op.eng = .hwatch n m → op.hports = [p] → x.port = p →
    (s.slot o).discard = false →
    let limit := bits (op.w 6) 16 16
    let last := fun (t : State) =>
      (if limit ≠ 0 ∧ limit ≤ n + 1 then t.doneAs o op.words op.code (if 0 < m then 0x00 else 0x01)
      else t.op? o = some { op with eng := .hwatch (n + 1) m }) ∧
      (s.tbRuns = true → t.ticks = max s.ticks (op.cmdFrom + ticksOf (n * (op.w 5).toNat)))
    exec (.hfWatchScan o []) s = .next s ∧
    (s.watchSkips p = false → (s.hp p).needBase = true →
      ∃ t : State, exec (.hfWatchScan o [x]) s = .next t ∧ s.airFrame t ∧ s.onlySlot t o ∧ last t ∧
        t.reg (HP_WBASE p) = x.xi ++ x.xq ∧ (t.hp p).needBase = false ∧ (t.hp p).field = (s.hp p).field) ∧
    ((s.hp p).faulted = true →
      ∃ t : State, exec (.hfWatchScan o [x]) s = .next t ∧ s.airFrame t ∧ s.onlySlot t o ∧ last t ∧
        t.reg (HP_WBASE p) = s.reg (HP_WBASE p) ∧ (t.hp p).needBase = (s.hp p).needBase ∧
        t.fld (HP_WCNT p) 16 16 = min (s.fld (HP_WCNT p) 16 16 + 1) 65535)

/-! ### Ports (R84, R88, R89, R92 to R94, R156 to R158) -/

/-- Port faults (R92 to R94, R156 to R158, R322): what an enabled port's monitors show is a fault of a kind, a return loss
below its threshold being OPEN or SHORT by the phase of the reflection; a fault of a port that no operation holds removes
its carrier or field, marks it faulted with its kind, counts it, and is recorded with the class, the port and the kind; a
disabled port, and one faulted with that kind already, takes no further one. Two consecutive passing probes under
AUTOCLR, or a write of CLEAR, end the faulted state. A write of UPn_CTRL that disables a port with no operation ends its
holdover carrier. -/
def Obligations.PortFaultsRemoveCarriersUntilCleared : Prop :=
  (∀ (s : State) (p : UPortNo) (m : UhfSense), s.regsWf →
    let open_ := (s.up p).carrier ≠ none ∧ m.rl < 4 * s.fld (UP_FBCFG p) 0 8 ∧ 20 ≤ m.us
    let near : Bool := decide (m.phase.toNat ≤ 256 ∨ 768 ≤ m.phase.toNat)
    let hot := 2 ≤ m.us ∧ (m.txDc < 200 ∨ 800 < m.txDc ∨ 150 < m.current)
    let off := 2 ≤ m.us ∧ (m.rxDc < 200 ∨ 800 < m.rxDc)
    (open_ → s.uhfKind p m = some (if near then 1 else 2)) ∧
    (¬ open_ → (hot → s.uhfKind p m = some 3) ∧ (¬ hot → off → s.uhfKind p m = some 4)) ∧
    (bit (s.reg (UP_CTRL p)) 0 = false ∨ s.uhfKind p m = none ∨
        ((s.up p).faulted = true ∧ s.uhfKind p m = some (s.fld (UP_FAULT p) 8 4)) →
      exec (.uhfPortFault p m) s = .next s) ∧
    (∀ kind, bit (s.reg (UP_CTRL p)) 0 = true → s.uhfKind p m = some kind → kind ≠ 6 →
      ((s.up p).faulted = false ∨ s.fld (UP_FAULT p) 8 4 ≠ kind) → s.onPort p = [] → s.endedNow = [] →
      ∃ t : State, exec (.uhfPortFault p m) s = .next t ∧
        t = { s with regs := t.regs, threads := t.threads, uports := t.uports, faults := t.faults } ∧
        (t.up p).faulted = true ∧ (t.up p).probes = 0 ∧ (t.up p).carrier = none ∧ (t.up p).pa = false ∧
        (∀ q, q ≠ p → t.up q = s.up q) ∧ t.fld (UP_FAULT p) 8 4 = kind ∧
        t.fld (UP_FAULT p) 16 8 = min (s.fld (UP_FAULT p) 16 8 + 1) 255 ∧ (t.reg (UP_FLAGS p)).getLsbD 0 = true ∧
        (t.reg FLT_STATUS).getLsbD 0 = true ∧
        t.reg (FLT_LOGA (s.fld FLT_LOGHEAD 0 4)) = BitVec.ofNat 32 (65536 * p.val + 256 * kind + s.fld FLT_LOGHEAD 8 8) ∧
        t.reg (FLT_LOGB (s.fld FLT_LOGHEAD 0 4)) = s.tbLo)) ∧
  (∀ (s : State) (p : HPortNo) (m : HfSense), s.regsWf →
    let found := ([1, 2, 3, 4, 5] : List Nat).find? fun k => s.hfDetects p m k
    (1200 < m.current → 1 ≤ m.cycles → found = some 1) ∧
    (bit (s.reg (HP_CTRL p)) 0 = false ∨ found = none ∨
        ((s.hp p).faulted = true ∧ found = some (s.fld (HP_FAULT p) 8 4)) → exec (.hfPortFault p m) s = .next s) ∧
    (∀ kind, bit (s.reg (HP_CTRL p)) 0 = true → found = some kind →
      ((s.hp p).faulted = false ∨ s.fld (HP_FAULT p) 8 4 ≠ kind) → s.ops = [] → s.endedNow = [] →
      ∃ t : State, exec (.hfPortFault p m) s = .next t ∧
        t = { s with regs := t.regs, threads := t.threads, hports := t.hports, faults := t.faults } ∧
        (t.hp p).faulted = true ∧ (t.hp p).field = false ∧ (t.hp p).level = 0 ∧ (∀ q, q ≠ p → t.hp q = s.hp q) ∧
        t.fld (HP_FAULT p) 8 4 = kind ∧ ((s.hp p).field = true → (t.reg (HP_FLAGS p)).getLsbD 2 = true) ∧
        (t.reg (HP_FLAGS p)).getLsbD 0 = true ∧ (t.reg FLT_STATUS).getLsbD 1 = true)) ∧
  (∀ (s : State) (p : UPortNo), s.regsWf → (s.up p).faulted = true →
    (bit (s.reg (UP_CTRL p)) 4 = true → 1 ≤ s.fld (UP_FAULT p) 8 4 → s.fld (UP_FAULT p) 8 4 ≤ 5 →
      exec (.uhfFaultProbe p false) s = .next (s.modUp p fun x => { x with probes := 0 }) ∧
      ((s.up p).probes = 0 → exec (.uhfFaultProbe p true) s = .next (s.modUp p fun x => { x with probes := 1 })) ∧
      (1 ≤ (s.up p).probes →
        exec (.uhfFaultProbe p true) s = .next (s.modUp p fun x => { x with faulted := false, probes := 0 }))) ∧
    (∀ v : Word, ∃ t : State, exec (.uhfFaultClear p v) s = .next t ∧ t = { s with regs := t.regs, uports := t.uports } ∧
      t.up p = { s.up p with faulted := false, probes := 0 } ∧ (∀ q, q ≠ p → t.up q = s.up q) ∧
      t.fld (UP_FAULT p) 16 8 = bits v 16 8 ∧ t.fld (UP_FAULT p) 8 4 = s.fld (UP_FAULT p) 8 4)) ∧
  (∀ (s : State) (p : HPortNo), s.regsWf → (s.hp p).faulted = true →
    (bit (s.reg (HP_CTRL p)) 1 = true → 1 ≤ s.fld (HP_FAULT p) 8 4 → s.fld (HP_FAULT p) 8 4 ≤ 5 →
      exec (.hfFaultProbe p false) s = .next (s.modHp p fun x => { x with probes := 0 }) ∧
      ((s.hp p).probes = 0 → exec (.hfFaultProbe p true) s = .next (s.modHp p fun x => { x with probes := 1 })) ∧
      (1 ≤ (s.hp p).probes → exec (.hfFaultProbe p true) s =
        .next (s.modHp p fun x => { x with faulted := false, probes := 0, needBase := true }))) ∧
    (∀ v : Word, ∃ t : State, exec (.hfFaultClear p v) s = .next t ∧ t = { s with regs := t.regs, hports := t.hports } ∧
      t.hp p = { s.hp p with faulted := false, probes := 0, needBase := true } ∧ (∀ q, q ≠ p → t.hp q = s.hp q))) ∧
  (∀ (s : State) (p : UPortNo) (v : Word), s.regsWf → s.onPort p = [] →
    ∃ t : State, exec (.uhfPortDisable p v) s = .next t ∧ t = { s with regs := t.regs, uports := t.uports } ∧
      (t.reg (UP_CTRL p)).getLsbD 0 = false ∧ (∀ a, a ≠ UP_CTRL p → t.reg a = s.reg a) ∧
      (bit (s.reg (UP_CTRL p)) 0 = true → (s.up p).holdover ≠ none → (t.up p).carrier = none) ∧
      (∀ q, q ≠ p → t.up q = s.up q))

/-- AGC and canceller (R84, R85, R88, R89): in Free, clips at CLIPTHR or more step the gain down and a residual that
allows it steps it up, within 0 to 7; in Frozen one overload step is taken, flagged, and marks the receptions of the
port; the AGC is Free again when no freeze source is left. Each canceller trim moves by at most 1 LSB, unless held, and
RESID and CNCLOCK follow the residual. Clips are counted in every state. -/
def Obligations.GainStepsAndCancellerTrims : Prop :=
  ∀ (s : State) (p : UPortNo), s.regsWf →
    let thr := max 1 (bits (s.reg (UP_AGC_CTRL p)) 8 8)
    let target : Int := -8 * (bits (s.reg (UP_AGC_CTRL p)) 4 4 : Int)
    let counted := fun (t : State) (n : Nat) => (t.reg (UP_CLIPCNT p)).toNat = min ((s.reg (UP_CLIPCNT p)).toNat + n) 0xFFFFFFFF
    (∀ n, ∃ t : State, exec (.agcStepDown p n) s = .next t ∧ t = { s with regs := t.regs, uports := t.uports } ∧ counted t n ∧
      t.up p = { s.up p with step := if s.frozen p = false ∧ thr ≤ n then (s.up p).step - 1 else (s.up p).step } ∧
      (∀ q, q ≠ p → t.up q = s.up q) ∧ ∀ a, a ≠ UP_CLIPCNT p → t.reg a = s.reg a) ∧
    (∀ (peak resid : Int) (us : Nat),
      let ok := s.frozen p = false ∧ 20 ≤ us ∧ peak < target - 32 ∧ resid + 24 ≤ target
      (ok → exec (.agcStepUp p peak resid us) s = .next (s.modUp p fun x => { x with step := min 7 (x.step + 1) })) ∧
      (¬ ok → exec (.agcStepUp p peak resid us) s = .next s)) ∧
    (∀ n, s.frozen p = true → (s.up p).agc ≠ .stepped → bit (s.reg (UP_AGC_CTRL p)) 3 = false → thr ≤ n →
      ∃ t : State, exec (.agcOverloadStep p n) s = .next t ∧
        t = { s with regs := t.regs, uports := t.uports, decoders := t.decoders } ∧ counted t n ∧
        t.up p = { s.up p with step := (s.up p).step - 1, agc := .stepped } ∧ (t.reg (UP_FLAGS p)).getLsbD 3 = true ∧
        ∀ (d : Fin 16) r, s.decoders[d] = some r → t.decoders[d] = some { r with step := r.step || decide (r.port = p) }) ∧
    (s.frozen p = false → exec (.agcUnfreeze p) s = .next (s.modUp p fun x => { x with agc := .free })) ∧
    (∀ (di dq : Int) (resid : Byte), (s.up p).carrier ≠ none →
      let cnc := if (s.up p).spare then 0x20000 + 0x10000 * (p.val / 8) + 0x901C else UP_CNC p
      ∃ t : State, exec (.cancellerTrimStep p di dq resid) s = .next t ∧ t = { s with regs := t.regs, uports := t.uports } ∧
        t.fld cnc 8 8 = resid.toNat ∧ t.up p = { s.up p with cncLock := decide (140 < resid.toNat) } ∧
        (∀ a, a ≠ cnc → t.reg a = s.reg a) ∧
        (if s.replyWin p || bit (s.reg cnc) 1 || s.cncApplying p then t.fld cnc 16 16 = s.fld cnc 16 16
        else signed 8 (t.fld cnc 24 8) = max (-128) (min 127 (signed 8 (s.fld cnc 24 8) + max (-1) (min 1 di))) ∧
          signed 8 (t.fld cnc 16 8) = max (-128) (min 127 (signed 8 (s.fld cnc 16 8) + max (-1) (min 1 dq)))))

/-! ### The chirp link (R162 to R180) -/

/-- C.SEND and C.LISTEN (R165 to R168, R175 to R179, R321): a C.SEND whose LO is on its channel sends its frame at its
start; its payload with a parity error, or a frame that no longer fits, is not sent and completes REJECT, or POLICED or
WINDOW_SHORT. A frame that ends completes OK, and its transmit time counts in its sub-band. A C.LISTEN begins, its window
opening once its LO is locked on word 7; a window that has closed, and could still detect a packet no longer, completes
it when no packet of its own is in progress. Every second each sub-band's buckets roll, 3,600 of them kept. -/
def Obligations.ChirpOperationsSendAndListen : Prop :=
  ∀ (s : State) (o : OpId) (op : Op), s.regsWf → op.plain → (s.slot o).discard = false →
    let start := s.advance (op.sendStart - s.tbLo).toInt.toNat
    let ends := fun (c : Instr) (words st : Nat) =>
      ∃ t : State, exec c s = .next t ∧ t.doneAs o words op.code st ∧ t.smem = s.smem
    let fitted : Bool := decide (((174 + op.sendTicks : Nat) : Int) < (op.sendOpen + 8678400 - op.sendStart).toInt)
    (s.begins o 2 2 = some op → (s.lo op.lo).at op.freq = true →
      (start.sendFits op = false → ends (.cSend o false) op.words (if op.redLast && fitted then 0x08 else 0x05)) ∧
      ends (.cSend o true) op.words 0x0D ∧
      (start.sendFits op = true → op.uports = [] ∨ (∀ x ∈ s.ops, x.isListen = false) →
        ∃ (t : State) (x : Op), exec (.cSend o false) s = .next t ∧ s.airFrame t ∧ t.threads = s.threads ∧
          t.op? o = some x ∧ x.started = true ∧ x.desc = op.desc ∧ x.words = op.words ∧
          x.eng = .csend true (start.tbLo + 174) ∧ (op.sendCr ≠ 3 → x.chirps.length = 19 + paySymbols op.sendSo op.sendLen op.sendCr) ∧
          ∀ p ∈ op.uports, (s.up p).transmits = true → (t.up p).carrier = some (op.lo, op.freq)) ∧
      (s.tbRuns = false → start = s)) ∧
    (∀ first, s.running o = some op → op.eng = .csend true first → op.mem = true →
      op.limit < op.memWords + 2 → (∀ x ∈ s.ops, x.isListen = false) →
      ∃ t : State, exec (.cSendFrameEnd o) s = .next t ∧ t.doneAs o op.words op.code 0x00 ∧ s.onlySlot t o ∧
        (s.tbRuns = true → t.ticks = max s.ticks (op.cmdFrom + op.sendTicks)) ∧
        ∀ k b bs, op.band = some k → s.duty[k] = b :: bs →
          t.duty[k] = (b + ((t.ticks - op.cmdFrom) * 100 + 10848) / 21696) :: bs) ∧
    (s.begins o 2 1 = some op →
      ∃ (t : State) (x : Op), exec (.cListen o) s = .next t ∧ t = { s with ops := t.ops } ∧ t.op? o = some x ∧
        x.started = true ∧ x.eng = .listen false 0 ∧ x.desc = op.desc ∧
        ((s.lo op.lo).lockedOn (op.w 7).toNat = true → x.settled = true ∧ x.winOpen = s.ticks) ∧
        ((s.lo op.lo).lockedOn (op.w 7).toNat = false → x.settled = op.settled)) ∧
    (∀ got, s.running o = some op → op.eng = .listen false got → op.settled = true → op.w 5 ≠ 0 → op.limitHit = false →
      bits (op.w 4) 8 8 = 0 → s.decoders = Vector.replicate 16 none →
      ∃ t : State, exec (.listenWindowClose o) s = .next t ∧ s.airFrame t ∧ s.onlySlot t o ∧
        t.doneAs o op.words op.code (if 0 < op.okItems then 0x00 else 0x01) ∧
        (s.tbRuns = true → t.ticks = max s.ticks (op.winOpen + spanTicks (op.w 5).toNat + op.listenLag))) ∧
    (∃ t : State, exec .dutyBucketRoll s = .next t ∧ t = { s with duty := t.duty } ∧
      ∀ k : Fin 4, t.duty[k] = (0 :: s.duty[k]).take 3600 ∧ (t.duty[k]).length ≤ 3600)

/-- Chirp receptions (R163, R167, R169 to R174): with no C.LISTEN on the port a detection claims nothing; one that a
window hears takes the lowest free decoder, and with none free is counted as dropped. A later preamble at least 1 dB
stronger re-anchors a decoder before its header; after it a packet at least CAPTHR stronger takes over, a weaker one
being counted as missed. The identifier 0, a header that fails and a downlink frame are counted and release the
decoder; a payload whose listeners are gone is delivered to none, and its decoder is free. -/
def Obligations.ChirpReceptionsAnchorAndRelease : Prop :=
  ∀ (s : State) (d : Fin 16) (r : Recep) (dt : Nat), s.regsWf → s.decoders[d] = some r → (∀ x ∈ s.ops, x.isListen = false) →
    let s1 := s.advance dt
    let frame := fun (t : State) => t = { s with ticks := t.ticks, tb := t.tb, regs := t.regs, decoders := t.decoders }
    let freed := fun (c : Instr) (reg lo n : Nat) =>
      ∃ t : State, exec c s = .next t ∧ frame t ∧ t.decoders = vset s.decoders d none ∧
        t.fld reg lo n = min (s.fld reg lo n + 1) (2 ^ n - 1)
    (∀ p chan so lv now, exec (.chirpDetection p chan so dt lv now) s = .next s1) ∧
    (∀ lv, exec (.reanchor d dt lv) s = .next s1) ∧ (∀ lv now, exec (.preempted d dt lv now) s = .next s1) ∧
    (∀ id rssi snr off, r.netid = none →
      (id = 0 → freed (.identifierEnd d dt id rssi snr off) CH_CNT0 0 16) ∧
      (id ≠ 0 → ∃ t : State, exec (.identifierEnd d dt id rssi snr off) s = .next t ∧ frame t ∧ t.regs = s.regs ∧
        let held : Recep := { r with idTb := s1.tbLo, netid := some id, rssi := rssi, snr := snr, offset := off }
        t.decoders = vset s.decoders d (some held))) ∧
    (∀ h : BitVec 24, r.netid ≠ none → r.hdr = none →
      let passes := hcrc (h.toNat / 256) = h.toNat % 256 ∧ h.toNat / 65536 ≠ 0 ∧ h.toNat / 16384 % 4 ≠ 3 ∧ h.toNat / 256 % 16 = 0
      (¬ passes → freed (.headerVerdict d h) CH_CNT0 0 16) ∧
      (passes → h.toNat / 4096 % 2 = 1 → freed (.headerVerdict d h) CH_CNT1 8 8) ∧
      (passes → h.toNat / 4096 % 2 = 0 →
        let held : Recep := { r with hdr := some h, capthr := max 3 (min 12 (s.fld CH_CFG 8 4)) }
        exec (.headerVerdict d h) s = .next { s with decoders := vset s.decoders d (some held) })) ∧
    (∀ bytes bad, r.hdr ≠ none → r.ops = [] → ∃ t : State, exec (.payloadVerdict d dt bytes bad) s = .next t ∧
      t = { s1 with decoders := vset s.decoders d none })

/-- Capture (R170, R172, R173): beside a reception of its kind, a packet that an Active C.LISTEN's window hears takes
its decoder when it is 1 dB stronger before the header, or CAPTHR dB above the level of the packet in progress after it. A packet of a kind that no
decoder follows takes the lowest free decoder; with none free it is counted. A payload with CRC passed is an item of
the C.LISTEN that takes it, counted towards its limit. -/
def Obligations.ChirpCaptureAndDelivery : Prop :=
  (∀ (s : State) (d : Fin 16) (r : Recep) (x : Op) (got : Nat) (bytes : List Byte), s.decoders[d] = some r →
    r.hdr ≠ none → r.gap = false → r.step = false → r.ops = [x.id] → s.ops = [x] → x.isListen = true →
    x.takesSo r = true → x.passes r = true → x.ending = none → x.eng = .listen false got → bits (x.w 4) 8 8 = 0 →
    x.limitHit = false → x.mem = true →
    let len := ((r.hdr.getD 0).extractLsb' 16 8).toNat
    let n := 3 + (len + 7) / 8
    x.memWords + n ≤ x.limit → bytes.length = len + 2 → payloadOk bytes = true →
    ∃ (t : State) (y : Op), exec (.payloadVerdict d 0 bytes false) s = .next t ∧ t.decoders = vset s.decoders d none ∧
      t.ops = [y] ∧ y = { x with eng := .listen false (got + 1), memWords := x.memWords + n, words := x.words + n
                                 items := x.items + 1, okItems := x.okItems + 1 } ∧
      t.rings = s.rings ∧ t.regs = s.regs) ∧
  ∀ (s : State) (d : Fin 16) (r new : Recep) (lv now : Int), s.regsWf → s.decoders[d] = some r →
    s.newRecep r.port r.chan r.so lv = some new → s.detects new = true →
    (r.hdr = none → lv < r.level + 16 → exec (.reanchor d 0 lv) s = .next s) ∧
    (r.hdr = none → r.level + 16 ≤ lv → (∀ x ∈ s.ops, x.w 5 = 0 ∧ bits (x.w 4) 8 8 = 0 ∧ x.limitHit = false ∧
        x.eng = .listen false 0) →
      ∃ t : State, exec (.reanchor d 0 lv) s = .next t ∧ t = { s with regs := t.regs, decoders := t.decoders } ∧
        t.decoders[d] = some new ∧ t.fld CH_CNT0 16 16 = min (s.fld CH_CNT0 16 16 + 1) 65535) ∧
    (r.hdr ≠ none → lv < now + 16 * r.capthr →
      ∃ t : State, exec (.preempted d 0 lv now) s = .next t ∧ t = { s with regs := t.regs } ∧
        t.fld CH_CNT1 16 16 = min (s.fld CH_CNT1 16 16 + 1) 65535) ∧
    (r.hdr ≠ none → now + 16 * r.capthr ≤ lv → r.ops = [] → (∀ x ∈ s.ops, x.w 5 = 0 ∧ bits (x.w 4) 8 8 = 0 ∧
        x.limitHit = false ∧ x.eng = .listen false 0) →
      ∃ t : State, exec (.preempted d 0 lv now) s = .next t ∧ t = { s with regs := t.regs, decoders := t.decoders } ∧
        t.decoders[d] = some new ∧ t.fld CH_CNT2 16 16 = min (s.fld CH_CNT2 16 16 + 1) 65535) ∧
    (∀ p chan so (x : Recep), (p, chan) ∈ s.units → s.newRecep p chan so lv = some x → s.detects x = true →
      s.follower x = none →
      (∀ e : Fin 16, s.decoders[e] = none → (∀ e' : Fin 16, e' < e → s.decoders[e'] ≠ none) →
        exec (.chirpDetection p chan so 0 lv now) s = .next { s with decoders := vset s.decoders e (some x) }) ∧
      ((∀ e : Fin 16, s.decoders[e] ≠ none) →
        ∃ t : State, exec (.chirpDetection p chan so 0 lv now) s = .next t ∧ t = { s with regs := t.regs } ∧
          t.fld CH_CNT2 8 8 = min (s.fld CH_CNT2 8 8 + 1) 255))

/-! ### Localization and calibration (R126 to R133, R270 to R281) -/

/-- S.FIX (R126 to R129, R132, R133): dispatched without an illuminator it counts NOFIX and completes NO_REPLY; on a beam
not settled it waits for its carrier, and on a settled one its first hop sends the Select and, after T4, the Query for
target A. The end of a solve in progress counts FIXES, or NOFIX where the quality is 0, completes it with its Waypoint's
status, and lets the oldest waiting solve run. -/
def Obligations.FixesBeginAndSolve : Prop :=
  ∀ (s : State) (o : OpId) (op : Op), s.regsWf → op.plain → (s.slot o).discard = false →
    (∀ op0, s.op? o = some op → op.active = false → s.refreshDue.op? o = some op0 → op0.due = true →
      let s1 := s.refreshDue.noteColour op0
      ∀ op1, s1.op? o = some op1 →
        let l := s1.latchOp op1
        s1.airOpen = true → l.1.waits l.2 = false → l.1.classWins l.2 = true → l.1.colourWins l.2 = true →
        l.1.serialised l.2 = false → s1.outranked op1 = false → l.1.dispatchStatus l.2 = none → op.cls = 3 →
        op.failItems = false → l.1.txPorts l.2 = [] →
        ∃ t : State, exec (.operationDispatch o) s = .next t ∧ t.doneAs o op.words op.code 0x01 ∧ s.onlySlot t o ∧
          s.airFrame t ∧ t.fld SV_CNT 0 16 = min (s.fld SV_CNT 0 16 + 1) 65535) ∧
    (s.begins o 3 1 = some op → op.settled = false →
      exec (.sFix o) s = .next (s.modOp o fun x => { x with started := true, eng := .fix { ill := s.illuminator op } })) ∧
    (∀ e, s.begins o 3 1 = some op → op.settled = true → op.cancel = false → op.pos = 0 → op.entry = some e →
      op.retest = false → s.colour o.thread ≠ 2 →
      let start := s.ticks + 174
      let c := cmdQuery op.link 3 (bits op.bscCfg 4 2) false 0
      let start2 := start + cmdTicks op.link (reselect e) + t4Ticks op.link
      op.fits (reselect e) .none start = true → op.fits c (.immediate 16) start2 = true →
      ∃ t : State, exec (.sFix o) s = .next t ∧ t = { s with ops := t.ops } ∧
        t.sent o op c start2 (some (winOpenTicks op.link)) (some (winCloseTicks op.link))
          (.fix { ill := s.illuminator op, stage := .queryA, target := false })) ∧
    (∀ (f : FixSt) (poison : Bool), s.running o = some op → op.eng = .solve f → o ∈ s.solving → op.cls = 3 →
      op.mem = true → op.limit < op.memWords + 5 →
      let r := s.solution op f
      ∃ t : State, exec (.solveComplete o poison) s = .next t ∧ s.onlySlot t o ∧ t.freeCtr = s.freeCtr + 16 ∧
        s.airFrame { t with freeCtr := s.freeCtr } ∧
        t.doneAs o op.words op.code (if poison then 0x0B else 0x00) ∧ o ∉ t.solving ∧
        t.fld SV_CNT 16 16 = (if 0 < fixQuality r then min (s.fld SV_CNT 16 16 + 1) 65535 else s.fld SV_CNT 16 16) ∧
        t.fld SV_CNT 0 16 = (if 0 < fixQuality r then s.fld SV_CNT 0 16 else min (s.fld SV_CNT 0 16 + 1) 65535))

/-- The nine K.CALs begin (R83, R270, R272, R273, R276): the run takes the die temperature and the set nearest it, and
waits for its preconditions; DPD puts its carrier on its port, bypassed when the level passes FITLVL + 0.5 dB, LBT
unlocks its LO, HDI turns its field on at 100 mW. -/
def Obligations.CalibrationRunsClaimAndBegin : Prop :=
  ∀ (s : State) (o : OpId) (op : Op), s.begins o 4 1 = some op →
    let run := fun (block : Nat) (radiates : Bool) =>
      ({ set := setOf (s.dieTemp block), temp := BitVec.ofInt 16 (s.dieTemp block), radiates := radiates, since := s.ticks } : CalSt)
    let begun := fun (c : Instr) (code block : Nat) => op.calCode = code →
      exec c s = .next (s.modOp o fun x => { x with started := true, eng := .cal (run block false) })
    let ua := if op.calPort < 8 then 0 else 1
    begun (.kCalCnc o) 1 ua ∧ begun (.kCalIqr o) 2 ua ∧ begun (.kCalPph o) 4 ua ∧ begun (.kCalHro o) 7 2 ∧
    begun (.kCalMag o) 8 3 ∧ begun (.kCalTsn o) 9 3 ∧
    (op.calCode = 3 → op.lbtWait = false → (s.lo op.lo).at op.freq = true → (∀ x ∈ s.ops, x.isListen = false) →
      ∃ t : State, exec (.kCalDpd o) s = .next t ∧ s.airFrame t ∧ t.threads = s.threads ∧
        t.ops = (s.modOp o fun x => { x with started := true, eng := .cal (run ua true) }).ops ∧
        ∀ p ∈ op.uports, (s.up p).transmits = true → (t.up p).carrier = some (op.lo, op.freq) ∧
          (t.up p).dpdOff = (bit (s.up p).ctrl 3 && bit (s.reg (UP_DPDCTRL p)) 0 &&
            decide (signed 8 (s.fld (UP_DPDCTRL p) 24 8) + 2 < ((s.up p).driver (s.txpwr op)).1))) ∧
    (op.calCode = 5 → ∃ t : State, exec (.kCalLbt o) s = .next t ∧ t = { s with ops := t.ops, los := t.los } ∧
      t.ops = (s.modOp o fun x => { x with started := true, eng := .cal (run 3 false) }).ops ∧
      (t.lo op.lo).lock = false ∧ (t.lo op.lo).aligned = false ∧ ∀ n, n ≠ op.lo → t.lo n = s.lo n) ∧
    (op.calCode = 6 → ∃ t : State, exec (.kCalHdi o) s = .next t ∧ t = { s with ops := t.ops, hports := t.hports } ∧
      t.ops = (s.modOp o fun x => { x with started := true, eng := .cal (run 2 false) }).ops ∧
      ∀ p ∈ op.hports, (t.hp p).field = true ∧ (t.hp p).level = 10 ∧
        (t.hp p).saved = if (s.hp p).field then some (s.hp p).level else none)

/-- The course of a K.CAL (R270, R273 to R275, R279 to R281): 50 µs after it begins, preconditions that fail complete it
PRECOND, counted; otherwise it goes to its spare's switch or to the measurement, which lasts the code's time; a switch on
a field that is on takes 4 µs. A measurement during which the die moved 2 °C, or that a foreign carrier or a parity error
disturbed, completes REJECT, counted, with no item; one that used a spare returns from it first; a TSN result that passes
its limits is stored as the set, valid, and with word 4 [0] goes on to the nonvolatile store. The end of that write
stores the set. -/
def Obligations.CalibrationRunsMeasureAndStore : Prop :=
  ∀ (s : State) (o : OpId) (op : Op) (x : CalSt), s.regsWf → s.running o = some op → op.eng = .cal x → op.isCal = true →
    op.plain → (s.slot o).discard = false → (∀ y ∈ s.ops, y.isListen = false) →
    let ends := fun (c : Instr) (st lo : Nat) =>
      ∃ t : State, exec c s = .next t ∧ t.doneAs o op.words op.code st ∧ s.onlySlot t o ∧ s.airFrame t ∧
        t.fld CAL_CNT lo 16 = min (s.fld CAL_CNT lo 16 + 1) 65535
    let s1 := s.advanceTo (x.since + ticksOf 50)
    let s2 := s.advanceTo (x.since + ticksOf (calDuration op.calCode))
    let checked := fun (c : Instr) (stage : CalStage) =>
      exec c s = .next (s1.setEng o (.cal { x with stage := stage, since := s1.ticks }))
    (∀ c : CalChecks, x.stage = .preconds →
      (s1.calPre op c = false → ends (.calPreconditionsEnd o c) 0x0C 0) ∧
      (s1.calPre op c = true → op.spareNo ≠ none → checked (.calPreconditionsEnd o c) .waitSwitch) ∧
      (s1.calPre op c = true → op.spareNo = none → op.calCode ≠ 8 → checked (.calPreconditionsEnd o c) .measuring)) ∧
    (x.stage = .waitSwitch → op.calCode = 7 → op.lbtWait = false → op.spareNo ≠ none →
      (∀ h, s.hostOp op = some h → h.cmdEnd ≤ s.ticks) →
      (∀ p ∈ op.hports, ∀ h, s.hholder p = some h → s.winOpen h = false) →
      ∃ t : State, exec (.spareSwitch o) s = .next t ∧
        t = { s with ticks := t.ticks, tb := t.tb, ops := t.ops, hports := t.hports } ∧
        (s.tbRuns = true → t.ticks = s.ticks + if op.hports.any fun p => (s.hp p).field then ticksOf 4 else 0) ∧
        t.ops = (s.setEng o (.cal { x with stage := .measuring, radiates := s.calRadiates op, since := t.ticks })).ops ∧
        ∀ p ∈ op.hports, (t.hp p).spare = true) ∧
    (∀ r : CalResult, x.stage = .measuring → op.calCode ≠ 3 → op.calCode ≠ 6 →
      let disturbed := r.poison = true ∨ s.calMoved op x = true ∨ ((op.calCode = 1 ∨ op.calCode = 2) ∧ -240 < r.foreign)
      let y : CalSt := { x with quality := calQuality op.calCode r, values := r.values }
      (disturbed → ends (.calMeasurementEnd o r) 0x0D 16) ∧
      (¬ disturbed → op.calCode = 7 → op.spareNo ≠ none → s2.calPlausible op y r = true →
        exec (.calMeasurementEnd o r) s = .next (s2.setEng o (.cal { y with stage := .waitReturn, verdict := 0x00 }))) ∧
      (¬ disturbed → op.calCode = 9 → op.mask = 0 → op.spareNo = none → bit (op.w 4) 0 = true →
        s2.calPlausible op y r = true → s.applying = [] →
        let z : CalSet := { code := 9, port := 0, set := x.set, temp := x.temp, values := r.values, stored := false }
        ∃ t : State, exec (.calMeasurementEnd o r) s = .next t ∧ z ∈ t.calSets ∧
          (t.reg CAL_GVALID).getLsbD (5 + x.set.val) = true ∧ t.nvBusy = true ∧ t.threads = s.threads ∧
          t.ops = (s.setEng o (.cal { y with stage := .writing, verdict := 0 })).ops)) ∧
    (x.stage = .writing → op.calCode = 9 → op.mask = 0 → x.verdict = 0 → op.mem = true →
      op.limit < op.memWords + 3 →
      ∃ t : State, exec (.calNvWriteDone o) s = .next t ∧ t.doneAs o op.words op.code 0x00 ∧ s.onlySlot t o ∧
        t.nvBusy = false ∧ ∀ y ∈ s.calSets, y.code = 9 → y.port = 0 → y.set = x.set → { y with stored := true } ∈ t.nv.sets)

/-- Trims and temperatures (R277, R278, R280): at its time, 8 µs after the step before, an applying trim DAC moves by one
LSB towards its target, and its application is over when it is there. At each housekeeping sequence, 10 ms after the
last, the die temperature of each block becomes the mean of its two sensors, with the set nearest it; with no valid set
and nothing in force no other value changes. -/
def Obligations.TrimsStepAndTemperaturesUpdate : Prop :=
  (∀ (s : State) (a : Applying), s.regsWf → s.applying = [a] → a.op = none → a.trim = .mag 0 →
    s.tbRuns = true ∨ a.due ≤ s.ticks →
    ∃ t : State, exec .trimApplyStep s = .next t ∧
      t = { s with ticks := t.ticks, tb := t.tb, magTrim := t.magTrim, applying := t.applying } ∧ t.ticks = max s.ticks a.due ∧
      let v := s.magTrim[(0 : Fin 2)]
      t.magTrim = vset s.magTrim 0 (if v < a.target then v + 1 else if a.target < v then v - 1 else v) ∧
      t.applying = if t.magTrim[(0 : Fin 2)] = a.target then [] else [{ a with due := a.due + ticksOf 8 }]) ∧
  (∀ (s : State), s.regsWf → s.calSets = [] → s.calBase = [] → (∀ op ∈ s.ops, op.cal? = none) →
    ∃ t : State, exec .temperatureRecompute s = .next t ∧
      t = { s with ticks := t.ticks, tb := t.tb, regs := t.regs, retempAt := t.ticks, dieLog := t.dieLog } ∧
      (s.tbRuns = true → t.ticks = max s.ticks (s.retempAt + ticksOf 10000)) ∧
      ∀ c : Fin 4, let m := (signed 16 (s.fld (CAL_TEMP (2 * c.val)) 0 16) + signed 16 (s.fld (CAL_TEMP (2 * c.val + 1)) 0 16)) / 2
        signed 16 (t.fld (CAL_DIE c) 0 16) = m ∧ t.fld (CAL_DIE c) 16 3 = (setOf m).val)

/-! ### Rings, transfers and the scheduler (R182 to R202) -/

namespace Sys2Proof.Machine

/-- A thread agrees with an earlier one but for its event bits, and the mark of a timed wait that they met. -/
def State.onlyEvents (s t : State) : Prop := ∀ u, t.th u = { s.th u with event := (t.th u).event, met := (t.th u).met }

/-- A ring emptied with what it held counted in RG_DROPn, a producer with an item open going into orphan drop; the
other rings keep (R191). -/
def State.emptied (s t : State) (n : RingNo) : Prop :=
  (t.ring n).words = [] ∧ (t.ring n).last = {} ∧ (t.ring n).open_ = none ∧
    (∀ o, (s.ring n).open_ = some o → o ∈ (t.ring n).orphans) ∧ (∀ m, m ≠ n → t.ring m = s.ring m) ∧
    (t.reg (RG_DROP n)).toNat = min ((s.reg (RG_DROP n)).toNat + (s.ring n).words.length) 0xFFFFFFFF

end Sys2Proof.Machine

/-- Enabling, disabling, flushing and resetting a ring (R182, R190 to R192): a disabled ring written with EN = 1 is
emptied and takes its configuration, or, where that breaks a condition of R182, keeps EN = 0 with CFGERR; an enabled
one ignores it. FLUSH, EN = 0 and a pointer reset discard and count every word and leave an open item's producer in
orphan drop; EN = 0 traps every thread that waits on the ring with cause 0x09; a pointer reset is recorded. -/
def Obligations.RingsEnableEmptyAndReset : Prop :=
  ∀ (s : State) (n : RingNo) (v : Word), s.regsWf →
    (s.ringOn n = true → exec (.ringEnable n v) s = .next s) ∧
    (s.ringOn n = false → s.ringCfgOk n (v ||| 0x80000000) = true →
      ∃ t : State, exec (.ringEnable n v) s = .next t ∧ t = { s with regs := t.regs, rings := t.rings } ∧
        t.reg (RG_CFG n) = (v &&& 0xFFFFFF7F) ||| 0x80000000 ∧ (∀ a, a ≠ RG_CFG n → t.reg a = s.reg a) ∧
        (t.ring n).words = [] ∧ (t.ring n).open_ = none ∧ (t.ring n).orphans = (s.ring n).orphans ∧
        ∀ m, m ≠ n → t.ring m = s.ring m) ∧
    (s.ringOn n = false → s.ringCfgOk n (v ||| 0x80000000) = false →
      ∃ t : State, exec (.ringEnable n v) s = .next t ∧ t = { s with regs := t.regs } ∧
        t.reg (RG_CFG n) = v &&& 0x7FFFFF7F ∧ (t.reg (RG_FLAGS n)).getLsbD 6 = true) ∧
    (s.ringOn n = true → ∃ t : State, exec (.ringDisable n v) s = .next t ∧ s.emptied t n ∧
        t.reg (RG_CFG n) = v &&& 0x7FFFFF7F ∧ (t.reg (RG_FLAGS n)).getLsbD 3 = true ∧
        ∀ u, (if (s.th u).st = .wait ∧ waitsOnRing n (s.th u).waiting = true then
            (t.th u).tpc = (s.th u).pc ∧ (t.th u).tcause.toNat % 256 = 9 ∧ (t.th u).waiting = none ∧
            (t.th u).st = (if (s.th u).tven = true ∧ (s.th u).tactive = false then .run else .trapped)
          else (t.th u) = { s.th u with event := (t.th u).event, met := (t.th u).met })) ∧
    (∃ t : State, exec (.flush n v) s = .next t ∧ t = { s with regs := t.regs, rings := t.rings } ∧ s.emptied t n ∧
        (t.reg (RG_FLAGS n)).getLsbD 3 = true ∧ t.reg (RG_CFG n) = s.reg (RG_CFG n)) ∧
    (∃ t : State, exec (.ringPointerReset n) s = .next t ∧ s.emptied t n ∧ s.onlyEvents t ∧
        (t.reg (RG_FLAGS n)).getLsbD 5 = true ∧ (t.reg FLT_STATUS).getLsbD 8 = true ∧
        t.reg (FLT_LOGA (s.fld FLT_LOGHEAD 0 4)) = BitVec.ofNat 32 (0x8000000 + 65536 * n.val + s.fld FLT_LOGHEAD 8 8))

/-- The transfer channels (R194): a request to a channel out of service does nothing; one that finds the source empty
is counted in EMPTY; one further request is held during a move and others are counted in OVERRUN. A move of a single
word from its source to a destination with room writes it there, ends the move, and leaves the check values alone. -/
def Obligations.TransferChannelsServeRequests : Prop :=
  ∀ (s : State) (x : Fin 4), s.regsWf →
    let y := s.xf x
    let src := y.src
    let dst := y.dst
    (y.cfg.getLsbD 31 = false → exec (.transferRequest x) s = .next s ∧ ∀ bad, exec (.transferMove x bad) s = .next s) ∧
    (y.cfg.getLsbD 31 = true → y.busy = false → y.mid = false →
      ((s.ring src).words = [] → ∃ t : State, exec (.transferRequest x) s = .next t ∧ t = { s with regs := t.regs } ∧
        t.fld (RG_XFCNT x) 16 16 = min (s.fld (RG_XFCNT x) 16 16 + 1) 65535) ∧
      ((s.ring src).words ≠ [] → exec (.transferRequest x) s = .next { s with xfers := vset s.xfers x { y with busy := true } })) ∧
    (y.cfg.getLsbD 31 = true → y.busy = true →
      (y.held = false → exec (.transferRequest x) s = .next { s with xfers := vset s.xfers x { y with held := true } }) ∧
      (y.held = true → ∃ t : State, exec (.transferRequest x) s = .next t ∧ t = { s with regs := t.regs } ∧
        t.fld (RG_XFCNT x) 0 16 = min (s.fld (RG_XFCNT x) 0 16 + 1) 65535) ∧
      ∀ w, y.held = false → y.mid = false → y.cfg.getLsbD 15 = true → y.cfg.getLsbD 14 = false → src ≠ dst →
        s.ringOn src = true → s.ringCons src = 0x44 + x.val → s.ringOn dst = true → s.ringProd dst = 0x44 + x.val →
        s.ringRoom dst ≠ 0 → (s.ring src).words = [w] → w.s = true → w.e = true → itemLength w.data = 1 →
        (s.ring dst).open_ = none →
        ∃ t : State, exec (.transferMove x []) s = .next t ∧ (t.ring src).words = [] ∧ s.onlyEvents t ∧
          (t.ring dst).words = (s.ring dst).words ++ [{ w with v := true, tick := s.ticks }] ∧
          (∀ m, m ≠ src → m ≠ dst → t.ring m = s.ring m) ∧ t.xf x = { y with busy := false, held := false } ∧
          ∀ c : Fin 8, t.reg (CC_STATE c) = s.reg (CC_STATE c))

/-- The egress scheduler (R195, R196): a full transmit queue takes nothing; a complete item at the head of the lowest
ready ring of E0 to E3 moves whole into the queue; with none of these ready, the ring under the cursor, when ready and
not yet visited in this turn, gains its quantum and sends an item its deficit covers. A shaper in force pays 8 bytes a
word. -/
def Obligations.EgressSendsByPriorityThenDeficit : Prop :=
  ∀ (s : State), s.regsWf →
    (2048 ≤ s.hsp.txq.length → ∀ bad, exec (.egressDecision bad) s = .next s) ∧
    (∀ (n : RingNo) (ws : List RWord), s.hsp.sending = none → s.egReady n = true → headItem (s.ring n).words = some ws →
      s.hsp.txq.length + ws.length ≤ 2048 → s.hsp.txq.length < 2048 →
      let moved := fun (t : State) (d : Int) (vis : Bool) =>
        t.ring n = { s.ring n with words := (s.ring n).words.drop ws.length, last := ws.getLast?.getD {}, deficit := d, visited := vis } ∧
        t.hsp.txq = s.hsp.txq ++ ws ∧ t.hsp.sending = none ∧ (∀ m, m ≠ n → (t.ring m).words = (s.ring m).words) ∧
        t = { s with rings := t.rings, hsp := t.hsp, shLevels := t.shLevels } ∧
        t.shLevels = if s.shaped n then vset s.shLevels (RingNo.egr n) (s.shLevels[RingNo.egr n] - 8000000 * ws.length) else s.shLevels
      (16 ≤ n.val → n.val < 20 → (∀ m : RingNo, 16 ≤ m.val → m < n → s.egReady m = false) →
        ∃ t : State, exec (.egressDecision []) s = .next t ∧ moved t (s.ring n).deficit (s.ring n).visited) ∧
      ((∀ m : RingNo, 16 ≤ m.val → m.val < 20 → s.egReady m = false) → n.val = 20 + s.hsp.cursor → s.hsp.cursor < 12 →
        (s.ring n).visited = false →
        let q : Int := max 1 (bits (s.reg (SC_EGR (n.val - 16))) 16 16)
        ws.length ≤ (s.ring n).deficit + q →
        ∃ t : State, exec (.egressDecision []) s = .next t ∧ moved t ((s.ring n).deficit + q - ws.length) true ∧
          t.hsp.cursor = s.hsp.cursor))

/-- Credits (R196 to R199, R201): a shaper in force gains RATE a microsecond up to BURST; a backlogged thread of a weighted
class gains its share of PERIOD up to CAP and any other keeps its deficit; EN = 1 of a meter fills both its buckets;
each microsecond refills a thread's meter at CIR and PIR and takes, for each use charged, 1 µs from Tp and, when green,
from Tc. I0 has no ingress meter. Latency observation (R202): a sample of an enabled ring counts its depth and, with
words present, the age of the oldest; a disabled ring is not sampled. SNAP copies the statistics of every ring to the
snapshot page and CLEAR zeroes the live ones. -/
def Obligations.CreditsRefillAndLatencyIsSampled : Prop :=
  (∀ (s : State), s.regsWf →
    (∃ t : State, exec .shaperRefill s = .next t ∧ t = { s with shLevels := t.shLevels } ∧ ∀ k : Fin 16,
      let rate := bits (s.reg (SC_SHRATE k)) 0 24
      t.shLevels[k] = if (s.reg (SC_SHRATE k)).getLsbD 31 ∧ rate ≠ 0 then
        min (1000000 * (bits (s.reg (SC_SHBURST k)) 0 24 : Int)) (s.shLevels[k] + rate) else s.shLevels[k]) ∧
    ((∀ x ∈ s.ops, x.active = true ∨ 0 ≤ s.deficits[x.id.thread]) →
      ∃ t : State, exec .deficitReplenish s = .next t ∧ t = { s with deficits := t.deficits } ∧ ∀ u : Tid,
      (s.airClass u < 4 ∨ (∀ x ∈ s.ops, x.id.thread ≠ u) → t.deficits[u] = s.deficits[u]) ∧
      (4 ≤ s.airClass u → (∃ x ∈ s.ops, x.id.thread = u) → s.deficits[u] ≤ s.defCap →
        s.deficits[u] ≤ t.deficits[u] ∧ t.deficits[u] ≤ s.defCap) ∧
      (4 ≤ s.airClass u → (∃ x ∈ s.ops, x.id.thread = u) → (∀ x ∈ s.ops, x.id.thread = u) →
        t.deficits[u] = min s.defCap (s.deficits[u] + 1000000 * s.airPeriod))) ∧
    (∀ (u : Tid) (v : Word), ∃ t : State, exec (.meterEnable u v) s = .next t ∧
      t = { s with regs := t.regs, meters := t.meters } ∧ (t.reg (SC_AMCTL u)).getLsbD 31 = true ∧
      t.meters[u].tc = 10000000 * bits (s.reg (SC_AMBURST u)) 0 16 ∧
      t.meters[u].tp = 10000000 * bits (s.reg (SC_AMBURST u)) 16 16 ∧ ∀ w, w ≠ u → t.meters[w] = s.meters[w]) ∧
    (∀ (i : Fin 16) (v : Word), (i = 0 → exec (.ingressMeterEnable i v) s = .next s) ∧
      (i ≠ 0 → ∃ t : State, exec (.ingressMeterEnable i v) s = .next t ∧ t = { s with regs := t.regs, imeters := t.imeters } ∧
        (t.reg (SC_IMCTL i)).getLsbD 31 = true ∧ t.imeters[i].tc = 8000000 * bits (s.reg (SC_IMBURST i)) 0 16 ∧
        t.imeters[i].tp = 8000000 * bits (s.reg (SC_IMBURST i)) 16 16 ∧ ∀ j, j ≠ i → t.imeters[j] = s.imeters[j])) ∧
    (∀ (u : Tid) (us : Nat), (∀ x ∈ s.ops, x.active = true ∧ x.isSend = false) →
      let k := s.chargedUses u
      (bit (s.reg (SC_AMCTL u)) 31 = false → s.airClass u < 4 → exec (.meterColourChange u us) s = .next s) ∧
      (bit (s.reg (SC_AMCTL u)) 31 = true → ∃ t : State, exec (.meterColourChange u 1) s = .next t ∧
        t = { s with meters := t.meters, deficits := t.deficits } ∧
        (let c := min (10000000 * (bits (s.reg (SC_AMBURST u)) 0 16 : Int)) (s.meters[u].tc + 20 * bits (s.reg (SC_AMRATE u)) 0 16)
         let p := min (10000000 * (bits (s.reg (SC_AMBURST u)) 16 16 : Int)) (s.meters[u].tp + 20 * bits (s.reg (SC_AMRATE u)) 16 16)
         t.meters[u].tc = c - 1000000 * (min k (c / 1000000).toNat : Nat) ∧ t.meters[u].tp = p - 1000000 * (k : Nat)) ∧
        (∀ w, w ≠ u → t.meters[w] = s.meters[w]) ∧
        exec (.meterColourChange u (us + 1)) s = exec (.meterColourChange u us) t))) ∧
  (∀ (s : State), s.regsWf →
    (∃ t : State, exec .latencySample s = .next t ∧ t = { s with rings := t.rings } ∧ ∀ n : RingNo,
      let k := (s.ring n).words.length
      let old := (s.ring n).lat
      let new := (t.ring n).lat
      (t.ring n) = { s.ring n with lat := new } ∧ (s.ringOn n = false → new = old) ∧
      (s.ringOn n = true → new.samples = min 0xFFFFFFFF (old.samples + 1) ∧ new.maxDepth = max old.maxDepth k ∧
        (∀ b : Fin 8, new.depthBins[b] = if b.val = min 7 (8 * k / s.ringCap n) then min 65535 (old.depthBins[b] + 1) else old.depthBins[b]) ∧
        (k = 0 → new.delayBins = old.delayBins ∧ new.maxDelay = old.maxDelay) ∧
        ∀ w ws, (s.ring n).words = w :: ws → new.maxDelay = max old.maxDelay ((s.ticks - w.tick) * 100 / 21696))) ∧
    (∀ v : Word, ∃ t : State, exec (.snap v) s = .next t ∧ t = { s with regs := t.regs, rings := t.rings } ∧
      (∀ n : RingNo, t.reg (SC_LDEPTH n + 0x1008) = BitVec.ofNat 32 (s.ring n).lat.samples) ∧
      (v.getLsbD 30 = false → t.rings = s.rings)) ∧
    (∀ v : Word, ∃ t : State, exec (.clear v) s = .next t ∧ t = { s with regs := t.regs, rings := t.rings } ∧
      ∀ n : RingNo, t.ring n = { s.ring n with lat := {} }))

/-! ### The serial ports (R203 to R227) -/

namespace Sys2Proof.Machine

/-- A select of a device that is ready, with no split frame open, carrying a whole frame (R211, R217). -/
def State.hears (s : State) (f : HostFrame) : Prop :=
  s.hsp.ready = true ∧ f.sel.ready = true ∧ s.hsp.split = false

/-- The state in which a frame whose CRC passes is executed: its reply is built, SILENT is clear and the host-silent
timer runs when it is in force (R208, R220). -/
def State.inFrame (s : State) : State :=
  { s with hsp.reply := s.replyWords, hsp.silent := false, hsp.timerOn := (s.reg HS_TMO).getLsbD 31 }

/-- The alive value a frame must carry: 0, or the value expected (R212). -/
def State.inTurn (s : State) (f : HostFrame) : Prop := f.alive = 0 ∨ f.alive = s.hsp.expect

/-- The next reply of `t` answers a frame of a type with a verdict and data, and the reply of this select, when its
words were clocked out, advanced the device's alive value (R208 to R210, R215). -/
def State.answers (s t : State) (ftype : Nat) (f : HostFrame) (verdict : Byte) (data : List Word) : Prop :=
  let a : Answer := { verdict := verdict, ftype := BitVec.ofNat 4 ftype, alive := f.alive
                      length := BitVec.ofNat 12 f.body.length, data := data }
  t.hsp.answer = some a ∧ t.hsp.kept = (a :: s.hsp.kept).take 4 ∧ t.hsp.reply = s.replyWords ∧
    t.hsp.devAlive = (if f.sel.full then s.hsp.devAlive + 1 else s.hsp.devAlive) ∧
    t.hsp.expect = (if f.alive = 0 then 1 else if verdict = 0 then (if f.alive = 0xFF then 1 else f.alive + 1) else s.hsp.expect)

end Sys2Proof.Machine

/-- Frames that are not executed (R210 to R213): in a select of a device that is ready, a frame of any type whose CRC
word fails is answered BADCRC and counted, and one whose alive value is neither 0 nor the expected one, but for a STOP,
BADALIVE; neither touches more than the port's own record. A device that is not ready answers with zeros, counted. -/
def Obligations.BadFramesAreAnsweredNotExecuted : Prop :=
  ∀ (s : State) (f : HostFrame), s.regsWf → s.hsp.badRun ≠ 15 →
    let kinds : List (Instr × Nat × HostFrame) :=
      [(.regrd f, 1, { f with flags := f.flags &&& 0x7F }), (.regwr f, 2, f), (.ringwr f, 3, f), (.ringrd f, 4, f),
       (.stop f, 5, f), (.enclave f, 6, f), (.enclaveFetch f, 6, { f with body := [] }),
       (.load f, 7, { f with flags := f.flags &&& 0xFD }), (.loadRepair f, 7, { f with flags := f.flags ||| 0x02 })]
    ∀ k ∈ kinds,
      (s.hears f → frameCrcOk k.2.1 k.2.2 = false → f.alive ≠ 0 →
        ∃ t : State, exec k.1 s = .next t ∧ s.answers t k.2.1 k.2.2 1 [] ∧ t = { s with regs := t.regs, hsp := t.hsp } ∧
          t.fld HS_CNT0 16 16 = min (s.fld HS_CNT0 16 16 + 1) 65535) ∧
      (s.hears f → frameCrcOk k.2.1 k.2.2 = true → k.2.1 ≠ 5 → ¬ s.inTurn f →
        ∃ t : State, exec k.1 s = .next t ∧ s.answers t k.2.1 k.2.2 2 [] ∧ t = { s with regs := t.regs, hsp := t.hsp } ∧
          t.fld HS_CNT0 0 16 = min (s.fld HS_CNT0 0 16 + 1) 65535) ∧
      (s.hsp.ready = false → s.power.released = true →
        ∃ t : State, exec k.1 s = .next t ∧ t = { s with regs := t.regs, hsp.reply := [] } ∧
          t.fld HS_CNT1 0 16 = min (s.fld HS_CNT1 0 16 + 1) 65535)

/-- Frames that are executed (R207, R213 to R216, R219, R323): REGRD answers the words its reads give; REGWR writes its
pairs; RINGWR writes its items whole, or answers BUSY without room; RINGRD takes words from the transmit queue in
order; STOP halts the threads of its mask with HALTSRC 3; ENCLAVE submits a request, or answers BUSY with COLLIDE; its
fetch takes the response and frees the mailbox; LOAD writes program words; LOAD_REPAIR rewrites the waiting line;
RESEND repeats a kept answer. -/
def Obligations.GoodFramesAreExecutedAndAnswered : Prop :=
  ∀ (s : State) (f : HostFrame), s.hears f → s.inTurn f →
    let u := s.inFrame
    (∀ a : Word, frameCrcOk 1 f = true → f.flags = 0 → f.body = [a] → wordAddr a < regSpace →
      (u.busRead (wordAddr a)).2.hsp = u.hsp →
      ∃ t : State, exec (.regrd f) s = .next t ∧ s.answers t 1 f 0 [(u.busRead (wordAddr a)).1] ∧
        t = { (u.busRead (wordAddr a)).2 with hsp := t.hsp }) ∧
    (∀ a v : Word, frameCrcOk 2 f = true → f.flags = 0 → f.body = [a, v] → wordAddr a < regSpace →
      (u.busWrite .host (wordAddr a) v).hsp = u.hsp →
      ∃ t : State, exec (.regwr f) s = .next t ∧ s.answers t 2 f 0 [] ∧
        t = { u.busWrite .host (wordAddr a) v with hsp := t.hsp }) ∧
    (∀ a b : Word, frameCrcOk 3 f = true → f.flags.toNat < 16 → f.body = [a, b] → itemLength (a ++ b) = 1 →
      let n : RingNo := ⟨f.flags.toNat % 16, by omega⟩
      s.ringOn n = true → s.ringProd n = 0x40 →
      (s.ringRoom n = 0 → s.ringCap n ≠ 0 → s.regsWf →
        ∃ t : State, exec (.ringwr f) s = .next t ∧ s.answers t 3 f 4 [] ∧ t.rings = s.rings ∧
          t.fld HS_CNT1 0 16 = min (s.fld HS_CNT1 0 16 + 1) 65535) ∧
      (s.ringRoom n ≠ 0 → (s.reg (SC_IMCTL n)).getLsbD 31 = false → (s.ring n).open_ = none →
        ∃ (t : State) (w : RWord), exec (.ringwr f) s = .next t ∧ s.answers t 3 f 0 [] ∧
          (t.ring n).words = (s.ring n).words ++ [w] ∧ w.v = true ∧ w.s = true ∧ w.e = true ∧ w.p = false ∧
          w.data = ((a ++ b) &&& 0xFFFFFF00FFFFFFFF) ||| 0x0000004000000000 ∧ ∀ m, m ≠ n → t.ring m = s.ring m)) ∧
    (∀ w : Word, frameCrcOk 4 f = true → f.flags = 0 → f.body = [w] → 1 ≤ w.toNat → w.toNat < 4096 →
      let k := min 1920 w.toNat
      ∃ t : State, exec (.ringrd f) s = .next t ∧ s.answers t 4 f 0 (ringBlocks 240 (s.hsp.txq.take k)) ∧
        t.hsp.txq = s.hsp.txq.drop k ∧ t = { s with hsp := t.hsp }) ∧
    (∀ mask w : Word, frameCrcOk 5 f = true → f.flags = 0 → f.body = [mask, w] → w.toNat % 4 = 0 → s.regsWf →
      ∃ t : State, exec (.stop f) s = .next t ∧ s.answers t 5 f 0 [] ∧ t = { s with regs := t.regs, threads := t.threads, hsp := t.hsp } ∧
        (∀ h : Tid, t.th h = if mask.getLsbD h.val then (s.th h).halt 3 else s.th h) ∧
        t.fld HS_CNT2 16 16 = min (s.fld HS_CNT2 16 16 + 1) 65535) ∧
    (frameCrcOk 6 f = true → f.flags = 0 → f.body ≠ [] → f.body.length ≤ 1024 →
      (s.saffron.held = false → ∃ t : State, exec (.enclave f) s = .next t ∧ s.answers t 6 f 0 [] ∧
        t = { s with regs := t.regs, saffron := t.saffron, hsp := t.hsp } ∧ t.saffron.held = true ∧
        t.saffron.owner = .host ∧ t.saffron.busy = true ∧ t.saffron.ready = false ∧ t.saffron.request = f.body) ∧
      (s.saffron.held = true → ∃ t : State, exec (.enclave f) s = .next t ∧ s.answers t 6 f 4 [] ∧
        t = { s with regs := t.regs, hsp := t.hsp } ∧ (s.regsWf → (t.reg SF_FLAGS).getLsbD 0 = true))) ∧
    (frameCrcOk 6 f = true → f.flags = 0 → f.body = [] → s.saffron.ready = true → s.saffron.owner = .host →
      ∃ t : State, exec (.enclaveFetch f) s = .next t ∧ s.answers t 6 f 0 s.saffron.answer ∧
        t = { s with saffron := t.saffron, hsp := t.hsp } ∧ t.saffron.held = false ∧ t.saffron.ready = false) ∧
    (∀ (o : Word) (ws : List Word), frameCrcOk 7 f = true → f.flags.toNat < 2 → f.body = o :: ws → o.toNat % 32 = 0 →
      ws.length % 8 = 0 → ws.length ≤ 4088 → o.toNat + 4 * ws.length ≤ 0x40000 → s.hsp.loading = true →
      ∃ t : State, exec (.load f) s = .next t ∧ s.answers t 7 f 0 [] ∧ t = { s with pstore := t.pstore, hsp := t.hsp } ∧
        t.pstore = Memory.setWords s.pstore o.toNat ws ∧ t.hsp.loading = !f.flags.getLsbD 0) ∧
    (∀ (o : Word) (ws : List Word) (l : Nat) (ls : List Nat), frameCrcOk 7 f = true → f.flags = 2 → f.body = o :: ws →
      o.toNat = 32 * l → ws.length = 8 → s.hsp.refetch = l :: ls →
      ∃ t : State, exec (.loadRepair f) s = .next t ∧ s.answers t 7 f 0 [] ∧ t.pstore = Memory.setWords s.pstore o.toNat ws ∧
        l ∉ t.hsp.refetch ∧ l ∉ t.image.bad ∧
        ∀ h, t.th h = if (s.th h).st = .refetch ∧ (s.th h).refLine = some l
          then { s.th h with st := .run, refLine := none } else s.th h) ∧
    (∀ (w : Word) (a : Answer), frameCrcOk 1 f = true → f.flags = 0x80 → f.body = [w] →
      s.hsp.kept.find? (fun x => x.alive == w.extractLsb' 0 8) = some a →
      ∃ t : State, exec (.resend f) s = .next t ∧ t = { s with hsp := t.hsp } ∧ t.hsp.answer = some a ∧ t.hsp.kept = s.hsp.kept)

/-- Selects without a whole frame and time outs (R210, R217, R218, R220): a select of filler is answered NOFRAME; a
truncated one is answered TRUNCATED and counted, or with SPLIT = 1 at a word boundary leaves its frame open for the next
select, until 1 ms has passed. A host that stays silent sets SILENT, and under QUIESCE every thread is halted with
HALTSRC 5 and air dispatch is held. -/
def Obligations.SelectsWithoutFramesAndTimeouts : Prop :=
  ∀ (s : State), s.regsWf → s.hsp.badRun ≠ 15 →
    (∀ sel : SelectInfo, s.hsp.ready = true → sel.ready = true → s.hsp.split = false →
      (∃ t : State, exec (.noframe sel) s = .next t ∧ t = { s with hsp := t.hsp } ∧ t.hsp.reply = s.replyWords ∧
        t.hsp.answer = some { verdict := 0xFE, ftype := 0, alive := 0, length := 0, data := [] } ∧ t.hsp.kept = s.hsp.kept) ∧
      ∀ hdr : Word,
        let kind := hdr.toNat / 0x10000000
        (sel.boundary = false ∨ (s.reg HS_CFG).getLsbD 0 = false ∨ kind = 0 ∨ 7 < kind → hdr ≠ 0 →
          ¬ (kind = 1 ∧ hdr.getLsbD 7 = true) →
          ∃ t : State, exec (.truncated hdr sel) s = .next t ∧ t = { s with regs := t.regs, hsp := t.hsp } ∧
            t.hsp.answer = some (answerOf hdr 3 []) ∧ t.hsp.kept = (answerOf hdr 3 [] :: s.hsp.kept).take 4 ∧
            t.fld HS_CNT1 16 16 = min (s.fld HS_CNT1 16 16 + 1) 65535) ∧
        (sel.boundary = true → (s.reg HS_CFG).getLsbD 0 = true → hdr = 0 ∨ (1 ≤ kind ∧ kind ≤ 7) →
          ∃ t : State, exec (.truncated hdr sel) s = .next t ∧ t = { s with hsp := t.hsp } ∧ t.hsp.split = true ∧
            t.hsp.splitHdr = hdr ∧ t.hsp.answer = s.hsp.answer)) ∧
    (∀ hdr : Word, s.hsp.split = true → s.hsp.splitHdr = hdr →
      ∃ t : State, exec .splitFrameTimeout s = .next t ∧ t = { s with regs := t.regs, hsp := t.hsp } ∧ t.hsp.split = false ∧
        t.hsp.answer = some (answerOf hdr 3 [])) ∧
    (s.hsp.split = false → exec .splitFrameTimeout s = .next s) ∧
    (s.hsp.timerOn = true → (s.reg HS_TMO).getLsbD 31 = true → s.ops = [] →
      ∃ t : State, exec .hostSilentTimeout s = .next t ∧ t.hsp.silent = true ∧ t.hsp.timerOn = false ∧
        (t.reg FLT_STATUS).getLsbD 11 = true ∧ t.smem = s.smem ∧ t.pstore = s.pstore ∧
        ((s.reg HS_TMO).getLsbD 30 = true → (t.reg AIR_CTRL).getLsbD 0 = true ∧
          ∀ h, (t.th h).st ≠ .run ∧ (t.th h).st ≠ .wait ∧ ((s.th h).st = .run → (t.th h).haltsrc = 5)) ∧
        ((s.reg HS_TMO).getLsbD 30 = false → ∀ h, (t.th h).st = (s.th h).st))

/-- The memory and peripheral serial ports (R222 to R227): INVAL empties the cache; the oldest line fill is counted,
cached, and wakes the threads whose fetch waited for it; a direct command waits for a fill in progress and is busy until
its bytes have arrived in MS_DRX0 and MS_DRX1. A queue entry written to a full queue sets QOVF and one with SEL 6 or 7 QERR; a word done holds its
select under CONT and keeps its word under RD; a select held with no entry to follow is released with CONTBRK; a read of
PS_RX removes the oldest word; a flush empties the queue. -/
def Obligations.MemoryAndPeripheralPortTransfers : Prop :=
  ∀ (s : State), s.regsWf →
    (∀ v : Word, exec (.inval v) s = .next { s with msp.lines := [] }) ∧
    (∀ (l : BitVec 19) (flash : List Word) (rest : List Nat), s.msp.fills = l.toNat :: rest → flash.length = 8 →
      (s.reg MS_DCMD).getLsbD 30 = false → (∀ a, s.xipRegion a = none) → (∀ t, (s.th t).waiting = none) → s.msp.lines = [] →
      ∃ t : State, exec (.xipLineFill l flash) s = .next t ∧ t.msp.lines = [(l.toNat, flash)] ∧ t.msp.fills = rest ∧
        (t.reg MS_MISS).toNat = min ((s.reg MS_MISS).toNat + 1) 0xFFFFFFFF ∧
        ∀ h, t.th h = if (s.th h).st = .wait ∧ (s.th h).xipLine = some l.toNat
          then { s.th h with st := .run, waiting := none, waitOn := 0, deadline := none, xipLine := none, met := none } else s.th h) ∧
    (∀ v : Word, ∃ t : State, exec (.msDcmdGo v) s = .next t ∧ t = { s with regs := t.regs, msp := t.msp } ∧
      t.msp = { s.msp with queued := if (s.reg MS_DCMD).getLsbD 30 then s.msp.queued else !s.msp.fills.isEmpty } ∧
      (t.reg MS_DCMD).getLsbD 30 = true ∧ ∀ a, a ≠ MS_DCMD → t.reg a = s.reg a) ∧
    (∀ rx : DWord, (s.reg MS_DCMD).getLsbD 30 = true → s.msp.queued = false → bits (s.reg MS_DCMD) 16 4 = 8 →
      ∃ t : State, exec (.directCommandDone rx) s = .next t ∧ t = { s with regs := t.regs } ∧
        t.reg MS_DRX0 = rx.extractLsb' 32 32 ∧ t.reg MS_DRX1 = rx.extractLsb' 0 32 ∧ (t.reg MS_DCMD).getLsbD 30 = false) ∧
    (∀ v : Word,
      (64 ≤ s.psp.queue.length → ∃ t : State, exec (.psQentWrite v) s = .next t ∧ t = { s with regs := t.regs } ∧
        (t.reg PS_FLAGS).getLsbD 2 = true) ∧
      (s.psp.queue.length < 64 → 6 ≤ v.toNat / 2 ^ 27 % 8 → ∃ t : State, exec (.psQentWrite v) s = .next t ∧
        t = { s with regs := t.regs } ∧ (t.reg PS_FLAGS).getLsbD 1 = true) ∧
      (s.psp.queue.length < 64 → v.toNat / 2 ^ 27 % 8 < 6 → s.psp.word ≠ none ∨ (s.reg PS_CTRL).getLsbD 0 = false →
        exec (.psQentWrite v) s = .next { s with psp.queue := s.psp.queue ++ [v] })) ∧
    (∀ (e : Word) (rx : BitVec 24), s.psp.word = some e → s.psp.queue = [] →
      ∃ t : State, exec (.pspWordDone rx) s = .next t ∧ t = { s with psp := t.psp } ∧ t.psp.word = none ∧ t.psp.queue = [] ∧
        t.psp.held = (if e.getLsbD 31 then some (e.extractLsb' 27 3) else none) ∧
        (e.getLsbD 30 = false → t.psp.rx = s.psp.rx) ∧
        (e.getLsbD 30 = true → ∃ w : Word, t.psp.rx = s.psp.rx ++ [w] ∧ w.getLsbD 31 = true ∧ w.extractLsb' 27 3 = e.extractLsb' 27 3)) ∧
    (s.psp.held ≠ none → s.psp.word = none → s.psp.queue = [] →
      ∃ t : State, exec .contbrk s = .next t ∧ t = { s with regs := t.regs, psp := t.psp } ∧ t.psp.held = none ∧
        (t.reg PS_FLAGS).getLsbD 0 = true) ∧
    (s.psp.rx = [] → exec .psRxRead s = .next { s with busData := 0 }) ∧
    (∀ w ws, s.psp.rx = w :: ws → s.psp.queue = [] →
      exec .psRxRead s = .next { s with psp.rx := ws, busData := w }) ∧
    (∀ v : Word, ∃ t : State, exec (.psFlush v) s = .next t ∧ t.psp = { s.psp with queue := [], held := none } ∧
      s.onlyEvents t ∧ (t.reg PS_CTRL).getLsbD 0 = v.getLsbD 0)

/-! ### The mains link (R228 to R249, R326) -/

namespace Sys2Proof.Machine

/-- Nothing differs but the mains link, the registers, the rings it writes, raised events, the fault record and time. -/
def State.mlFrame (s t : State) : Prop :=
  t = { s with ticks := t.ticks, tb := t.tb, regs := t.regs, threads := t.threads, rings := t.rings, ml := t.ml
               faults := t.faults, freeCtr := t.freeCtr } ∧ s.onlyEvents t

/-- A frame of a type ends `dt` ticks on at a modem that runs, its FCCRC right; `s1` is the state it acts in (R235). -/
def State.accepts (s : State) (ftype : BitVec 4) (dt : Nat) (f : MlFrame) (s1 : State) : Prop :=
  (s.advance dt).mlRuns = true ∧ fcOk f.fc = true ∧ fcType f.fc = ftype ∧ s1 = (s.advance dt).heard f

/-- A management frame completes a message of a type: `s1` is the state in which the message is taken, its frame having
been acknowledged, `src` its sender and `c` its content (R245). -/
def State.brings (s : State) (mtype : Byte) (dt : Nat) (f : MlFrame) (s1 : State) (src : BitVec 7) (c : List Byte) : Prop :=
  ∀ k : State → BitVec 7 → List Byte → State, s.mgmtFrame mtype dt f k = k s1 src c

/-- A place in the cycle at which this station may start a frame: `s1` is the state, `pos` the place and `slotEnd` the end
of the interval (R240, R242). -/
def State.opens (s1 : State) (management : Bool) (pos slotEnd : Nat) : Prop :=
  s1.mlMaySend = true ∧ s1.ml.sackDue = [] ∧ s1.ml.onAir = none ∧ s1.ml.quiet ≤ s1.ticks ∧ s1.cyclePos = some pos ∧
  ∃ contended, s1.mlSlot management pos = some (contended, slotEnd) ∧ (contended = true → s1.ml.ready = true)

/-- An attempt at association failed (R246). -/
def State.attemptFails (s t : State) : Prop :=
  (t.reg ML_FLAGS).getLsbD 4 = true ∧ t.fld ML_CNT1 0 8 = min (s.fld ML_CNT1 0 8 + 1) 255

end Sys2Proof.Machine

/-- The cycle of the mains link (R229, R240, R241, R242, R249, R326): the cycle number moves on and a head sends its
beacon, with a segment that names its network and the cycle, its transmitter not being shed; a member takes its beacon's
timing, one whose MIC fails being counted and dropped, and a searching member asks to associate; missed beacons set
NOBEACON and 10 s of them start association again with no peers; a zero crossing is timestamped, measures the period,
gives a member its offset from the head and is reported when it is not the one expected, or is lost; a backoff is drawn
below CW; a short line holds transmission off and an open line is reported; the silent window keeps its noise and lets
a K.CAL MAG run. -/
def Obligations.MainsCycleFollowsBeacons : Prop :=
  ∀ (s : State), s.regsWf →
    (∀ dt, s.mlRole ≠ 1 →
      ∃ t : State, exec (.zcEdge dt) s = .next t ∧ t = { s.advance dt with ml := t.ml } ∧
        t.ml = { s.ml with zcOk := true, zcGone := false, zcTick := t.ticks, zcLen := t.ml.zcLen } ∧
        t.ml.zcLen = if s.ml.zcOk = true then some (t.ticks - s.ml.zcTick) else s.ml.zcLen) ∧
    (∀ dt start, s.mlRole = 1 → s.ml.start = some start →
      ∃ t : State, exec (.zcEdge dt) s = .next t ∧ s.mlFrame t ∧ t.ml.zcSeen = true ∧ t.ml.zcOfs = (s.advance dt).zcSteps start ∧
        (t.ml.zcOfs.toNat ≠ bits (s.reg ML_CFG) 24 3 → s.zcMis = false →
          (t.reg ML_FLAGS).getLsbD 1 = true ∧ (t.reg FLT_STATUS).getLsbD 14 = true) ∧
        (t.ml.zcOfs.toNat = bits (s.reg ML_CFG) 24 3 → t.regs = s.regs)) ∧
    (s.mlRole ≠ 0 → s.ml.zcGone = false → ∃ t : State, exec .zcLost s = .next t ∧ s.mlFrame t ∧ t.ml.zcOk = false ∧
      t.ml.zcGone = true ∧ (s.mlRole = 2 → t.ml.rephase = true) ∧ (t.reg ML_FLAGS).getLsbD 0 = true ∧
      (t.reg FLT_STATUS).getLsbD 14 = true) ∧
    (s.mlRuns = true → s.ml.st = 3 → ∃ t : State, exec .cycleStart s = .next t ∧
      t = { s.advanceTo s.nextCycle with ml := t.ml } ∧ t.ml.cycle = s.ml.cycle + 1 ∧ t.ml.start = some t.ticks ∧
      t.ml.sent = s.ml.sent ∧ t.ml.group = s.ml.group) ∧
    (s.mlRuns = true → s.ml.st = 4 → s.power.level < 4 → pnSpent (s.txLink 0x7F 0).pn = false →
      ∃ (t : State) (b : MlSent) (seg : List Word), exec .cycleStart s = .next t ∧
        t = { s.advanceTo s.nextCycle with ml := t.ml } ∧ t.ml.cycle = s.ml.cycle + 1 ∧ t.ml.start = some t.ticks ∧
        t.ml.sent = some b ∧ fcOk b.fc = true ∧ fcType b.fc = 0 ∧ fcSrc b.fc = 0 ∧ fcDst b.fc = 0x7F ∧ fcBit67 b.fc = true ∧
        fcHfon b.fc = s.hports.toList.any (·.field) ∧ b.segs = [seg] ∧ segCrcOk seg = true ∧
        (beaconOf (segBody seg)).nid.toNat = bits (s.reg ML_CFG) 0 16 ∧ (beaconOf (segBody seg)).cycle = t.ml.cycle ∧
        t.ml.contLen = bits (s.reg ML_CONT) 0 16 ∧ t.ml.zcLostHead = s.ml.zcGone) ∧
    (∀ dt (f : MlFrame) (s1 : State), s.accepts 0 dt f s1 → s1.mlRole = 1 → fcSrc f.fc = 0 →
      let seg := f.segs.headD []
      let b := beaconOf (segBody seg)
      let pn := (s1.rxLink f.fc 0).1.pnOf (segSeq seg)
      let signed := fun k : BitVec 128 × Byte => k.2 = b.epoch ∧
        ccmMic k.1 (mlNonce 0 0x7F 0 pn b.epoch) ((segBody seg).take 484) [] = seg.getD 122 0 ++ seg.getD 123 0
      segCrcOk seg = true → b.nid.toNat = bits (s.reg ML_CFG) 0 16 →
      (s1.ml.group ≠ none → (∀ k ∈ s1.groupKeys, ¬ signed k) → ∃ t : State, exec (.beacon dt f) s = .next t ∧
        t = { s1 with regs := t.regs, freeCtr := t.freeCtr } ∧ t.fld ML_CNT0 0 16 = min (s.fld ML_CNT0 0 16 + 1) 65535) ∧
      (s1.ml.group = none → s1.ml.st = 1 → ∃ (t : State) (c : List Byte), exec (.beacon dt f) s = .next t ∧
        t = { s1 with ml := t.ml, freeCtr := t.freeCtr } ∧
        t.ml.st = 2 ∧ t.ml.cycle = b.cycle ∧ t.ml.length = b.lengthUs.toNat ∧ t.ml.outMsgs = s1.ml.outMsgs ++ [(0, 0x01, c)] ∧
        t.ml.start = some (s1.frameStart f.fc) ∧ t.ml.missed = 0 ∧ t.ml.noBeacon = false) ∧
      (s1.ml.group ≠ none → (∃ k ∈ s1.groupKeys, signed k) → s1.ml.st = 3 → (s1.rxLink f.fc 0).1.placed pn = false →
        ∃ t : State, exec (.beacon dt f) s = .next t ∧ t = { s1 with regs := t.regs, ml := t.ml, freeCtr := t.freeCtr } ∧
        t.ml.st = 3 ∧ t.ml.cycle = b.cycle ∧ t.ml.start = some (s1.frameStart f.fc) ∧ t.ml.silent = b.silent.toNat ∧
        t.ml.members = b.members ∧ t.ml.changing = b.epochChanging ∧ t.reg ML_REGION = b.regions.setWidth 32 ∧
        ∀ a, a ≠ ML_REGION → t.reg a = s1.reg a)) ∧
    (s.mlRuns = true → s.mlRole = 1 → 2 ≤ s.ml.st.toNat →
      (let k := s.ml.missed + 1
       let lost := s.ml.noBeacon || decide (max 1 (bits (s.reg ML_CFG) 20 4) ≤ k)
       exec .beaconMissed s = .next { s with ml := { s.ml with missed := k, noBeacon := lost } }) ∧
      ∃ t : State, exec .beaconLoss10s s = .next t ∧ s.mlFrame t ∧ t.ml.st = 1 ∧ t.ml.peers = [] ∧ t.ml.group = none ∧
        t.ml.myId = 0 ∧ t.ml.pend = []) ∧
    (∀ draw, s.mlMaySend = true → 0 < s.ml.cw → ∃ t : State, exec (.backoffExpiry draw) s = .next t ∧
      t = { s.advanceTo (s.ml.drawnAt + ticksOf (50 * t.ml.backoff)) with ml := t.ml } ∧
      t.ml = { s.ml with backoff := t.ml.backoff, ready := true } ∧ t.ml.backoff < s.ml.cw) ∧
    (s.mlRuns = true → ∃ t : State, exec .lineShort s = .next t ∧ s.mlFrame t ∧ t.ml = { s.ml with shortAt := some s.ticks } ∧
      t.mlMaySend = false ∧ (t.reg FLT_STATUS).getLsbD 14 = true) ∧
    (s.mlRuns = true → 3 ≤ s.ml.unseen → s.ml.openLine = false → ∃ t : State, exec .lineOpen s = .next t ∧ s.mlFrame t ∧
      t.ml = { s.ml with openLine := true } ∧ (t.reg FLT_STATUS).getLsbD 14 = true) ∧
    (∀ noise start o op (c : CalSt), s.mlRuns = true → s.ml.start = some start → s.op? o = some op → op.eng = .cal c →
      c.stage = .waitSwitch → op.calCode = 8 →
      ∃ t : State, exec (.silentWindow noise) s = .next t ∧
        t = { s.advanceTo (start + ticksOf s.ml.silent) with ops := t.ops, ml := t.ml } ∧
        t.op? o = some { op with eng := .cal { c with stage := .measuring, since := t.ticks } } ∧
        (noise ≠ [] → t.ml.noise.head? = some (s.ml.cycle.toNat % 6, noise)))

/-- Frames of the mains link (R232 to R238, R242 to R244, R248): a frame whose FCCRC fails does nothing; a data frame
takes a new segment's words from its ring and waits for its SACK; the first message, the SACK due and a sounding frame
are sent in their turn; a SACK removes what it acknowledges and sets CW to 8, and without one CW doubles up to 64; a data
frame for a ring the link does not write is acknowledged and counted, one that brings the next segment delivers its item,
and one whose MIC fails is counted; a message in one segment is whole; a segment given up counts a lost item; maps,
soundings and demands are kept, and a map sent has the largest loading of the four rates; a control frame with a new PN
acts as a STOP. -/
def Obligations.MainsFramesAreSentAndAcknowledged : Prop :=
  ∀ (s : State), s.regsWf →
    (∀ dt (f : MlFrame), fcOk f.fc = false →
      ∀ c ∈ [Instr.beacon dt f, .dataFrame dt f, .sack dt f, .sounding dt f, .controlFrame dt f, .tmap dt f, .soundReq dt f,
        .allocReq dt f, .key dt f, .leave dt f, .assocReq dt f, .assocRsp dt f, .assocConf dt f, .pairReq dt f, .pairRsp dt f,
        .pairConf dt f], exec c s = .next (s.advance dt)) ∧
    (∀ dt x, (s.advance dt).mlMaySend = false → exec (.mlFrameTransmit dt x) s = .next (s.advance dt)) ∧
    (∀ dt (x : MlTx) (s1 : State) pos slotEnd, s1 = s.advance dt →
      (∀ (k : Fin 16) key keys l n, x.kind = .data k → x.bad = [] → s1.opens false pos slotEnd →
        let w := s.reg (ML_LINK k)
        let dst : BitVec 7 := w.extractLsb' 8 7
        let link : BitVec 4 := w.extractLsb' 0 4
        let y := s.txLink dst link
        let q := (s.ring (egRing k)).words
        let j := s.mlReady (egRing k)
        s.mlCarries k = true → dst ≠ 0x7F → 3 ≤ s.ml.st.toNat → s.peerUp dst = true → s.mlKeys dst false = key :: keys → y.out = [] →
        pnSpent y.pn = false → 0 < j → j ≤ 62 → s1.pickLoad pos slotEnd 1 true (s1.loadsFor dst (s1.mlNotch dst) pos) = some (l, n) →
        ∃ (t : State) (b : MlSent) (g : MlOut) (due : Nat), exec (.mlFrameTransmit dt x) s = .next t ∧
          t = { s1 with rings := t.rings, ml := t.ml } ∧ (t.ring (egRing k)).words = q.drop j ∧
          (∀ m, m ≠ egRing k → t.ring m = s.ring m) ∧ (t.txLink dst link).out = [g] ∧ g.tries = 1 ∧ g.pn = y.pn ∧
          g.seg = s.dataSeg y key (q.take j) ∧ (t.txLink dst link).pn = y.pn + 1 ∧ t.ml.onAir = some ⟨dst, link, [y.pn], due⟩ ∧
          t.ml.sent = some b ∧ b.segs = [g.seg] ∧ fcOk b.fc = true ∧ fcType b.fc = 1 ∧ fcSrc b.fc = s.mlSrc ∧ fcDst b.fc = dst ∧
          fcLink b.fc = link ∧ fcTmi b.fc = l.tmi ∧ fcSeq b.fc = BitVec.ofNat 8 y.pn ∧ fcNsym b.fc = l.symbols 1 % 1024) ∧
      (∀ dst mt c rest l n, x.kind = .management → s1.opens true pos slotEnd → (∀ y ∈ s.ml.tx, y.link = 0 → y.out = []) →
        s.ml.outMsgs = (dst, mt, c) :: rest → dst ≠ 0x7F → mtypeOpen mt = true → c.length ≤ 500 → pnSpent (s.txLink dst 0).pn = false →
        s1.pickLoad pos slotEnd 1 true [s1.robust (s1.mlNotch dst)] = some (l, n) →
        ∃ (t : State) (b : MlSent) (g : MlOut) (due : Nat), exec (.mlFrameTransmit dt x) s = .next t ∧ t = { s1 with ml := t.ml } ∧
          t.ml.outMsgs = rest ∧ (t.txLink dst 0).out = [g] ∧ g.pn = (s.txLink dst 0).pn ∧
          g.seg = segPlain (segHead g.pn ((c.length + 11) / 8) 63 false) ([mt, 0] ++ halfBytes (BitVec.ofNat 16 c.length) ++ c) ∧
          t.ml.onAir = some ⟨dst, 0, [g.pn], due⟩ ∧ t.ml.sent = some b ∧ b.segs = [g.seg] ∧ fcType b.fc = 2 ∧ fcDst b.fc = dst) ∧
      (∀ k ks, x.kind = .sack → s1.mlMaySend = true → s.ml.sackDue = k :: ks →
        ∃ (t : State) (b : MlSent), exec (.mlFrameTransmit dt x) s = .next t ∧ t = { s1.advanceTo k.tick with ml := t.ml } ∧
          t.ml.sackDue = ks ∧ t.ml.sent = some b ∧ b.segs = [] ∧ fcOk b.fc = true ∧ fcType b.fc = 3 ∧ fcDst b.fc = k.dst ∧
          fcSeq b.fc = k.base ∧ fcBits b.fc = k.bits ∧ fcBit67 b.fc = k.negated) ∧
      (∀ p ps, x.kind = .sounding → s1.opens false pos slotEnd →
        let r := (s1.regionAt pos).1
        s.ml.peers = p :: ps → p.soundReq.getLsbD r = true → pos + frameTicks false 4 ≤ min slotEnd (s1.regionAt pos).2 →
        s1.clearOf pos (frameTicks false 4) = true →
        ∃ (t : State) (b : MlSent) (q : MlPeer), exec (.mlFrameTransmit dt x) s = .next t ∧ t = { s1 with ml := t.ml } ∧
          t.ml.sent = some b ∧ fcType b.fc = 4 ∧ fcDst b.fc = p.id ∧ t.peer? p.id = some q ∧ q.soundReq.getLsbD r = false)) ∧
    (∀ dt f (s1 : State) a, s.accepts 3 dt f s1 → s1.ml.onAir = some a → fcSrc f.fc = a.dst → s1.forMe f.fc = true →
      ∃ t : State, exec (.sack dt f) s = .next t ∧ s1.mlFrame t ∧ t.ml.cw = 8 ∧ t.ml.onAir = none ∧
        ∀ g ∈ (t.txLink a.dst a.link).out, g ∈ (s1.txLink a.dst a.link).out ∧
          sackBit (fcSeq f.fc) (fcBits f.fc) (BitVec.ofNat 8 g.pn) = false ∧ g.tries < max 1 (bits (s.reg ML_ARQ) 0 8)) ∧
    (∀ a, s.mlRuns = true → s.ml.onAir = some a →
      ∃ t : State, exec .sackMissing s = .next t ∧ t = { s.advanceTo a.due with regs := t.regs, ml := t.ml } ∧
        t.ml.cw = min 64 (2 * s.ml.cw) ∧ t.ml.onAir = none ∧
        (t.txLink a.dst a.link).out = (s.txLink a.dst a.link).out.filter fun g => decide (g.tries < max 1 (bits (s.reg ML_ARQ) 0 8))) ∧
    (∀ dt (f : MlFrame) (s1 : State), s.accepts 1 dt f s1 → s1.mlUp = true → s1.forMe f.fc = true → fcLink f.fc ≠ 0 → fcDst f.fc ≠ 0x7F →
      let ring := linkRing (fcLink f.fc)
      let due := s1.ticks + ticksOf 100
      (s.mlWrites ring = false → ∃ t : State, exec (.dataFrame dt f) s = .next t ∧ t = { s1 with regs := t.regs, ml := t.ml } ∧
        t.ml.sackDue = s1.ml.sackDue ++ [⟨fcSrc f.fc, fcSeq f.fc, crcBits (fcSeq f.fc) f.segs, f.negated, due⟩] ∧
        t.fld ML_CNT1 8 8 = min (s.fld ML_CNT1 8 8 + 1) 255) ∧
      (∀ seg (x : MlRxLink) (d : DWord), s.mlWrites ring = true → fcTmi f.fc = 6 → f.level = [] → s1.peerUp (fcSrc f.fc) = true →
        f.segs = [seg] → segCrcOk seg = true → segSeq seg = fcSeq f.fc → fcSeq f.fc = BitVec.ofNat 8 x.next →
        s1.ml.rx.find? (fun x => x.src == fcSrc f.fc && x.link == fcLink f.fc && x.bc == false) = some x →
        x.ahead = [] → x.lost = [] → x.item = [] → x.gap = none → fcSrc f.fc ≠ 0x7F →
        let opened := mlOpen (fcSrc f.fc) (fcDst f.fc) (fcLink f.fc) x.next seg (s1.mlKeys (fcSrc f.fc) false)
        (opened = none → ∃ t : State, exec (.dataFrame dt f) s = .next t ∧ t = { s1 with regs := t.regs, ml := t.ml } ∧
          t.fld ML_CNT0 0 16 = min (s.fld ML_CNT0 0 16 + 1) 65535 ∧
          t.ml.sackDue = s1.ml.sackDue ++ [⟨fcSrc f.fc, fcSeq f.fc, 0, f.negated, due⟩]) ∧
        (∀ body, opened = some body → segWords seg = 1 → bodyWords body 1 = [d] → segFirst seg = 0 → segPsn seg = false →
          itemLength d = 1 → s.ringRoom ring ≠ 0 → (s.ring ring).open_ = none →
          ∃ (t : State) (w : RWord), exec (.dataFrame dt f) s = .next t ∧ s1.mlFrame t ∧
            (t.ring ring).words = (s.ring ring).words ++ [w] ∧ w.data = mlHeader d (fcSrc f.fc) ∧ w.s = true ∧ w.e = true ∧
            w.p = false ∧
            t.ml.sackDue = s1.ml.sackDue ++ [⟨fcSrc f.fc, fcSeq f.fc, BitVec.ofNat 37 (2 ^ 36), f.negated, due⟩] ∧
            t.ml.rx.head? = some { x with next := x.next + 1, since := s1.ticks }))) ∧
    (∀ (mtype : Byte) dt (f : MlFrame) (s1 : State) seg (x : MlRxLink) (c : List Byte), s.accepts 2 dt f s1 → s1.forMe f.fc = true →
      fcDst f.fc ≠ 0x7F → fcSrc f.fc ≠ 0x7F → f.segs = [seg] → segCrcOk seg = true → mtypeOpen mtype = true →
      s1.ml.rx.find? (fun x => x.src == fcSrc f.fc && x.link == 0 && x.bc == false) = some x → x.item = [] → x.ahead = [] →
      x.lost = [] → segSeq seg = fcSeq f.fc → fcSeq f.fc = BitVec.ofNat 8 x.next → c.length + 4 ≤ 8 * segWords seg →
      (segBody seg).take (c.length + 4) = [mtype, 0] ++ halfBytes (BitVec.ofNat 16 c.length) ++ c →
      ∃ s2 : State, s.brings mtype dt f s2 (fcSrc f.fc) c ∧ s2 = { s1 with ml := s2.ml } ∧
        s2.ml.sackDue = s1.ml.sackDue ++
          [⟨fcSrc f.fc, fcSeq f.fc, BitVec.ofNat 37 (2 ^ 36), f.negated, s1.ticks + ticksOf 100⟩]) ∧
    (∀ src link bc x, s.mlUp = true → s.ml.rx.find? (fun x => x.src == src && x.link == link && x.bc == bc) = some x →
      x.ahead = [] → x.item ≠ [] → x.gap = none → link ≠ 0 → src ≠ 0x7F →
      ∃ (t : State) (y : MlRxLink), exec (.segmentGiveUp src link bc) s = .next t ∧
        t = { s.advanceTo (x.since + ticksOf 500000) with regs := t.regs, ml := t.ml } ∧
        t.fld ML_CNT1 16 16 = min (s.fld ML_CNT1 16 16 + 1) 65535 ∧ t.ml.rx.head? = some y ∧ y.next = x.next + 1 ∧ y.item = [] ∧
        y.placed x.next = false) ∧
    (∀ (p : MlPeer) (r : Fin 6) (m : MlMap) (v : List Nat × List Nat × Nat), s.buildMap p r.val = some m → s.snrOf p r.val = some v →
      m.tmseq = p.tmSeq + 1 ∧ m.cp = (s.reg ML_TMCFG).getLsbD 31 ∧ m.codes = s.mapCodes [v] m.cp m.cr.toNat ∧
      ∀ cr : Fin 4, codeSum (s.mapCodes [v] m.cp cr.val) * rateNum cr.val ≤ m.sum) ∧
    (∀ dt (f : MlFrame) (s1 : State) p start, s.accepts 4 dt f s1 → s1.mlUp = true → s1.forMe f.fc = true →
      s1.peer? (fcSrc f.fc) = some p → p.up = true → s1.ml.start = some start → f.level ≠ [] →
      let r := (s1.regionAt (s1.frameStart f.fc - start)).1
      ∃ (t : State) (q : MlPeer), exec (.sounding dt f) s = .next t ∧ t = { s1 with ml := t.ml } ∧ t.peer? (fcSrc f.fc) = some q ∧
        q.signal = (r, f.level) :: p.signal.filter (·.1 != r) ∧
        ((∀ x ∈ s1.ml.noise, x.1 ≠ r) → t.ml.outMsgs = s1.ml.outMsgs) ∧
        ∀ m, p.own = [] → s1.buildMap { p with signal := q.signal } r = some m → (fcSrc f.fc, 0x04, m.bytes) ∈ t.ml.outMsgs) ∧
    (∀ src p, s.mlUp = true → s.peer? src = some p → p.up = true →
      (bits (s.reg ML_TMCFG) 16 8 = 0 → exec (.tmapPeriodExpiry src) s = .next s) ∧
      (bits (s.reg ML_TMCFG) 16 8 ≠ 0 → ∃ (t : State) (q : MlPeer), exec (.tmapPeriodExpiry src) s = .next t ∧
        t = { s.advanceTo (p.mapTick + bits (s.reg ML_TMCFG) 16 8 * ticksOf 1000000) with ml := t.ml } ∧
        t.peer? src = some q ∧ q.mapTick = t.ticks ∧
        ∀ m, s.buildMap p 0 = some m → (src, 0x04, m.bytes) ∈ t.ml.outMsgs)) ∧
    (∀ dt f (s1 : State) src c p, s1.mlUp = true → s1.peer? src = some p → p.up = true →
      (s.brings 0x04 dt f s1 src c → ∃ t : State, exec (.tmap dt f) s = .next t ∧ t = { s1 with ml := t.ml } ∧
        t.peer? src = some { p with maps := mapOfBytes c :: p.maps.filter (·.index != (mapOfBytes c).index), fallback := false }) ∧
      (s.brings 0x05 dt f s1 src c → ∃ t : State, exec (.soundReq dt f) s = .next t ∧ t = { s1 with ml := t.ml } ∧
        t.peer? src = some { p with soundReq := p.soundReq ||| (c.getD 0 0).setWidth 6 }) ∧
      (s.brings 0x06 dt f s1 src c → s1.ml.st = 4 → ∃ t : State, exec (.allocReq dt f) s = .next t ∧ t = { s1 with ml := t.ml } ∧
        t.peer? src = some { p with demand := BitVec.ofNat 16 (bytesNat c 0 2) })) ∧
    (∀ dt f (s1 : State) (x : MlRxLink), s.accepts 5 dt f s1 → s1.mlUp = true → s1.forMe f.fc = true → fcSrc f.fc = 0 →
      let seg := f.segs.headD []
      let bc := fcDst f.fc == 0x7F
      let pn := x.pnOf (segSeq seg)
      let opened := mlOpen 0 (fcDst f.fc) 0 pn seg (s1.mlKeys 0 bc)
      segCrcOk seg = true → s1.ml.rx.find? (fun x => x.src == 0 && x.link == 0 && x.bc == bc) = some x →
      (opened = none → ∃ t : State, exec (.controlFrame dt f) s = .next t ∧ t = { s1 with regs := t.regs } ∧
        t.fld ML_CNT0 0 16 = min (s.fld ML_CNT0 0 16 + 1) 65535) ∧
      (∀ body, opened = some body → pn < x.next ∨ x.placed pn = true → exec (.controlFrame dt f) s = .next s1) ∧
      (∀ body, opened = some body → x.next ≤ pn → x.placed pn = false → (body.getD 4 0).getLsbD 0 = false →
        (body.getD 4 0).getLsbD 1 = true → ∃ t : State, exec (.controlFrame dt f) s = .next t ∧
          t = { s1 with regs := t.regs, threads := t.threads, ml := t.ml } ∧ (t.reg AIR_CTRL).getLsbD 0 = true ∧
          ∀ h : Tid, t.th h = if (bytesNat body 0 4).testBit h.val then (s1.th h).halt 3 else s1.th h))

/-- Association and pairing (R246): a request waits for ML_ADMIT with its item's index; a denial, a bad signature, and
2 s without progress end the attempt with KEYFAIL and ASSOCFAIL; an acceptance answers with the lowest free station id,
or confirms; a confirmation that verifies brings the peer up, and the head sends KEY; a member with the group key is
up; a later KEY keeps the old group key for 2 cycles; a peer that leaves is gone, and a head then changes the group
key. -/
def Obligations.MainsAssociationAdmitsAndPairs : Prop :=
  ∀ (s : State) (dt : Nat) (f : MlFrame) (s1 : State) (src : BitVec 7) (c : List Byte), s.regsWf → s1.regsWf →
    let asked := fun (r : Instr) (mt : Byte) (pair asker : Bool) (id : BitVec 7) (own : Nat) =>
      ∀ i, s1.freeIdx = some i → s1.mgmtRing ≠ none →
      ∃ t : State, exec r s = .next t ∧ s1.mlFrame t ∧
        t.ml.pend = s1.ml.pend ++ [{ idx := i, pair := pair, asked := asker, stage := 0, own := own, id := id
                                     a := assocOf mt src c, since := s1.ticks }] ∧
        t.ml.peers = s1.ml.peers ∧ t.ml.outMsgs = s1.ml.outMsgs
    (s.brings 0x01 dt f s1 src c → s1.ml.st = 4 → (∀ p ∈ s1.ml.pend, p.pair = true ∨ p.a.uid ≠ (assocOf 0x01 src c).uid) →
      asked (.assocReq dt f) 0x01 false false 0 s1.ml.ephemeral ∧
      (s1.mgmtRing = none → s1.freeIdx ≠ none → ∃ t : State, exec (.assocReq dt f) s = .next t ∧ s1.mlFrame t ∧ s1.attemptFails t ∧
        t.ml.pend = s1.ml.pend)) ∧
    (s.brings 0x02 dt f s1 src c → src = 0 → s1.ml.st = 2 → (∀ p ∈ s1.ml.pend, p.pair = true) →
      asked (.assocRsp dt f) 0x02 false true (assocOf 0x02 src c).id s1.ml.reqOwn) ∧
    (s.brings 0x08 dt f s1 src c → s1.mlUp = true → (∀ p ∈ s1.ml.pend, p.id ≠ src) →
      asked (.pairReq dt f) 0x08 true false src s1.ml.ephemeral) ∧
    (∀ p i, s.brings 0x09 dt f s1 src c → s1.mlUp = true →
      s1.ml.pend.find? (fun p => p.pair && p.asked && p.stage == 1 && p.id == src) = some p →
      (s1.dropPend p).freeIdx = some i → s1.mgmtRing ≠ none →
      ∃ t : State, exec (.pairRsp dt f) s = .next t ∧ s1.mlFrame t ∧ t.ml.pend = (s1.dropPend p).ml.pend ++
        [{ idx := i, pair := true, asked := true, stage := 0, own := p.own, id := p.id, a := assocOf 0x09 src c, since := s1.ticks }]) ∧
    (∀ (v : Word) p, s.ml.pend.find? (fun p => p.idx == v.extractLsb' 0 3 && p.stage == 0) = some p →
      (v.getLsbD 4 = false → ∃ t : State, exec (.mlAdmitWrite v) s = .next t ∧ s.mlFrame t ∧ s.attemptFails t ∧ p ∉ t.ml.pend) ∧
      (∀ id, v.getLsbD 4 = true → p.asked = false → p.pair = false → s.freeId = some id →
        ∃ (t : State) (m : List Byte), exec (.mlAdmitWrite v) s = .next t ∧ s.mlFrame t ∧
          t.ml.outMsgs = s.ml.outMsgs ++ [(p.a.peer, 0x02, m)] ∧ t.ml.members = s.ml.members ||| BitVec.ofNat 64 (2 ^ id.toNat) ∧
          { p with id := id, stage := 1, since := s.ticks } ∈ t.ml.pend) ∧
      (v.getLsbD 4 = true → p.asked = true → p.pair = false → s.peerSigOk p p.a.sig = true →
        ∃ (t : State) (m : List Byte), exec (.mlAdmitWrite v) s = .next t ∧ s.mlFrame t ∧ t.ml.myId = p.id ∧
          t.ml.outMsgs = s.ml.outMsgs ++ [(0, 0x03, m)] ∧ { p with stage := 2, since := s.ticks } ∈ t.ml.pend)) ∧
    (∀ p, s.brings 0x03 dt f s1 src c → s1.ml.st = 4 →
      s1.ml.pend.find? (fun p => p.pair == false && p.stage == 1 && !p.asked && p.id == src) = some p →
      let sig := (assocOf 0x03 src c).sig
      (s1.peerSigOk p sig = true → ∃ (t : State) (m : List Byte), exec (.assocConf dt f) s = .next t ∧ s1.mlFrame t ∧
        t.peerUp src = true ∧ (src, 0x07, m) ∈ t.ml.outMsgs ∧ p ∉ t.ml.pend) ∧
      (s1.peerSigOk p sig = false → ∃ t : State, exec (.assocConf dt f) s = .next t ∧ s1.mlFrame t ∧
        s1.attemptFails t ∧ p ∉ t.ml.pend)) ∧
    (∀ p, s.brings 0x0A dt f s1 src c → s1.mlUp = true →
      s1.ml.pend.find? (fun p => p.pair == true && p.stage == 1 && !p.asked && p.id == src) = some p →
      let sig := (assocOf 0x0A src c).sig
      (s1.peerSigOk p sig = true → ∃ t : State, exec (.pairConf dt f) s = .next t ∧ s1.mlFrame t ∧ t.peerUp src = true ∧
        p ∉ t.ml.pend) ∧
      (s1.peerSigOk p sig = false → ∃ t : State, exec (.pairConf dt f) s = .next t ∧ s1.mlFrame t ∧ s1.attemptFails t ∧
        p ∉ t.ml.pend)) ∧
    (s.brings 0x07 dt f s1 src c → s1.mlRole = 1 → src = 0 →
      let g := BitVec.ofNat 128 (bytesNat c 0 16)
      let e := c.getD 16 0
      (∀ p, s1.ml.pend.find? (fun p => p.stage == 2 && !p.pair) = some p →
        ∃ t : State, exec (.key dt f) s = .next t ∧ s1.mlFrame t ∧ t.ml.st = 3 ∧ t.ml.group = some g ∧ t.ml.epoch = e ∧
          t.peerUp 0 = true) ∧
      (s1.ml.pend = [] → s1.ml.st = 3 → exec (.key dt f) s =
        .next { s1 with ml := { s1.ml with group := some g, epoch := e, oldGroup := s1.ml.group, oldKeys := 2 } })) ∧
    (s.brings 0x0B dt f s1 src c → s1.peerUp src = true → ∃ t : State, exec (.leave dt f) s = .next t ∧ s1.mlFrame t ∧
      t.peer? src = none ∧ (src = 0 → s1.ml.st = 3 → t.ml.st = 1 ∧ t.ml.myId = 0) ∧
      (s1.ml.st = 4 → t.ml.epoch = s1.ml.epoch + 1 ∧ t.ml.oldGroup = s1.ml.group ∧ t.ml.oldKeys = 2)) ∧
    (∀ i p, s.ml.pend.find? (fun p => p.idx == i) = some p →
      ∃ t : State, exec (.associationTimeout i) s = .next t ∧ s.mlFrame t ∧ s.attemptFails t ∧ p ∉ t.ml.pend) ∧
    (∀ i, s.ml.pend = [] → s.ml.st = 2 →
      ∃ t : State, exec (.associationTimeout i) s = .next t ∧ s.mlFrame t ∧ s.attemptFails t ∧ t.ml.st = 1)

/-! ### Clocks and timers (R250 to R269, R282 to R289) -/

/-- The reference and the MPLL (R250, R256, R257, R269): the first source to qualify becomes the reference with TB at 0;
the first lock starts the system clocks and one in limp operation begins the settle, which ends limp operation; with no
operation Active an unlock removes every carrier and field, enters limp operation, and is flagged, counted and
reported; a relock that takes longer than 350 µs is flagged. While the MPLL relocks, an output it drives carries the
reference with RELOCK = 1 and a source of 27.12 MHz or more, and is held low otherwise. -/
def Obligations.ReferenceChoiceAndMpllUnlock : Prop :=
  ∀ s : State, s.regsWf →
    (∀ b : Bool, s.power.released = true → s.clk.refSrc = 0 →
      exec (.referenceQualified b) s = .next { s with tb := 0, clk := { s.clk with refSrc := if b then 2 else 1 } }) ∧
    (s.clk.refSrc ≠ 0 → s.clk.mpllLock = false →
      exec .mpllLocked s = .next { s with clk := { s.clk with mpllLock := true, settling := s.clk.limp } }) ∧
    (s.clk.mpllLock = true → s.clk.settling = true →
      ∃ t : State, exec .mpllSettleDone s = .next t ∧ t = { s with regs := t.regs, tus := t.tus, clk := t.clk } ∧
        t.clk = { s.clk with limp := false, settling := false } ∧ (∀ u, t.tuCount u = s.tuCount u) ∧
        ∀ (k : Fin 4) d, clkoutSource (s.reg (CK_CLKOUT k)) = .mpll d → (s.reg (CK_CLKOUT k)).getLsbD 31 = true → s.clk.refSrc ≠ 0 →
          t.clkoutNow k = .mpll d) ∧
    (s.clk.mpllLock = true → s.ops = [] → s.endedNow = [] →
      ∃ t : State, exec .mpllUnlock s = .next t ∧ s.onlyEvents t ∧
        t = { s with regs := t.regs, threads := t.threads, uports := t.uports, hports := t.hports, clk := t.clk
                     tus := t.tus, faults := t.faults } ∧
        t.clk = { s.clk with mpllLock := false, limp := true, settling := false } ∧
        (∀ p, (t.up p).carrier = none) ∧ (∀ p, (t.hp p).field = false) ∧
        (∀ p, (s.hp p).field = true → (t.reg (HP_FLAGS p)).getLsbD 2 = true) ∧
        (t.reg CK_FLAGS).getLsbD 0 = true ∧ t.fld CK_CNT 16 16 = min (s.fld CK_CNT 16 16 + 1) 65535 ∧
        (t.reg FLT_STATUS).getLsbD 2 = true ∧
        ∀ (k : Fin 4) d, clkoutSource (s.reg (CK_CLKOUT k)) = .mpll d → (s.reg (CK_CLKOUT k)).getLsbD 31 = true → s.clk.refSrc ≠ 0 →
          t.clkoutNow k = if (s.reg (CK_CLKOUT k)).getLsbD 21 = true ∧ 2712 ≤ clkoutRate (s.reg (CK_CLKOUT k))
            then .reference else .low) ∧
    (s.clk.limp = true → s.clk.mpllLock = false →
      ∃ t : State, exec .relockslow s = .next t ∧ s.onlyEvents t ∧
        t = { s with regs := t.regs, threads := t.threads, faults := t.faults } ∧
        (t.reg CK_FLAGS).getLsbD 1 = true ∧ (t.reg FLT_STATUS).getLsbD 2 = true)

/-- The local oscillators (R259 to R265): with no operation Active an unlock removes the carriers driven from the LO,
and no others, starts a relock with the band code of the nearest valid set, or with none valid a search, and is
flagged, counted and reported; at the lock the dither LFSR takes SEED and the accumulator the phase M × TB, and a search
ends with its code and BTMISS; a relock ends aligned, every divider slipped by the nearest quarter cycle; a slew ends
realigned; a tuning voltage outside 15–85 % sets TUNEWARN. -/
def Obligations.OscillatorsUnlockRelockAndSlew : Prop :=
  ∀ (s : State) (n : LoNo), s.regsWf → s.ops = [] →
    let slipped := fun (l : Lo) (errs : List Int) =>
      ∀ i e, errs[i]? = some e → ∃ q : Int, l.slips[i]? = some (q % 4).toNat ∧ -128 ≤ e - 256 * q ∧ e - 256 * q ≤ 128 ∧
        (i = 0 → l.inject = 256 * q - e)
    ((s.lo n).lock = true → s.endedNow = [] →
      let e := bandEntry (s.lo n).freq
      let valid := fun k : Fin 5 => (s.bandCode n e k).1
      ∃ t : State, exec (.loUnlock n) s = .next t ∧ s.onlyEvents t ∧
        t = { s with regs := t.regs, threads := t.threads, uports := t.uports, los := t.los, faults := t.faults } ∧
        t.lo n = { s.lo n with lock := false, slewing := false, aligned := false, relock := true, unlocked := true
                               next := none, band := (t.lo n).band, tset := (t.lo n).tset, search := (t.lo n).search } ∧
        (∀ k, nearestSet valid (s.dieTemp 3) = some k →
          (t.lo n).band = (s.bandCode n e k).2 ∧ (t.lo n).tset = k ∧ (t.lo n).search = false) ∧
        ((∀ k, valid k = false) → (t.lo n).search = true) ∧
        (∀ m, m ≠ n → t.lo m = s.lo m) ∧ (∀ p g, (t.up p).carrier ≠ some (n, g)) ∧
        (∀ p, (∀ g, (s.up p).carrier ≠ some (n, g)) → t.up p = s.up p) ∧
        (t.reg CK_FLAGS).getLsbD (12 + n.val) = true ∧
        t.fld (CK_LO_CNT n) 16 16 = min (s.fld (CK_LO_CNT n) 16 16 + 1) 65535 ∧ (t.reg FLT_STATUS).getLsbD 3 = true) ∧
    (∀ (dt : Nat) (band : BitVec 7) (v : Byte), (s.lo n).relock = true → (s.lo n).lock = false →
      ∃ t : State, exec (.loRelockEnd n dt band v none) s = .next t ∧ t = { s.advance dt with regs := t.regs, los := t.los } ∧
        t.lo n = { s.lo n with lock := true, vtune := v, lfsrTick := t.ticks, lfsr := (t.lo n).lfsr, accum := (t.lo n).accum
                               band := if (s.lo n).search then band else (s.lo n).band, search := false } ∧
        (t.lo n).lfsr.toNat = max 1 (bits (s.reg (CK_LO_CFG n)) 0 16) ∧ (t.lo n).accum.toNat = t.loPhase n ∧
        (∀ m, m ≠ n → t.lo m = s.lo m) ∧ ((s.lo n).search = true → (t.reg CK_FLAGS).getLsbD (16 + n.val) = true)) ∧
    (∀ (dt : Nat) (band : BitVec 7) (v : Byte) (errs : List Int), (s.lo n).relock = true → (s.lo n).lock = true →
      (s.lo n).next = none →
      ∃ t : State, exec (.loRelockEnd n dt band v (some errs)) s = .next t ∧ t = { s.advance dt with regs := t.regs, los := t.los } ∧
        t.lo n = { s.lo n with aligned := true, relock := false, unlocked := false, slips := (t.lo n).slips
                               inject := (t.lo n).inject } ∧
        slipped (t.lo n) errs ∧ (∀ m, m ≠ n → t.lo m = s.lo m) ∧
        t.fld (CK_LO_CNT n) 0 16 = min (s.fld (CK_LO_CNT n) 0 16 + 1) 65535) ∧
    (∀ (dt : Nat) (errs : List Int), (s.lo n).slewing = true → (s.lo n).next = none →
      ∃ t : State, exec (.loStepEnd n dt errs) s = .next t ∧ t = { s.advance dt with los := t.los } ∧
        t.lo n = { s.lo n with slewing := false, aligned := true, slips := (t.lo n).slips, inject := (t.lo n).inject } ∧
        slipped (t.lo n) errs ∧ ∀ m, m ≠ n → t.lo m = s.lo m) ∧
    (∀ v : Byte, (s.lo n).lock = true →
      ∃ t : State, exec (.tunewarn n v) s = .next t ∧ t = { s with regs := t.regs, los := t.los } ∧
        t.lo n = { s.lo n with vtune := v } ∧ (∀ m, m ≠ n → t.lo m = s.lo m) ∧
        (∀ a, a ≠ CK_FLAGS → t.reg a = s.reg a) ∧
        (t.reg CK_FLAGS).getLsbD (8 + n.val) = ((s.reg CK_FLAGS).getLsbD (8 + n.val) || decide (v.toNat < 15 ∨ 85 < v.toNat)))

/-- The epoch and the timebase (R266 to R268, R288, R289): an epoch tick brings TB to the next multiple of 204,800, adds
an armed offset, and copies TB; an edge that a member acquires by sets its divider, DELAY after the epoch tick, and
rounds TB up; a later edge outside ±2 reference periods of where it is expected is flagged and reported, four missing
ones lose the epoch; REALIGN shows every locked LO unaligned. ARM takes only an offset that is a multiple of 204,800.
CK_CLKOUTk keeps its old value where the setting is refused. -/
def Obligations.EpochTicksAlignTheTimebase : Prop :=
  ∀ s : State, s.regsWf →
    let latched := fun (t : State) (tb : BitVec 64) => t.reg TB_EPHI = tb.extractLsb' 32 32 ∧ t.reg TB_EPLO = tb.extractLsb' 0 32
    (s.tbRuns = true → s.epochRole ≠ 2 ∨ s.clk.epState ≠ 0 → s.tb.toNat + 204800 < 2 ^ 64 →
      (bit (s.reg TB_CTRL) 0 = false →
        ∃ t : State, exec .epochTick s = .next t ∧ t = { s with regs := t.regs, tb := t.tb, ticks := t.ticks } ∧
          s.tb.toNat < t.tb.toNat ∧ t.tb.toNat ≤ s.tb.toNat + 204800 ∧ t.tb.toNat % 204800 = 0 ∧
          t.ticks = s.ticks + (t.tb.toNat - s.tb.toNat) ∧ latched t t.tb ∧
          ∀ a, a ≠ TB_EPHI → a ≠ TB_EPLO → t.reg a = s.reg a) ∧
      (bit (s.reg TB_CTRL) 0 = true → s.ops = [] →
        ∃ t : State, exec .epochTick s = .next t ∧ t = { s with regs := t.regs, tb := t.tb, ticks := t.ticks } ∧
          t.tb = s.tb + BitVec.ofNat 64 (204800 - s.tb.toNat % 204800) + (s.reg TB_OFSHI ++ s.reg TB_OFSLO) ∧
          t.reg TB_EPLO = t.tbLo ∧ (t.reg TB_CTRL).getLsbD 0 = false ∧ (t.reg TB_FLAGS).getLsbD 0 = true)) ∧
    (∀ dt : Nat, s.tbRuns = true → s.epochRole = 2 →
      let s1 := (s.advance dt).advance ((8 - (s.advance dt).tb.toNat % 8) % 8)
      let d := 8 * bits (s.reg CK_EPOCH) 0 4
      let off := (s1.tb.toNat + 204800 - d) % 204800
      (s.clk.epState = 0 ∨ s.clk.epWait = true → bit (s.reg TB_CTRL) 0 = false → s.ops = [] → d ≤ s1.tb.toNat →
        s1.tb.toNat + 204800 < 2 ^ 64 →
        ∃ t : State, exec (.epochiEdge dt) s = .next t ∧
          t = { s with regs := t.regs, tb := t.tb, ticks := s1.ticks, clk := t.clk } ∧
          t.clk = { s.clk with epState := 1, epWait := false, epSeen := t.ticks } ∧ d ≤ t.tb.toNat ∧
          (t.tb.toNat - d) % 204800 = 0 ∧ s1.tb.toNat ≤ t.tb.toNat ∧ t.tb.toNat < s1.tb.toNat + 204800 ∧
          latched t (t.tb - BitVec.ofNat 64 d) ∧ (t.reg TB_FLAGS).getLsbD 1 = true) ∧
      (s.clk.epState ≠ 0 → s.clk.epWait = false →
        (off ≤ 16 ∨ 204784 ≤ off → exec (.epochiEdge dt) s = .next { s1 with clk := { s.clk with epSeen := s1.ticks } }) ∧
        (16 < off → off < 204784 → ∃ t : State, exec (.epochiEdge dt) s = .next t ∧ s.onlyEvents t ∧
          t = { s1 with regs := t.regs, threads := t.threads, faults := t.faults } ∧
          (t.reg CK_FLAGS).getLsbD 3 = true ∧ (t.reg FLT_STATUS).getLsbD 4 = true))) ∧
    (s.epochRole = 2 → s.clk.epState = 1 →
      ∃ t : State, exec .epochlost s = .next t ∧ s.onlyEvents t ∧
        t = { s.advanceTo (s.clk.epSeen + 4 * 204800 + 16) with
              regs := t.regs, threads := t.threads, clk := { s.clk with epState := 2 }, faults := t.faults } ∧
        (t.reg CK_FLAGS).getLsbD 2 = true ∧ (t.reg FLT_STATUS).getLsbD 4 = true) ∧
    (∀ v : Word, ∃ t : State, exec (.realign v) s = .next t ∧ t = { s with regs := t.regs, clk := t.clk, los := t.los } ∧
      (∀ n, t.lo n = { s.lo n with aligned := (s.lo n).aligned && !(s.lo n).lock }) ∧
      (∀ a, a ≠ CK_EPOCH → t.reg a = s.reg a) ∧ t.fld CK_EPOCH 30 2 = bits v 30 2 ∧
      t.clk.epWait = decide (bits v 30 2 = 2) ∧ t.clk.refSrc = s.clk.refSrc ∧ t.clk.mpllLock = s.clk.mpllLock ∧
      t.clk.epState = if bits v 30 2 = 2 then (if s.epochRole = 2 then s.clk.epState else 0) else 1) ∧
    (∀ (k : Fin 4) (v : Word),
      (clkoutOk k v = true → ∃ t : State, exec (.clkoutConfig k v) s = .next t ∧ t = { s with regs := t.regs } ∧
        t.fld (CK_CLKOUT k) 24 2 = bits v 24 2 ∧ t.fld (CK_CLKOUT k) 28 3 = bits v 28 3 ∧
        ∀ a, a ≠ CK_CLKOUT k → t.reg a = s.reg a) ∧
      (clkoutOk k v = false → ∃ t : State, exec (.clkoutConfig k v) s = .next t ∧ t = { s with regs := t.regs } ∧
        (t.reg CK_FLAGS).getLsbD 20 = true ∧ ∀ a, a ≠ CK_FLAGS → t.reg a = s.reg a) ∧
      (bits v 24 2 < 2 → bits v 28 3 = 1 → clkoutOk k v = false) ∧ (2 ≤ bits v 24 2 → clkoutOk k v = true)) ∧
    (∀ v : Word, v.getLsbD 0 = true → let ofs := (s.reg TB_OFSHI ++ s.reg TB_OFSLO).toInt
      ∃ t : State, exec (.arm v) s = .next t ∧ t = { s with regs := t.regs, tb := s.tb } ∧
        (ofs % 204800 = 0 → (t.reg TB_CTRL).getLsbD 0 = true ∧ ∀ a, a ≠ TB_CTRL → t.reg a = s.reg a) ∧
        (ofs % 204800 ≠ 0 → (t.reg TB_FLAGS).getLsbD 2 = true ∧ ∀ a, a ≠ TB_FLAGS → t.reg a = s.reg a))

/-- The timer units (R282 to R286), with no route in force and the next unit not running: a wrap returns the counter to
0, one count after its last, and sets its flag; a compare match in reach sets its flag in the tick that the counter takes
its value, and one the lap does not reach never comes; a capture keeps the count, the falling edge writes the pulse width
modulo RELOAD + 1, and a capture over a kept one sets OVR; CLR sets the counter to 0 without a wrap event. -/
def Obligations.TimersWrapMatchAndCapture : Prop :=
  ∀ (s : State) (u : Fin 8), s.regsWf → (∀ r, r < 4 → (s.reg (TU_ROUTE u r)).getLsbD 31 = false) →
    (∀ n : Fin 8, n.val = u.val + 1 → s.tuRun n = false) →
    let only := fun (s1 t : State) (as : List Nat) => t = { s1 with regs := t.regs, tus := t.tus } ∧
      (∀ a, a ∉ as → t.reg a = s.reg a) ∧ ∀ w, w ≠ u → t.tu w = s.tu w
    (s.tuRun u = true → s.tuBclk u = true → (∀ k, k < 4 → s.reg (TU_CMP u k) ≠ 0) →
      let r := s.tuReach u (s.tuLast u + 1)
      ∃ t : State, exec (.timerWrap u) s = .next t ∧ only (s.advanceTo r) t [TU_COUNT u, TU_FLAGS u] ∧ t.reg (TU_COUNT u) = 0 ∧
        (t.tu u).at_ = r ∧ (t.tu u).long = false ∧ (t.reg (TU_FLAGS u)).getLsbD 0 = true ∧
        (t.reg (TU_FLAGS u)).getLsbD 1 = ((s.reg (TU_FLAGS u)).getLsbD 1 || (s.tu u).long)) ∧
    (∀ k : Fin 4, s.tuRun u = true → s.tuBclk u = true → s.tbRuns = true →
      let c := (s.reg (TU_CMP u k)).toNat
      (c ≤ s.tuLast u → (s.reg (TU_COUNT u)).toNat + s.tuSince u (s.tu u).seen[k] < c → s.ticks ≤ s.tuReach u c →
        ∃ t : State, exec (.compareMatch u k) s = .next t ∧ only (s.advanceTo (s.tuReach u c)) t [TU_FLAGS u] ∧
          t.tuCount u = s.reg (TU_CMP u k) ∧ (t.reg (TU_FLAGS u)).getLsbD (2 + k.val) = true) ∧
      (s.tuLast u < c → exec (.compareMatch u k) s = .next s)) ∧
    (∀ (k : Fin 2) (dt : Nat), 1 ≤ s.capSrc u k → s.capSrc u k ≤ 5 →
      let c := (s.advance dt).tuCount u
      (∃ t : State, exec (.captureEdge u k true dt) s = .next t ∧ only (s.advance dt) t [TU_FLAGS u, TU_CAPR u k] ∧
        t.reg (TU_CAPR u k) = c ∧ (t.tu u).wraps[k] = 0 ∧ (t.reg (TU_FLAGS u)).getLsbD (6 + 2 * k.val) = true ∧
        (t.reg (TU_FLAGS u)).getLsbD (10 + k.val) =
          ((s.reg (TU_FLAGS u)).getLsbD (10 + k.val) || (s.reg (TU_FLAGS u)).getLsbD (6 + 2 * k.val))) ∧
      ∃ t : State, exec (.captureEdge u k false dt) s = .next t ∧ only (s.advance dt) t [TU_FLAGS u, TU_CAPF u k, TU_PW u k] ∧
        t.reg (TU_CAPF u k) = c ∧ (t.reg (TU_FLAGS u)).getLsbD (7 + 2 * k.val) = true ∧
        ((t.reg (TU_PW u k)).toNat : Int) = ((c.toNat : Int) - (s.reg (TU_CAPR u k)).toNat) % ((s.reg (TU_RELOAD u)).toNat + 1) ∧
        (t.reg (TU_FLAGS u)).getLsbD (12 + k.val) =
          ((s.reg (TU_FLAGS u)).getLsbD (12 + k.val) || decide (1 < (s.tu u).wraps[k]))) ∧
    (∀ k : Fin 2,
      (s.capSrc u k = 7 → ∃ t : State, exec (.swcap u k) s = .next t ∧ only s t [TU_FLAGS u, TU_CAPR u k] ∧
        t.reg (TU_CAPR u k) = s.tuCount u ∧ (t.reg (TU_FLAGS u)).getLsbD (6 + 2 * k.val) = true) ∧
      (s.capSrc u k ≠ 7 → exec (.swcap u k) s = .next s)) ∧
    (∀ v : Word, s.capSrc u 0 ≠ 7 → s.capSrc u 1 ≠ 7 →
      ∃ t : State, exec (.timerClr u v) s = .next t ∧ only s t [TU_COUNT u, TU_CTRL u] ∧ t.reg (TU_COUNT u) = 0 ∧
        t.tuCount u = 0 ∧ t.reg (TU_CTRL u) = v &&& 0x3F01 ∧ (t.tu u).long = false)

/-! ### Supplies, resets, power states and shedding (R296 to R306, R317, R318) -/

namespace Sys2Proof.Machine

/-- The device in reset with a cause (R298): every register but those listed at its reset value, the registers of the
VBAT island and the nonvolatile store kept. What the model itself counts, and the queue, go on. -/
def State.resetTo (s t : State) (cause : Nat) (keep : List Nat) : Prop :=
  t = { State.reset with pending := s.pending, freeCtr := s.freeCtr, nv := s.nv, regs := t.regs
                         ml := { State.reset.ml with ephemeral := s.ml.ephemeral } } ∧
    t.reg SYS_RSTCAUSE = BitVec.ofNat 32 cause ∧
    ∀ a, a ≠ SYS_RSTCAUSE → a ∉ keep → t.reg a = if inVbat a then s.reg a else resetWord a

/-- What shedding level `k` has done (R304), as far as it does not depend on operations. -/
def State.shedDone (s t : State) (k : Nat) : Prop :=
  (k = 1 → ∀ p, (t.up p).pa = false) ∧ (k = 2 → ∀ p, (t.hp p).field = false) ∧ (k = 3 → ∀ p, (t.up p).carrier = none) ∧
    (k = 5 → (t.reg AIR_CTRL).getLsbD 0 = true ∧ t.nv.snapHeld = true ∧
      ∀ u, (s.th u).st = .run ∨ (s.th u).st = .wait ∨ (s.th u).st = .refetch →
        (t.th u).st = .halted ∧ (t.th u).haltsrc = 4 ∧ (t.th u).pc = (s.th u).pc)

end Sys2Proof.Machine

/-- The resets (R252, R298, R301, R318): each puts the whole device but the VBAT island and the nonvolatile store at its
reset values and stands in SYS_RSTCAUSE; POWERON resets the VBAT island too. A write of SYS_RST resets only with KEY
0xA5, the TAP only at debug level 0, a wake source only from the states it ends. -/
def Obligations.ResetsKeepTheVbatIslandAlone : Prop :=
  ∀ s : State, s.regsWf →
    let resets := fun (c : Instr) (cause : Nat) => ∃ t : State, exec c s = .next t ∧ s.resetTo t cause []
    (∃ t : State, exec .poweron s = .next t ∧ t.reg SYS_RSTCAUSE = 1 ∧ (∀ a, a ≠ SYS_RSTCAUSE → t.reg a = resetWord a) ∧
      t.threads = State.reset.threads ∧ t.smem = [] ∧ t.ops = [] ∧ t.nv = s.nv) ∧
    resets .resetn 2 ∧ resets .brownout 3 ∧
    (∀ v : Word, if bits v 0 8 = 0xA5 then resets (.softwareReset v) 5 else exec (.softwareReset v) s = .next s) ∧
    (if s.debugLevel = 0 then resets .debugReset 10 else exec .debugReset s = .next s) ∧
    (if s.clk.refSrc ≠ 0 then resets .refloss 4 else exec .refloss s = .next s) ∧
    (if s.asleep then resets .wake 6 ∧ resets .acokWake 7 else exec .wake s = .next s ∧ exec .acokWake s = .next s) ∧
    (if s.power.st = .hibernateClocked then resets .wakeCounterExpiry 8 else exec .wakeCounterExpiry s = .next s)

/-- Start-up (R297, R299, R300, R317): the release of reset samples the boot mode; once the system clocks run, with
no rail warning and no loss of ACOK, the stores are loaded and the device is READY, LOADING being set for a host load. The
image of the nonvolatile store that passes its check fills the program store from its start, the rest reading 0, and T0
enters Run at 0x1000_0000; one that fails leaves T0 as it is, with BOOTERR, or in mode 0b11 lets the host load one. A host
load that passes its check keeps its code, what lies beyond it reading 0, and starts T0; one that fails sets BOOTERR and
LOADERR. Under IMGREQ an image passes with an enabled key, a version of MINVER at least and a signature over its header
and code. -/
def Obligations.StartUpLoadsStoresAndImage : Prop :=
  ∀ s : State, s.regsWf →
    (∀ b, s.power.st = .starting → s.power.released = false →
      exec (.resetRelease b) s = .next { s with power := { s.power with released := true, boot := b } }) ∧
    (∀ b, s.power.st = .starting → s.power.released = true → s.clk.refSrc ≠ 0 → s.clk.mpllLock = true →
      s.power.rails = 0 → s.power.schedOn = false → ∃ t : State, exec (.ready b) s = .next t ∧ t.power.st = .run ∧ t.power.booting = true ∧ t.hsp.ready = true ∧
        t.hsp.loading = decide (s.power.boot = 0) ∧ t.smem = s.smem ∧ t.pstore = s.pstore ∧ s.onlyEvents t ∧
        t.profile = (if b.bank then s.nv.older else s.nv.profile) ∧
        t.power.snapValid = (s.nv.snapHeld && !b.snap) ∧ (s.power.boot = 1 → (t.reg MS_CFG).getLsbD 0 = true)) ∧
    (∀ img : List Word, s.power.booting = true → s.hsp.loading = false → 2 ≤ s.power.boot.toNat → s.image.source ≠ 2 →
      let good := imageFits s.power.boot img = true ∧ s.storedOk img = true
      let n := hdrLength img
      (s.imgReq = true → s.storedOk img = true → (s.imageKey (img.getD 3 0).toNat).1 = true ∧
        (s.profile.policy.getD 1 0).toNat ≤ (img.getD 2 0).toNat ∧
        Config.ecdsaVerify (s.imageKey (img.getD 3 0).toNat).2 (Config.sha256 (wordsBytes (img.take (8 + n / 4))))
          (BitVec.ofNat 512 (wordsNat ((img.drop (8 + n / 4)).take 16))) = true) ∧
      (good → (s.th 0).st = .off →
        ∃ t : State, exec (.bootImageReady img) s = .next t ∧
          t = { s with pstore := t.pstore, image := t.image, threads := t.threads
                       power := { s.power with booting := false } } ∧ t.image.source = 0 ∧
          t.th 0 = { s.th 0 with st := .run, pc := 0x10000000 } ∧ (∀ u, u ≠ 0 → t.th u = s.th u) ∧
          (∀ k w, 4 * k < n → img[8 + k]? = some w → Memory.word t.pstore (4 * k) = w) ∧
          ∀ a, n ≤ a → Memory.byte t.pstore a = 0) ∧
      (¬ good → exec (.bootImageReady img) s = .next (if s.power.boot = 3 then
          { s with hsp := { s.hsp with loading := true }, image := { s.image with source := 2 } }
        else { s with power := { s.power with booting := false, bootErr := true } }))) ∧
    (∀ img : List Word, s.power.booting = true → s.hsp.loading = false → s.power.boot = 0 →
      ({ s with image := { s.image with source := 2 } }.hostImageOk = true → (s.th 0).st = .off →
        ∃ t : State, exec (.bootImageReady img) s = .next t ∧
          t = { s with pstore := t.pstore, image := { s.image with source := 2 }, threads := t.threads
                       power := { s.power with booting := false } } ∧
          t.th 0 = { s.th 0 with st := .run, pc := 0x10000000 } ∧ (∀ u, u ≠ 0 → t.th u = s.th u) ∧
          (∀ h a, s.saffron.imageHdr = some h →
            Memory.byte t.pstore a = if a < hdrLength h then Memory.byte s.pstore a else 0) ∧
          (s.saffron.imageHdr = none → t.pstore = s.pstore)) ∧
      ({ s with image := { s.image with source := 2 } }.hostImageOk = false → exec (.bootImageReady img) s = .next
        { s with image := { s.image with source := 2 }, hsp := { s.hsp with loadErr := true }
                 power := { s.power with booting := false, bootErr := true } }))

/-- Power states (R155, R277, R301, R302, R305): a request of SYS_PWRCTL waits until no operation is Active; Watch and
Hibernate are refused while ACOK is low. Entering Idle removes every carrier and field and keeps the rest; Hibernate
keeps the VBAT island alone, Watch the card-watch registers too. A change that a scan in Watch finds resets the device
and is named in HC_WAKESRC. The housekeeping ADC writes its 16 channels; DISCARD invalidates the snapshot. -/
def Obligations.PowerStatesAreEnteredAndLeft : Prop :=
  ∀ s : State, s.regsWf →
    let asks := fun (c : Instr) (n : Nat) (r : Option PState) => ∃ t : State, exec c s = .next t ∧
      t = { s with regs := t.regs, power := { s.power with req := r } } ∧ t.fld SYS_PWRCTL 0 3 = n ∧
      ∀ a, a ≠ SYS_PWRCTL → t.reg a = s.reg a
    (s.power.st ≠ .idle → asks .powerReqIdle 1 (some .idle) ∧ asks .powerReqRun 0 none) ∧
    (s.power.st = .idle → ∃ t : State, exec .powerReqRun s = .next t ∧
      t = { s with regs := t.regs, power := { s.power with req := none, st := .run } }) ∧
    (s.power.acok = true → asks .powerReqWatch 2 (some .watch) ∧ asks .powerReqHibernate 3 (some .hibernate) ∧
      asks .powerReqHibernateClocked 4 (some .hibernateClocked)) ∧
    (s.power.acok = false → exec .powerReqWatch s = .next s ∧ exec .powerReqHibernate s = .next s ∧
      exec .powerReqHibernateClocked s = .next s) ∧
    (s.ops.any (·.active) = true → exec .powerStateEntry s = .next s) ∧
    (∀ p, s.ops.any (·.active) = false → s.power.req = some p →
      (p = .idle → ∃ t : State, exec .powerStateEntry s = .next t ∧
        t = { s with regs := t.regs, uports := t.uports, hports := t.hports
                     power := { s.power with req := none, st := .idle } } ∧
        (∀ q, (t.up q).carrier = none) ∧ ∀ q, (t.hp q).field = false) ∧
      (p ≠ .idle → ∃ t : State, exec .powerStateEntry s = .next t ∧ t.power.st = p ∧ t.nv = s.nv ∧
        t.threads = State.reset.threads ∧ t.smem = [] ∧ t.ops = [] ∧ t.rings = State.reset.rings ∧
        (p = .watch → ∀ q, (t.hp q).needBase = (!(s.reg HC_WATCHCFG).getLsbD 1 || (s.hp q).needBase)) ∧
        ∀ a, t.reg a = if inVbat a || (p == .watch && inWatch a) then s.reg a else resetWord a)) ∧
    (∀ x : WatchSample, s.power.st = .watch → s.fld HC_WATCHCFG 8 8 = 2 ^ x.port.val → s.watchSkips x.port = false →
      exec (.watchStateScan []) s = .next s ∧
      let bi := signed 16 (s.fld (HP_WBASE x.port) 16 16)
      let bq := signed 16 (s.fld (HP_WBASE x.port) 0 16)
      let m := watchM (bi * bi + bq * bq) bi bq x
      let n := s.power.watchScans + 1
      ((s.hp x.port).needBase = true → ∃ t : State, exec (.watchStateScan [x]) s = .next t ∧
        t = { s with regs := t.regs, hports := t.hports, power := { s.power with watchScans := n } } ∧
        t.reg (HP_WBASE x.port) = x.xi ++ x.xq ∧ (t.hp x.port).needBase = false ∧
        ∀ q, q ≠ x.port → t.hp q = s.hp q) ∧
      ((s.hp x.port).needBase = false → (s.watchStep x.port x m).2 = true →
        ∃ t : State, exec (.watchStateScan [x]) s = .next t ∧ s.resetTo t 9 [HC_WAKESRC] ∧
          t.reg HC_WAKESRC = BitVec.ofNat 3 x.port ++ 1#1 ++ BitVec.ofNat 12 (min n 0xFFF) ++ BitVec.ofNat 16 (min m 0xFFFF))) ∧
    (∀ xs : List (BitVec 16), s.powered = true → xs.length = 16 →
      ∃ t : State, exec (.hkAdcSequence xs) s = .next t ∧ s.onlyEvents t ∧
        t = { s with regs := t.regs, threads := t.threads, faults := t.faults
                     power := { s.power with hkBusy := s.power.hkHeld, hkHeld := false } } ∧
        (∀ k x, xs[k]? = some x → t.reg (SYS_HK k) = x.setWidth 32 ∧ (k < 8 → t.reg (CAL_TEMP k) = x.setWidth 32)) ∧
        ∀ x, xs[13]? = some x → t.fld HC_VHF 0 16 = x.toNat) ∧
    (∀ v, exec (.discard v) s = .next { s with nv := { s.nv with snapHeld := false }
                                               power := { s.power with snapValid := false } })

/-- Shedding (R296, R303, R304, R306), with no operation and no commit in progress: a rail below its warn threshold
forces its level through every level below it, VBAT only VBATLOW; the loss of ACOK starts the schedule at level 1 and
each entry raises it by one at its time of SYS_SHEDTIME, level 6 leading to Hibernate; ACOK restored stops it, and the
level then falls by one each 50 ms, leaving level 5 clearing HOLD. -/
def Obligations.SheddingLevelsRiseAndFall : Prop :=
  ∀ s : State, s.regsWf → s.ops = [] → s.endedNow = [] → s.saffron.commit = none → s.powered = true →
    let shed := fun (s1 t : State) => t = { s1 with regs := t.regs, threads := t.threads, uports := t.uports
                                                    hports := t.hports, ml := t.ml, power := t.power, nv := t.nv
                                                    faults := t.faults } ∧ t.powered = true
    (∀ r : Fin 7, s.power.rails = 0 → s.power.level = 0 →
      ∃ t : State, exec (.railWarning r true) s = .next t ∧ shed s t ∧ t.power.rails = BitVec.ofNat 7 (2 ^ r.val) ∧
        t.power.level = railLevel r ∧ (∀ k, k ≤ railLevel r → s.shedDone t k) ∧ (t.reg FLT_STATUS).getLsbD 16 = true ∧
        t.power.vbatLow = (s.power.vbatLow || decide (r = 6))) ∧
    (∀ r : Fin 7, exec (.railWarning r false) s = .next { s with power := { s.power with
      rails := s.power.rails &&& ~~~ (BitVec.ofNat 7 (2 ^ r.val)), vbatLow := s.power.vbatLow && r != 6 } }) ∧
    (s.power.schedOn = false → s.power.level = 0 →
      ∃ t : State, exec .acokLossConfirmed s = .next t ∧ shed s t ∧ s.onlyEvents t ∧
        t.power = { s.power with acok := false, schedOn := true, schedule := 1, lossAt := s.ticks, level := 1, levelAt := s.ticks } ∧ s.shedDone t 1 ∧
        (t.reg FLT_STATUS).getLsbD 16 = true) ∧
    exec .acokRestoreConfirmed s = .next { s with power := { s.power with acok := true, schedOn := false } } ∧
    (s.power.schedOn = true → s.power.schedule = s.power.level →
      let s1 := s.advanceTo (s.power.lossAt + ticksOf (500 * s.shedTime (s.power.level + 1)))
      s1.endedNow = [] →
      (s.power.level < 5 → ∃ t : State, exec .shedLevelEntry s = .next t ∧ shed s1 t ∧
        t.power = { s.power with schedule := s.power.level + 1, level := s.power.level + 1, levelAt := s1.ticks } ∧
        s.shedDone t (s.power.level + 1)) ∧
      (s.power.level = 5 → ∃ t : State, exec .shedLevelEntry s = .next t ∧ t.power.st = .hibernate ∧
        t.threads = State.reset.threads ∧ t.nv = s.nv)) ∧
    (s.power.acok = true → 0 < s.power.level → s.forced < s.power.level →
      let k := s.power.level - 1
      let s1 := s.advanceTo (s.power.levelAt + ticksOf 50000)
      let power := { s.power with level := k, levelAt := s1.ticks, schedule := min s.power.schedule k }
      (k ≠ 4 → exec .shedRestore s = .next { s1 with power := power }) ∧
      (k = 4 → ∃ t : State, exec .shedRestore s = .next t ∧ t = { s1 with regs := t.regs, threads := t.threads, power := power } ∧
        (t.reg AIR_CTRL).getLsbD 0 = false ∧
        ∀ u, t.th u = if (s.th u).shedHalt = true ∧ (s.th u).st = .halted then { s.th u with st := .run, shedHalt := false }
          else s.th u))

/-! ### Saffron, the program store and the pads (R307 to R317, R323 to R325) -/

namespace Sys2Proof.Machine

/-- The answer of the service being asked for (R309): its word 0 with RESULT, the length of the data, and the data;
nothing else of the mailbox changes. -/
def State.sfReplied (s t : State) (result bytes : Nat) (data : List Word) : Prop :=
  let head := (s.saffron.request.headD 0 &&& 0xFFFF0000) ||| BitVec.ofNat 32 (256 * result)
  t.saffron = { s.saffron with answer := head :: BitVec.ofNat 32 bytes :: data }

/-- The mailbox free again (R308). -/
def State.freed (s t : State) : Prop :=
  let x := { s.saffron with held := false, owner := .host, busy := false, ready := false, request := [], answer := [] }
  t = { s with saffron := { x with commit := none } }

end Sys2Proof.Machine

/-- The mailbox (R308, R309): GO submits SF_REQ as far as its length says, or sets COLLIDE while the mailbox is held;
DONE and a discard free it; a response that is ready names its RESULT, raises the routed event, and answers an unknown
SERVICE with 0x01. -/
def Obligations.MailboxHoldsOneRequest : Prop :=
  ∀ s : State, s.regsWf →
    (∀ (a : Agent) (v : Word), v.getLsbD 1 = false →
      (s.saffron.held = false → ∃ t : State, exec (.go a v) s = .next t ∧ t = { s with saffron := t.saffron } ∧
        t.saffron = { s.saffron with held := true, owner := a, busy := true, ready := false, request := t.saffron.request
                                     answer := [], commit := none, shedSub := decide (5 ≤ s.power.level), tb := s.tb } ∧
        t.saffron.request.length = min 1024 (1 + (bits (s.reg (SF_REQ 0)) 0 16 + 3) / 4) ∧
        ∀ k w, t.saffron.request[k]? = some w → w = s.reg (SF_REQ k)) ∧
      (s.saffron.held = true → ∃ t : State, exec (.go a v) s = .next t ∧ t = { s with regs := t.regs } ∧
        (t.reg SF_FLAGS).getLsbD 0 = true ∧ ∀ b, b ≠ SF_FLAGS → t.reg b = s.reg b)) ∧
    (∀ (a : Agent) (v : Word) (u : Tid), v.getLsbD 0 = false → s.saffron.owner = .thread u →
      (s.saffron.ready = true → ∃ t : State, exec (.done a v) s = .next t ∧ s.freed t) ∧
      (s.saffron.ready = false → exec (.done a v) s = .next s)) ∧
    (s.saffron.ready = true → ∃ t : State, exec .mailboxResponseDiscard s = .next t ∧
      (s.advanceTo (s.saffron.readyAt + ticksOf 1000000)).freed t) ∧
    (s.saffron.busy = true →
      let ready := fun (t : State) => t = { s with saffron := t.saffron, threads := (s.raiseRouted (s.reg SF_EVT)).threads } ∧
        t.saffron = { s.saffron with busy := false, ready := true, readyAt := s.ticks, answer := t.saffron.answer
                                     lastRes := t.saffron.lastRes } ∧
        t.saffron.lastRes = (t.saffron.answer.headD 0).extractLsb' 8 8
      (1 ≤ s.sfService → s.sfService ≤ 5 → s.saffron.answer ≠ [] →
        ∃ t : State, exec .mailboxResponseReady s = .next t ∧ ready t ∧ t.saffron.answer = s.saffron.answer) ∧
      (s.sfService = 0 ∨ 5 < s.sfService →
        ∃ t : State, exec .mailboxResponseReady s = .next t ∧ ready t ∧ t.saffron.lastRes = 1))

/-- The services but CHANGE (R309, R310, R317): GET_CERT answers the certificate of its index; SIGN counts SIGCNT in
the nonvolatile store and answers it with TB and a signature; GET_PROFILE answers the counter and six hashes; IMAGE_SIG
keeps header and signature while LOADING; a parameter length that is not the service's is answered 0x02. -/
def Obligations.SaffronServicesAnswer : Prop :=
  ∀ s : State,
    let answers := fun (c : Instr) (result bytes : Nat) (data : List Word) =>
      ∃ t : State, exec c s = .next t ∧ t = { s with saffron := t.saffron } ∧ s.sfReplied t result bytes data
    (s.sfServing 1 = true →
      (s.sfLength ≠ 1 → answers .getCert 0x02 0 []) ∧
      ∀ w, s.sfLength = 1 → s.sfParams = [w] → bits w 24 8 < 3 →
        answers .getCert 0 (Config.certificate (bits w 24 8)).1 (Config.certificate (bits w 24 8)).2) ∧
    (s.sfServing 2 = true →
      (s.sfLength < 2 → answers .sign 0x02 0 []) ∧
      ((signDigest s.sfBytes).isSome = true → s.sfWhole = true →
        ∃ (t : State) (sig : List Word), exec .sign s = .next t ∧ sig.length = 16 ∧
          t = { s with saffron := t.saffron, nv := { s.nv with sigcnt := s.nv.sigcnt + 1 }, freeCtr := s.freeCtr + 1 } ∧
          s.sfReplied t 0 80 (bigWords 2 (s.nv.sigcnt + 1) ++ bigWords 2 s.saffron.tb ++ sig))) ∧
    (s.sfServing 3 = true →
      (s.sfLength ≠ 0 → answers .getProfile 0x02 0 []) ∧
      (s.sfLength = 0 → ∃ hashes : List Word, hashes.length = 48 ∧
        answers .getProfile 0 196 (s.profile.counter :: hashes) ∧
        ∀ n k, n < 6 → s.profile.held.getLsbD n = false → k < 8 → hashes[8 * n + k]? = some 0)) ∧
    (s.sfServing 5 = true →
      (s.hsp.loading = false → answers .imageSig 0x03 0 []) ∧
      (s.hsp.loading = true → s.sfLength ≠ 96 → answers .imageSig 0x02 0 []) ∧
      (s.hsp.loading = true → s.sfLength = 96 → s.sfWhole = true →
        ∃ t : State, exec .imageSig s = .next t ∧ t = { s with saffron := t.saffron } ∧
          t.saffron.imageHdr = some (s.sfParams.take 24) ∧
          t.saffron.answer = [(s.saffron.request.headD 0 &&& 0xFFFF0000), 0]))

/-- CHANGE and its commit (R313 to R316): a request that fails a check changes nothing and is answered with its verdict
and a receipt of 31 words; one without the magic number is FORMAT; one that passes waits for its commit record, or is
BUSY when shed at submission, or NVFAIL, recorded; the commit puts the new profile in force and in the nonvolatile
store, keeping the older bank, and new key slots empty the XIP cache. -/
def Obligations.ProfileChangesAreCheckedAndCommitted : Prop :=
  ∀ s : State, s.regsWf →
    let answered := fun (t : State) (result : Nat) => ∃ data, data.length = 31 ∧
      t.saffron = { s.saffron with commit := none, answer := [((s.saffron.request.headD 0 &&& 0xFFFF0000) |||
        BitVec.ofNat 32 (256 * result)), 124] ++ data } ∧ data[3]? = some t.profile.counter
    (s.sfServing 4 = true → ∀ b : Bool,
      (s.sfParams.headD 0 ≠ 0x50520001 → s.checkChange = .error 0x10) ∧
      (∀ v, s.checkChange = .error v → ∃ t : State, exec (.change b) s = .next t ∧
        t = { s with saffron := t.saffron, freeCtr := s.freeCtr + 1 } ∧ answered t v) ∧
      (∀ p, s.checkChange = .ok p →
        (s.saffron.shedSub = true → ∃ t : State, exec (.change b) s = .next t ∧
          t = { s with saffron := t.saffron, freeCtr := s.freeCtr + 1 } ∧ answered t 0x17) ∧
        (s.saffron.shedSub = false →
          exec (.change false) s = .next { s with saffron := { s.saffron with commit := some p } } ∧
          ∃ t : State, exec (.change true) s = .next t ∧ s.onlyEvents t ∧
            t = { s with saffron := t.saffron, freeCtr := s.freeCtr + 1, regs := t.regs, threads := t.threads
                         faults := t.faults } ∧
            answered t 0x16 ∧ (t.reg FLT_STATUS).getLsbD 15 = true))) ∧
    (∀ p, s.saffron.commit = some p →
      (s.nvBusy = true → exec .profileCommit s = .next s) ∧
      (s.nvBusy = false → ∃ t : State, exec .profileCommit s = .next t ∧
        t = { s with saffron := t.saffron, freeCtr := s.freeCtr + 1, profile := p, atlasOk := t.atlasOk, msp := t.msp
                     nv := { s.nv with profile := p, older := s.nv.profile }, faults := t.faults, ops := t.ops } ∧
        t.ops.map (·.id) = s.ops.map (·.id) ∧ answered t 0x00 ∧
        t.msp = if p.slotsRaw = s.profile.slotsRaw then s.msp else { s.msp with lines := [] }))

/-- Refetch, residue checks and pads (R30, R323 to R325): a line comes from the XIP image deciphered, or from the page of
the nonvolatile image whose digest it has, and from no other page; rewritten and good it stands in the program store and the
threads that wait for it go on; one that fails again takes a spare, recorded, or, with none left, stays out of use. A
residue mismatch is counted at once and marks what is received on its port; its recomputation frees the slice and
writes the record. A pad that disagrees is reported while it lasts. -/
def Obligations.RepairsResiduesAndPadsAreReported : Prop :=
  ∀ s : State, s.sound →
    let goesOn := fun (t : State) (line : Nat) => ∀ u, t.th u =
      if (s.th u).st = .refetch ∧ (s.th u).refLine = some line then
        { s.th u with st := .run, refLine := none, event := (t.th u).event }
      else { s.th u with event := (t.th u).event }
    (∀ (line : BitVec 13) (d : List Word) (b : Bool),
      let n := line.toNat
      (s.image.source = 1 → s.refetched n d = some (s.decryptLine (n + 1) d).1) ∧
      (s.image.source = 0 → s.image.pages[n / 128]? = some (Config.sha256 (wordsBytes d)) →
        s.refetched n d = some ((d.drop (8 * (n % 128)) ++ List.replicate 8 0).take 8)) ∧
      (s.image.source = 0 → s.image.pages[n / 128]? ≠ some (Config.sha256 (wordsBytes d)) →
        exec (.refetchLineRewritten line d b) s = .next s)) ∧
    (∀ (line : BitVec 13) (d ws : List Word), s.lineWaits line.toNat = true → s.refetched line.toNat d = some ws → ws.length = 8 →
      let n := line.toNat
      let written := fun (t : State) =>
        t = { s with pstore := t.pstore, image := t.image, hsp := t.hsp, threads := t.threads, regs := t.regs
                     faults := t.faults } ∧
        goesOn t n ∧ n ∉ t.image.bad ∧ (∀ k w, ws[k]? = some w → Memory.word t.pstore (32 * n + 4 * k) = w) ∧
        ∀ a, a / 32 ≠ n → Memory.byte t.pstore a = Memory.byte s.pstore a
      (∃ t : State, exec (.refetchLineRewritten line d false) s = .next t ∧ written t ∧ t.regs = s.regs ∧
        t.image.spares = s.image.spares) ∧
      (s.image.spares < 8 → ∃ t : State, exec (.refetchLineRewritten line d true) s = .next t ∧ written t ∧
        t.image.spares = s.image.spares + 1 ∧ (t.reg FLT_STATUS).getLsbD 5 = true) ∧
      (8 ≤ s.image.spares → ∃ t : State, exec (.refetchLineRewritten line d true) s = .next t ∧ s.onlyEvents t ∧
        t.pstore = s.pstore ∧ n ∈ t.image.dead ∧ t.image.spares = s.image.spares ∧
        (t.reg FLT_STATUS).getLsbD 5 = true)) ∧
    (∀ src : Fin 32, src.val ≠ 31 →
      ∃ t : State, exec (.residueMismatch src) s = .next t ∧ s.onlyEvents t ∧
        t = { s with regs := t.regs, threads := t.threads, ops := t.ops, decoders := t.decoders
                     faults := { s.faults with residues := s.faults.residues ++ [(src, s.tbLo)] } } ∧
        (t.reg FLT_STATUS).getLsbD 9 = true ∧ t.fld (FLT_CNT 9) 0 16 = min (s.fld (FLT_CNT 9) 0 16 + 1) 65535 ∧
        (∀ o op, s.op? o = some op → t.op? o = some { op with gap := op.gap || (op.active && op.reply &&
          (decide (src.val < 16 ∧ src.val ∈ op.uports.map (·.val)) ||
            (op.rnWanted && decide (src.val = 24 + op.lo.val)))) }) ∧
        ∀ (d : Fin 16) r, s.decoders[d] = some r →
          t.decoders[d] = some { r with gap := r.gap || decide (src.val = r.port.val) }) ∧
    (∀ (src : Fin 32) (b : Bool) w rest, s.faults.residues = (src, w) :: rest →
      ∃ t : State, exec (.recomputationDone src b) s = .next t ∧ t = { s with regs := t.regs, faults := t.faults } ∧
        t.faults.residues = rest ∧ t.reg FLT_STATUS = s.reg FLT_STATUS ∧
        t.reg (FLT_LOGA (s.fld FLT_LOGHEAD 0 4)) =
          BitVec.ofNat 32 (0x9000000 + 65536 * src.val + 256 * (if b then 2 else 1) + s.fld FLT_LOGHEAD 8 8) ∧
        t.reg (FLT_LOGB (s.fld FLT_LOGHEAD 0 4)) = w) ∧
    (∀ (src : Fin 32) (b : Bool), s.faults.residues = [] → exec (.recomputationDone src b) s = .next s) ∧
    (∀ p : BitVec 6, p.toNat ≤ 11 ∨ 16 ≤ p.toNat ∧ p.toNat ≤ 31 ∨ p.toNat = 36 →
      exec (.iopad p false) s = .next { s with faults := { s.faults with iopads := s.faults.iopads.filter (· != p) } } ∧
      ∃ t : State, exec (.iopad p true) s = .next t ∧ s.onlyEvents t ∧
        t = { s with regs := t.regs, threads := t.threads, faults := t.faults } ∧ p ∈ t.faults.iopads ∧
        (t.reg FLT_STATUS).getLsbD 13 = true)

/-! ### The machine as a whole -/

/-- One step runs the command at the front of the queue, with the queue's rest; with none waiting the block idles
(the model's choice: assumption 1). -/
def Obligations.StepRunsTheFrontCommand : Prop :=
  (∀ (c : Instr) (s : State), step { s with pending := c :: s.pending } = exec c s) ∧
    (∀ (c : Instr) (rest : List Instr) (s : State), s.pending = c :: rest → step s = exec c { s with pending := rest }) ∧
    ∀ s : State, s.pending = [] → step s = .next s

/-- Right after reset (R25, R36, R298, R311): every register reads its reset value, every memory reads 0, every thread
is Off with no flag and an empty return stack, every slot Free, every ring empty, nothing is on the air, the device is
unsealed, and no command waits. The state is sound. The word order of a memory word is the model's reading
(assumption 3). -/
def Obligations.ResetStateIsSoundAndCleared : Prop :=
  let s := State.reset
  s.sound ∧ s.pending = [] ∧ (∀ a, s.reg a = resetWord a) ∧
    (∀ a, Memory.word s.smem a = 0 ∧ Memory.word s.pstore a = 0) ∧
    (∀ t, (s.th t).st = .off ∧ (s.th t).pc = 0 ∧ (∀ r, (s.th t).rg r = 0) ∧ (s.th t).rstack = [] ∧
      (s.th t).tactive = false ∧ (s.th t).tven = false ∧ (s.th t).event = 0 ∧ (s.th t).waiting = none ∧
      (∀ a, Memory.word (s.th t).mem a = 0) ∧ ∀ k : Fin 16, ((s.th t).slots[k]).st = .free) ∧
    (∀ n, (s.ring n).words = [] ∧ s.ringOn n = false) ∧ s.ops = [] ∧ (∀ p, (s.up p).carrier = none) ∧
    (∀ p, (s.hp p).field = false) ∧ s.profile.counter = 0 ∧ s.saffron.held = false ∧ s.hsp.expect = 1 ∧
    s.reg SYS_RSTCAUSE = 1 ∧ s.reg SYS_WAKECNT = 1000

/-- Benlon words and instructions agree both ways (R32 to R34): decoding the word of an instruction gives it back, with
every field at every value, and every word that decodes is the word of what it decodes to; a word whose opcode R34 does
not list decodes to nothing. -/
def Obligations.BenlonWordsDecodeAndEncodeAgree : Prop :=
  (∀ c i w, encodeBenlon c = some (i, w) → decodeBenlon i w = some c) ∧
    (∀ i w c, decodeBenlon i w = some c → encodeBenlon c = some (i, w)) ∧
    ∀ (i : Issue) (w : Word), (w.extractLsb' 26 6).toNat ∈ [0x00, 0x0D, 0x0E, 0x0F, 0x14, 0x15, 0x16, 0x17, 0x1C, 0x1D, 0x1E,
      0x1F, 0x23, 0x24, 0x25, 0x26, 0x27, 0x2D, 0x2E, 0x2F, 0x3A, 0x3B, 0x3C, 0x3D, 0x3F] → decodeBenlon i w = none

/-- Every step keeps a state sound (R25, R35, R45): the register file and every memory hold their canonical form, so
that equal contents are equal data, no return stack passes 8 entries and no thread has more than 4 writes posted. -/
def Obligations.EveryStepKeepsTheStateSound : Prop := ∀ s t : State, s.sound → step s = .next t → t.sound
end

