-- ==== Sys2Proof/Laws/State.lean ====
section
/-!
SUPPORT. One lemma per field of State and per basic update: every field but the one it writes keeps. All hold by
definition, so that no later proof unfolds a record update.
-/

namespace Sys2Proof.Machine

/-! ### State.setReg writes `regs` alone -/

section
variable (s : State) (a : Nat) (w : Word)
@[simp] theorem State.setReg_pending : (s.setReg a w).pending = s.pending := rfl
@[simp] theorem State.setReg_tb : (s.setReg a w).tb = s.tb := rfl
@[simp] theorem State.setReg_ticks : (s.setReg a w).ticks = s.ticks := rfl
@[simp] theorem State.setReg_busData : (s.setReg a w).busData = s.busData := rfl
@[simp] theorem State.setReg_threads : (s.setReg a w).threads = s.threads := rfl
@[simp] theorem State.setReg_smem : (s.setReg a w).smem = s.smem := rfl
@[simp] theorem State.setReg_pstore : (s.setReg a w).pstore = s.pstore := rfl
@[simp] theorem State.setReg_ops : (s.setReg a w).ops = s.ops := rfl
@[simp] theorem State.setReg_ended : (s.setReg a w).ended = s.ended := rfl
@[simp] theorem State.setReg_endedAt : (s.setReg a w).endedAt = s.endedAt := rfl
@[simp] theorem State.setReg_tags : (s.setReg a w).tags = s.tags := rfl
@[simp] theorem State.setReg_uports : (s.setReg a w).uports = s.uports := rfl
@[simp] theorem State.setReg_hports : (s.setReg a w).hports = s.hports := rfl
@[simp] theorem State.setReg_spares : (s.setReg a w).spares = s.spares := rfl
@[simp] theorem State.setReg_los : (s.setReg a w).los = s.los := rfl
@[simp] theorem State.setReg_clk : (s.setReg a w).clk = s.clk := rfl
@[simp] theorem State.setReg_rings : (s.setReg a w).rings = s.rings := rfl
@[simp] theorem State.setReg_xfers : (s.setReg a w).xfers = s.xfers := rfl
@[simp] theorem State.setReg_shLevels : (s.setReg a w).shLevels = s.shLevels := rfl
@[simp] theorem State.setReg_deficits : (s.setReg a w).deficits = s.deficits := rfl
@[simp] theorem State.setReg_meters : (s.setReg a w).meters = s.meters := rfl
@[simp] theorem State.setReg_imeters : (s.setReg a w).imeters = s.imeters := rfl
@[simp] theorem State.setReg_decoders : (s.setReg a w).decoders = s.decoders := rfl
@[simp] theorem State.setReg_units : (s.setReg a w).units = s.units := rfl
@[simp] theorem State.setReg_duty : (s.setReg a w).duty = s.duty := rfl
@[simp] theorem State.setReg_solving : (s.setReg a w).solving = s.solving := rfl
@[simp] theorem State.setReg_solveQ : (s.setReg a w).solveQ = s.solveQ := rfl
@[simp] theorem State.setReg_calSets : (s.setReg a w).calSets = s.calSets := rfl
@[simp] theorem State.setReg_calBase : (s.setReg a w).calBase = s.calBase := rfl
@[simp] theorem State.setReg_applying : (s.setReg a w).applying = s.applying := rfl
@[simp] theorem State.setReg_dieLog : (s.setReg a w).dieLog = s.dieLog := rfl
@[simp] theorem State.setReg_retempAt : (s.setReg a w).retempAt = s.retempAt := rfl
@[simp] theorem State.setReg_magTrim : (s.setReg a w).magTrim = s.magTrim := rfl
@[simp] theorem State.setReg_nvBusy : (s.setReg a w).nvBusy = s.nvBusy := rfl
@[simp] theorem State.setReg_tus : (s.setReg a w).tus = s.tus := rfl
@[simp] theorem State.setReg_hsp : (s.setReg a w).hsp = s.hsp := rfl
@[simp] theorem State.setReg_psp : (s.setReg a w).psp = s.psp := rfl
@[simp] theorem State.setReg_msp : (s.setReg a w).msp = s.msp := rfl
@[simp] theorem State.setReg_ml : (s.setReg a w).ml = s.ml := rfl
@[simp] theorem State.setReg_power : (s.setReg a w).power = s.power := rfl
@[simp] theorem State.setReg_profile : (s.setReg a w).profile = s.profile := rfl
@[simp] theorem State.setReg_atlasOk : (s.setReg a w).atlasOk = s.atlasOk := rfl
@[simp] theorem State.setReg_saffron : (s.setReg a w).saffron = s.saffron := rfl
@[simp] theorem State.setReg_nv : (s.setReg a w).nv = s.nv := rfl
@[simp] theorem State.setReg_image : (s.setReg a w).image = s.image := rfl
@[simp] theorem State.setReg_faults : (s.setReg a w).faults = s.faults := rfl
@[simp] theorem State.setReg_freeCtr : (s.setReg a w).freeCtr = s.freeCtr := rfl
@[simp] theorem State.setReg_th_acc (u : Tid) : (s.setReg a w).th u = s.th u := rfl
@[simp] theorem State.setReg_up_acc (q : UPortNo) : (s.setReg a w).up q = s.up q := rfl
@[simp] theorem State.setReg_hp_acc (q : HPortNo) : (s.setReg a w).hp q = s.hp q := rfl
@[simp] theorem State.setReg_lo_acc (q : LoNo) : (s.setReg a w).lo q = s.lo q := rfl
@[simp] theorem State.setReg_ring_acc (q : RingNo) : (s.setReg a w).ring q = s.ring q := rfl
@[simp] theorem State.setReg_op_acc (q : OpId) : (s.setReg a w).op? q = s.op? q := rfl
end

/-! ### State.setFld writes `regs` alone -/

section
variable (s : State) (a lo n v : Nat)
@[simp] theorem State.setFld_pending : (s.setFld a lo n v).pending = s.pending := rfl
@[simp] theorem State.setFld_tb : (s.setFld a lo n v).tb = s.tb := rfl
@[simp] theorem State.setFld_ticks : (s.setFld a lo n v).ticks = s.ticks := rfl
@[simp] theorem State.setFld_busData : (s.setFld a lo n v).busData = s.busData := rfl
@[simp] theorem State.setFld_threads : (s.setFld a lo n v).threads = s.threads := rfl
@[simp] theorem State.setFld_smem : (s.setFld a lo n v).smem = s.smem := rfl
@[simp] theorem State.setFld_pstore : (s.setFld a lo n v).pstore = s.pstore := rfl
@[simp] theorem State.setFld_ops : (s.setFld a lo n v).ops = s.ops := rfl
@[simp] theorem State.setFld_ended : (s.setFld a lo n v).ended = s.ended := rfl
@[simp] theorem State.setFld_endedAt : (s.setFld a lo n v).endedAt = s.endedAt := rfl
@[simp] theorem State.setFld_tags : (s.setFld a lo n v).tags = s.tags := rfl
@[simp] theorem State.setFld_uports : (s.setFld a lo n v).uports = s.uports := rfl
@[simp] theorem State.setFld_hports : (s.setFld a lo n v).hports = s.hports := rfl
@[simp] theorem State.setFld_spares : (s.setFld a lo n v).spares = s.spares := rfl
@[simp] theorem State.setFld_los : (s.setFld a lo n v).los = s.los := rfl
@[simp] theorem State.setFld_clk : (s.setFld a lo n v).clk = s.clk := rfl
@[simp] theorem State.setFld_rings : (s.setFld a lo n v).rings = s.rings := rfl
@[simp] theorem State.setFld_xfers : (s.setFld a lo n v).xfers = s.xfers := rfl
@[simp] theorem State.setFld_shLevels : (s.setFld a lo n v).shLevels = s.shLevels := rfl
@[simp] theorem State.setFld_deficits : (s.setFld a lo n v).deficits = s.deficits := rfl
@[simp] theorem State.setFld_meters : (s.setFld a lo n v).meters = s.meters := rfl
@[simp] theorem State.setFld_imeters : (s.setFld a lo n v).imeters = s.imeters := rfl
@[simp] theorem State.setFld_decoders : (s.setFld a lo n v).decoders = s.decoders := rfl
@[simp] theorem State.setFld_units : (s.setFld a lo n v).units = s.units := rfl
@[simp] theorem State.setFld_duty : (s.setFld a lo n v).duty = s.duty := rfl
@[simp] theorem State.setFld_solving : (s.setFld a lo n v).solving = s.solving := rfl
@[simp] theorem State.setFld_solveQ : (s.setFld a lo n v).solveQ = s.solveQ := rfl
@[simp] theorem State.setFld_calSets : (s.setFld a lo n v).calSets = s.calSets := rfl
@[simp] theorem State.setFld_calBase : (s.setFld a lo n v).calBase = s.calBase := rfl
@[simp] theorem State.setFld_applying : (s.setFld a lo n v).applying = s.applying := rfl
@[simp] theorem State.setFld_dieLog : (s.setFld a lo n v).dieLog = s.dieLog := rfl
@[simp] theorem State.setFld_retempAt : (s.setFld a lo n v).retempAt = s.retempAt := rfl
@[simp] theorem State.setFld_magTrim : (s.setFld a lo n v).magTrim = s.magTrim := rfl
@[simp] theorem State.setFld_nvBusy : (s.setFld a lo n v).nvBusy = s.nvBusy := rfl
@[simp] theorem State.setFld_tus : (s.setFld a lo n v).tus = s.tus := rfl
@[simp] theorem State.setFld_hsp : (s.setFld a lo n v).hsp = s.hsp := rfl
@[simp] theorem State.setFld_psp : (s.setFld a lo n v).psp = s.psp := rfl
@[simp] theorem State.setFld_msp : (s.setFld a lo n v).msp = s.msp := rfl
@[simp] theorem State.setFld_ml : (s.setFld a lo n v).ml = s.ml := rfl
@[simp] theorem State.setFld_power : (s.setFld a lo n v).power = s.power := rfl
@[simp] theorem State.setFld_profile : (s.setFld a lo n v).profile = s.profile := rfl
@[simp] theorem State.setFld_atlasOk : (s.setFld a lo n v).atlasOk = s.atlasOk := rfl
@[simp] theorem State.setFld_saffron : (s.setFld a lo n v).saffron = s.saffron := rfl
@[simp] theorem State.setFld_nv : (s.setFld a lo n v).nv = s.nv := rfl
@[simp] theorem State.setFld_image : (s.setFld a lo n v).image = s.image := rfl
@[simp] theorem State.setFld_faults : (s.setFld a lo n v).faults = s.faults := rfl
@[simp] theorem State.setFld_freeCtr : (s.setFld a lo n v).freeCtr = s.freeCtr := rfl
@[simp] theorem State.setFld_th_acc (u : Tid) : (s.setFld a lo n v).th u = s.th u := rfl
@[simp] theorem State.setFld_up_acc (q : UPortNo) : (s.setFld a lo n v).up q = s.up q := rfl
@[simp] theorem State.setFld_hp_acc (q : HPortNo) : (s.setFld a lo n v).hp q = s.hp q := rfl
@[simp] theorem State.setFld_lo_acc (q : LoNo) : (s.setFld a lo n v).lo q = s.lo q := rfl
@[simp] theorem State.setFld_ring_acc (q : RingNo) : (s.setFld a lo n v).ring q = s.ring q := rfl
@[simp] theorem State.setFld_op_acc (q : OpId) : (s.setFld a lo n v).op? q = s.op? q := rfl
end

/-! ### State.setFlag writes `regs` alone -/

section
variable (s : State) (a i : Nat)
@[simp] theorem State.setFlag_pending : (s.setFlag a i).pending = s.pending := rfl
@[simp] theorem State.setFlag_tb : (s.setFlag a i).tb = s.tb := rfl
@[simp] theorem State.setFlag_ticks : (s.setFlag a i).ticks = s.ticks := rfl
@[simp] theorem State.setFlag_busData : (s.setFlag a i).busData = s.busData := rfl
@[simp] theorem State.setFlag_threads : (s.setFlag a i).threads = s.threads := rfl
@[simp] theorem State.setFlag_smem : (s.setFlag a i).smem = s.smem := rfl
@[simp] theorem State.setFlag_pstore : (s.setFlag a i).pstore = s.pstore := rfl
@[simp] theorem State.setFlag_ops : (s.setFlag a i).ops = s.ops := rfl
@[simp] theorem State.setFlag_ended : (s.setFlag a i).ended = s.ended := rfl
@[simp] theorem State.setFlag_endedAt : (s.setFlag a i).endedAt = s.endedAt := rfl
@[simp] theorem State.setFlag_tags : (s.setFlag a i).tags = s.tags := rfl
@[simp] theorem State.setFlag_uports : (s.setFlag a i).uports = s.uports := rfl
@[simp] theorem State.setFlag_hports : (s.setFlag a i).hports = s.hports := rfl
@[simp] theorem State.setFlag_spares : (s.setFlag a i).spares = s.spares := rfl
@[simp] theorem State.setFlag_los : (s.setFlag a i).los = s.los := rfl
@[simp] theorem State.setFlag_clk : (s.setFlag a i).clk = s.clk := rfl
@[simp] theorem State.setFlag_rings : (s.setFlag a i).rings = s.rings := rfl
@[simp] theorem State.setFlag_xfers : (s.setFlag a i).xfers = s.xfers := rfl
@[simp] theorem State.setFlag_shLevels : (s.setFlag a i).shLevels = s.shLevels := rfl
@[simp] theorem State.setFlag_deficits : (s.setFlag a i).deficits = s.deficits := rfl
@[simp] theorem State.setFlag_meters : (s.setFlag a i).meters = s.meters := rfl
@[simp] theorem State.setFlag_imeters : (s.setFlag a i).imeters = s.imeters := rfl
@[simp] theorem State.setFlag_decoders : (s.setFlag a i).decoders = s.decoders := rfl
@[simp] theorem State.setFlag_units : (s.setFlag a i).units = s.units := rfl
@[simp] theorem State.setFlag_duty : (s.setFlag a i).duty = s.duty := rfl
@[simp] theorem State.setFlag_solving : (s.setFlag a i).solving = s.solving := rfl
@[simp] theorem State.setFlag_solveQ : (s.setFlag a i).solveQ = s.solveQ := rfl
@[simp] theorem State.setFlag_calSets : (s.setFlag a i).calSets = s.calSets := rfl
@[simp] theorem State.setFlag_calBase : (s.setFlag a i).calBase = s.calBase := rfl
@[simp] theorem State.setFlag_applying : (s.setFlag a i).applying = s.applying := rfl
@[simp] theorem State.setFlag_dieLog : (s.setFlag a i).dieLog = s.dieLog := rfl
@[simp] theorem State.setFlag_retempAt : (s.setFlag a i).retempAt = s.retempAt := rfl
@[simp] theorem State.setFlag_magTrim : (s.setFlag a i).magTrim = s.magTrim := rfl
@[simp] theorem State.setFlag_nvBusy : (s.setFlag a i).nvBusy = s.nvBusy := rfl
@[simp] theorem State.setFlag_tus : (s.setFlag a i).tus = s.tus := rfl
@[simp] theorem State.setFlag_hsp : (s.setFlag a i).hsp = s.hsp := rfl
@[simp] theorem State.setFlag_psp : (s.setFlag a i).psp = s.psp := rfl
@[simp] theorem State.setFlag_msp : (s.setFlag a i).msp = s.msp := rfl
@[simp] theorem State.setFlag_ml : (s.setFlag a i).ml = s.ml := rfl
@[simp] theorem State.setFlag_power : (s.setFlag a i).power = s.power := rfl
@[simp] theorem State.setFlag_profile : (s.setFlag a i).profile = s.profile := rfl
@[simp] theorem State.setFlag_atlasOk : (s.setFlag a i).atlasOk = s.atlasOk := rfl
@[simp] theorem State.setFlag_saffron : (s.setFlag a i).saffron = s.saffron := rfl
@[simp] theorem State.setFlag_nv : (s.setFlag a i).nv = s.nv := rfl
@[simp] theorem State.setFlag_image : (s.setFlag a i).image = s.image := rfl
@[simp] theorem State.setFlag_faults : (s.setFlag a i).faults = s.faults := rfl
@[simp] theorem State.setFlag_freeCtr : (s.setFlag a i).freeCtr = s.freeCtr := rfl
@[simp] theorem State.setFlag_th_acc (u : Tid) : (s.setFlag a i).th u = s.th u := rfl
@[simp] theorem State.setFlag_up_acc (q : UPortNo) : (s.setFlag a i).up q = s.up q := rfl
@[simp] theorem State.setFlag_hp_acc (q : HPortNo) : (s.setFlag a i).hp q = s.hp q := rfl
@[simp] theorem State.setFlag_lo_acc (q : LoNo) : (s.setFlag a i).lo q = s.lo q := rfl
@[simp] theorem State.setFlag_ring_acc (q : RingNo) : (s.setFlag a i).ring q = s.ring q := rfl
@[simp] theorem State.setFlag_op_acc (q : OpId) : (s.setFlag a i).op? q = s.op? q := rfl
end

/-! ### State.countFld writes `regs` alone -/

section
variable (s : State) (a lo n k : Nat)
@[simp] theorem State.countFld_pending : (s.countFld a lo n k).pending = s.pending := rfl
@[simp] theorem State.countFld_tb : (s.countFld a lo n k).tb = s.tb := rfl
@[simp] theorem State.countFld_ticks : (s.countFld a lo n k).ticks = s.ticks := rfl
@[simp] theorem State.countFld_busData : (s.countFld a lo n k).busData = s.busData := rfl
@[simp] theorem State.countFld_threads : (s.countFld a lo n k).threads = s.threads := rfl
@[simp] theorem State.countFld_smem : (s.countFld a lo n k).smem = s.smem := rfl
@[simp] theorem State.countFld_pstore : (s.countFld a lo n k).pstore = s.pstore := rfl
@[simp] theorem State.countFld_ops : (s.countFld a lo n k).ops = s.ops := rfl
@[simp] theorem State.countFld_ended : (s.countFld a lo n k).ended = s.ended := rfl
@[simp] theorem State.countFld_endedAt : (s.countFld a lo n k).endedAt = s.endedAt := rfl
@[simp] theorem State.countFld_tags : (s.countFld a lo n k).tags = s.tags := rfl
@[simp] theorem State.countFld_uports : (s.countFld a lo n k).uports = s.uports := rfl
@[simp] theorem State.countFld_hports : (s.countFld a lo n k).hports = s.hports := rfl
@[simp] theorem State.countFld_spares : (s.countFld a lo n k).spares = s.spares := rfl
@[simp] theorem State.countFld_los : (s.countFld a lo n k).los = s.los := rfl
@[simp] theorem State.countFld_clk : (s.countFld a lo n k).clk = s.clk := rfl
@[simp] theorem State.countFld_rings : (s.countFld a lo n k).rings = s.rings := rfl
@[simp] theorem State.countFld_xfers : (s.countFld a lo n k).xfers = s.xfers := rfl
@[simp] theorem State.countFld_shLevels : (s.countFld a lo n k).shLevels = s.shLevels := rfl
@[simp] theorem State.countFld_deficits : (s.countFld a lo n k).deficits = s.deficits := rfl
@[simp] theorem State.countFld_meters : (s.countFld a lo n k).meters = s.meters := rfl
@[simp] theorem State.countFld_imeters : (s.countFld a lo n k).imeters = s.imeters := rfl
@[simp] theorem State.countFld_decoders : (s.countFld a lo n k).decoders = s.decoders := rfl
@[simp] theorem State.countFld_units : (s.countFld a lo n k).units = s.units := rfl
@[simp] theorem State.countFld_duty : (s.countFld a lo n k).duty = s.duty := rfl
@[simp] theorem State.countFld_solving : (s.countFld a lo n k).solving = s.solving := rfl
@[simp] theorem State.countFld_solveQ : (s.countFld a lo n k).solveQ = s.solveQ := rfl
@[simp] theorem State.countFld_calSets : (s.countFld a lo n k).calSets = s.calSets := rfl
@[simp] theorem State.countFld_calBase : (s.countFld a lo n k).calBase = s.calBase := rfl
@[simp] theorem State.countFld_applying : (s.countFld a lo n k).applying = s.applying := rfl
@[simp] theorem State.countFld_dieLog : (s.countFld a lo n k).dieLog = s.dieLog := rfl
@[simp] theorem State.countFld_retempAt : (s.countFld a lo n k).retempAt = s.retempAt := rfl
@[simp] theorem State.countFld_magTrim : (s.countFld a lo n k).magTrim = s.magTrim := rfl
@[simp] theorem State.countFld_nvBusy : (s.countFld a lo n k).nvBusy = s.nvBusy := rfl
@[simp] theorem State.countFld_tus : (s.countFld a lo n k).tus = s.tus := rfl
@[simp] theorem State.countFld_hsp : (s.countFld a lo n k).hsp = s.hsp := rfl
@[simp] theorem State.countFld_psp : (s.countFld a lo n k).psp = s.psp := rfl
@[simp] theorem State.countFld_msp : (s.countFld a lo n k).msp = s.msp := rfl
@[simp] theorem State.countFld_ml : (s.countFld a lo n k).ml = s.ml := rfl
@[simp] theorem State.countFld_power : (s.countFld a lo n k).power = s.power := rfl
@[simp] theorem State.countFld_profile : (s.countFld a lo n k).profile = s.profile := rfl
@[simp] theorem State.countFld_atlasOk : (s.countFld a lo n k).atlasOk = s.atlasOk := rfl
@[simp] theorem State.countFld_saffron : (s.countFld a lo n k).saffron = s.saffron := rfl
@[simp] theorem State.countFld_nv : (s.countFld a lo n k).nv = s.nv := rfl
@[simp] theorem State.countFld_image : (s.countFld a lo n k).image = s.image := rfl
@[simp] theorem State.countFld_faults : (s.countFld a lo n k).faults = s.faults := rfl
@[simp] theorem State.countFld_freeCtr : (s.countFld a lo n k).freeCtr = s.freeCtr := rfl
@[simp] theorem State.countFld_th_acc (u : Tid) : (s.countFld a lo n k).th u = s.th u := rfl
@[simp] theorem State.countFld_up_acc (q : UPortNo) : (s.countFld a lo n k).up q = s.up q := rfl
@[simp] theorem State.countFld_hp_acc (q : HPortNo) : (s.countFld a lo n k).hp q = s.hp q := rfl
@[simp] theorem State.countFld_lo_acc (q : LoNo) : (s.countFld a lo n k).lo q = s.lo q := rfl
@[simp] theorem State.countFld_ring_acc (q : RingNo) : (s.countFld a lo n k).ring q = s.ring q := rfl
@[simp] theorem State.countFld_op_acc (q : OpId) : (s.countFld a lo n k).op? q = s.op? q := rfl
end

/-! ### State.setTh writes `threads` alone -/

section
variable (s : State) (t : Tid) (x : Thread)
@[simp] theorem State.setTh_pending : (s.setTh t x).pending = s.pending := rfl
@[simp] theorem State.setTh_regs : (s.setTh t x).regs = s.regs := rfl
@[simp] theorem State.setTh_tb : (s.setTh t x).tb = s.tb := rfl
@[simp] theorem State.setTh_ticks : (s.setTh t x).ticks = s.ticks := rfl
@[simp] theorem State.setTh_busData : (s.setTh t x).busData = s.busData := rfl
@[simp] theorem State.setTh_smem : (s.setTh t x).smem = s.smem := rfl
@[simp] theorem State.setTh_pstore : (s.setTh t x).pstore = s.pstore := rfl
@[simp] theorem State.setTh_ops : (s.setTh t x).ops = s.ops := rfl
@[simp] theorem State.setTh_ended : (s.setTh t x).ended = s.ended := rfl
@[simp] theorem State.setTh_endedAt : (s.setTh t x).endedAt = s.endedAt := rfl
@[simp] theorem State.setTh_tags : (s.setTh t x).tags = s.tags := rfl
@[simp] theorem State.setTh_uports : (s.setTh t x).uports = s.uports := rfl
@[simp] theorem State.setTh_hports : (s.setTh t x).hports = s.hports := rfl
@[simp] theorem State.setTh_spares : (s.setTh t x).spares = s.spares := rfl
@[simp] theorem State.setTh_los : (s.setTh t x).los = s.los := rfl
@[simp] theorem State.setTh_clk : (s.setTh t x).clk = s.clk := rfl
@[simp] theorem State.setTh_rings : (s.setTh t x).rings = s.rings := rfl
@[simp] theorem State.setTh_xfers : (s.setTh t x).xfers = s.xfers := rfl
@[simp] theorem State.setTh_shLevels : (s.setTh t x).shLevels = s.shLevels := rfl
@[simp] theorem State.setTh_deficits : (s.setTh t x).deficits = s.deficits := rfl
@[simp] theorem State.setTh_meters : (s.setTh t x).meters = s.meters := rfl
@[simp] theorem State.setTh_imeters : (s.setTh t x).imeters = s.imeters := rfl
@[simp] theorem State.setTh_decoders : (s.setTh t x).decoders = s.decoders := rfl
@[simp] theorem State.setTh_units : (s.setTh t x).units = s.units := rfl
@[simp] theorem State.setTh_duty : (s.setTh t x).duty = s.duty := rfl
@[simp] theorem State.setTh_solving : (s.setTh t x).solving = s.solving := rfl
@[simp] theorem State.setTh_solveQ : (s.setTh t x).solveQ = s.solveQ := rfl
@[simp] theorem State.setTh_calSets : (s.setTh t x).calSets = s.calSets := rfl
@[simp] theorem State.setTh_calBase : (s.setTh t x).calBase = s.calBase := rfl
@[simp] theorem State.setTh_applying : (s.setTh t x).applying = s.applying := rfl
@[simp] theorem State.setTh_dieLog : (s.setTh t x).dieLog = s.dieLog := rfl
@[simp] theorem State.setTh_retempAt : (s.setTh t x).retempAt = s.retempAt := rfl
@[simp] theorem State.setTh_magTrim : (s.setTh t x).magTrim = s.magTrim := rfl
@[simp] theorem State.setTh_nvBusy : (s.setTh t x).nvBusy = s.nvBusy := rfl
@[simp] theorem State.setTh_tus : (s.setTh t x).tus = s.tus := rfl
@[simp] theorem State.setTh_hsp : (s.setTh t x).hsp = s.hsp := rfl
@[simp] theorem State.setTh_psp : (s.setTh t x).psp = s.psp := rfl
@[simp] theorem State.setTh_msp : (s.setTh t x).msp = s.msp := rfl
@[simp] theorem State.setTh_ml : (s.setTh t x).ml = s.ml := rfl
@[simp] theorem State.setTh_power : (s.setTh t x).power = s.power := rfl
@[simp] theorem State.setTh_profile : (s.setTh t x).profile = s.profile := rfl
@[simp] theorem State.setTh_atlasOk : (s.setTh t x).atlasOk = s.atlasOk := rfl
@[simp] theorem State.setTh_saffron : (s.setTh t x).saffron = s.saffron := rfl
@[simp] theorem State.setTh_nv : (s.setTh t x).nv = s.nv := rfl
@[simp] theorem State.setTh_image : (s.setTh t x).image = s.image := rfl
@[simp] theorem State.setTh_faults : (s.setTh t x).faults = s.faults := rfl
@[simp] theorem State.setTh_freeCtr : (s.setTh t x).freeCtr = s.freeCtr := rfl
@[simp] theorem State.setTh_reg_acc (b : Nat) : (s.setTh t x).reg b = s.reg b := rfl
@[simp] theorem State.setTh_fld_acc (b k m : Nat) : (s.setTh t x).fld b k m = s.fld b k m := rfl
@[simp] theorem State.setTh_up_acc (q : UPortNo) : (s.setTh t x).up q = s.up q := rfl
@[simp] theorem State.setTh_hp_acc (q : HPortNo) : (s.setTh t x).hp q = s.hp q := rfl
@[simp] theorem State.setTh_lo_acc (q : LoNo) : (s.setTh t x).lo q = s.lo q := rfl
@[simp] theorem State.setTh_ring_acc (q : RingNo) : (s.setTh t x).ring q = s.ring q := rfl
@[simp] theorem State.setTh_op_acc (q : OpId) : (s.setTh t x).op? q = s.op? q := rfl
end

/-! ### State.modTh writes `threads` alone -/

section
variable (s : State) (t : Tid) (f : Thread → Thread)
@[simp] theorem State.modTh_pending : (s.modTh t f).pending = s.pending := rfl
@[simp] theorem State.modTh_regs : (s.modTh t f).regs = s.regs := rfl
@[simp] theorem State.modTh_tb : (s.modTh t f).tb = s.tb := rfl
@[simp] theorem State.modTh_ticks : (s.modTh t f).ticks = s.ticks := rfl
@[simp] theorem State.modTh_busData : (s.modTh t f).busData = s.busData := rfl
@[simp] theorem State.modTh_smem : (s.modTh t f).smem = s.smem := rfl
@[simp] theorem State.modTh_pstore : (s.modTh t f).pstore = s.pstore := rfl
@[simp] theorem State.modTh_ops : (s.modTh t f).ops = s.ops := rfl
@[simp] theorem State.modTh_ended : (s.modTh t f).ended = s.ended := rfl
@[simp] theorem State.modTh_endedAt : (s.modTh t f).endedAt = s.endedAt := rfl
@[simp] theorem State.modTh_tags : (s.modTh t f).tags = s.tags := rfl
@[simp] theorem State.modTh_uports : (s.modTh t f).uports = s.uports := rfl
@[simp] theorem State.modTh_hports : (s.modTh t f).hports = s.hports := rfl
@[simp] theorem State.modTh_spares : (s.modTh t f).spares = s.spares := rfl
@[simp] theorem State.modTh_los : (s.modTh t f).los = s.los := rfl
@[simp] theorem State.modTh_clk : (s.modTh t f).clk = s.clk := rfl
@[simp] theorem State.modTh_rings : (s.modTh t f).rings = s.rings := rfl
@[simp] theorem State.modTh_xfers : (s.modTh t f).xfers = s.xfers := rfl
@[simp] theorem State.modTh_shLevels : (s.modTh t f).shLevels = s.shLevels := rfl
@[simp] theorem State.modTh_deficits : (s.modTh t f).deficits = s.deficits := rfl
@[simp] theorem State.modTh_meters : (s.modTh t f).meters = s.meters := rfl
@[simp] theorem State.modTh_imeters : (s.modTh t f).imeters = s.imeters := rfl
@[simp] theorem State.modTh_decoders : (s.modTh t f).decoders = s.decoders := rfl
@[simp] theorem State.modTh_units : (s.modTh t f).units = s.units := rfl
@[simp] theorem State.modTh_duty : (s.modTh t f).duty = s.duty := rfl
@[simp] theorem State.modTh_solving : (s.modTh t f).solving = s.solving := rfl
@[simp] theorem State.modTh_solveQ : (s.modTh t f).solveQ = s.solveQ := rfl
@[simp] theorem State.modTh_calSets : (s.modTh t f).calSets = s.calSets := rfl
@[simp] theorem State.modTh_calBase : (s.modTh t f).calBase = s.calBase := rfl
@[simp] theorem State.modTh_applying : (s.modTh t f).applying = s.applying := rfl
@[simp] theorem State.modTh_dieLog : (s.modTh t f).dieLog = s.dieLog := rfl
@[simp] theorem State.modTh_retempAt : (s.modTh t f).retempAt = s.retempAt := rfl
@[simp] theorem State.modTh_magTrim : (s.modTh t f).magTrim = s.magTrim := rfl
@[simp] theorem State.modTh_nvBusy : (s.modTh t f).nvBusy = s.nvBusy := rfl
@[simp] theorem State.modTh_tus : (s.modTh t f).tus = s.tus := rfl
@[simp] theorem State.modTh_hsp : (s.modTh t f).hsp = s.hsp := rfl
@[simp] theorem State.modTh_psp : (s.modTh t f).psp = s.psp := rfl
@[simp] theorem State.modTh_msp : (s.modTh t f).msp = s.msp := rfl
@[simp] theorem State.modTh_ml : (s.modTh t f).ml = s.ml := rfl
@[simp] theorem State.modTh_power : (s.modTh t f).power = s.power := rfl
@[simp] theorem State.modTh_profile : (s.modTh t f).profile = s.profile := rfl
@[simp] theorem State.modTh_atlasOk : (s.modTh t f).atlasOk = s.atlasOk := rfl
@[simp] theorem State.modTh_saffron : (s.modTh t f).saffron = s.saffron := rfl
@[simp] theorem State.modTh_nv : (s.modTh t f).nv = s.nv := rfl
@[simp] theorem State.modTh_image : (s.modTh t f).image = s.image := rfl
@[simp] theorem State.modTh_faults : (s.modTh t f).faults = s.faults := rfl
@[simp] theorem State.modTh_freeCtr : (s.modTh t f).freeCtr = s.freeCtr := rfl
@[simp] theorem State.modTh_reg_acc (b : Nat) : (s.modTh t f).reg b = s.reg b := rfl
@[simp] theorem State.modTh_fld_acc (b k m : Nat) : (s.modTh t f).fld b k m = s.fld b k m := rfl
@[simp] theorem State.modTh_up_acc (q : UPortNo) : (s.modTh t f).up q = s.up q := rfl
@[simp] theorem State.modTh_hp_acc (q : HPortNo) : (s.modTh t f).hp q = s.hp q := rfl
@[simp] theorem State.modTh_lo_acc (q : LoNo) : (s.modTh t f).lo q = s.lo q := rfl
@[simp] theorem State.modTh_ring_acc (q : RingNo) : (s.modTh t f).ring q = s.ring q := rfl
@[simp] theorem State.modTh_op_acc (q : OpId) : (s.modTh t f).op? q = s.op? q := rfl
end

/-! ### State.modUp writes `uports` alone -/

section
variable (s : State) (p : UPortNo) (f : UPort → UPort)
@[simp] theorem State.modUp_pending : (s.modUp p f).pending = s.pending := rfl
@[simp] theorem State.modUp_regs : (s.modUp p f).regs = s.regs := rfl
@[simp] theorem State.modUp_tb : (s.modUp p f).tb = s.tb := rfl
@[simp] theorem State.modUp_ticks : (s.modUp p f).ticks = s.ticks := rfl
@[simp] theorem State.modUp_busData : (s.modUp p f).busData = s.busData := rfl
@[simp] theorem State.modUp_threads : (s.modUp p f).threads = s.threads := rfl
@[simp] theorem State.modUp_smem : (s.modUp p f).smem = s.smem := rfl
@[simp] theorem State.modUp_pstore : (s.modUp p f).pstore = s.pstore := rfl
@[simp] theorem State.modUp_ops : (s.modUp p f).ops = s.ops := rfl
@[simp] theorem State.modUp_ended : (s.modUp p f).ended = s.ended := rfl
@[simp] theorem State.modUp_endedAt : (s.modUp p f).endedAt = s.endedAt := rfl
@[simp] theorem State.modUp_tags : (s.modUp p f).tags = s.tags := rfl
@[simp] theorem State.modUp_hports : (s.modUp p f).hports = s.hports := rfl
@[simp] theorem State.modUp_spares : (s.modUp p f).spares = s.spares := rfl
@[simp] theorem State.modUp_los : (s.modUp p f).los = s.los := rfl
@[simp] theorem State.modUp_clk : (s.modUp p f).clk = s.clk := rfl
@[simp] theorem State.modUp_rings : (s.modUp p f).rings = s.rings := rfl
@[simp] theorem State.modUp_xfers : (s.modUp p f).xfers = s.xfers := rfl
@[simp] theorem State.modUp_shLevels : (s.modUp p f).shLevels = s.shLevels := rfl
@[simp] theorem State.modUp_deficits : (s.modUp p f).deficits = s.deficits := rfl
@[simp] theorem State.modUp_meters : (s.modUp p f).meters = s.meters := rfl
@[simp] theorem State.modUp_imeters : (s.modUp p f).imeters = s.imeters := rfl
@[simp] theorem State.modUp_decoders : (s.modUp p f).decoders = s.decoders := rfl
@[simp] theorem State.modUp_units : (s.modUp p f).units = s.units := rfl
@[simp] theorem State.modUp_duty : (s.modUp p f).duty = s.duty := rfl
@[simp] theorem State.modUp_solving : (s.modUp p f).solving = s.solving := rfl
@[simp] theorem State.modUp_solveQ : (s.modUp p f).solveQ = s.solveQ := rfl
@[simp] theorem State.modUp_calSets : (s.modUp p f).calSets = s.calSets := rfl
@[simp] theorem State.modUp_calBase : (s.modUp p f).calBase = s.calBase := rfl
@[simp] theorem State.modUp_applying : (s.modUp p f).applying = s.applying := rfl
@[simp] theorem State.modUp_dieLog : (s.modUp p f).dieLog = s.dieLog := rfl
@[simp] theorem State.modUp_retempAt : (s.modUp p f).retempAt = s.retempAt := rfl
@[simp] theorem State.modUp_magTrim : (s.modUp p f).magTrim = s.magTrim := rfl
@[simp] theorem State.modUp_nvBusy : (s.modUp p f).nvBusy = s.nvBusy := rfl
@[simp] theorem State.modUp_tus : (s.modUp p f).tus = s.tus := rfl
@[simp] theorem State.modUp_hsp : (s.modUp p f).hsp = s.hsp := rfl
@[simp] theorem State.modUp_psp : (s.modUp p f).psp = s.psp := rfl
@[simp] theorem State.modUp_msp : (s.modUp p f).msp = s.msp := rfl
@[simp] theorem State.modUp_ml : (s.modUp p f).ml = s.ml := rfl
@[simp] theorem State.modUp_power : (s.modUp p f).power = s.power := rfl
@[simp] theorem State.modUp_profile : (s.modUp p f).profile = s.profile := rfl
@[simp] theorem State.modUp_atlasOk : (s.modUp p f).atlasOk = s.atlasOk := rfl
@[simp] theorem State.modUp_saffron : (s.modUp p f).saffron = s.saffron := rfl
@[simp] theorem State.modUp_nv : (s.modUp p f).nv = s.nv := rfl
@[simp] theorem State.modUp_image : (s.modUp p f).image = s.image := rfl
@[simp] theorem State.modUp_faults : (s.modUp p f).faults = s.faults := rfl
@[simp] theorem State.modUp_freeCtr : (s.modUp p f).freeCtr = s.freeCtr := rfl
@[simp] theorem State.modUp_reg_acc (b : Nat) : (s.modUp p f).reg b = s.reg b := rfl
@[simp] theorem State.modUp_fld_acc (b k m : Nat) : (s.modUp p f).fld b k m = s.fld b k m := rfl
@[simp] theorem State.modUp_th_acc (u : Tid) : (s.modUp p f).th u = s.th u := rfl
@[simp] theorem State.modUp_hp_acc (q : HPortNo) : (s.modUp p f).hp q = s.hp q := rfl
@[simp] theorem State.modUp_lo_acc (q : LoNo) : (s.modUp p f).lo q = s.lo q := rfl
@[simp] theorem State.modUp_ring_acc (q : RingNo) : (s.modUp p f).ring q = s.ring q := rfl
@[simp] theorem State.modUp_op_acc (q : OpId) : (s.modUp p f).op? q = s.op? q := rfl
end

/-! ### State.modHp writes `hports` alone -/

section
variable (s : State) (p : HPortNo) (f : HPort → HPort)
@[simp] theorem State.modHp_pending : (s.modHp p f).pending = s.pending := rfl
@[simp] theorem State.modHp_regs : (s.modHp p f).regs = s.regs := rfl
@[simp] theorem State.modHp_tb : (s.modHp p f).tb = s.tb := rfl
@[simp] theorem State.modHp_ticks : (s.modHp p f).ticks = s.ticks := rfl
@[simp] theorem State.modHp_busData : (s.modHp p f).busData = s.busData := rfl
@[simp] theorem State.modHp_threads : (s.modHp p f).threads = s.threads := rfl
@[simp] theorem State.modHp_smem : (s.modHp p f).smem = s.smem := rfl
@[simp] theorem State.modHp_pstore : (s.modHp p f).pstore = s.pstore := rfl
@[simp] theorem State.modHp_ops : (s.modHp p f).ops = s.ops := rfl
@[simp] theorem State.modHp_ended : (s.modHp p f).ended = s.ended := rfl
@[simp] theorem State.modHp_endedAt : (s.modHp p f).endedAt = s.endedAt := rfl
@[simp] theorem State.modHp_tags : (s.modHp p f).tags = s.tags := rfl
@[simp] theorem State.modHp_uports : (s.modHp p f).uports = s.uports := rfl
@[simp] theorem State.modHp_spares : (s.modHp p f).spares = s.spares := rfl
@[simp] theorem State.modHp_los : (s.modHp p f).los = s.los := rfl
@[simp] theorem State.modHp_clk : (s.modHp p f).clk = s.clk := rfl
@[simp] theorem State.modHp_rings : (s.modHp p f).rings = s.rings := rfl
@[simp] theorem State.modHp_xfers : (s.modHp p f).xfers = s.xfers := rfl
@[simp] theorem State.modHp_shLevels : (s.modHp p f).shLevels = s.shLevels := rfl
@[simp] theorem State.modHp_deficits : (s.modHp p f).deficits = s.deficits := rfl
@[simp] theorem State.modHp_meters : (s.modHp p f).meters = s.meters := rfl
@[simp] theorem State.modHp_imeters : (s.modHp p f).imeters = s.imeters := rfl
@[simp] theorem State.modHp_decoders : (s.modHp p f).decoders = s.decoders := rfl
@[simp] theorem State.modHp_units : (s.modHp p f).units = s.units := rfl
@[simp] theorem State.modHp_duty : (s.modHp p f).duty = s.duty := rfl
@[simp] theorem State.modHp_solving : (s.modHp p f).solving = s.solving := rfl
@[simp] theorem State.modHp_solveQ : (s.modHp p f).solveQ = s.solveQ := rfl
@[simp] theorem State.modHp_calSets : (s.modHp p f).calSets = s.calSets := rfl
@[simp] theorem State.modHp_calBase : (s.modHp p f).calBase = s.calBase := rfl
@[simp] theorem State.modHp_applying : (s.modHp p f).applying = s.applying := rfl
@[simp] theorem State.modHp_dieLog : (s.modHp p f).dieLog = s.dieLog := rfl
@[simp] theorem State.modHp_retempAt : (s.modHp p f).retempAt = s.retempAt := rfl
@[simp] theorem State.modHp_magTrim : (s.modHp p f).magTrim = s.magTrim := rfl
@[simp] theorem State.modHp_nvBusy : (s.modHp p f).nvBusy = s.nvBusy := rfl
@[simp] theorem State.modHp_tus : (s.modHp p f).tus = s.tus := rfl
@[simp] theorem State.modHp_hsp : (s.modHp p f).hsp = s.hsp := rfl
@[simp] theorem State.modHp_psp : (s.modHp p f).psp = s.psp := rfl
@[simp] theorem State.modHp_msp : (s.modHp p f).msp = s.msp := rfl
@[simp] theorem State.modHp_ml : (s.modHp p f).ml = s.ml := rfl
@[simp] theorem State.modHp_power : (s.modHp p f).power = s.power := rfl
@[simp] theorem State.modHp_profile : (s.modHp p f).profile = s.profile := rfl
@[simp] theorem State.modHp_atlasOk : (s.modHp p f).atlasOk = s.atlasOk := rfl
@[simp] theorem State.modHp_saffron : (s.modHp p f).saffron = s.saffron := rfl
@[simp] theorem State.modHp_nv : (s.modHp p f).nv = s.nv := rfl
@[simp] theorem State.modHp_image : (s.modHp p f).image = s.image := rfl
@[simp] theorem State.modHp_faults : (s.modHp p f).faults = s.faults := rfl
@[simp] theorem State.modHp_freeCtr : (s.modHp p f).freeCtr = s.freeCtr := rfl
@[simp] theorem State.modHp_reg_acc (b : Nat) : (s.modHp p f).reg b = s.reg b := rfl
@[simp] theorem State.modHp_fld_acc (b k m : Nat) : (s.modHp p f).fld b k m = s.fld b k m := rfl
@[simp] theorem State.modHp_th_acc (u : Tid) : (s.modHp p f).th u = s.th u := rfl
@[simp] theorem State.modHp_up_acc (q : UPortNo) : (s.modHp p f).up q = s.up q := rfl
@[simp] theorem State.modHp_lo_acc (q : LoNo) : (s.modHp p f).lo q = s.lo q := rfl
@[simp] theorem State.modHp_ring_acc (q : RingNo) : (s.modHp p f).ring q = s.ring q := rfl
@[simp] theorem State.modHp_op_acc (q : OpId) : (s.modHp p f).op? q = s.op? q := rfl
end

/-! ### State.modLo writes `los` alone -/

section
variable (s : State) (n : LoNo) (f : Lo → Lo)
@[simp] theorem State.modLo_pending : (s.modLo n f).pending = s.pending := rfl
@[simp] theorem State.modLo_regs : (s.modLo n f).regs = s.regs := rfl
@[simp] theorem State.modLo_tb : (s.modLo n f).tb = s.tb := rfl
@[simp] theorem State.modLo_ticks : (s.modLo n f).ticks = s.ticks := rfl
@[simp] theorem State.modLo_busData : (s.modLo n f).busData = s.busData := rfl
@[simp] theorem State.modLo_threads : (s.modLo n f).threads = s.threads := rfl
@[simp] theorem State.modLo_smem : (s.modLo n f).smem = s.smem := rfl
@[simp] theorem State.modLo_pstore : (s.modLo n f).pstore = s.pstore := rfl
@[simp] theorem State.modLo_ops : (s.modLo n f).ops = s.ops := rfl
@[simp] theorem State.modLo_ended : (s.modLo n f).ended = s.ended := rfl
@[simp] theorem State.modLo_endedAt : (s.modLo n f).endedAt = s.endedAt := rfl
@[simp] theorem State.modLo_tags : (s.modLo n f).tags = s.tags := rfl
@[simp] theorem State.modLo_uports : (s.modLo n f).uports = s.uports := rfl
@[simp] theorem State.modLo_hports : (s.modLo n f).hports = s.hports := rfl
@[simp] theorem State.modLo_spares : (s.modLo n f).spares = s.spares := rfl
@[simp] theorem State.modLo_clk : (s.modLo n f).clk = s.clk := rfl
@[simp] theorem State.modLo_rings : (s.modLo n f).rings = s.rings := rfl
@[simp] theorem State.modLo_xfers : (s.modLo n f).xfers = s.xfers := rfl
@[simp] theorem State.modLo_shLevels : (s.modLo n f).shLevels = s.shLevels := rfl
@[simp] theorem State.modLo_deficits : (s.modLo n f).deficits = s.deficits := rfl
@[simp] theorem State.modLo_meters : (s.modLo n f).meters = s.meters := rfl
@[simp] theorem State.modLo_imeters : (s.modLo n f).imeters = s.imeters := rfl
@[simp] theorem State.modLo_decoders : (s.modLo n f).decoders = s.decoders := rfl
@[simp] theorem State.modLo_units : (s.modLo n f).units = s.units := rfl
@[simp] theorem State.modLo_duty : (s.modLo n f).duty = s.duty := rfl
@[simp] theorem State.modLo_solving : (s.modLo n f).solving = s.solving := rfl
@[simp] theorem State.modLo_solveQ : (s.modLo n f).solveQ = s.solveQ := rfl
@[simp] theorem State.modLo_calSets : (s.modLo n f).calSets = s.calSets := rfl
@[simp] theorem State.modLo_calBase : (s.modLo n f).calBase = s.calBase := rfl
@[simp] theorem State.modLo_applying : (s.modLo n f).applying = s.applying := rfl
@[simp] theorem State.modLo_dieLog : (s.modLo n f).dieLog = s.dieLog := rfl
@[simp] theorem State.modLo_retempAt : (s.modLo n f).retempAt = s.retempAt := rfl
@[simp] theorem State.modLo_magTrim : (s.modLo n f).magTrim = s.magTrim := rfl
@[simp] theorem State.modLo_nvBusy : (s.modLo n f).nvBusy = s.nvBusy := rfl
@[simp] theorem State.modLo_tus : (s.modLo n f).tus = s.tus := rfl
@[simp] theorem State.modLo_hsp : (s.modLo n f).hsp = s.hsp := rfl
@[simp] theorem State.modLo_psp : (s.modLo n f).psp = s.psp := rfl
@[simp] theorem State.modLo_msp : (s.modLo n f).msp = s.msp := rfl
@[simp] theorem State.modLo_ml : (s.modLo n f).ml = s.ml := rfl
@[simp] theorem State.modLo_power : (s.modLo n f).power = s.power := rfl
@[simp] theorem State.modLo_profile : (s.modLo n f).profile = s.profile := rfl
@[simp] theorem State.modLo_atlasOk : (s.modLo n f).atlasOk = s.atlasOk := rfl
@[simp] theorem State.modLo_saffron : (s.modLo n f).saffron = s.saffron := rfl
@[simp] theorem State.modLo_nv : (s.modLo n f).nv = s.nv := rfl
@[simp] theorem State.modLo_image : (s.modLo n f).image = s.image := rfl
@[simp] theorem State.modLo_faults : (s.modLo n f).faults = s.faults := rfl
@[simp] theorem State.modLo_freeCtr : (s.modLo n f).freeCtr = s.freeCtr := rfl
@[simp] theorem State.modLo_reg_acc (b : Nat) : (s.modLo n f).reg b = s.reg b := rfl
@[simp] theorem State.modLo_fld_acc (b k m : Nat) : (s.modLo n f).fld b k m = s.fld b k m := rfl
@[simp] theorem State.modLo_th_acc (u : Tid) : (s.modLo n f).th u = s.th u := rfl
@[simp] theorem State.modLo_up_acc (q : UPortNo) : (s.modLo n f).up q = s.up q := rfl
@[simp] theorem State.modLo_hp_acc (q : HPortNo) : (s.modLo n f).hp q = s.hp q := rfl
@[simp] theorem State.modLo_ring_acc (q : RingNo) : (s.modLo n f).ring q = s.ring q := rfl
@[simp] theorem State.modLo_op_acc (q : OpId) : (s.modLo n f).op? q = s.op? q := rfl
end

/-! ### State.modOp writes `ops` alone -/

section
variable (s : State) (o : OpId) (f : Op → Op)
@[simp] theorem State.modOp_pending : (s.modOp o f).pending = s.pending := rfl
@[simp] theorem State.modOp_regs : (s.modOp o f).regs = s.regs := rfl
@[simp] theorem State.modOp_tb : (s.modOp o f).tb = s.tb := rfl
@[simp] theorem State.modOp_ticks : (s.modOp o f).ticks = s.ticks := rfl
@[simp] theorem State.modOp_busData : (s.modOp o f).busData = s.busData := rfl
@[simp] theorem State.modOp_threads : (s.modOp o f).threads = s.threads := rfl
@[simp] theorem State.modOp_smem : (s.modOp o f).smem = s.smem := rfl
@[simp] theorem State.modOp_pstore : (s.modOp o f).pstore = s.pstore := rfl
@[simp] theorem State.modOp_ended : (s.modOp o f).ended = s.ended := rfl
@[simp] theorem State.modOp_endedAt : (s.modOp o f).endedAt = s.endedAt := rfl
@[simp] theorem State.modOp_tags : (s.modOp o f).tags = s.tags := rfl
@[simp] theorem State.modOp_uports : (s.modOp o f).uports = s.uports := rfl
@[simp] theorem State.modOp_hports : (s.modOp o f).hports = s.hports := rfl
@[simp] theorem State.modOp_spares : (s.modOp o f).spares = s.spares := rfl
@[simp] theorem State.modOp_los : (s.modOp o f).los = s.los := rfl
@[simp] theorem State.modOp_clk : (s.modOp o f).clk = s.clk := rfl
@[simp] theorem State.modOp_rings : (s.modOp o f).rings = s.rings := rfl
@[simp] theorem State.modOp_xfers : (s.modOp o f).xfers = s.xfers := rfl
@[simp] theorem State.modOp_shLevels : (s.modOp o f).shLevels = s.shLevels := rfl
@[simp] theorem State.modOp_deficits : (s.modOp o f).deficits = s.deficits := rfl
@[simp] theorem State.modOp_meters : (s.modOp o f).meters = s.meters := rfl
@[simp] theorem State.modOp_imeters : (s.modOp o f).imeters = s.imeters := rfl
@[simp] theorem State.modOp_decoders : (s.modOp o f).decoders = s.decoders := rfl
@[simp] theorem State.modOp_units : (s.modOp o f).units = s.units := rfl
@[simp] theorem State.modOp_duty : (s.modOp o f).duty = s.duty := rfl
@[simp] theorem State.modOp_solving : (s.modOp o f).solving = s.solving := rfl
@[simp] theorem State.modOp_solveQ : (s.modOp o f).solveQ = s.solveQ := rfl
@[simp] theorem State.modOp_calSets : (s.modOp o f).calSets = s.calSets := rfl
@[simp] theorem State.modOp_calBase : (s.modOp o f).calBase = s.calBase := rfl
@[simp] theorem State.modOp_applying : (s.modOp o f).applying = s.applying := rfl
@[simp] theorem State.modOp_dieLog : (s.modOp o f).dieLog = s.dieLog := rfl
@[simp] theorem State.modOp_retempAt : (s.modOp o f).retempAt = s.retempAt := rfl
@[simp] theorem State.modOp_magTrim : (s.modOp o f).magTrim = s.magTrim := rfl
@[simp] theorem State.modOp_nvBusy : (s.modOp o f).nvBusy = s.nvBusy := rfl
@[simp] theorem State.modOp_tus : (s.modOp o f).tus = s.tus := rfl
@[simp] theorem State.modOp_hsp : (s.modOp o f).hsp = s.hsp := rfl
@[simp] theorem State.modOp_psp : (s.modOp o f).psp = s.psp := rfl
@[simp] theorem State.modOp_msp : (s.modOp o f).msp = s.msp := rfl
@[simp] theorem State.modOp_ml : (s.modOp o f).ml = s.ml := rfl
@[simp] theorem State.modOp_power : (s.modOp o f).power = s.power := rfl
@[simp] theorem State.modOp_profile : (s.modOp o f).profile = s.profile := rfl
@[simp] theorem State.modOp_atlasOk : (s.modOp o f).atlasOk = s.atlasOk := rfl
@[simp] theorem State.modOp_saffron : (s.modOp o f).saffron = s.saffron := rfl
@[simp] theorem State.modOp_nv : (s.modOp o f).nv = s.nv := rfl
@[simp] theorem State.modOp_image : (s.modOp o f).image = s.image := rfl
@[simp] theorem State.modOp_faults : (s.modOp o f).faults = s.faults := rfl
@[simp] theorem State.modOp_freeCtr : (s.modOp o f).freeCtr = s.freeCtr := rfl
@[simp] theorem State.modOp_reg_acc (b : Nat) : (s.modOp o f).reg b = s.reg b := rfl
@[simp] theorem State.modOp_fld_acc (b k m : Nat) : (s.modOp o f).fld b k m = s.fld b k m := rfl
@[simp] theorem State.modOp_th_acc (u : Tid) : (s.modOp o f).th u = s.th u := rfl
@[simp] theorem State.modOp_up_acc (q : UPortNo) : (s.modOp o f).up q = s.up q := rfl
@[simp] theorem State.modOp_hp_acc (q : HPortNo) : (s.modOp o f).hp q = s.hp q := rfl
@[simp] theorem State.modOp_lo_acc (q : LoNo) : (s.modOp o f).lo q = s.lo q := rfl
@[simp] theorem State.modOp_ring_acc (q : RingNo) : (s.modOp o f).ring q = s.ring q := rfl
end

/-! ### State.setEng writes `ops` alone -/

section
variable (s : State) (o : OpId) (e : Engine)
@[simp] theorem State.setEng_pending : (s.setEng o e).pending = s.pending := rfl
@[simp] theorem State.setEng_regs : (s.setEng o e).regs = s.regs := rfl
@[simp] theorem State.setEng_tb : (s.setEng o e).tb = s.tb := rfl
@[simp] theorem State.setEng_ticks : (s.setEng o e).ticks = s.ticks := rfl
@[simp] theorem State.setEng_busData : (s.setEng o e).busData = s.busData := rfl
@[simp] theorem State.setEng_threads : (s.setEng o e).threads = s.threads := rfl
@[simp] theorem State.setEng_smem : (s.setEng o e).smem = s.smem := rfl
@[simp] theorem State.setEng_pstore : (s.setEng o e).pstore = s.pstore := rfl
@[simp] theorem State.setEng_ended : (s.setEng o e).ended = s.ended := rfl
@[simp] theorem State.setEng_endedAt : (s.setEng o e).endedAt = s.endedAt := rfl
@[simp] theorem State.setEng_tags : (s.setEng o e).tags = s.tags := rfl
@[simp] theorem State.setEng_uports : (s.setEng o e).uports = s.uports := rfl
@[simp] theorem State.setEng_hports : (s.setEng o e).hports = s.hports := rfl
@[simp] theorem State.setEng_spares : (s.setEng o e).spares = s.spares := rfl
@[simp] theorem State.setEng_los : (s.setEng o e).los = s.los := rfl
@[simp] theorem State.setEng_clk : (s.setEng o e).clk = s.clk := rfl
@[simp] theorem State.setEng_rings : (s.setEng o e).rings = s.rings := rfl
@[simp] theorem State.setEng_xfers : (s.setEng o e).xfers = s.xfers := rfl
@[simp] theorem State.setEng_shLevels : (s.setEng o e).shLevels = s.shLevels := rfl
@[simp] theorem State.setEng_deficits : (s.setEng o e).deficits = s.deficits := rfl
@[simp] theorem State.setEng_meters : (s.setEng o e).meters = s.meters := rfl
@[simp] theorem State.setEng_imeters : (s.setEng o e).imeters = s.imeters := rfl
@[simp] theorem State.setEng_decoders : (s.setEng o e).decoders = s.decoders := rfl
@[simp] theorem State.setEng_units : (s.setEng o e).units = s.units := rfl
@[simp] theorem State.setEng_duty : (s.setEng o e).duty = s.duty := rfl
@[simp] theorem State.setEng_solving : (s.setEng o e).solving = s.solving := rfl
@[simp] theorem State.setEng_solveQ : (s.setEng o e).solveQ = s.solveQ := rfl
@[simp] theorem State.setEng_calSets : (s.setEng o e).calSets = s.calSets := rfl
@[simp] theorem State.setEng_calBase : (s.setEng o e).calBase = s.calBase := rfl
@[simp] theorem State.setEng_applying : (s.setEng o e).applying = s.applying := rfl
@[simp] theorem State.setEng_dieLog : (s.setEng o e).dieLog = s.dieLog := rfl
@[simp] theorem State.setEng_retempAt : (s.setEng o e).retempAt = s.retempAt := rfl
@[simp] theorem State.setEng_magTrim : (s.setEng o e).magTrim = s.magTrim := rfl
@[simp] theorem State.setEng_nvBusy : (s.setEng o e).nvBusy = s.nvBusy := rfl
@[simp] theorem State.setEng_tus : (s.setEng o e).tus = s.tus := rfl
@[simp] theorem State.setEng_hsp : (s.setEng o e).hsp = s.hsp := rfl
@[simp] theorem State.setEng_psp : (s.setEng o e).psp = s.psp := rfl
@[simp] theorem State.setEng_msp : (s.setEng o e).msp = s.msp := rfl
@[simp] theorem State.setEng_ml : (s.setEng o e).ml = s.ml := rfl
@[simp] theorem State.setEng_power : (s.setEng o e).power = s.power := rfl
@[simp] theorem State.setEng_profile : (s.setEng o e).profile = s.profile := rfl
@[simp] theorem State.setEng_atlasOk : (s.setEng o e).atlasOk = s.atlasOk := rfl
@[simp] theorem State.setEng_saffron : (s.setEng o e).saffron = s.saffron := rfl
@[simp] theorem State.setEng_nv : (s.setEng o e).nv = s.nv := rfl
@[simp] theorem State.setEng_image : (s.setEng o e).image = s.image := rfl
@[simp] theorem State.setEng_faults : (s.setEng o e).faults = s.faults := rfl
@[simp] theorem State.setEng_freeCtr : (s.setEng o e).freeCtr = s.freeCtr := rfl
@[simp] theorem State.setEng_reg_acc (b : Nat) : (s.setEng o e).reg b = s.reg b := rfl
@[simp] theorem State.setEng_fld_acc (b k m : Nat) : (s.setEng o e).fld b k m = s.fld b k m := rfl
@[simp] theorem State.setEng_th_acc (u : Tid) : (s.setEng o e).th u = s.th u := rfl
@[simp] theorem State.setEng_up_acc (q : UPortNo) : (s.setEng o e).up q = s.up q := rfl
@[simp] theorem State.setEng_hp_acc (q : HPortNo) : (s.setEng o e).hp q = s.hp q := rfl
@[simp] theorem State.setEng_lo_acc (q : LoNo) : (s.setEng o e).lo q = s.lo q := rfl
@[simp] theorem State.setEng_ring_acc (q : RingNo) : (s.setEng o e).ring q = s.ring q := rfl
end

/-! ### State.setSlot writes `threads` alone -/

section
variable (s : State) (o : OpId) (x : Slot)
@[simp] theorem State.setSlot_pending : (s.setSlot o x).pending = s.pending := rfl
@[simp] theorem State.setSlot_regs : (s.setSlot o x).regs = s.regs := rfl
@[simp] theorem State.setSlot_tb : (s.setSlot o x).tb = s.tb := rfl
@[simp] theorem State.setSlot_ticks : (s.setSlot o x).ticks = s.ticks := rfl
@[simp] theorem State.setSlot_busData : (s.setSlot o x).busData = s.busData := rfl
@[simp] theorem State.setSlot_smem : (s.setSlot o x).smem = s.smem := rfl
@[simp] theorem State.setSlot_pstore : (s.setSlot o x).pstore = s.pstore := rfl
@[simp] theorem State.setSlot_ops : (s.setSlot o x).ops = s.ops := rfl
@[simp] theorem State.setSlot_ended : (s.setSlot o x).ended = s.ended := rfl
@[simp] theorem State.setSlot_endedAt : (s.setSlot o x).endedAt = s.endedAt := rfl
@[simp] theorem State.setSlot_tags : (s.setSlot o x).tags = s.tags := rfl
@[simp] theorem State.setSlot_uports : (s.setSlot o x).uports = s.uports := rfl
@[simp] theorem State.setSlot_hports : (s.setSlot o x).hports = s.hports := rfl
@[simp] theorem State.setSlot_spares : (s.setSlot o x).spares = s.spares := rfl
@[simp] theorem State.setSlot_los : (s.setSlot o x).los = s.los := rfl
@[simp] theorem State.setSlot_clk : (s.setSlot o x).clk = s.clk := rfl
@[simp] theorem State.setSlot_rings : (s.setSlot o x).rings = s.rings := rfl
@[simp] theorem State.setSlot_xfers : (s.setSlot o x).xfers = s.xfers := rfl
@[simp] theorem State.setSlot_shLevels : (s.setSlot o x).shLevels = s.shLevels := rfl
@[simp] theorem State.setSlot_deficits : (s.setSlot o x).deficits = s.deficits := rfl
@[simp] theorem State.setSlot_meters : (s.setSlot o x).meters = s.meters := rfl
@[simp] theorem State.setSlot_imeters : (s.setSlot o x).imeters = s.imeters := rfl
@[simp] theorem State.setSlot_decoders : (s.setSlot o x).decoders = s.decoders := rfl
@[simp] theorem State.setSlot_units : (s.setSlot o x).units = s.units := rfl
@[simp] theorem State.setSlot_duty : (s.setSlot o x).duty = s.duty := rfl
@[simp] theorem State.setSlot_solving : (s.setSlot o x).solving = s.solving := rfl
@[simp] theorem State.setSlot_solveQ : (s.setSlot o x).solveQ = s.solveQ := rfl
@[simp] theorem State.setSlot_calSets : (s.setSlot o x).calSets = s.calSets := rfl
@[simp] theorem State.setSlot_calBase : (s.setSlot o x).calBase = s.calBase := rfl
@[simp] theorem State.setSlot_applying : (s.setSlot o x).applying = s.applying := rfl
@[simp] theorem State.setSlot_dieLog : (s.setSlot o x).dieLog = s.dieLog := rfl
@[simp] theorem State.setSlot_retempAt : (s.setSlot o x).retempAt = s.retempAt := rfl
@[simp] theorem State.setSlot_magTrim : (s.setSlot o x).magTrim = s.magTrim := rfl
@[simp] theorem State.setSlot_nvBusy : (s.setSlot o x).nvBusy = s.nvBusy := rfl
@[simp] theorem State.setSlot_tus : (s.setSlot o x).tus = s.tus := rfl
@[simp] theorem State.setSlot_hsp : (s.setSlot o x).hsp = s.hsp := rfl
@[simp] theorem State.setSlot_psp : (s.setSlot o x).psp = s.psp := rfl
@[simp] theorem State.setSlot_msp : (s.setSlot o x).msp = s.msp := rfl
@[simp] theorem State.setSlot_ml : (s.setSlot o x).ml = s.ml := rfl
@[simp] theorem State.setSlot_power : (s.setSlot o x).power = s.power := rfl
@[simp] theorem State.setSlot_profile : (s.setSlot o x).profile = s.profile := rfl
@[simp] theorem State.setSlot_atlasOk : (s.setSlot o x).atlasOk = s.atlasOk := rfl
@[simp] theorem State.setSlot_saffron : (s.setSlot o x).saffron = s.saffron := rfl
@[simp] theorem State.setSlot_nv : (s.setSlot o x).nv = s.nv := rfl
@[simp] theorem State.setSlot_image : (s.setSlot o x).image = s.image := rfl
@[simp] theorem State.setSlot_faults : (s.setSlot o x).faults = s.faults := rfl
@[simp] theorem State.setSlot_freeCtr : (s.setSlot o x).freeCtr = s.freeCtr := rfl
@[simp] theorem State.setSlot_reg_acc (b : Nat) : (s.setSlot o x).reg b = s.reg b := rfl
@[simp] theorem State.setSlot_fld_acc (b k m : Nat) : (s.setSlot o x).fld b k m = s.fld b k m := rfl
@[simp] theorem State.setSlot_up_acc (q : UPortNo) : (s.setSlot o x).up q = s.up q := rfl
@[simp] theorem State.setSlot_hp_acc (q : HPortNo) : (s.setSlot o x).hp q = s.hp q := rfl
@[simp] theorem State.setSlot_lo_acc (q : LoNo) : (s.setSlot o x).lo q = s.lo q := rfl
@[simp] theorem State.setSlot_ring_acc (q : RingNo) : (s.setSlot o x).ring q = s.ring q := rfl
@[simp] theorem State.setSlot_op_acc (q : OpId) : (s.setSlot o x).op? q = s.op? q := rfl
end

/-! ### State.setRing writes `rings` alone -/

section
variable (s : State) (n : RingNo) (r : Ring)
@[simp] theorem State.setRing_pending : (s.setRing n r).pending = s.pending := rfl
@[simp] theorem State.setRing_regs : (s.setRing n r).regs = s.regs := rfl
@[simp] theorem State.setRing_tb : (s.setRing n r).tb = s.tb := rfl
@[simp] theorem State.setRing_ticks : (s.setRing n r).ticks = s.ticks := rfl
@[simp] theorem State.setRing_busData : (s.setRing n r).busData = s.busData := rfl
@[simp] theorem State.setRing_threads : (s.setRing n r).threads = s.threads := rfl
@[simp] theorem State.setRing_smem : (s.setRing n r).smem = s.smem := rfl
@[simp] theorem State.setRing_pstore : (s.setRing n r).pstore = s.pstore := rfl
@[simp] theorem State.setRing_ops : (s.setRing n r).ops = s.ops := rfl
@[simp] theorem State.setRing_ended : (s.setRing n r).ended = s.ended := rfl
@[simp] theorem State.setRing_endedAt : (s.setRing n r).endedAt = s.endedAt := rfl
@[simp] theorem State.setRing_tags : (s.setRing n r).tags = s.tags := rfl
@[simp] theorem State.setRing_uports : (s.setRing n r).uports = s.uports := rfl
@[simp] theorem State.setRing_hports : (s.setRing n r).hports = s.hports := rfl
@[simp] theorem State.setRing_spares : (s.setRing n r).spares = s.spares := rfl
@[simp] theorem State.setRing_los : (s.setRing n r).los = s.los := rfl
@[simp] theorem State.setRing_clk : (s.setRing n r).clk = s.clk := rfl
@[simp] theorem State.setRing_xfers : (s.setRing n r).xfers = s.xfers := rfl
@[simp] theorem State.setRing_shLevels : (s.setRing n r).shLevels = s.shLevels := rfl
@[simp] theorem State.setRing_deficits : (s.setRing n r).deficits = s.deficits := rfl
@[simp] theorem State.setRing_meters : (s.setRing n r).meters = s.meters := rfl
@[simp] theorem State.setRing_imeters : (s.setRing n r).imeters = s.imeters := rfl
@[simp] theorem State.setRing_decoders : (s.setRing n r).decoders = s.decoders := rfl
@[simp] theorem State.setRing_units : (s.setRing n r).units = s.units := rfl
@[simp] theorem State.setRing_duty : (s.setRing n r).duty = s.duty := rfl
@[simp] theorem State.setRing_solving : (s.setRing n r).solving = s.solving := rfl
@[simp] theorem State.setRing_solveQ : (s.setRing n r).solveQ = s.solveQ := rfl
@[simp] theorem State.setRing_calSets : (s.setRing n r).calSets = s.calSets := rfl
@[simp] theorem State.setRing_calBase : (s.setRing n r).calBase = s.calBase := rfl
@[simp] theorem State.setRing_applying : (s.setRing n r).applying = s.applying := rfl
@[simp] theorem State.setRing_dieLog : (s.setRing n r).dieLog = s.dieLog := rfl
@[simp] theorem State.setRing_retempAt : (s.setRing n r).retempAt = s.retempAt := rfl
@[simp] theorem State.setRing_magTrim : (s.setRing n r).magTrim = s.magTrim := rfl
@[simp] theorem State.setRing_nvBusy : (s.setRing n r).nvBusy = s.nvBusy := rfl
@[simp] theorem State.setRing_tus : (s.setRing n r).tus = s.tus := rfl
@[simp] theorem State.setRing_hsp : (s.setRing n r).hsp = s.hsp := rfl
@[simp] theorem State.setRing_psp : (s.setRing n r).psp = s.psp := rfl
@[simp] theorem State.setRing_msp : (s.setRing n r).msp = s.msp := rfl
@[simp] theorem State.setRing_ml : (s.setRing n r).ml = s.ml := rfl
@[simp] theorem State.setRing_power : (s.setRing n r).power = s.power := rfl
@[simp] theorem State.setRing_profile : (s.setRing n r).profile = s.profile := rfl
@[simp] theorem State.setRing_atlasOk : (s.setRing n r).atlasOk = s.atlasOk := rfl
@[simp] theorem State.setRing_saffron : (s.setRing n r).saffron = s.saffron := rfl
@[simp] theorem State.setRing_nv : (s.setRing n r).nv = s.nv := rfl
@[simp] theorem State.setRing_image : (s.setRing n r).image = s.image := rfl
@[simp] theorem State.setRing_faults : (s.setRing n r).faults = s.faults := rfl
@[simp] theorem State.setRing_freeCtr : (s.setRing n r).freeCtr = s.freeCtr := rfl
@[simp] theorem State.setRing_reg_acc (b : Nat) : (s.setRing n r).reg b = s.reg b := rfl
@[simp] theorem State.setRing_fld_acc (b k m : Nat) : (s.setRing n r).fld b k m = s.fld b k m := rfl
@[simp] theorem State.setRing_th_acc (u : Tid) : (s.setRing n r).th u = s.th u := rfl
@[simp] theorem State.setRing_up_acc (q : UPortNo) : (s.setRing n r).up q = s.up q := rfl
@[simp] theorem State.setRing_hp_acc (q : HPortNo) : (s.setRing n r).hp q = s.hp q := rfl
@[simp] theorem State.setRing_lo_acc (q : LoNo) : (s.setRing n r).lo q = s.lo q := rfl
@[simp] theorem State.setRing_op_acc (q : OpId) : (s.setRing n r).op? q = s.op? q := rfl
end

/-! ### State.modRing writes `rings` alone -/

section
variable (s : State) (n : RingNo) (f : Ring → Ring)
@[simp] theorem State.modRing_pending : (s.modRing n f).pending = s.pending := rfl
@[simp] theorem State.modRing_regs : (s.modRing n f).regs = s.regs := rfl
@[simp] theorem State.modRing_tb : (s.modRing n f).tb = s.tb := rfl
@[simp] theorem State.modRing_ticks : (s.modRing n f).ticks = s.ticks := rfl
@[simp] theorem State.modRing_busData : (s.modRing n f).busData = s.busData := rfl
@[simp] theorem State.modRing_threads : (s.modRing n f).threads = s.threads := rfl
@[simp] theorem State.modRing_smem : (s.modRing n f).smem = s.smem := rfl
@[simp] theorem State.modRing_pstore : (s.modRing n f).pstore = s.pstore := rfl
@[simp] theorem State.modRing_ops : (s.modRing n f).ops = s.ops := rfl
@[simp] theorem State.modRing_ended : (s.modRing n f).ended = s.ended := rfl
@[simp] theorem State.modRing_endedAt : (s.modRing n f).endedAt = s.endedAt := rfl
@[simp] theorem State.modRing_tags : (s.modRing n f).tags = s.tags := rfl
@[simp] theorem State.modRing_uports : (s.modRing n f).uports = s.uports := rfl
@[simp] theorem State.modRing_hports : (s.modRing n f).hports = s.hports := rfl
@[simp] theorem State.modRing_spares : (s.modRing n f).spares = s.spares := rfl
@[simp] theorem State.modRing_los : (s.modRing n f).los = s.los := rfl
@[simp] theorem State.modRing_clk : (s.modRing n f).clk = s.clk := rfl
@[simp] theorem State.modRing_xfers : (s.modRing n f).xfers = s.xfers := rfl
@[simp] theorem State.modRing_shLevels : (s.modRing n f).shLevels = s.shLevels := rfl
@[simp] theorem State.modRing_deficits : (s.modRing n f).deficits = s.deficits := rfl
@[simp] theorem State.modRing_meters : (s.modRing n f).meters = s.meters := rfl
@[simp] theorem State.modRing_imeters : (s.modRing n f).imeters = s.imeters := rfl
@[simp] theorem State.modRing_decoders : (s.modRing n f).decoders = s.decoders := rfl
@[simp] theorem State.modRing_units : (s.modRing n f).units = s.units := rfl
@[simp] theorem State.modRing_duty : (s.modRing n f).duty = s.duty := rfl
@[simp] theorem State.modRing_solving : (s.modRing n f).solving = s.solving := rfl
@[simp] theorem State.modRing_solveQ : (s.modRing n f).solveQ = s.solveQ := rfl
@[simp] theorem State.modRing_calSets : (s.modRing n f).calSets = s.calSets := rfl
@[simp] theorem State.modRing_calBase : (s.modRing n f).calBase = s.calBase := rfl
@[simp] theorem State.modRing_applying : (s.modRing n f).applying = s.applying := rfl
@[simp] theorem State.modRing_dieLog : (s.modRing n f).dieLog = s.dieLog := rfl
@[simp] theorem State.modRing_retempAt : (s.modRing n f).retempAt = s.retempAt := rfl
@[simp] theorem State.modRing_magTrim : (s.modRing n f).magTrim = s.magTrim := rfl
@[simp] theorem State.modRing_nvBusy : (s.modRing n f).nvBusy = s.nvBusy := rfl
@[simp] theorem State.modRing_tus : (s.modRing n f).tus = s.tus := rfl
@[simp] theorem State.modRing_hsp : (s.modRing n f).hsp = s.hsp := rfl
@[simp] theorem State.modRing_psp : (s.modRing n f).psp = s.psp := rfl
@[simp] theorem State.modRing_msp : (s.modRing n f).msp = s.msp := rfl
@[simp] theorem State.modRing_ml : (s.modRing n f).ml = s.ml := rfl
@[simp] theorem State.modRing_power : (s.modRing n f).power = s.power := rfl
@[simp] theorem State.modRing_profile : (s.modRing n f).profile = s.profile := rfl
@[simp] theorem State.modRing_atlasOk : (s.modRing n f).atlasOk = s.atlasOk := rfl
@[simp] theorem State.modRing_saffron : (s.modRing n f).saffron = s.saffron := rfl
@[simp] theorem State.modRing_nv : (s.modRing n f).nv = s.nv := rfl
@[simp] theorem State.modRing_image : (s.modRing n f).image = s.image := rfl
@[simp] theorem State.modRing_faults : (s.modRing n f).faults = s.faults := rfl
@[simp] theorem State.modRing_freeCtr : (s.modRing n f).freeCtr = s.freeCtr := rfl
@[simp] theorem State.modRing_reg_acc (b : Nat) : (s.modRing n f).reg b = s.reg b := rfl
@[simp] theorem State.modRing_fld_acc (b k m : Nat) : (s.modRing n f).fld b k m = s.fld b k m := rfl
@[simp] theorem State.modRing_th_acc (u : Tid) : (s.modRing n f).th u = s.th u := rfl
@[simp] theorem State.modRing_up_acc (q : UPortNo) : (s.modRing n f).up q = s.up q := rfl
@[simp] theorem State.modRing_hp_acc (q : HPortNo) : (s.modRing n f).hp q = s.hp q := rfl
@[simp] theorem State.modRing_lo_acc (q : LoNo) : (s.modRing n f).lo q = s.lo q := rfl
@[simp] theorem State.modRing_op_acc (q : OpId) : (s.modRing n f).op? q = s.op? q := rfl
end

/-! ### State.modXf writes `xfers` alone -/

section
variable (s : State) (x : Fin 4) (f : Xfer → Xfer)
@[simp] theorem State.modXf_pending : (s.modXf x f).pending = s.pending := rfl
@[simp] theorem State.modXf_regs : (s.modXf x f).regs = s.regs := rfl
@[simp] theorem State.modXf_tb : (s.modXf x f).tb = s.tb := rfl
@[simp] theorem State.modXf_ticks : (s.modXf x f).ticks = s.ticks := rfl
@[simp] theorem State.modXf_busData : (s.modXf x f).busData = s.busData := rfl
@[simp] theorem State.modXf_threads : (s.modXf x f).threads = s.threads := rfl
@[simp] theorem State.modXf_smem : (s.modXf x f).smem = s.smem := rfl
@[simp] theorem State.modXf_pstore : (s.modXf x f).pstore = s.pstore := rfl
@[simp] theorem State.modXf_ops : (s.modXf x f).ops = s.ops := rfl
@[simp] theorem State.modXf_ended : (s.modXf x f).ended = s.ended := rfl
@[simp] theorem State.modXf_endedAt : (s.modXf x f).endedAt = s.endedAt := rfl
@[simp] theorem State.modXf_tags : (s.modXf x f).tags = s.tags := rfl
@[simp] theorem State.modXf_uports : (s.modXf x f).uports = s.uports := rfl
@[simp] theorem State.modXf_hports : (s.modXf x f).hports = s.hports := rfl
@[simp] theorem State.modXf_spares : (s.modXf x f).spares = s.spares := rfl
@[simp] theorem State.modXf_los : (s.modXf x f).los = s.los := rfl
@[simp] theorem State.modXf_clk : (s.modXf x f).clk = s.clk := rfl
@[simp] theorem State.modXf_rings : (s.modXf x f).rings = s.rings := rfl
@[simp] theorem State.modXf_shLevels : (s.modXf x f).shLevels = s.shLevels := rfl
@[simp] theorem State.modXf_deficits : (s.modXf x f).deficits = s.deficits := rfl
@[simp] theorem State.modXf_meters : (s.modXf x f).meters = s.meters := rfl
@[simp] theorem State.modXf_imeters : (s.modXf x f).imeters = s.imeters := rfl
@[simp] theorem State.modXf_decoders : (s.modXf x f).decoders = s.decoders := rfl
@[simp] theorem State.modXf_units : (s.modXf x f).units = s.units := rfl
@[simp] theorem State.modXf_duty : (s.modXf x f).duty = s.duty := rfl
@[simp] theorem State.modXf_solving : (s.modXf x f).solving = s.solving := rfl
@[simp] theorem State.modXf_solveQ : (s.modXf x f).solveQ = s.solveQ := rfl
@[simp] theorem State.modXf_calSets : (s.modXf x f).calSets = s.calSets := rfl
@[simp] theorem State.modXf_calBase : (s.modXf x f).calBase = s.calBase := rfl
@[simp] theorem State.modXf_applying : (s.modXf x f).applying = s.applying := rfl
@[simp] theorem State.modXf_dieLog : (s.modXf x f).dieLog = s.dieLog := rfl
@[simp] theorem State.modXf_retempAt : (s.modXf x f).retempAt = s.retempAt := rfl
@[simp] theorem State.modXf_magTrim : (s.modXf x f).magTrim = s.magTrim := rfl
@[simp] theorem State.modXf_nvBusy : (s.modXf x f).nvBusy = s.nvBusy := rfl
@[simp] theorem State.modXf_tus : (s.modXf x f).tus = s.tus := rfl
@[simp] theorem State.modXf_hsp : (s.modXf x f).hsp = s.hsp := rfl
@[simp] theorem State.modXf_psp : (s.modXf x f).psp = s.psp := rfl
@[simp] theorem State.modXf_msp : (s.modXf x f).msp = s.msp := rfl
@[simp] theorem State.modXf_ml : (s.modXf x f).ml = s.ml := rfl
@[simp] theorem State.modXf_power : (s.modXf x f).power = s.power := rfl
@[simp] theorem State.modXf_profile : (s.modXf x f).profile = s.profile := rfl
@[simp] theorem State.modXf_atlasOk : (s.modXf x f).atlasOk = s.atlasOk := rfl
@[simp] theorem State.modXf_saffron : (s.modXf x f).saffron = s.saffron := rfl
@[simp] theorem State.modXf_nv : (s.modXf x f).nv = s.nv := rfl
@[simp] theorem State.modXf_image : (s.modXf x f).image = s.image := rfl
@[simp] theorem State.modXf_faults : (s.modXf x f).faults = s.faults := rfl
@[simp] theorem State.modXf_freeCtr : (s.modXf x f).freeCtr = s.freeCtr := rfl
@[simp] theorem State.modXf_reg_acc (b : Nat) : (s.modXf x f).reg b = s.reg b := rfl
@[simp] theorem State.modXf_fld_acc (b k m : Nat) : (s.modXf x f).fld b k m = s.fld b k m := rfl
@[simp] theorem State.modXf_th_acc (u : Tid) : (s.modXf x f).th u = s.th u := rfl
@[simp] theorem State.modXf_up_acc (q : UPortNo) : (s.modXf x f).up q = s.up q := rfl
@[simp] theorem State.modXf_hp_acc (q : HPortNo) : (s.modXf x f).hp q = s.hp q := rfl
@[simp] theorem State.modXf_lo_acc (q : LoNo) : (s.modXf x f).lo q = s.lo q := rfl
@[simp] theorem State.modXf_ring_acc (q : RingNo) : (s.modXf x f).ring q = s.ring q := rfl
@[simp] theorem State.modXf_op_acc (q : OpId) : (s.modXf x f).op? q = s.op? q := rfl
end

/-! ### State.setDec writes `decoders` alone -/

section
variable (s : State) (d : Fin 16) (r : Option Recep)
@[simp] theorem State.setDec_pending : (s.setDec d r).pending = s.pending := rfl
@[simp] theorem State.setDec_regs : (s.setDec d r).regs = s.regs := rfl
@[simp] theorem State.setDec_tb : (s.setDec d r).tb = s.tb := rfl
@[simp] theorem State.setDec_ticks : (s.setDec d r).ticks = s.ticks := rfl
@[simp] theorem State.setDec_busData : (s.setDec d r).busData = s.busData := rfl
@[simp] theorem State.setDec_threads : (s.setDec d r).threads = s.threads := rfl
@[simp] theorem State.setDec_smem : (s.setDec d r).smem = s.smem := rfl
@[simp] theorem State.setDec_pstore : (s.setDec d r).pstore = s.pstore := rfl
@[simp] theorem State.setDec_ops : (s.setDec d r).ops = s.ops := rfl
@[simp] theorem State.setDec_ended : (s.setDec d r).ended = s.ended := rfl
@[simp] theorem State.setDec_endedAt : (s.setDec d r).endedAt = s.endedAt := rfl
@[simp] theorem State.setDec_tags : (s.setDec d r).tags = s.tags := rfl
@[simp] theorem State.setDec_uports : (s.setDec d r).uports = s.uports := rfl
@[simp] theorem State.setDec_hports : (s.setDec d r).hports = s.hports := rfl
@[simp] theorem State.setDec_spares : (s.setDec d r).spares = s.spares := rfl
@[simp] theorem State.setDec_los : (s.setDec d r).los = s.los := rfl
@[simp] theorem State.setDec_clk : (s.setDec d r).clk = s.clk := rfl
@[simp] theorem State.setDec_rings : (s.setDec d r).rings = s.rings := rfl
@[simp] theorem State.setDec_xfers : (s.setDec d r).xfers = s.xfers := rfl
@[simp] theorem State.setDec_shLevels : (s.setDec d r).shLevels = s.shLevels := rfl
@[simp] theorem State.setDec_deficits : (s.setDec d r).deficits = s.deficits := rfl
@[simp] theorem State.setDec_meters : (s.setDec d r).meters = s.meters := rfl
@[simp] theorem State.setDec_imeters : (s.setDec d r).imeters = s.imeters := rfl
@[simp] theorem State.setDec_units : (s.setDec d r).units = s.units := rfl
@[simp] theorem State.setDec_duty : (s.setDec d r).duty = s.duty := rfl
@[simp] theorem State.setDec_solving : (s.setDec d r).solving = s.solving := rfl
@[simp] theorem State.setDec_solveQ : (s.setDec d r).solveQ = s.solveQ := rfl
@[simp] theorem State.setDec_calSets : (s.setDec d r).calSets = s.calSets := rfl
@[simp] theorem State.setDec_calBase : (s.setDec d r).calBase = s.calBase := rfl
@[simp] theorem State.setDec_applying : (s.setDec d r).applying = s.applying := rfl
@[simp] theorem State.setDec_dieLog : (s.setDec d r).dieLog = s.dieLog := rfl
@[simp] theorem State.setDec_retempAt : (s.setDec d r).retempAt = s.retempAt := rfl
@[simp] theorem State.setDec_magTrim : (s.setDec d r).magTrim = s.magTrim := rfl
@[simp] theorem State.setDec_nvBusy : (s.setDec d r).nvBusy = s.nvBusy := rfl
@[simp] theorem State.setDec_tus : (s.setDec d r).tus = s.tus := rfl
@[simp] theorem State.setDec_hsp : (s.setDec d r).hsp = s.hsp := rfl
@[simp] theorem State.setDec_psp : (s.setDec d r).psp = s.psp := rfl
@[simp] theorem State.setDec_msp : (s.setDec d r).msp = s.msp := rfl
@[simp] theorem State.setDec_ml : (s.setDec d r).ml = s.ml := rfl
@[simp] theorem State.setDec_power : (s.setDec d r).power = s.power := rfl
@[simp] theorem State.setDec_profile : (s.setDec d r).profile = s.profile := rfl
@[simp] theorem State.setDec_atlasOk : (s.setDec d r).atlasOk = s.atlasOk := rfl
@[simp] theorem State.setDec_saffron : (s.setDec d r).saffron = s.saffron := rfl
@[simp] theorem State.setDec_nv : (s.setDec d r).nv = s.nv := rfl
@[simp] theorem State.setDec_image : (s.setDec d r).image = s.image := rfl
@[simp] theorem State.setDec_faults : (s.setDec d r).faults = s.faults := rfl
@[simp] theorem State.setDec_freeCtr : (s.setDec d r).freeCtr = s.freeCtr := rfl
@[simp] theorem State.setDec_reg_acc (b : Nat) : (s.setDec d r).reg b = s.reg b := rfl
@[simp] theorem State.setDec_fld_acc (b k m : Nat) : (s.setDec d r).fld b k m = s.fld b k m := rfl
@[simp] theorem State.setDec_th_acc (u : Tid) : (s.setDec d r).th u = s.th u := rfl
@[simp] theorem State.setDec_up_acc (q : UPortNo) : (s.setDec d r).up q = s.up q := rfl
@[simp] theorem State.setDec_hp_acc (q : HPortNo) : (s.setDec d r).hp q = s.hp q := rfl
@[simp] theorem State.setDec_lo_acc (q : LoNo) : (s.setDec d r).lo q = s.lo q := rfl
@[simp] theorem State.setDec_ring_acc (q : RingNo) : (s.setDec d r).ring q = s.ring q := rfl
@[simp] theorem State.setDec_op_acc (q : OpId) : (s.setDec d r).op? q = s.op? q := rfl
end

/-! ### State.setMeter writes `meters` alone -/

section
variable (s : State) (t : Tid) (x : Meter)
@[simp] theorem State.setMeter_pending : (s.setMeter t x).pending = s.pending := rfl
@[simp] theorem State.setMeter_regs : (s.setMeter t x).regs = s.regs := rfl
@[simp] theorem State.setMeter_tb : (s.setMeter t x).tb = s.tb := rfl
@[simp] theorem State.setMeter_ticks : (s.setMeter t x).ticks = s.ticks := rfl
@[simp] theorem State.setMeter_busData : (s.setMeter t x).busData = s.busData := rfl
@[simp] theorem State.setMeter_threads : (s.setMeter t x).threads = s.threads := rfl
@[simp] theorem State.setMeter_smem : (s.setMeter t x).smem = s.smem := rfl
@[simp] theorem State.setMeter_pstore : (s.setMeter t x).pstore = s.pstore := rfl
@[simp] theorem State.setMeter_ops : (s.setMeter t x).ops = s.ops := rfl
@[simp] theorem State.setMeter_ended : (s.setMeter t x).ended = s.ended := rfl
@[simp] theorem State.setMeter_endedAt : (s.setMeter t x).endedAt = s.endedAt := rfl
@[simp] theorem State.setMeter_tags : (s.setMeter t x).tags = s.tags := rfl
@[simp] theorem State.setMeter_uports : (s.setMeter t x).uports = s.uports := rfl
@[simp] theorem State.setMeter_hports : (s.setMeter t x).hports = s.hports := rfl
@[simp] theorem State.setMeter_spares : (s.setMeter t x).spares = s.spares := rfl
@[simp] theorem State.setMeter_los : (s.setMeter t x).los = s.los := rfl
@[simp] theorem State.setMeter_clk : (s.setMeter t x).clk = s.clk := rfl
@[simp] theorem State.setMeter_rings : (s.setMeter t x).rings = s.rings := rfl
@[simp] theorem State.setMeter_xfers : (s.setMeter t x).xfers = s.xfers := rfl
@[simp] theorem State.setMeter_shLevels : (s.setMeter t x).shLevels = s.shLevels := rfl
@[simp] theorem State.setMeter_deficits : (s.setMeter t x).deficits = s.deficits := rfl
@[simp] theorem State.setMeter_imeters : (s.setMeter t x).imeters = s.imeters := rfl
@[simp] theorem State.setMeter_decoders : (s.setMeter t x).decoders = s.decoders := rfl
@[simp] theorem State.setMeter_units : (s.setMeter t x).units = s.units := rfl
@[simp] theorem State.setMeter_duty : (s.setMeter t x).duty = s.duty := rfl
@[simp] theorem State.setMeter_solving : (s.setMeter t x).solving = s.solving := rfl
@[simp] theorem State.setMeter_solveQ : (s.setMeter t x).solveQ = s.solveQ := rfl
@[simp] theorem State.setMeter_calSets : (s.setMeter t x).calSets = s.calSets := rfl
@[simp] theorem State.setMeter_calBase : (s.setMeter t x).calBase = s.calBase := rfl
@[simp] theorem State.setMeter_applying : (s.setMeter t x).applying = s.applying := rfl
@[simp] theorem State.setMeter_dieLog : (s.setMeter t x).dieLog = s.dieLog := rfl
@[simp] theorem State.setMeter_retempAt : (s.setMeter t x).retempAt = s.retempAt := rfl
@[simp] theorem State.setMeter_magTrim : (s.setMeter t x).magTrim = s.magTrim := rfl
@[simp] theorem State.setMeter_nvBusy : (s.setMeter t x).nvBusy = s.nvBusy := rfl
@[simp] theorem State.setMeter_tus : (s.setMeter t x).tus = s.tus := rfl
@[simp] theorem State.setMeter_hsp : (s.setMeter t x).hsp = s.hsp := rfl
@[simp] theorem State.setMeter_psp : (s.setMeter t x).psp = s.psp := rfl
@[simp] theorem State.setMeter_msp : (s.setMeter t x).msp = s.msp := rfl
@[simp] theorem State.setMeter_ml : (s.setMeter t x).ml = s.ml := rfl
@[simp] theorem State.setMeter_power : (s.setMeter t x).power = s.power := rfl
@[simp] theorem State.setMeter_profile : (s.setMeter t x).profile = s.profile := rfl
@[simp] theorem State.setMeter_atlasOk : (s.setMeter t x).atlasOk = s.atlasOk := rfl
@[simp] theorem State.setMeter_saffron : (s.setMeter t x).saffron = s.saffron := rfl
@[simp] theorem State.setMeter_nv : (s.setMeter t x).nv = s.nv := rfl
@[simp] theorem State.setMeter_image : (s.setMeter t x).image = s.image := rfl
@[simp] theorem State.setMeter_faults : (s.setMeter t x).faults = s.faults := rfl
@[simp] theorem State.setMeter_freeCtr : (s.setMeter t x).freeCtr = s.freeCtr := rfl
@[simp] theorem State.setMeter_reg_acc (b : Nat) : (s.setMeter t x).reg b = s.reg b := rfl
@[simp] theorem State.setMeter_fld_acc (b k m : Nat) : (s.setMeter t x).fld b k m = s.fld b k m := rfl
@[simp] theorem State.setMeter_th_acc (u : Tid) : (s.setMeter t x).th u = s.th u := rfl
@[simp] theorem State.setMeter_up_acc (q : UPortNo) : (s.setMeter t x).up q = s.up q := rfl
@[simp] theorem State.setMeter_hp_acc (q : HPortNo) : (s.setMeter t x).hp q = s.hp q := rfl
@[simp] theorem State.setMeter_lo_acc (q : LoNo) : (s.setMeter t x).lo q = s.lo q := rfl
@[simp] theorem State.setMeter_ring_acc (q : RingNo) : (s.setMeter t x).ring q = s.ring q := rfl
@[simp] theorem State.setMeter_op_acc (q : OpId) : (s.setMeter t x).op? q = s.op? q := rfl
end

/-! ### State.setIMeter writes `imeters` alone -/

section
variable (s : State) (i : Fin 16) (x : Meter)
@[simp] theorem State.setIMeter_pending : (s.setIMeter i x).pending = s.pending := rfl
@[simp] theorem State.setIMeter_regs : (s.setIMeter i x).regs = s.regs := rfl
@[simp] theorem State.setIMeter_tb : (s.setIMeter i x).tb = s.tb := rfl
@[simp] theorem State.setIMeter_ticks : (s.setIMeter i x).ticks = s.ticks := rfl
@[simp] theorem State.setIMeter_busData : (s.setIMeter i x).busData = s.busData := rfl
@[simp] theorem State.setIMeter_threads : (s.setIMeter i x).threads = s.threads := rfl
@[simp] theorem State.setIMeter_smem : (s.setIMeter i x).smem = s.smem := rfl
@[simp] theorem State.setIMeter_pstore : (s.setIMeter i x).pstore = s.pstore := rfl
@[simp] theorem State.setIMeter_ops : (s.setIMeter i x).ops = s.ops := rfl
@[simp] theorem State.setIMeter_ended : (s.setIMeter i x).ended = s.ended := rfl
@[simp] theorem State.setIMeter_endedAt : (s.setIMeter i x).endedAt = s.endedAt := rfl
@[simp] theorem State.setIMeter_tags : (s.setIMeter i x).tags = s.tags := rfl
@[simp] theorem State.setIMeter_uports : (s.setIMeter i x).uports = s.uports := rfl
@[simp] theorem State.setIMeter_hports : (s.setIMeter i x).hports = s.hports := rfl
@[simp] theorem State.setIMeter_spares : (s.setIMeter i x).spares = s.spares := rfl
@[simp] theorem State.setIMeter_los : (s.setIMeter i x).los = s.los := rfl
@[simp] theorem State.setIMeter_clk : (s.setIMeter i x).clk = s.clk := rfl
@[simp] theorem State.setIMeter_rings : (s.setIMeter i x).rings = s.rings := rfl
@[simp] theorem State.setIMeter_xfers : (s.setIMeter i x).xfers = s.xfers := rfl
@[simp] theorem State.setIMeter_shLevels : (s.setIMeter i x).shLevels = s.shLevels := rfl
@[simp] theorem State.setIMeter_deficits : (s.setIMeter i x).deficits = s.deficits := rfl
@[simp] theorem State.setIMeter_meters : (s.setIMeter i x).meters = s.meters := rfl
@[simp] theorem State.setIMeter_decoders : (s.setIMeter i x).decoders = s.decoders := rfl
@[simp] theorem State.setIMeter_units : (s.setIMeter i x).units = s.units := rfl
@[simp] theorem State.setIMeter_duty : (s.setIMeter i x).duty = s.duty := rfl
@[simp] theorem State.setIMeter_solving : (s.setIMeter i x).solving = s.solving := rfl
@[simp] theorem State.setIMeter_solveQ : (s.setIMeter i x).solveQ = s.solveQ := rfl
@[simp] theorem State.setIMeter_calSets : (s.setIMeter i x).calSets = s.calSets := rfl
@[simp] theorem State.setIMeter_calBase : (s.setIMeter i x).calBase = s.calBase := rfl
@[simp] theorem State.setIMeter_applying : (s.setIMeter i x).applying = s.applying := rfl
@[simp] theorem State.setIMeter_dieLog : (s.setIMeter i x).dieLog = s.dieLog := rfl
@[simp] theorem State.setIMeter_retempAt : (s.setIMeter i x).retempAt = s.retempAt := rfl
@[simp] theorem State.setIMeter_magTrim : (s.setIMeter i x).magTrim = s.magTrim := rfl
@[simp] theorem State.setIMeter_nvBusy : (s.setIMeter i x).nvBusy = s.nvBusy := rfl
@[simp] theorem State.setIMeter_tus : (s.setIMeter i x).tus = s.tus := rfl
@[simp] theorem State.setIMeter_hsp : (s.setIMeter i x).hsp = s.hsp := rfl
@[simp] theorem State.setIMeter_psp : (s.setIMeter i x).psp = s.psp := rfl
@[simp] theorem State.setIMeter_msp : (s.setIMeter i x).msp = s.msp := rfl
@[simp] theorem State.setIMeter_ml : (s.setIMeter i x).ml = s.ml := rfl
@[simp] theorem State.setIMeter_power : (s.setIMeter i x).power = s.power := rfl
@[simp] theorem State.setIMeter_profile : (s.setIMeter i x).profile = s.profile := rfl
@[simp] theorem State.setIMeter_atlasOk : (s.setIMeter i x).atlasOk = s.atlasOk := rfl
@[simp] theorem State.setIMeter_saffron : (s.setIMeter i x).saffron = s.saffron := rfl
@[simp] theorem State.setIMeter_nv : (s.setIMeter i x).nv = s.nv := rfl
@[simp] theorem State.setIMeter_image : (s.setIMeter i x).image = s.image := rfl
@[simp] theorem State.setIMeter_faults : (s.setIMeter i x).faults = s.faults := rfl
@[simp] theorem State.setIMeter_freeCtr : (s.setIMeter i x).freeCtr = s.freeCtr := rfl
@[simp] theorem State.setIMeter_reg_acc (b : Nat) : (s.setIMeter i x).reg b = s.reg b := rfl
@[simp] theorem State.setIMeter_fld_acc (b k m : Nat) : (s.setIMeter i x).fld b k m = s.fld b k m := rfl
@[simp] theorem State.setIMeter_th_acc (u : Tid) : (s.setIMeter i x).th u = s.th u := rfl
@[simp] theorem State.setIMeter_up_acc (q : UPortNo) : (s.setIMeter i x).up q = s.up q := rfl
@[simp] theorem State.setIMeter_hp_acc (q : HPortNo) : (s.setIMeter i x).hp q = s.hp q := rfl
@[simp] theorem State.setIMeter_lo_acc (q : LoNo) : (s.setIMeter i x).lo q = s.lo q := rfl
@[simp] theorem State.setIMeter_ring_acc (q : RingNo) : (s.setIMeter i x).ring q = s.ring q := rfl
@[simp] theorem State.setIMeter_op_acc (q : OpId) : (s.setIMeter i x).op? q = s.op? q := rfl
end

/-! ### State.touchLine writes `msp` alone -/

section
variable (s : State) (l : Nat)
@[simp] theorem State.touchLine_pending : (s.touchLine l).pending = s.pending := rfl
@[simp] theorem State.touchLine_regs : (s.touchLine l).regs = s.regs := rfl
@[simp] theorem State.touchLine_tb : (s.touchLine l).tb = s.tb := rfl
@[simp] theorem State.touchLine_ticks : (s.touchLine l).ticks = s.ticks := rfl
@[simp] theorem State.touchLine_busData : (s.touchLine l).busData = s.busData := rfl
@[simp] theorem State.touchLine_threads : (s.touchLine l).threads = s.threads := rfl
@[simp] theorem State.touchLine_smem : (s.touchLine l).smem = s.smem := rfl
@[simp] theorem State.touchLine_pstore : (s.touchLine l).pstore = s.pstore := rfl
@[simp] theorem State.touchLine_ops : (s.touchLine l).ops = s.ops := rfl
@[simp] theorem State.touchLine_ended : (s.touchLine l).ended = s.ended := rfl
@[simp] theorem State.touchLine_endedAt : (s.touchLine l).endedAt = s.endedAt := rfl
@[simp] theorem State.touchLine_tags : (s.touchLine l).tags = s.tags := rfl
@[simp] theorem State.touchLine_uports : (s.touchLine l).uports = s.uports := rfl
@[simp] theorem State.touchLine_hports : (s.touchLine l).hports = s.hports := rfl
@[simp] theorem State.touchLine_spares : (s.touchLine l).spares = s.spares := rfl
@[simp] theorem State.touchLine_los : (s.touchLine l).los = s.los := rfl
@[simp] theorem State.touchLine_clk : (s.touchLine l).clk = s.clk := rfl
@[simp] theorem State.touchLine_rings : (s.touchLine l).rings = s.rings := rfl
@[simp] theorem State.touchLine_xfers : (s.touchLine l).xfers = s.xfers := rfl
@[simp] theorem State.touchLine_shLevels : (s.touchLine l).shLevels = s.shLevels := rfl
@[simp] theorem State.touchLine_deficits : (s.touchLine l).deficits = s.deficits := rfl
@[simp] theorem State.touchLine_meters : (s.touchLine l).meters = s.meters := rfl
@[simp] theorem State.touchLine_imeters : (s.touchLine l).imeters = s.imeters := rfl
@[simp] theorem State.touchLine_decoders : (s.touchLine l).decoders = s.decoders := rfl
@[simp] theorem State.touchLine_units : (s.touchLine l).units = s.units := rfl
@[simp] theorem State.touchLine_duty : (s.touchLine l).duty = s.duty := rfl
@[simp] theorem State.touchLine_solving : (s.touchLine l).solving = s.solving := rfl
@[simp] theorem State.touchLine_solveQ : (s.touchLine l).solveQ = s.solveQ := rfl
@[simp] theorem State.touchLine_calSets : (s.touchLine l).calSets = s.calSets := rfl
@[simp] theorem State.touchLine_calBase : (s.touchLine l).calBase = s.calBase := rfl
@[simp] theorem State.touchLine_applying : (s.touchLine l).applying = s.applying := rfl
@[simp] theorem State.touchLine_dieLog : (s.touchLine l).dieLog = s.dieLog := rfl
@[simp] theorem State.touchLine_retempAt : (s.touchLine l).retempAt = s.retempAt := rfl
@[simp] theorem State.touchLine_magTrim : (s.touchLine l).magTrim = s.magTrim := rfl
@[simp] theorem State.touchLine_nvBusy : (s.touchLine l).nvBusy = s.nvBusy := rfl
@[simp] theorem State.touchLine_tus : (s.touchLine l).tus = s.tus := rfl
@[simp] theorem State.touchLine_hsp : (s.touchLine l).hsp = s.hsp := rfl
@[simp] theorem State.touchLine_psp : (s.touchLine l).psp = s.psp := rfl
@[simp] theorem State.touchLine_ml : (s.touchLine l).ml = s.ml := rfl
@[simp] theorem State.touchLine_power : (s.touchLine l).power = s.power := rfl
@[simp] theorem State.touchLine_profile : (s.touchLine l).profile = s.profile := rfl
@[simp] theorem State.touchLine_atlasOk : (s.touchLine l).atlasOk = s.atlasOk := rfl
@[simp] theorem State.touchLine_saffron : (s.touchLine l).saffron = s.saffron := rfl
@[simp] theorem State.touchLine_nv : (s.touchLine l).nv = s.nv := rfl
@[simp] theorem State.touchLine_image : (s.touchLine l).image = s.image := rfl
@[simp] theorem State.touchLine_faults : (s.touchLine l).faults = s.faults := rfl
@[simp] theorem State.touchLine_freeCtr : (s.touchLine l).freeCtr = s.freeCtr := rfl
@[simp] theorem State.touchLine_reg_acc (b : Nat) : (s.touchLine l).reg b = s.reg b := rfl
@[simp] theorem State.touchLine_fld_acc (b k m : Nat) : (s.touchLine l).fld b k m = s.fld b k m := rfl
@[simp] theorem State.touchLine_th_acc (u : Tid) : (s.touchLine l).th u = s.th u := rfl
@[simp] theorem State.touchLine_up_acc (q : UPortNo) : (s.touchLine l).up q = s.up q := rfl
@[simp] theorem State.touchLine_hp_acc (q : HPortNo) : (s.touchLine l).hp q = s.hp q := rfl
@[simp] theorem State.touchLine_lo_acc (q : LoNo) : (s.touchLine l).lo q = s.lo q := rfl
@[simp] theorem State.touchLine_ring_acc (q : RingNo) : (s.touchLine l).ring q = s.ring q := rfl
@[simp] theorem State.touchLine_op_acc (q : OpId) : (s.touchLine l).op? q = s.op? q := rfl
end

/-! ### State.modMl writes `ml` alone -/

section
variable (s : State) (f : Mlink → Mlink)
@[simp] theorem State.modMl_pending : (s.modMl f).pending = s.pending := rfl
@[simp] theorem State.modMl_regs : (s.modMl f).regs = s.regs := rfl
@[simp] theorem State.modMl_tb : (s.modMl f).tb = s.tb := rfl
@[simp] theorem State.modMl_ticks : (s.modMl f).ticks = s.ticks := rfl
@[simp] theorem State.modMl_busData : (s.modMl f).busData = s.busData := rfl
@[simp] theorem State.modMl_threads : (s.modMl f).threads = s.threads := rfl
@[simp] theorem State.modMl_smem : (s.modMl f).smem = s.smem := rfl
@[simp] theorem State.modMl_pstore : (s.modMl f).pstore = s.pstore := rfl
@[simp] theorem State.modMl_ops : (s.modMl f).ops = s.ops := rfl
@[simp] theorem State.modMl_ended : (s.modMl f).ended = s.ended := rfl
@[simp] theorem State.modMl_endedAt : (s.modMl f).endedAt = s.endedAt := rfl
@[simp] theorem State.modMl_tags : (s.modMl f).tags = s.tags := rfl
@[simp] theorem State.modMl_uports : (s.modMl f).uports = s.uports := rfl
@[simp] theorem State.modMl_hports : (s.modMl f).hports = s.hports := rfl
@[simp] theorem State.modMl_spares : (s.modMl f).spares = s.spares := rfl
@[simp] theorem State.modMl_los : (s.modMl f).los = s.los := rfl
@[simp] theorem State.modMl_clk : (s.modMl f).clk = s.clk := rfl
@[simp] theorem State.modMl_rings : (s.modMl f).rings = s.rings := rfl
@[simp] theorem State.modMl_xfers : (s.modMl f).xfers = s.xfers := rfl
@[simp] theorem State.modMl_shLevels : (s.modMl f).shLevels = s.shLevels := rfl
@[simp] theorem State.modMl_deficits : (s.modMl f).deficits = s.deficits := rfl
@[simp] theorem State.modMl_meters : (s.modMl f).meters = s.meters := rfl
@[simp] theorem State.modMl_imeters : (s.modMl f).imeters = s.imeters := rfl
@[simp] theorem State.modMl_decoders : (s.modMl f).decoders = s.decoders := rfl
@[simp] theorem State.modMl_units : (s.modMl f).units = s.units := rfl
@[simp] theorem State.modMl_duty : (s.modMl f).duty = s.duty := rfl
@[simp] theorem State.modMl_solving : (s.modMl f).solving = s.solving := rfl
@[simp] theorem State.modMl_solveQ : (s.modMl f).solveQ = s.solveQ := rfl
@[simp] theorem State.modMl_calSets : (s.modMl f).calSets = s.calSets := rfl
@[simp] theorem State.modMl_calBase : (s.modMl f).calBase = s.calBase := rfl
@[simp] theorem State.modMl_applying : (s.modMl f).applying = s.applying := rfl
@[simp] theorem State.modMl_dieLog : (s.modMl f).dieLog = s.dieLog := rfl
@[simp] theorem State.modMl_retempAt : (s.modMl f).retempAt = s.retempAt := rfl
@[simp] theorem State.modMl_magTrim : (s.modMl f).magTrim = s.magTrim := rfl
@[simp] theorem State.modMl_nvBusy : (s.modMl f).nvBusy = s.nvBusy := rfl
@[simp] theorem State.modMl_tus : (s.modMl f).tus = s.tus := rfl
@[simp] theorem State.modMl_hsp : (s.modMl f).hsp = s.hsp := rfl
@[simp] theorem State.modMl_psp : (s.modMl f).psp = s.psp := rfl
@[simp] theorem State.modMl_msp : (s.modMl f).msp = s.msp := rfl
@[simp] theorem State.modMl_power : (s.modMl f).power = s.power := rfl
@[simp] theorem State.modMl_profile : (s.modMl f).profile = s.profile := rfl
@[simp] theorem State.modMl_atlasOk : (s.modMl f).atlasOk = s.atlasOk := rfl
@[simp] theorem State.modMl_saffron : (s.modMl f).saffron = s.saffron := rfl
@[simp] theorem State.modMl_nv : (s.modMl f).nv = s.nv := rfl
@[simp] theorem State.modMl_image : (s.modMl f).image = s.image := rfl
@[simp] theorem State.modMl_faults : (s.modMl f).faults = s.faults := rfl
@[simp] theorem State.modMl_freeCtr : (s.modMl f).freeCtr = s.freeCtr := rfl
@[simp] theorem State.modMl_reg_acc (b : Nat) : (s.modMl f).reg b = s.reg b := rfl
@[simp] theorem State.modMl_fld_acc (b k m : Nat) : (s.modMl f).fld b k m = s.fld b k m := rfl
@[simp] theorem State.modMl_th_acc (u : Tid) : (s.modMl f).th u = s.th u := rfl
@[simp] theorem State.modMl_up_acc (q : UPortNo) : (s.modMl f).up q = s.up q := rfl
@[simp] theorem State.modMl_hp_acc (q : HPortNo) : (s.modMl f).hp q = s.hp q := rfl
@[simp] theorem State.modMl_lo_acc (q : LoNo) : (s.modMl f).lo q = s.lo q := rfl
@[simp] theorem State.modMl_ring_acc (q : RingNo) : (s.modMl f).ring q = s.ring q := rfl
@[simp] theorem State.modMl_op_acc (q : OpId) : (s.modMl f).op? q = s.op? q := rfl
end

end Sys2Proof.Machine
end

