-- ==== Sys2Proof/Laws/Faults.lean ====
section
/-!
SUPPORT. What events, faults and the passing of time leave alone: one lemma per field of State.
-/

namespace Sys2Proof.Machine

section
variable (s : State) (t : Tid)
@[simp] theorem State.touched_pending : (s.touched t).pending = s.pending := by unfold State.touched; split <;> rfl
@[simp] theorem State.touched_regs : (s.touched t).regs = s.regs := by unfold State.touched; split <;> rfl
@[simp] theorem State.touched_tb : (s.touched t).tb = s.tb := by unfold State.touched; split <;> rfl
@[simp] theorem State.touched_ticks : (s.touched t).ticks = s.ticks := by unfold State.touched; split <;> rfl
@[simp] theorem State.touched_busData : (s.touched t).busData = s.busData := by unfold State.touched; split <;> rfl
@[simp] theorem State.touched_threads : (s.touched t).threads = s.threads := by unfold State.touched; split <;> rfl
@[simp] theorem State.touched_smem : (s.touched t).smem = s.smem := by unfold State.touched; split <;> rfl
@[simp] theorem State.touched_pstore : (s.touched t).pstore = s.pstore := by unfold State.touched; split <;> rfl
@[simp] theorem State.touched_ops : (s.touched t).ops = s.ops := by unfold State.touched; split <;> rfl
@[simp] theorem State.touched_ended : (s.touched t).ended = s.ended := by unfold State.touched; split <;> rfl
@[simp] theorem State.touched_endedAt : (s.touched t).endedAt = s.endedAt := by unfold State.touched; split <;> rfl
@[simp] theorem State.touched_tags : (s.touched t).tags = s.tags := by unfold State.touched; split <;> rfl
@[simp] theorem State.touched_uports : (s.touched t).uports = s.uports := by unfold State.touched; split <;> rfl
@[simp] theorem State.touched_hports : (s.touched t).hports = s.hports := by unfold State.touched; split <;> rfl
@[simp] theorem State.touched_spares : (s.touched t).spares = s.spares := by unfold State.touched; split <;> rfl
@[simp] theorem State.touched_los : (s.touched t).los = s.los := by unfold State.touched; split <;> rfl
@[simp] theorem State.touched_clk : (s.touched t).clk = s.clk := by unfold State.touched; split <;> rfl
@[simp] theorem State.touched_rings : (s.touched t).rings = s.rings := by unfold State.touched; split <;> rfl
@[simp] theorem State.touched_xfers : (s.touched t).xfers = s.xfers := by unfold State.touched; split <;> rfl
@[simp] theorem State.touched_shLevels : (s.touched t).shLevels = s.shLevels := by unfold State.touched; split <;> rfl
@[simp] theorem State.touched_deficits : (s.touched t).deficits = s.deficits := by unfold State.touched; split <;> rfl
@[simp] theorem State.touched_meters : (s.touched t).meters = s.meters := by unfold State.touched; split <;> rfl
@[simp] theorem State.touched_imeters : (s.touched t).imeters = s.imeters := by unfold State.touched; split <;> rfl
@[simp] theorem State.touched_decoders : (s.touched t).decoders = s.decoders := by unfold State.touched; split <;> rfl
@[simp] theorem State.touched_units : (s.touched t).units = s.units := by unfold State.touched; split <;> rfl
@[simp] theorem State.touched_duty : (s.touched t).duty = s.duty := by unfold State.touched; split <;> rfl
@[simp] theorem State.touched_solving : (s.touched t).solving = s.solving := by unfold State.touched; split <;> rfl
@[simp] theorem State.touched_solveQ : (s.touched t).solveQ = s.solveQ := by unfold State.touched; split <;> rfl
@[simp] theorem State.touched_calSets : (s.touched t).calSets = s.calSets := by unfold State.touched; split <;> rfl
@[simp] theorem State.touched_calBase : (s.touched t).calBase = s.calBase := by unfold State.touched; split <;> rfl
@[simp] theorem State.touched_applying : (s.touched t).applying = s.applying := by unfold State.touched; split <;> rfl
@[simp] theorem State.touched_dieLog : (s.touched t).dieLog = s.dieLog := by unfold State.touched; split <;> rfl
@[simp] theorem State.touched_retempAt : (s.touched t).retempAt = s.retempAt := by unfold State.touched; split <;> rfl
@[simp] theorem State.touched_magTrim : (s.touched t).magTrim = s.magTrim := by unfold State.touched; split <;> rfl
@[simp] theorem State.touched_nvBusy : (s.touched t).nvBusy = s.nvBusy := by unfold State.touched; split <;> rfl
@[simp] theorem State.touched_tus : (s.touched t).tus = s.tus := by unfold State.touched; split <;> rfl
@[simp] theorem State.touched_hsp : (s.touched t).hsp = s.hsp := by unfold State.touched; split <;> rfl
@[simp] theorem State.touched_psp : (s.touched t).psp = s.psp := by unfold State.touched; split <;> rfl
@[simp] theorem State.touched_ml : (s.touched t).ml = s.ml := by unfold State.touched; split <;> rfl
@[simp] theorem State.touched_power : (s.touched t).power = s.power := by unfold State.touched; split <;> rfl
@[simp] theorem State.touched_profile : (s.touched t).profile = s.profile := by unfold State.touched; split <;> rfl
@[simp] theorem State.touched_atlasOk : (s.touched t).atlasOk = s.atlasOk := by unfold State.touched; split <;> rfl
@[simp] theorem State.touched_saffron : (s.touched t).saffron = s.saffron := by unfold State.touched; split <;> rfl
@[simp] theorem State.touched_nv : (s.touched t).nv = s.nv := by unfold State.touched; split <;> rfl
@[simp] theorem State.touched_image : (s.touched t).image = s.image := by unfold State.touched; split <;> rfl
@[simp] theorem State.touched_faults : (s.touched t).faults = s.faults := by unfold State.touched; split <;> rfl
@[simp] theorem State.touched_freeCtr : (s.touched t).freeCtr = s.freeCtr := by unfold State.touched; split <;> rfl
@[simp] theorem State.touched_reg_acc (b : Nat) : (s.touched t).reg b = s.reg b := congrArg (fun f => Sparse.get resetWord f b) (State.touched_regs s t)
@[simp] theorem State.touched_fld_acc (b k m : Nat) : (s.touched t).fld b k m = s.fld b k m := by simp [State.fld]
@[simp] theorem State.touched_th_acc (u : Tid) : (s.touched t).th u = s.th u := congrArg (fun f => f[u]) (State.touched_threads s t)
@[simp] theorem State.touched_up_acc (q : UPortNo) : (s.touched t).up q = s.up q := congrArg (fun f => f[q]) (State.touched_uports s t)
@[simp] theorem State.touched_hp_acc (q : HPortNo) : (s.touched t).hp q = s.hp q := congrArg (fun f => f[q]) (State.touched_hports s t)
@[simp] theorem State.touched_lo_acc (q : LoNo) : (s.touched t).lo q = s.lo q := congrArg (fun f => f[q]) (State.touched_los s t)
@[simp] theorem State.touched_ring_acc (q : RingNo) : (s.touched t).ring q = s.ring q := congrArg (fun f => f[q]) (State.touched_rings s t)
@[simp] theorem State.touched_op_acc (q : OpId) : (s.touched t).op? q = s.op? q := congrArg (fun f => List.find? (fun x : Op => x.id == q) f) (State.touched_ops s t)
end

section
variable (s : State) (t : Tid) (m : Word)
@[simp] theorem State.setEvents_pending : (s.setEvents t m).pending = s.pending := rfl
@[simp] theorem State.setEvents_regs : (s.setEvents t m).regs = s.regs := rfl
@[simp] theorem State.setEvents_tb : (s.setEvents t m).tb = s.tb := rfl
@[simp] theorem State.setEvents_ticks : (s.setEvents t m).ticks = s.ticks := rfl
@[simp] theorem State.setEvents_busData : (s.setEvents t m).busData = s.busData := rfl
@[simp] theorem State.setEvents_smem : (s.setEvents t m).smem = s.smem := rfl
@[simp] theorem State.setEvents_pstore : (s.setEvents t m).pstore = s.pstore := rfl
@[simp] theorem State.setEvents_ops : (s.setEvents t m).ops = s.ops := rfl
@[simp] theorem State.setEvents_ended : (s.setEvents t m).ended = s.ended := rfl
@[simp] theorem State.setEvents_endedAt : (s.setEvents t m).endedAt = s.endedAt := rfl
@[simp] theorem State.setEvents_tags : (s.setEvents t m).tags = s.tags := rfl
@[simp] theorem State.setEvents_uports : (s.setEvents t m).uports = s.uports := rfl
@[simp] theorem State.setEvents_hports : (s.setEvents t m).hports = s.hports := rfl
@[simp] theorem State.setEvents_spares : (s.setEvents t m).spares = s.spares := rfl
@[simp] theorem State.setEvents_los : (s.setEvents t m).los = s.los := rfl
@[simp] theorem State.setEvents_clk : (s.setEvents t m).clk = s.clk := rfl
@[simp] theorem State.setEvents_rings : (s.setEvents t m).rings = s.rings := rfl
@[simp] theorem State.setEvents_xfers : (s.setEvents t m).xfers = s.xfers := rfl
@[simp] theorem State.setEvents_shLevels : (s.setEvents t m).shLevels = s.shLevels := rfl
@[simp] theorem State.setEvents_deficits : (s.setEvents t m).deficits = s.deficits := rfl
@[simp] theorem State.setEvents_meters : (s.setEvents t m).meters = s.meters := rfl
@[simp] theorem State.setEvents_imeters : (s.setEvents t m).imeters = s.imeters := rfl
@[simp] theorem State.setEvents_decoders : (s.setEvents t m).decoders = s.decoders := rfl
@[simp] theorem State.setEvents_units : (s.setEvents t m).units = s.units := rfl
@[simp] theorem State.setEvents_duty : (s.setEvents t m).duty = s.duty := rfl
@[simp] theorem State.setEvents_solving : (s.setEvents t m).solving = s.solving := rfl
@[simp] theorem State.setEvents_solveQ : (s.setEvents t m).solveQ = s.solveQ := rfl
@[simp] theorem State.setEvents_calSets : (s.setEvents t m).calSets = s.calSets := rfl
@[simp] theorem State.setEvents_calBase : (s.setEvents t m).calBase = s.calBase := rfl
@[simp] theorem State.setEvents_applying : (s.setEvents t m).applying = s.applying := rfl
@[simp] theorem State.setEvents_dieLog : (s.setEvents t m).dieLog = s.dieLog := rfl
@[simp] theorem State.setEvents_retempAt : (s.setEvents t m).retempAt = s.retempAt := rfl
@[simp] theorem State.setEvents_magTrim : (s.setEvents t m).magTrim = s.magTrim := rfl
@[simp] theorem State.setEvents_nvBusy : (s.setEvents t m).nvBusy = s.nvBusy := rfl
@[simp] theorem State.setEvents_tus : (s.setEvents t m).tus = s.tus := rfl
@[simp] theorem State.setEvents_hsp : (s.setEvents t m).hsp = s.hsp := rfl
@[simp] theorem State.setEvents_psp : (s.setEvents t m).psp = s.psp := rfl
@[simp] theorem State.setEvents_msp : (s.setEvents t m).msp = s.msp := rfl
@[simp] theorem State.setEvents_ml : (s.setEvents t m).ml = s.ml := rfl
@[simp] theorem State.setEvents_power : (s.setEvents t m).power = s.power := rfl
@[simp] theorem State.setEvents_profile : (s.setEvents t m).profile = s.profile := rfl
@[simp] theorem State.setEvents_atlasOk : (s.setEvents t m).atlasOk = s.atlasOk := rfl
@[simp] theorem State.setEvents_saffron : (s.setEvents t m).saffron = s.saffron := rfl
@[simp] theorem State.setEvents_nv : (s.setEvents t m).nv = s.nv := rfl
@[simp] theorem State.setEvents_image : (s.setEvents t m).image = s.image := rfl
@[simp] theorem State.setEvents_faults : (s.setEvents t m).faults = s.faults := rfl
@[simp] theorem State.setEvents_freeCtr : (s.setEvents t m).freeCtr = s.freeCtr := rfl
@[simp] theorem State.setEvents_reg_acc (b : Nat) : (s.setEvents t m).reg b = s.reg b := congrArg (fun f => Sparse.get resetWord f b) (State.setEvents_regs s t m)
@[simp] theorem State.setEvents_fld_acc (b k m : Nat) : (s.setEvents t m).fld b k m = s.fld b k m := by simp [State.fld]
@[simp] theorem State.setEvents_up_acc (q : UPortNo) : (s.setEvents t m).up q = s.up q := congrArg (fun f => f[q]) (State.setEvents_uports s t m)
@[simp] theorem State.setEvents_hp_acc (q : HPortNo) : (s.setEvents t m).hp q = s.hp q := congrArg (fun f => f[q]) (State.setEvents_hports s t m)
@[simp] theorem State.setEvents_lo_acc (q : LoNo) : (s.setEvents t m).lo q = s.lo q := congrArg (fun f => f[q]) (State.setEvents_los s t m)
@[simp] theorem State.setEvents_ring_acc (q : RingNo) : (s.setEvents t m).ring q = s.ring q := congrArg (fun f => f[q]) (State.setEvents_rings s t m)
@[simp] theorem State.setEvents_op_acc (q : OpId) : (s.setEvents t m).op? q = s.op? q := congrArg (fun f => List.find? (fun x : Op => x.id == q) f) (State.setEvents_ops s t m)
end

section
variable (s : State) (t : Tid) (b : Nat)
@[simp] theorem State.hwEvent_pending : (s.hwEvent t b).pending = s.pending := rfl
@[simp] theorem State.hwEvent_regs : (s.hwEvent t b).regs = s.regs := rfl
@[simp] theorem State.hwEvent_tb : (s.hwEvent t b).tb = s.tb := rfl
@[simp] theorem State.hwEvent_ticks : (s.hwEvent t b).ticks = s.ticks := rfl
@[simp] theorem State.hwEvent_busData : (s.hwEvent t b).busData = s.busData := rfl
@[simp] theorem State.hwEvent_smem : (s.hwEvent t b).smem = s.smem := rfl
@[simp] theorem State.hwEvent_pstore : (s.hwEvent t b).pstore = s.pstore := rfl
@[simp] theorem State.hwEvent_ops : (s.hwEvent t b).ops = s.ops := rfl
@[simp] theorem State.hwEvent_ended : (s.hwEvent t b).ended = s.ended := rfl
@[simp] theorem State.hwEvent_endedAt : (s.hwEvent t b).endedAt = s.endedAt := rfl
@[simp] theorem State.hwEvent_tags : (s.hwEvent t b).tags = s.tags := rfl
@[simp] theorem State.hwEvent_uports : (s.hwEvent t b).uports = s.uports := rfl
@[simp] theorem State.hwEvent_hports : (s.hwEvent t b).hports = s.hports := rfl
@[simp] theorem State.hwEvent_spares : (s.hwEvent t b).spares = s.spares := rfl
@[simp] theorem State.hwEvent_los : (s.hwEvent t b).los = s.los := rfl
@[simp] theorem State.hwEvent_clk : (s.hwEvent t b).clk = s.clk := rfl
@[simp] theorem State.hwEvent_rings : (s.hwEvent t b).rings = s.rings := rfl
@[simp] theorem State.hwEvent_xfers : (s.hwEvent t b).xfers = s.xfers := rfl
@[simp] theorem State.hwEvent_shLevels : (s.hwEvent t b).shLevels = s.shLevels := rfl
@[simp] theorem State.hwEvent_deficits : (s.hwEvent t b).deficits = s.deficits := rfl
@[simp] theorem State.hwEvent_meters : (s.hwEvent t b).meters = s.meters := rfl
@[simp] theorem State.hwEvent_imeters : (s.hwEvent t b).imeters = s.imeters := rfl
@[simp] theorem State.hwEvent_decoders : (s.hwEvent t b).decoders = s.decoders := rfl
@[simp] theorem State.hwEvent_units : (s.hwEvent t b).units = s.units := rfl
@[simp] theorem State.hwEvent_duty : (s.hwEvent t b).duty = s.duty := rfl
@[simp] theorem State.hwEvent_solving : (s.hwEvent t b).solving = s.solving := rfl
@[simp] theorem State.hwEvent_solveQ : (s.hwEvent t b).solveQ = s.solveQ := rfl
@[simp] theorem State.hwEvent_calSets : (s.hwEvent t b).calSets = s.calSets := rfl
@[simp] theorem State.hwEvent_calBase : (s.hwEvent t b).calBase = s.calBase := rfl
@[simp] theorem State.hwEvent_applying : (s.hwEvent t b).applying = s.applying := rfl
@[simp] theorem State.hwEvent_dieLog : (s.hwEvent t b).dieLog = s.dieLog := rfl
@[simp] theorem State.hwEvent_retempAt : (s.hwEvent t b).retempAt = s.retempAt := rfl
@[simp] theorem State.hwEvent_magTrim : (s.hwEvent t b).magTrim = s.magTrim := rfl
@[simp] theorem State.hwEvent_nvBusy : (s.hwEvent t b).nvBusy = s.nvBusy := rfl
@[simp] theorem State.hwEvent_tus : (s.hwEvent t b).tus = s.tus := rfl
@[simp] theorem State.hwEvent_hsp : (s.hwEvent t b).hsp = s.hsp := rfl
@[simp] theorem State.hwEvent_psp : (s.hwEvent t b).psp = s.psp := rfl
@[simp] theorem State.hwEvent_msp : (s.hwEvent t b).msp = s.msp := rfl
@[simp] theorem State.hwEvent_ml : (s.hwEvent t b).ml = s.ml := rfl
@[simp] theorem State.hwEvent_power : (s.hwEvent t b).power = s.power := rfl
@[simp] theorem State.hwEvent_profile : (s.hwEvent t b).profile = s.profile := rfl
@[simp] theorem State.hwEvent_atlasOk : (s.hwEvent t b).atlasOk = s.atlasOk := rfl
@[simp] theorem State.hwEvent_saffron : (s.hwEvent t b).saffron = s.saffron := rfl
@[simp] theorem State.hwEvent_nv : (s.hwEvent t b).nv = s.nv := rfl
@[simp] theorem State.hwEvent_image : (s.hwEvent t b).image = s.image := rfl
@[simp] theorem State.hwEvent_faults : (s.hwEvent t b).faults = s.faults := rfl
@[simp] theorem State.hwEvent_freeCtr : (s.hwEvent t b).freeCtr = s.freeCtr := rfl
@[simp] theorem State.hwEvent_reg_acc (b : Nat) : (s.hwEvent t b).reg b = s.reg b := congrArg (fun f => Sparse.get resetWord f b) (State.hwEvent_regs s t b)
@[simp] theorem State.hwEvent_fld_acc (b k m : Nat) : (s.hwEvent t b).fld b k m = s.fld b k m := by simp [State.fld]
@[simp] theorem State.hwEvent_up_acc (q : UPortNo) : (s.hwEvent t b).up q = s.up q := congrArg (fun f => f[q]) (State.hwEvent_uports s t b)
@[simp] theorem State.hwEvent_hp_acc (q : HPortNo) : (s.hwEvent t b).hp q = s.hp q := congrArg (fun f => f[q]) (State.hwEvent_hports s t b)
@[simp] theorem State.hwEvent_lo_acc (q : LoNo) : (s.hwEvent t b).lo q = s.lo q := congrArg (fun f => f[q]) (State.hwEvent_los s t b)
@[simp] theorem State.hwEvent_ring_acc (q : RingNo) : (s.hwEvent t b).ring q = s.ring q := congrArg (fun f => f[q]) (State.hwEvent_rings s t b)
@[simp] theorem State.hwEvent_op_acc (q : OpId) : (s.hwEvent t b).op? q = s.op? q := congrArg (fun f => List.find? (fun x : Op => x.id == q) f) (State.hwEvent_ops s t b)
end

section
variable (s : State) (w : Word)
@[simp] theorem State.raiseRouted_pending : (s.raiseRouted w).pending = s.pending := by unfold State.raiseRouted; split <;> rfl
@[simp] theorem State.raiseRouted_regs : (s.raiseRouted w).regs = s.regs := by unfold State.raiseRouted; split <;> rfl
@[simp] theorem State.raiseRouted_tb : (s.raiseRouted w).tb = s.tb := by unfold State.raiseRouted; split <;> rfl
@[simp] theorem State.raiseRouted_ticks : (s.raiseRouted w).ticks = s.ticks := by unfold State.raiseRouted; split <;> rfl
@[simp] theorem State.raiseRouted_busData : (s.raiseRouted w).busData = s.busData := by unfold State.raiseRouted; split <;> rfl
@[simp] theorem State.raiseRouted_smem : (s.raiseRouted w).smem = s.smem := by unfold State.raiseRouted; split <;> rfl
@[simp] theorem State.raiseRouted_pstore : (s.raiseRouted w).pstore = s.pstore := by unfold State.raiseRouted; split <;> rfl
@[simp] theorem State.raiseRouted_ops : (s.raiseRouted w).ops = s.ops := by unfold State.raiseRouted; split <;> rfl
@[simp] theorem State.raiseRouted_ended : (s.raiseRouted w).ended = s.ended := by unfold State.raiseRouted; split <;> rfl
@[simp] theorem State.raiseRouted_endedAt : (s.raiseRouted w).endedAt = s.endedAt := by unfold State.raiseRouted; split <;> rfl
@[simp] theorem State.raiseRouted_tags : (s.raiseRouted w).tags = s.tags := by unfold State.raiseRouted; split <;> rfl
@[simp] theorem State.raiseRouted_uports : (s.raiseRouted w).uports = s.uports := by unfold State.raiseRouted; split <;> rfl
@[simp] theorem State.raiseRouted_hports : (s.raiseRouted w).hports = s.hports := by unfold State.raiseRouted; split <;> rfl
@[simp] theorem State.raiseRouted_spares : (s.raiseRouted w).spares = s.spares := by unfold State.raiseRouted; split <;> rfl
@[simp] theorem State.raiseRouted_los : (s.raiseRouted w).los = s.los := by unfold State.raiseRouted; split <;> rfl
@[simp] theorem State.raiseRouted_clk : (s.raiseRouted w).clk = s.clk := by unfold State.raiseRouted; split <;> rfl
@[simp] theorem State.raiseRouted_rings : (s.raiseRouted w).rings = s.rings := by unfold State.raiseRouted; split <;> rfl
@[simp] theorem State.raiseRouted_xfers : (s.raiseRouted w).xfers = s.xfers := by unfold State.raiseRouted; split <;> rfl
@[simp] theorem State.raiseRouted_shLevels : (s.raiseRouted w).shLevels = s.shLevels := by unfold State.raiseRouted; split <;> rfl
@[simp] theorem State.raiseRouted_deficits : (s.raiseRouted w).deficits = s.deficits := by unfold State.raiseRouted; split <;> rfl
@[simp] theorem State.raiseRouted_meters : (s.raiseRouted w).meters = s.meters := by unfold State.raiseRouted; split <;> rfl
@[simp] theorem State.raiseRouted_imeters : (s.raiseRouted w).imeters = s.imeters := by unfold State.raiseRouted; split <;> rfl
@[simp] theorem State.raiseRouted_decoders : (s.raiseRouted w).decoders = s.decoders := by unfold State.raiseRouted; split <;> rfl
@[simp] theorem State.raiseRouted_units : (s.raiseRouted w).units = s.units := by unfold State.raiseRouted; split <;> rfl
@[simp] theorem State.raiseRouted_duty : (s.raiseRouted w).duty = s.duty := by unfold State.raiseRouted; split <;> rfl
@[simp] theorem State.raiseRouted_solving : (s.raiseRouted w).solving = s.solving := by unfold State.raiseRouted; split <;> rfl
@[simp] theorem State.raiseRouted_solveQ : (s.raiseRouted w).solveQ = s.solveQ := by unfold State.raiseRouted; split <;> rfl
@[simp] theorem State.raiseRouted_calSets : (s.raiseRouted w).calSets = s.calSets := by unfold State.raiseRouted; split <;> rfl
@[simp] theorem State.raiseRouted_calBase : (s.raiseRouted w).calBase = s.calBase := by unfold State.raiseRouted; split <;> rfl
@[simp] theorem State.raiseRouted_applying : (s.raiseRouted w).applying = s.applying := by unfold State.raiseRouted; split <;> rfl
@[simp] theorem State.raiseRouted_dieLog : (s.raiseRouted w).dieLog = s.dieLog := by unfold State.raiseRouted; split <;> rfl
@[simp] theorem State.raiseRouted_retempAt : (s.raiseRouted w).retempAt = s.retempAt := by unfold State.raiseRouted; split <;> rfl
@[simp] theorem State.raiseRouted_magTrim : (s.raiseRouted w).magTrim = s.magTrim := by unfold State.raiseRouted; split <;> rfl
@[simp] theorem State.raiseRouted_nvBusy : (s.raiseRouted w).nvBusy = s.nvBusy := by unfold State.raiseRouted; split <;> rfl
@[simp] theorem State.raiseRouted_tus : (s.raiseRouted w).tus = s.tus := by unfold State.raiseRouted; split <;> rfl
@[simp] theorem State.raiseRouted_hsp : (s.raiseRouted w).hsp = s.hsp := by unfold State.raiseRouted; split <;> rfl
@[simp] theorem State.raiseRouted_psp : (s.raiseRouted w).psp = s.psp := by unfold State.raiseRouted; split <;> rfl
@[simp] theorem State.raiseRouted_msp : (s.raiseRouted w).msp = s.msp := by unfold State.raiseRouted; split <;> rfl
@[simp] theorem State.raiseRouted_ml : (s.raiseRouted w).ml = s.ml := by unfold State.raiseRouted; split <;> rfl
@[simp] theorem State.raiseRouted_power : (s.raiseRouted w).power = s.power := by unfold State.raiseRouted; split <;> rfl
@[simp] theorem State.raiseRouted_profile : (s.raiseRouted w).profile = s.profile := by unfold State.raiseRouted; split <;> rfl
@[simp] theorem State.raiseRouted_atlasOk : (s.raiseRouted w).atlasOk = s.atlasOk := by unfold State.raiseRouted; split <;> rfl
@[simp] theorem State.raiseRouted_saffron : (s.raiseRouted w).saffron = s.saffron := by unfold State.raiseRouted; split <;> rfl
@[simp] theorem State.raiseRouted_nv : (s.raiseRouted w).nv = s.nv := by unfold State.raiseRouted; split <;> rfl
@[simp] theorem State.raiseRouted_image : (s.raiseRouted w).image = s.image := by unfold State.raiseRouted; split <;> rfl
@[simp] theorem State.raiseRouted_faults : (s.raiseRouted w).faults = s.faults := by unfold State.raiseRouted; split <;> rfl
@[simp] theorem State.raiseRouted_freeCtr : (s.raiseRouted w).freeCtr = s.freeCtr := by unfold State.raiseRouted; split <;> rfl
@[simp] theorem State.raiseRouted_reg_acc (b : Nat) : (s.raiseRouted w).reg b = s.reg b := congrArg (fun f => Sparse.get resetWord f b) (State.raiseRouted_regs s w)
@[simp] theorem State.raiseRouted_fld_acc (b k m : Nat) : (s.raiseRouted w).fld b k m = s.fld b k m := by simp [State.fld]
@[simp] theorem State.raiseRouted_up_acc (q : UPortNo) : (s.raiseRouted w).up q = s.up q := congrArg (fun f => f[q]) (State.raiseRouted_uports s w)
@[simp] theorem State.raiseRouted_hp_acc (q : HPortNo) : (s.raiseRouted w).hp q = s.hp q := congrArg (fun f => f[q]) (State.raiseRouted_hports s w)
@[simp] theorem State.raiseRouted_lo_acc (q : LoNo) : (s.raiseRouted w).lo q = s.lo q := congrArg (fun f => f[q]) (State.raiseRouted_los s w)
@[simp] theorem State.raiseRouted_ring_acc (q : RingNo) : (s.raiseRouted w).ring q = s.ring q := congrArg (fun f => f[q]) (State.raiseRouted_rings s w)
@[simp] theorem State.raiseRouted_op_acc (q : OpId) : (s.raiseRouted w).op? q = s.op? q := congrArg (fun f => List.find? (fun x : Op => x.id == q) f) (State.raiseRouted_ops s w)
end

section
variable (s : State) (c d e : Nat) (w : Word)
@[simp] theorem State.logFault_pending : (s.logFault c d e w).pending = s.pending := by unfold State.logFault; dsimp only; split <;> rfl
@[simp] theorem State.logFault_tb : (s.logFault c d e w).tb = s.tb := by unfold State.logFault; dsimp only; split <;> rfl
@[simp] theorem State.logFault_ticks : (s.logFault c d e w).ticks = s.ticks := by unfold State.logFault; dsimp only; split <;> rfl
@[simp] theorem State.logFault_busData : (s.logFault c d e w).busData = s.busData := by unfold State.logFault; dsimp only; split <;> rfl
@[simp] theorem State.logFault_threads : (s.logFault c d e w).threads = s.threads := by unfold State.logFault; dsimp only; split <;> rfl
@[simp] theorem State.logFault_smem : (s.logFault c d e w).smem = s.smem := by unfold State.logFault; dsimp only; split <;> rfl
@[simp] theorem State.logFault_pstore : (s.logFault c d e w).pstore = s.pstore := by unfold State.logFault; dsimp only; split <;> rfl
@[simp] theorem State.logFault_ops : (s.logFault c d e w).ops = s.ops := by unfold State.logFault; dsimp only; split <;> rfl
@[simp] theorem State.logFault_ended : (s.logFault c d e w).ended = s.ended := by unfold State.logFault; dsimp only; split <;> rfl
@[simp] theorem State.logFault_endedAt : (s.logFault c d e w).endedAt = s.endedAt := by unfold State.logFault; dsimp only; split <;> rfl
@[simp] theorem State.logFault_tags : (s.logFault c d e w).tags = s.tags := by unfold State.logFault; dsimp only; split <;> rfl
@[simp] theorem State.logFault_uports : (s.logFault c d e w).uports = s.uports := by unfold State.logFault; dsimp only; split <;> rfl
@[simp] theorem State.logFault_hports : (s.logFault c d e w).hports = s.hports := by unfold State.logFault; dsimp only; split <;> rfl
@[simp] theorem State.logFault_spares : (s.logFault c d e w).spares = s.spares := by unfold State.logFault; dsimp only; split <;> rfl
@[simp] theorem State.logFault_los : (s.logFault c d e w).los = s.los := by unfold State.logFault; dsimp only; split <;> rfl
@[simp] theorem State.logFault_clk : (s.logFault c d e w).clk = s.clk := by unfold State.logFault; dsimp only; split <;> rfl
@[simp] theorem State.logFault_rings : (s.logFault c d e w).rings = s.rings := by unfold State.logFault; dsimp only; split <;> rfl
@[simp] theorem State.logFault_xfers : (s.logFault c d e w).xfers = s.xfers := by unfold State.logFault; dsimp only; split <;> rfl
@[simp] theorem State.logFault_shLevels : (s.logFault c d e w).shLevels = s.shLevels := by unfold State.logFault; dsimp only; split <;> rfl
@[simp] theorem State.logFault_deficits : (s.logFault c d e w).deficits = s.deficits := by unfold State.logFault; dsimp only; split <;> rfl
@[simp] theorem State.logFault_meters : (s.logFault c d e w).meters = s.meters := by unfold State.logFault; dsimp only; split <;> rfl
@[simp] theorem State.logFault_imeters : (s.logFault c d e w).imeters = s.imeters := by unfold State.logFault; dsimp only; split <;> rfl
@[simp] theorem State.logFault_decoders : (s.logFault c d e w).decoders = s.decoders := by unfold State.logFault; dsimp only; split <;> rfl
@[simp] theorem State.logFault_units : (s.logFault c d e w).units = s.units := by unfold State.logFault; dsimp only; split <;> rfl
@[simp] theorem State.logFault_duty : (s.logFault c d e w).duty = s.duty := by unfold State.logFault; dsimp only; split <;> rfl
@[simp] theorem State.logFault_solving : (s.logFault c d e w).solving = s.solving := by unfold State.logFault; dsimp only; split <;> rfl
@[simp] theorem State.logFault_solveQ : (s.logFault c d e w).solveQ = s.solveQ := by unfold State.logFault; dsimp only; split <;> rfl
@[simp] theorem State.logFault_calSets : (s.logFault c d e w).calSets = s.calSets := by unfold State.logFault; dsimp only; split <;> rfl
@[simp] theorem State.logFault_calBase : (s.logFault c d e w).calBase = s.calBase := by unfold State.logFault; dsimp only; split <;> rfl
@[simp] theorem State.logFault_applying : (s.logFault c d e w).applying = s.applying := by unfold State.logFault; dsimp only; split <;> rfl
@[simp] theorem State.logFault_dieLog : (s.logFault c d e w).dieLog = s.dieLog := by unfold State.logFault; dsimp only; split <;> rfl
@[simp] theorem State.logFault_retempAt : (s.logFault c d e w).retempAt = s.retempAt := by unfold State.logFault; dsimp only; split <;> rfl
@[simp] theorem State.logFault_magTrim : (s.logFault c d e w).magTrim = s.magTrim := by unfold State.logFault; dsimp only; split <;> rfl
@[simp] theorem State.logFault_nvBusy : (s.logFault c d e w).nvBusy = s.nvBusy := by unfold State.logFault; dsimp only; split <;> rfl
@[simp] theorem State.logFault_tus : (s.logFault c d e w).tus = s.tus := by unfold State.logFault; dsimp only; split <;> rfl
@[simp] theorem State.logFault_hsp : (s.logFault c d e w).hsp = s.hsp := by unfold State.logFault; dsimp only; split <;> rfl
@[simp] theorem State.logFault_psp : (s.logFault c d e w).psp = s.psp := by unfold State.logFault; dsimp only; split <;> rfl
@[simp] theorem State.logFault_msp : (s.logFault c d e w).msp = s.msp := by unfold State.logFault; dsimp only; split <;> rfl
@[simp] theorem State.logFault_ml : (s.logFault c d e w).ml = s.ml := by unfold State.logFault; dsimp only; split <;> rfl
@[simp] theorem State.logFault_power : (s.logFault c d e w).power = s.power := by unfold State.logFault; dsimp only; split <;> rfl
@[simp] theorem State.logFault_profile : (s.logFault c d e w).profile = s.profile := by unfold State.logFault; dsimp only; split <;> rfl
@[simp] theorem State.logFault_atlasOk : (s.logFault c d e w).atlasOk = s.atlasOk := by unfold State.logFault; dsimp only; split <;> rfl
@[simp] theorem State.logFault_saffron : (s.logFault c d e w).saffron = s.saffron := by unfold State.logFault; dsimp only; split <;> rfl
@[simp] theorem State.logFault_nv : (s.logFault c d e w).nv = s.nv := by unfold State.logFault; dsimp only; split <;> rfl
@[simp] theorem State.logFault_image : (s.logFault c d e w).image = s.image := by unfold State.logFault; dsimp only; split <;> rfl
@[simp] theorem State.logFault_freeCtr : (s.logFault c d e w).freeCtr = s.freeCtr := by unfold State.logFault; dsimp only; split <;> rfl
@[simp] theorem State.logFault_th_acc (u : Tid) : (s.logFault c d e w).th u = s.th u := congrArg (fun f => f[u]) (State.logFault_threads s c d e w)
@[simp] theorem State.logFault_up_acc (q : UPortNo) : (s.logFault c d e w).up q = s.up q := congrArg (fun f => f[q]) (State.logFault_uports s c d e w)
@[simp] theorem State.logFault_hp_acc (q : HPortNo) : (s.logFault c d e w).hp q = s.hp q := congrArg (fun f => f[q]) (State.logFault_hports s c d e w)
@[simp] theorem State.logFault_lo_acc (q : LoNo) : (s.logFault c d e w).lo q = s.lo q := congrArg (fun f => f[q]) (State.logFault_los s c d e w)
@[simp] theorem State.logFault_ring_acc (q : RingNo) : (s.logFault c d e w).ring q = s.ring q := congrArg (fun f => f[q]) (State.logFault_rings s c d e w)
@[simp] theorem State.logFault_op_acc (q : OpId) : (s.logFault c d e w).op? q = s.op? q := congrArg (fun f => List.find? (fun x : Op => x.id == q) f) (State.logFault_ops s c d e w)
end

section
variable (s : State) (c : Nat)
@[simp] theorem State.noteFault_pending : (s.noteFault c).pending = s.pending := by simp [State.noteFault]
@[simp] theorem State.noteFault_tb : (s.noteFault c).tb = s.tb := by simp [State.noteFault]
@[simp] theorem State.noteFault_ticks : (s.noteFault c).ticks = s.ticks := by simp [State.noteFault]
@[simp] theorem State.noteFault_busData : (s.noteFault c).busData = s.busData := by simp [State.noteFault]
@[simp] theorem State.noteFault_smem : (s.noteFault c).smem = s.smem := by simp [State.noteFault]
@[simp] theorem State.noteFault_pstore : (s.noteFault c).pstore = s.pstore := by simp [State.noteFault]
@[simp] theorem State.noteFault_ops : (s.noteFault c).ops = s.ops := by simp [State.noteFault]
@[simp] theorem State.noteFault_ended : (s.noteFault c).ended = s.ended := by simp [State.noteFault]
@[simp] theorem State.noteFault_endedAt : (s.noteFault c).endedAt = s.endedAt := by simp [State.noteFault]
@[simp] theorem State.noteFault_tags : (s.noteFault c).tags = s.tags := by simp [State.noteFault]
@[simp] theorem State.noteFault_uports : (s.noteFault c).uports = s.uports := by simp [State.noteFault]
@[simp] theorem State.noteFault_hports : (s.noteFault c).hports = s.hports := by simp [State.noteFault]
@[simp] theorem State.noteFault_spares : (s.noteFault c).spares = s.spares := by simp [State.noteFault]
@[simp] theorem State.noteFault_los : (s.noteFault c).los = s.los := by simp [State.noteFault]
@[simp] theorem State.noteFault_clk : (s.noteFault c).clk = s.clk := by simp [State.noteFault]
@[simp] theorem State.noteFault_rings : (s.noteFault c).rings = s.rings := by simp [State.noteFault]
@[simp] theorem State.noteFault_xfers : (s.noteFault c).xfers = s.xfers := by simp [State.noteFault]
@[simp] theorem State.noteFault_shLevels : (s.noteFault c).shLevels = s.shLevels := by simp [State.noteFault]
@[simp] theorem State.noteFault_deficits : (s.noteFault c).deficits = s.deficits := by simp [State.noteFault]
@[simp] theorem State.noteFault_meters : (s.noteFault c).meters = s.meters := by simp [State.noteFault]
@[simp] theorem State.noteFault_imeters : (s.noteFault c).imeters = s.imeters := by simp [State.noteFault]
@[simp] theorem State.noteFault_decoders : (s.noteFault c).decoders = s.decoders := by simp [State.noteFault]
@[simp] theorem State.noteFault_units : (s.noteFault c).units = s.units := by simp [State.noteFault]
@[simp] theorem State.noteFault_duty : (s.noteFault c).duty = s.duty := by simp [State.noteFault]
@[simp] theorem State.noteFault_solving : (s.noteFault c).solving = s.solving := by simp [State.noteFault]
@[simp] theorem State.noteFault_solveQ : (s.noteFault c).solveQ = s.solveQ := by simp [State.noteFault]
@[simp] theorem State.noteFault_calSets : (s.noteFault c).calSets = s.calSets := by simp [State.noteFault]
@[simp] theorem State.noteFault_calBase : (s.noteFault c).calBase = s.calBase := by simp [State.noteFault]
@[simp] theorem State.noteFault_applying : (s.noteFault c).applying = s.applying := by simp [State.noteFault]
@[simp] theorem State.noteFault_dieLog : (s.noteFault c).dieLog = s.dieLog := by simp [State.noteFault]
@[simp] theorem State.noteFault_retempAt : (s.noteFault c).retempAt = s.retempAt := by simp [State.noteFault]
@[simp] theorem State.noteFault_magTrim : (s.noteFault c).magTrim = s.magTrim := by simp [State.noteFault]
@[simp] theorem State.noteFault_nvBusy : (s.noteFault c).nvBusy = s.nvBusy := by simp [State.noteFault]
@[simp] theorem State.noteFault_tus : (s.noteFault c).tus = s.tus := by simp [State.noteFault]
@[simp] theorem State.noteFault_hsp : (s.noteFault c).hsp = s.hsp := by simp [State.noteFault]
@[simp] theorem State.noteFault_psp : (s.noteFault c).psp = s.psp := by simp [State.noteFault]
@[simp] theorem State.noteFault_msp : (s.noteFault c).msp = s.msp := by simp [State.noteFault]
@[simp] theorem State.noteFault_ml : (s.noteFault c).ml = s.ml := by simp [State.noteFault]
@[simp] theorem State.noteFault_power : (s.noteFault c).power = s.power := by simp [State.noteFault]
@[simp] theorem State.noteFault_profile : (s.noteFault c).profile = s.profile := by simp [State.noteFault]
@[simp] theorem State.noteFault_atlasOk : (s.noteFault c).atlasOk = s.atlasOk := by simp [State.noteFault]
@[simp] theorem State.noteFault_saffron : (s.noteFault c).saffron = s.saffron := by simp [State.noteFault]
@[simp] theorem State.noteFault_nv : (s.noteFault c).nv = s.nv := by simp [State.noteFault]
@[simp] theorem State.noteFault_image : (s.noteFault c).image = s.image := by simp [State.noteFault]
@[simp] theorem State.noteFault_faults : (s.noteFault c).faults = s.faults := by simp [State.noteFault]
@[simp] theorem State.noteFault_freeCtr : (s.noteFault c).freeCtr = s.freeCtr := by simp [State.noteFault]
@[simp] theorem State.noteFault_up_acc (q : UPortNo) : (s.noteFault c).up q = s.up q := congrArg (fun f => f[q]) (State.noteFault_uports s c)
@[simp] theorem State.noteFault_hp_acc (q : HPortNo) : (s.noteFault c).hp q = s.hp q := congrArg (fun f => f[q]) (State.noteFault_hports s c)
@[simp] theorem State.noteFault_lo_acc (q : LoNo) : (s.noteFault c).lo q = s.lo q := congrArg (fun f => f[q]) (State.noteFault_los s c)
@[simp] theorem State.noteFault_ring_acc (q : RingNo) : (s.noteFault c).ring q = s.ring q := congrArg (fun f => f[q]) (State.noteFault_rings s c)
@[simp] theorem State.noteFault_op_acc (q : OpId) : (s.noteFault c).op? q = s.op? q := congrArg (fun f => List.find? (fun x : Op => x.id == q) f) (State.noteFault_ops s c)
end

section
variable (s : State) (c d e : Nat)
@[simp] theorem State.fault_pending : (s.fault c d e).pending = s.pending := by simp [State.fault]
@[simp] theorem State.fault_tb : (s.fault c d e).tb = s.tb := by simp [State.fault]
@[simp] theorem State.fault_ticks : (s.fault c d e).ticks = s.ticks := by simp [State.fault]
@[simp] theorem State.fault_busData : (s.fault c d e).busData = s.busData := by simp [State.fault]
@[simp] theorem State.fault_smem : (s.fault c d e).smem = s.smem := by simp [State.fault]
@[simp] theorem State.fault_pstore : (s.fault c d e).pstore = s.pstore := by simp [State.fault]
@[simp] theorem State.fault_ops : (s.fault c d e).ops = s.ops := by simp [State.fault]
@[simp] theorem State.fault_ended : (s.fault c d e).ended = s.ended := by simp [State.fault]
@[simp] theorem State.fault_endedAt : (s.fault c d e).endedAt = s.endedAt := by simp [State.fault]
@[simp] theorem State.fault_tags : (s.fault c d e).tags = s.tags := by simp [State.fault]
@[simp] theorem State.fault_uports : (s.fault c d e).uports = s.uports := by simp [State.fault]
@[simp] theorem State.fault_hports : (s.fault c d e).hports = s.hports := by simp [State.fault]
@[simp] theorem State.fault_spares : (s.fault c d e).spares = s.spares := by simp [State.fault]
@[simp] theorem State.fault_los : (s.fault c d e).los = s.los := by simp [State.fault]
@[simp] theorem State.fault_clk : (s.fault c d e).clk = s.clk := by simp [State.fault]
@[simp] theorem State.fault_rings : (s.fault c d e).rings = s.rings := by simp [State.fault]
@[simp] theorem State.fault_xfers : (s.fault c d e).xfers = s.xfers := by simp [State.fault]
@[simp] theorem State.fault_shLevels : (s.fault c d e).shLevels = s.shLevels := by simp [State.fault]
@[simp] theorem State.fault_deficits : (s.fault c d e).deficits = s.deficits := by simp [State.fault]
@[simp] theorem State.fault_meters : (s.fault c d e).meters = s.meters := by simp [State.fault]
@[simp] theorem State.fault_imeters : (s.fault c d e).imeters = s.imeters := by simp [State.fault]
@[simp] theorem State.fault_decoders : (s.fault c d e).decoders = s.decoders := by simp [State.fault]
@[simp] theorem State.fault_units : (s.fault c d e).units = s.units := by simp [State.fault]
@[simp] theorem State.fault_duty : (s.fault c d e).duty = s.duty := by simp [State.fault]
@[simp] theorem State.fault_solving : (s.fault c d e).solving = s.solving := by simp [State.fault]
@[simp] theorem State.fault_solveQ : (s.fault c d e).solveQ = s.solveQ := by simp [State.fault]
@[simp] theorem State.fault_calSets : (s.fault c d e).calSets = s.calSets := by simp [State.fault]
@[simp] theorem State.fault_calBase : (s.fault c d e).calBase = s.calBase := by simp [State.fault]
@[simp] theorem State.fault_applying : (s.fault c d e).applying = s.applying := by simp [State.fault]
@[simp] theorem State.fault_dieLog : (s.fault c d e).dieLog = s.dieLog := by simp [State.fault]
@[simp] theorem State.fault_retempAt : (s.fault c d e).retempAt = s.retempAt := by simp [State.fault]
@[simp] theorem State.fault_magTrim : (s.fault c d e).magTrim = s.magTrim := by simp [State.fault]
@[simp] theorem State.fault_nvBusy : (s.fault c d e).nvBusy = s.nvBusy := by simp [State.fault]
@[simp] theorem State.fault_tus : (s.fault c d e).tus = s.tus := by simp [State.fault]
@[simp] theorem State.fault_hsp : (s.fault c d e).hsp = s.hsp := by simp [State.fault]
@[simp] theorem State.fault_psp : (s.fault c d e).psp = s.psp := by simp [State.fault]
@[simp] theorem State.fault_msp : (s.fault c d e).msp = s.msp := by simp [State.fault]
@[simp] theorem State.fault_ml : (s.fault c d e).ml = s.ml := by simp [State.fault]
@[simp] theorem State.fault_power : (s.fault c d e).power = s.power := by simp [State.fault]
@[simp] theorem State.fault_profile : (s.fault c d e).profile = s.profile := by simp [State.fault]
@[simp] theorem State.fault_atlasOk : (s.fault c d e).atlasOk = s.atlasOk := by simp [State.fault]
@[simp] theorem State.fault_saffron : (s.fault c d e).saffron = s.saffron := by simp [State.fault]
@[simp] theorem State.fault_nv : (s.fault c d e).nv = s.nv := by simp [State.fault]
@[simp] theorem State.fault_image : (s.fault c d e).image = s.image := by simp [State.fault]
@[simp] theorem State.fault_freeCtr : (s.fault c d e).freeCtr = s.freeCtr := by simp [State.fault]
@[simp] theorem State.fault_up_acc (q : UPortNo) : (s.fault c d e).up q = s.up q := congrArg (fun f => f[q]) (State.fault_uports s c d e)
@[simp] theorem State.fault_hp_acc (q : HPortNo) : (s.fault c d e).hp q = s.hp q := congrArg (fun f => f[q]) (State.fault_hports s c d e)
@[simp] theorem State.fault_lo_acc (q : LoNo) : (s.fault c d e).lo q = s.lo q := congrArg (fun f => f[q]) (State.fault_los s c d e)
@[simp] theorem State.fault_ring_acc (q : RingNo) : (s.fault c d e).ring q = s.ring q := congrArg (fun f => f[q]) (State.fault_rings s c d e)
@[simp] theorem State.fault_op_acc (q : OpId) : (s.fault c d e).op? q = s.op? q := congrArg (fun f => List.find? (fun x : Op => x.id == q) f) (State.fault_ops s c d e)
end

section
variable (s : State) (dt : Nat)
@[simp] theorem State.advance_pending : (s.advance dt).pending = s.pending := by unfold State.advance; split <;> rfl
@[simp] theorem State.advance_regs : (s.advance dt).regs = s.regs := by unfold State.advance; split <;> rfl
@[simp] theorem State.advance_busData : (s.advance dt).busData = s.busData := by unfold State.advance; split <;> rfl
@[simp] theorem State.advance_threads : (s.advance dt).threads = s.threads := by unfold State.advance; split <;> rfl
@[simp] theorem State.advance_smem : (s.advance dt).smem = s.smem := by unfold State.advance; split <;> rfl
@[simp] theorem State.advance_pstore : (s.advance dt).pstore = s.pstore := by unfold State.advance; split <;> rfl
@[simp] theorem State.advance_ops : (s.advance dt).ops = s.ops := by unfold State.advance; split <;> rfl
@[simp] theorem State.advance_ended : (s.advance dt).ended = s.ended := by unfold State.advance; split <;> rfl
@[simp] theorem State.advance_endedAt : (s.advance dt).endedAt = s.endedAt := by unfold State.advance; split <;> rfl
@[simp] theorem State.advance_tags : (s.advance dt).tags = s.tags := by unfold State.advance; split <;> rfl
@[simp] theorem State.advance_uports : (s.advance dt).uports = s.uports := by unfold State.advance; split <;> rfl
@[simp] theorem State.advance_hports : (s.advance dt).hports = s.hports := by unfold State.advance; split <;> rfl
@[simp] theorem State.advance_spares : (s.advance dt).spares = s.spares := by unfold State.advance; split <;> rfl
@[simp] theorem State.advance_los : (s.advance dt).los = s.los := by unfold State.advance; split <;> rfl
@[simp] theorem State.advance_clk : (s.advance dt).clk = s.clk := by unfold State.advance; split <;> rfl
@[simp] theorem State.advance_rings : (s.advance dt).rings = s.rings := by unfold State.advance; split <;> rfl
@[simp] theorem State.advance_xfers : (s.advance dt).xfers = s.xfers := by unfold State.advance; split <;> rfl
@[simp] theorem State.advance_shLevels : (s.advance dt).shLevels = s.shLevels := by unfold State.advance; split <;> rfl
@[simp] theorem State.advance_deficits : (s.advance dt).deficits = s.deficits := by unfold State.advance; split <;> rfl
@[simp] theorem State.advance_meters : (s.advance dt).meters = s.meters := by unfold State.advance; split <;> rfl
@[simp] theorem State.advance_imeters : (s.advance dt).imeters = s.imeters := by unfold State.advance; split <;> rfl
@[simp] theorem State.advance_decoders : (s.advance dt).decoders = s.decoders := by unfold State.advance; split <;> rfl
@[simp] theorem State.advance_units : (s.advance dt).units = s.units := by unfold State.advance; split <;> rfl
@[simp] theorem State.advance_duty : (s.advance dt).duty = s.duty := by unfold State.advance; split <;> rfl
@[simp] theorem State.advance_solving : (s.advance dt).solving = s.solving := by unfold State.advance; split <;> rfl
@[simp] theorem State.advance_solveQ : (s.advance dt).solveQ = s.solveQ := by unfold State.advance; split <;> rfl
@[simp] theorem State.advance_calSets : (s.advance dt).calSets = s.calSets := by unfold State.advance; split <;> rfl
@[simp] theorem State.advance_calBase : (s.advance dt).calBase = s.calBase := by unfold State.advance; split <;> rfl
@[simp] theorem State.advance_applying : (s.advance dt).applying = s.applying := by unfold State.advance; split <;> rfl
@[simp] theorem State.advance_dieLog : (s.advance dt).dieLog = s.dieLog := by unfold State.advance; split <;> rfl
@[simp] theorem State.advance_retempAt : (s.advance dt).retempAt = s.retempAt := by unfold State.advance; split <;> rfl
@[simp] theorem State.advance_magTrim : (s.advance dt).magTrim = s.magTrim := by unfold State.advance; split <;> rfl
@[simp] theorem State.advance_nvBusy : (s.advance dt).nvBusy = s.nvBusy := by unfold State.advance; split <;> rfl
@[simp] theorem State.advance_tus : (s.advance dt).tus = s.tus := by unfold State.advance; split <;> rfl
@[simp] theorem State.advance_hsp : (s.advance dt).hsp = s.hsp := by unfold State.advance; split <;> rfl
@[simp] theorem State.advance_psp : (s.advance dt).psp = s.psp := by unfold State.advance; split <;> rfl
@[simp] theorem State.advance_msp : (s.advance dt).msp = s.msp := by unfold State.advance; split <;> rfl
@[simp] theorem State.advance_ml : (s.advance dt).ml = s.ml := by unfold State.advance; split <;> rfl
@[simp] theorem State.advance_power : (s.advance dt).power = s.power := by unfold State.advance; split <;> rfl
@[simp] theorem State.advance_profile : (s.advance dt).profile = s.profile := by unfold State.advance; split <;> rfl
@[simp] theorem State.advance_atlasOk : (s.advance dt).atlasOk = s.atlasOk := by unfold State.advance; split <;> rfl
@[simp] theorem State.advance_saffron : (s.advance dt).saffron = s.saffron := by unfold State.advance; split <;> rfl
@[simp] theorem State.advance_nv : (s.advance dt).nv = s.nv := by unfold State.advance; split <;> rfl
@[simp] theorem State.advance_image : (s.advance dt).image = s.image := by unfold State.advance; split <;> rfl
@[simp] theorem State.advance_faults : (s.advance dt).faults = s.faults := by unfold State.advance; split <;> rfl
@[simp] theorem State.advance_freeCtr : (s.advance dt).freeCtr = s.freeCtr := by unfold State.advance; split <;> rfl
@[simp] theorem State.advance_reg_acc (b : Nat) : (s.advance dt).reg b = s.reg b := congrArg (fun f => Sparse.get resetWord f b) (State.advance_regs s dt)
@[simp] theorem State.advance_fld_acc (b k m : Nat) : (s.advance dt).fld b k m = s.fld b k m := by simp [State.fld]
@[simp] theorem State.advance_th_acc (u : Tid) : (s.advance dt).th u = s.th u := congrArg (fun f => f[u]) (State.advance_threads s dt)
@[simp] theorem State.advance_up_acc (q : UPortNo) : (s.advance dt).up q = s.up q := congrArg (fun f => f[q]) (State.advance_uports s dt)
@[simp] theorem State.advance_hp_acc (q : HPortNo) : (s.advance dt).hp q = s.hp q := congrArg (fun f => f[q]) (State.advance_hports s dt)
@[simp] theorem State.advance_lo_acc (q : LoNo) : (s.advance dt).lo q = s.lo q := congrArg (fun f => f[q]) (State.advance_los s dt)
@[simp] theorem State.advance_ring_acc (q : RingNo) : (s.advance dt).ring q = s.ring q := congrArg (fun f => f[q]) (State.advance_rings s dt)
@[simp] theorem State.advance_op_acc (q : OpId) : (s.advance dt).op? q = s.op? q := congrArg (fun f => List.find? (fun x : Op => x.id == q) f) (State.advance_ops s dt)
end

section
variable (s : State) (t : Nat)
@[simp] theorem State.advanceTo_pending : (s.advanceTo t).pending = s.pending := by unfold State.advanceTo; simp
@[simp] theorem State.advanceTo_regs : (s.advanceTo t).regs = s.regs := by unfold State.advanceTo; simp
@[simp] theorem State.advanceTo_busData : (s.advanceTo t).busData = s.busData := by unfold State.advanceTo; simp
@[simp] theorem State.advanceTo_threads : (s.advanceTo t).threads = s.threads := by unfold State.advanceTo; simp
@[simp] theorem State.advanceTo_smem : (s.advanceTo t).smem = s.smem := by unfold State.advanceTo; simp
@[simp] theorem State.advanceTo_pstore : (s.advanceTo t).pstore = s.pstore := by unfold State.advanceTo; simp
@[simp] theorem State.advanceTo_ops : (s.advanceTo t).ops = s.ops := by unfold State.advanceTo; simp
@[simp] theorem State.advanceTo_ended : (s.advanceTo t).ended = s.ended := by unfold State.advanceTo; simp
@[simp] theorem State.advanceTo_endedAt : (s.advanceTo t).endedAt = s.endedAt := by unfold State.advanceTo; simp
@[simp] theorem State.advanceTo_tags : (s.advanceTo t).tags = s.tags := by unfold State.advanceTo; simp
@[simp] theorem State.advanceTo_uports : (s.advanceTo t).uports = s.uports := by unfold State.advanceTo; simp
@[simp] theorem State.advanceTo_hports : (s.advanceTo t).hports = s.hports := by unfold State.advanceTo; simp
@[simp] theorem State.advanceTo_spares : (s.advanceTo t).spares = s.spares := by unfold State.advanceTo; simp
@[simp] theorem State.advanceTo_los : (s.advanceTo t).los = s.los := by unfold State.advanceTo; simp
@[simp] theorem State.advanceTo_clk : (s.advanceTo t).clk = s.clk := by unfold State.advanceTo; simp
@[simp] theorem State.advanceTo_rings : (s.advanceTo t).rings = s.rings := by unfold State.advanceTo; simp
@[simp] theorem State.advanceTo_xfers : (s.advanceTo t).xfers = s.xfers := by unfold State.advanceTo; simp
@[simp] theorem State.advanceTo_shLevels : (s.advanceTo t).shLevels = s.shLevels := by unfold State.advanceTo; simp
@[simp] theorem State.advanceTo_deficits : (s.advanceTo t).deficits = s.deficits := by unfold State.advanceTo; simp
@[simp] theorem State.advanceTo_meters : (s.advanceTo t).meters = s.meters := by unfold State.advanceTo; simp
@[simp] theorem State.advanceTo_imeters : (s.advanceTo t).imeters = s.imeters := by unfold State.advanceTo; simp
@[simp] theorem State.advanceTo_decoders : (s.advanceTo t).decoders = s.decoders := by unfold State.advanceTo; simp
@[simp] theorem State.advanceTo_units : (s.advanceTo t).units = s.units := by unfold State.advanceTo; simp
@[simp] theorem State.advanceTo_duty : (s.advanceTo t).duty = s.duty := by unfold State.advanceTo; simp
@[simp] theorem State.advanceTo_solving : (s.advanceTo t).solving = s.solving := by unfold State.advanceTo; simp
@[simp] theorem State.advanceTo_solveQ : (s.advanceTo t).solveQ = s.solveQ := by unfold State.advanceTo; simp
@[simp] theorem State.advanceTo_calSets : (s.advanceTo t).calSets = s.calSets := by unfold State.advanceTo; simp
@[simp] theorem State.advanceTo_calBase : (s.advanceTo t).calBase = s.calBase := by unfold State.advanceTo; simp
@[simp] theorem State.advanceTo_applying : (s.advanceTo t).applying = s.applying := by unfold State.advanceTo; simp
@[simp] theorem State.advanceTo_dieLog : (s.advanceTo t).dieLog = s.dieLog := by unfold State.advanceTo; simp
@[simp] theorem State.advanceTo_retempAt : (s.advanceTo t).retempAt = s.retempAt := by unfold State.advanceTo; simp
@[simp] theorem State.advanceTo_magTrim : (s.advanceTo t).magTrim = s.magTrim := by unfold State.advanceTo; simp
@[simp] theorem State.advanceTo_nvBusy : (s.advanceTo t).nvBusy = s.nvBusy := by unfold State.advanceTo; simp
@[simp] theorem State.advanceTo_tus : (s.advanceTo t).tus = s.tus := by unfold State.advanceTo; simp
@[simp] theorem State.advanceTo_hsp : (s.advanceTo t).hsp = s.hsp := by unfold State.advanceTo; simp
@[simp] theorem State.advanceTo_psp : (s.advanceTo t).psp = s.psp := by unfold State.advanceTo; simp
@[simp] theorem State.advanceTo_msp : (s.advanceTo t).msp = s.msp := by unfold State.advanceTo; simp
@[simp] theorem State.advanceTo_ml : (s.advanceTo t).ml = s.ml := by unfold State.advanceTo; simp
@[simp] theorem State.advanceTo_power : (s.advanceTo t).power = s.power := by unfold State.advanceTo; simp
@[simp] theorem State.advanceTo_profile : (s.advanceTo t).profile = s.profile := by unfold State.advanceTo; simp
@[simp] theorem State.advanceTo_atlasOk : (s.advanceTo t).atlasOk = s.atlasOk := by unfold State.advanceTo; simp
@[simp] theorem State.advanceTo_saffron : (s.advanceTo t).saffron = s.saffron := by unfold State.advanceTo; simp
@[simp] theorem State.advanceTo_nv : (s.advanceTo t).nv = s.nv := by unfold State.advanceTo; simp
@[simp] theorem State.advanceTo_image : (s.advanceTo t).image = s.image := by unfold State.advanceTo; simp
@[simp] theorem State.advanceTo_faults : (s.advanceTo t).faults = s.faults := by unfold State.advanceTo; simp
@[simp] theorem State.advanceTo_freeCtr : (s.advanceTo t).freeCtr = s.freeCtr := by unfold State.advanceTo; simp
@[simp] theorem State.advanceTo_reg_acc (b : Nat) : (s.advanceTo t).reg b = s.reg b := congrArg (fun f => Sparse.get resetWord f b) (State.advanceTo_regs s t)
@[simp] theorem State.advanceTo_fld_acc (b k m : Nat) : (s.advanceTo t).fld b k m = s.fld b k m := by simp [State.fld]
@[simp] theorem State.advanceTo_th_acc (u : Tid) : (s.advanceTo t).th u = s.th u := congrArg (fun f => f[u]) (State.advanceTo_threads s t)
@[simp] theorem State.advanceTo_up_acc (q : UPortNo) : (s.advanceTo t).up q = s.up q := congrArg (fun f => f[q]) (State.advanceTo_uports s t)
@[simp] theorem State.advanceTo_hp_acc (q : HPortNo) : (s.advanceTo t).hp q = s.hp q := congrArg (fun f => f[q]) (State.advanceTo_hports s t)
@[simp] theorem State.advanceTo_lo_acc (q : LoNo) : (s.advanceTo t).lo q = s.lo q := congrArg (fun f => f[q]) (State.advanceTo_los s t)
@[simp] theorem State.advanceTo_ring_acc (q : RingNo) : (s.advanceTo t).ring q = s.ring q := congrArg (fun f => f[q]) (State.advanceTo_rings s t)
@[simp] theorem State.advanceTo_op_acc (q : OpId) : (s.advanceTo t).op? q = s.op? q := congrArg (fun f => List.find? (fun x : Op => x.id == q) f) (State.advanceTo_ops s t)
end

end Sys2Proof.Machine
end

