-- ==== Sys2Proof/Laws/Mem.lean ====
section
/-!
SUPPORT. The laws of sparse maps, byte memories and registers: a read after a write, and that every write keeps
the canonical form.
-/

namespace Sys2Proof.Machine

/-! ### Vectors -/

@[simp] theorem vset_get_same {α : Type} {n : Nat} (v : Vector α n) (i : Fin n) (x : α) : (vset v i x)[i] = x := by
  simp [vset]

theorem vset_get_other {α : Type} {n : Nat} (v : Vector α n) {i j : Fin n} (x : α) (h : j ≠ i) :
    (vset v i x)[j] = v[j] := by
  have : i.val ≠ j.val := fun e => h (Fin.ext e.symm)
  simp [vset, this]

/-! ### Sparse maps -/

section
variable {α : Type} [DecidableEq α] {d : Nat → α} {m : List (Nat × α)} {k j : Nat} {x : α}

omit [DecidableEq α] in
theorem Sparse.find_insert_same : Sparse.find k (Sparse.insert k x m) = some x := by
  induction m with
  | nil => simp [Sparse.insert, Sparse.find]
  | cons e r ih =>
    obtain ⟨a, y⟩ := e
    simp only [Sparse.insert]
    split
    · simp [Sparse.find]
    · split
      · simp [Sparse.find]
      · simp [Sparse.find, *]

omit [DecidableEq α] in
theorem Sparse.find_insert_other (h : j ≠ k) : Sparse.find j (Sparse.insert k x m) = Sparse.find j m := by
  induction m with
  | nil => simp [Sparse.insert, Sparse.find, h.symm]
  | cons e r ih =>
    obtain ⟨a, y⟩ := e
    simp only [Sparse.insert]
    split
    · simp [Sparse.find, h.symm]
    · split
      · subst_vars; simp [Sparse.find, h.symm]
      · simp [Sparse.find, ih]

omit [DecidableEq α] in
theorem Sparse.find_erase_other (h : j ≠ k) : Sparse.find j (Sparse.erase k m) = Sparse.find j m := by
  induction m with
  | nil => rfl
  | cons e r ih =>
    obtain ⟨a, y⟩ := e
    simp only [Sparse.erase]
    split
    · subst_vars; simp [Sparse.find, h.symm]
    · simp [Sparse.find, ih]

omit [DecidableEq α] in
theorem Sparse.find_none (h : ∀ e ∈ m, k < e.1) : Sparse.find k m = none := by
  induction m with
  | nil => rfl
  | cons e r ih =>
    have h0 := h e (List.mem_cons_self ..)
    obtain ⟨a, y⟩ := e
    have : a ≠ k := by simp at h0; omega
    simp [Sparse.find, this, ih fun e he => h e (List.mem_cons_of_mem _ he)]

omit [DecidableEq α] in
theorem Sparse.find_erase_same (h : m.Pairwise fun a b => a.1 < b.1) : Sparse.find k (Sparse.erase k m) = none := by
  induction m with
  | nil => rfl
  | cons e r ih =>
    obtain ⟨a, y⟩ := e
    have hp := List.pairwise_cons.mp h
    simp only [Sparse.erase]
    split
    · rename_i hak; subst hak; exact Sparse.find_none fun e he => hp.1 e he
    · rename_i hak; simp [Sparse.find, hak, ih hp.2]

/-- A read of the key written gives the value written. -/
theorem Sparse.get_set_same (h : Sparse.wf d m) : Sparse.get d (Sparse.set d m k x) k = x := by
  unfold Sparse.set Sparse.get
  split
  · rename_i hx; rw [Sparse.find_erase_same h.1]; simp [hx]
  · rw [Sparse.find_insert_same]; rfl

/-- A write leaves every other key alone. -/
theorem Sparse.get_set_other (h : j ≠ k) : Sparse.get d (Sparse.set d m k x) j = Sparse.get d m j := by
  unfold Sparse.set Sparse.get
  split
  · rw [Sparse.find_erase_other h]
  · rw [Sparse.find_insert_other h]

omit [DecidableEq α] in
theorem Sparse.mem_insert {e : Nat × α} (h : e ∈ Sparse.insert k x m) : e = (k, x) ∨ e ∈ m := by
  induction m with
  | nil => simp [Sparse.insert] at h; exact .inl h
  | cons c r ih =>
    obtain ⟨a, y⟩ := c
    simp only [Sparse.insert] at h
    split at h
    · simpa using h
    · split at h
      · rcases List.mem_cons.mp h with h | h
        · exact .inl h
        · exact .inr (List.mem_cons_of_mem _ h)
      · rcases List.mem_cons.mp h with h | h
        · exact .inr (h ▸ List.mem_cons_self ..)
        · rcases ih h with h | h
          · exact .inl h
          · exact .inr (List.mem_cons_of_mem _ h)

omit [DecidableEq α] in
theorem Sparse.mem_erase {e : Nat × α} (h : e ∈ Sparse.erase k m) : e ∈ m := by
  induction m with
  | nil => simp [Sparse.erase] at h
  | cons c r ih =>
    obtain ⟨a, y⟩ := c
    simp only [Sparse.erase] at h
    split at h
    · exact List.mem_cons_of_mem _ h
    · rcases List.mem_cons.mp h with h | h
      · exact h ▸ List.mem_cons_self ..
      · exact List.mem_cons_of_mem _ (ih h)

omit [DecidableEq α] in
theorem Sparse.sorted_insert (h : m.Pairwise fun a b => a.1 < b.1) :
    (Sparse.insert k x m).Pairwise fun a b => a.1 < b.1 := by
  induction m with
  | nil => simp [Sparse.insert]
  | cons c r ih =>
    obtain ⟨a, y⟩ := c
    have hp := List.pairwise_cons.mp h
    simp only [Sparse.insert]
    split
    · rename_i hk
      refine List.pairwise_cons.mpr ⟨fun e he => ?_, h⟩
      rcases List.mem_cons.mp he with he | he
      · rw [he]; exact hk
      · exact Nat.lt_trans hk (hp.1 e he)
    · split
      · rename_i hk; subst hk; exact List.pairwise_cons.mpr hp
      · refine List.pairwise_cons.mpr ⟨fun e he => ?_, ih hp.2⟩
        rcases Sparse.mem_insert he with he | he
        · rw [he]; show a < k; omega
        · exact hp.1 e he

omit [DecidableEq α] in
theorem Sparse.sorted_erase (h : m.Pairwise fun a b => a.1 < b.1) :
    (Sparse.erase k m).Pairwise fun a b => a.1 < b.1 := by
  induction m with
  | nil => simp [Sparse.erase]
  | cons c r ih =>
    obtain ⟨a, y⟩ := c
    have hp := List.pairwise_cons.mp h
    simp only [Sparse.erase]
    split
    · exact hp.2
    · exact List.pairwise_cons.mpr ⟨fun e he => hp.1 e (Sparse.mem_erase he), ih hp.2⟩

/-- A write keeps the canonical form. -/
theorem Sparse.wf_set (h : Sparse.wf d m) : Sparse.wf d (Sparse.set d m k x) := by
  unfold Sparse.set
  split
  · exact ⟨Sparse.sorted_erase h.1, fun e he => h.2 e (Sparse.mem_erase he)⟩
  · rename_i hx
    refine ⟨Sparse.sorted_insert h.1, fun e he => ?_⟩
    rcases Sparse.mem_insert he with he | he
    · rw [he]; exact hx
    · exact h.2 e he

/-- The entries that pass a test are canonical too. -/
theorem Sparse.wf_filter (h : Sparse.wf d m) (p : Nat × α → Bool) : Sparse.wf d (m.filter p) :=
  ⟨h.1.filter p, fun e he => h.2 e (List.mem_filter.mp he).1⟩

end

/-! ### Byte memories -/

theorem Memory.wf_nil : Memory.wf [] := ⟨List.Pairwise.nil, fun _ h => absurd h (by simp)⟩

theorem Memory.wf_setByte {m : Mem} (h : Memory.wf m) (a : Nat) (b : Byte) : Memory.wf (Memory.setByte m a b) :=
  Sparse.wf_set h

theorem Memory.wf_setWord {m : Mem} (h : Memory.wf m) (a : Nat) (w : Word) : Memory.wf (Memory.setWord m a w) :=
  Memory.wf_setByte (Memory.wf_setByte (Memory.wf_setByte (Memory.wf_setByte h _ _) _ _) _ _) _ _

theorem Memory.wf_setWords {m : Mem} (h : Memory.wf m) (a : Nat) (ws : List Word) : Memory.wf (Memory.setWords m a ws) := by
  induction ws generalizing m a with
  | nil => exact h
  | cons w ws ih => exact ih (Memory.wf_setWord h a w) (a + 4)

theorem Memory.byte_setByte_same {m : Mem} (h : Memory.wf m) (a : Nat) (b : Byte) :
    Memory.byte (Memory.setByte m a b) a = b := Sparse.get_set_same h

theorem Memory.byte_setByte_other {m : Mem} {a c : Nat} (b : Byte) (h : c ≠ a) :
    Memory.byte (Memory.setByte m a b) c = Memory.byte m c := Sparse.get_set_other h

/-- A word write changes the four bytes of the word alone. -/
theorem Memory.byte_setWord_other {m : Mem} {a c : Nat} (w : Word) (h : c < a ∨ a + 4 ≤ c) :
    Memory.byte (Memory.setWord m a w) c = Memory.byte m c := by
  unfold Memory.setWord
  rw [Memory.byte_setByte_other _ (by omega), Memory.byte_setByte_other _ (by omega),
    Memory.byte_setByte_other _ (by omega), Memory.byte_setByte_other _ (by omega)]

/-- A word is its four bytes. -/
theorem Memory.four_bytes (w : Word) :
    w.extractLsb' 24 8 ++ w.extractLsb' 16 8 ++ w.extractLsb' 8 8 ++ w.extractLsb' 0 8 = w := by
  rw [BitVec.extractLsb'_append_extractLsb'_eq_extractLsb' (by omega),
    BitVec.extractLsb'_append_extractLsb'_eq_extractLsb' (by omega),
    BitVec.extractLsb'_append_extractLsb'_eq_extractLsb' (by omega)]
  exact BitVec.extractLsb'_eq_self

/-- A word read after a word write gives the word written. -/
theorem Memory.word_setWord {m : Mem} (h : Memory.wf m) (a : Nat) (w : Word) :
    Memory.word (Memory.setWord m a w) a = w := by
  have h1 := Memory.wf_setByte h a (w.extractLsb' 24 8)
  have h2 := Memory.wf_setByte h1 (a + 1) (w.extractLsb' 16 8)
  have h3 := Memory.wf_setByte h2 (a + 2) (w.extractLsb' 8 8)
  unfold Memory.word Memory.setWord
  rw [Memory.byte_setByte_other (c := a) _ (by omega), Memory.byte_setByte_other (c := a) _ (by omega),
    Memory.byte_setByte_other (c := a) _ (by omega), Memory.byte_setByte_same h,
    Memory.byte_setByte_other (c := a + 1) _ (by omega), Memory.byte_setByte_other (c := a + 1) _ (by omega),
    Memory.byte_setByte_same h1, Memory.byte_setByte_other (c := a + 2) _ (by omega),
    Memory.byte_setByte_same h2, Memory.byte_setByte_same h3]
  exact Memory.four_bytes w

/-! ### Registers -/

theorem State.regsWf_setReg {s : State} (h : s.regsWf) (a : Nat) (w : Word) : (s.setReg a w).regsWf := Sparse.wf_set h

theorem State.reg_setReg_same {s : State} (h : s.regsWf) (a : Nat) (w : Word) : (s.setReg a w).reg a = w :=
  Sparse.get_set_same h

theorem State.reg_setReg_other {s : State} {a c : Nat} (w : Word) (h : c ≠ a) : (s.setReg a w).reg c = s.reg c :=
  Sparse.get_set_other h

/-! ### Threads -/

@[simp] theorem State.th_setTh_same (s : State) (t : Tid) (x : Thread) : (s.setTh t x).th t = x :=
  vset_get_same s.threads t x

theorem State.th_setTh_other (s : State) {t u : Tid} (x : Thread) (h : u ≠ t) : (s.setTh t x).th u = s.th u :=
  vset_get_other s.threads x h

@[simp] theorem State.th_modTh_same (s : State) (t : Tid) (f : Thread → Thread) : (s.modTh t f).th t = f (s.th t) := by
  simp [State.modTh]

theorem State.th_modTh_other (s : State) {t u : Tid} (f : Thread → Thread) (h : u ≠ t) : (s.modTh t f).th u = s.th u :=
  s.th_setTh_other _ h

@[simp] theorem Thread.rg_zero (x : Thread) : x.rg 0 = 0 := by simp [Thread.rg]

theorem Thread.rg_setRg_same {x : Thread} {r : BitVec 4} (w : Word) (h : r ≠ 0) : (x.setRg r w).rg r = w := by
  unfold Thread.setRg Thread.rg
  rw [if_neg h, if_neg h]
  exact vset_get_same x.g r.toFin w

theorem Thread.rg_setRg_other {x : Thread} {r q : BitVec 4} (w : Word) (h : q ≠ r) : (x.setRg r w).rg q = x.rg q := by
  unfold Thread.setRg
  split
  · rfl
  · simp only [Thread.rg]
    split
    · rfl
    · exact vset_get_other _ _ fun e => h (by simpa using congrArg BitVec.ofFin e)

end Sys2Proof.Machine
end

