-- ==== Sys2Proof/Laws/MlAir.lean ====
section
/-!
SUPPORT. Words and bytes, CCM and the segments of the mains link: what is packed unpacks, what is enciphered deciphers, and
a segment that was formed passes its check and opens with its own key.
-/

namespace Sys2Proof.Machine

/-! ### Words and bytes -/

/-- The bits of four bytes side by side. -/
theorem join_getLsbD (a b c d : Byte) (i : Nat) : (a ++ b ++ c ++ d : Word).getLsbD i =
    if i < 8 then d.getLsbD i else if i < 16 then c.getLsbD (i - 8) else if i < 24 then b.getLsbD (i - 16) else a.getLsbD (i - 24) := by
  have h1 : (a ++ b ++ c ++ d : BitVec (8 + 8 + 8 + 8)).getLsbD i = _ := BitVec.getLsbD_append
  have h2 : (a ++ b ++ c : BitVec (8 + 8 + 8)).getLsbD (i - 8) = _ := BitVec.getLsbD_append
  have h3 : (a ++ b : BitVec (8 + 8)).getLsbD (i - 8 - 8) = _ := BitVec.getLsbD_append
  refine (h1.trans (by rw [h2, h3])).trans (?_ : (if i < 8 then d.getLsbD i else if i - 8 < 8 then c.getLsbD (i - 8) else
    if i - 8 - 8 < 8 then b.getLsbD (i - 8 - 8) else a.getLsbD (i - 8 - 8 - 8)) = _)
  simp only [Nat.sub_sub]
  repeat' split
  all_goals first | rfl | omega

@[simp] theorem wordBytes_join (a b c d : Byte) : wordBytes (a ++ b ++ c ++ d) = [a, b, c, d] := by
  simp only [wordBytes, List.cons.injEq, and_true]
  refine ⟨?_, ?_, ?_, ?_⟩ <;> ext i hi <;>
  rw [BitVec.getElem_extractLsb', join_getLsbD] <;> (repeat' split) <;> first | omega | simp [hi]

/-- The bytes of whole words come back from them. -/
theorem wordsBytes_packWords : ∀ bs : List Byte, 4 ∣ bs.length → wordsBytes (packWords bs) = bs
  | [], _ => rfl
  | [_], h => by simp at h
  | [_, _], h => by simp at h
  | [_, _, _], h => by simp at h
  | a :: b :: c :: d :: r, h => by
    have hr : 4 ∣ r.length := by simp only [List.length_cons] at h; omega
    have e := wordsBytes_packWords r hr
    simp only [wordsBytes] at e
    simp [packWords, wordsBytes, e]

theorem packWords_length : ∀ bs : List Byte, (packWords bs).length = (bs.length + 3) / 4
  | [] | [_] | [_, _] | [_, _, _] => by simp [packWords]
  | a :: b :: c :: d :: r => by
    have e := packWords_length r
    simp [packWords, e]; omega

/-- Whole words come back from their bytes. -/
theorem packWords_wordsBytes_append (bs : List Byte) : ∀ ws : List Word, packWords (wordsBytes ws ++ bs) = ws ++ packWords bs
  | [] => rfl
  | w :: ws => by
    have e := packWords_wordsBytes_append bs ws
    have j : w.extractLsb' 24 8 ++ w.extractLsb' 16 8 ++ w.extractLsb' 8 8 ++ w.extractLsb' 0 8 = w := by
      ext i hi
      rw [← BitVec.getLsbD_eq_getElem hi, ← BitVec.getLsbD_eq_getElem hi]
      refine (join_getLsbD _ _ _ _ i).trans ?_
      repeat' split
      all_goals simp only [BitVec.getLsbD_extractLsb']
      · simp [*]
      · simp [show i - 8 < 8 by omega, show 8 + (i - 8) = i by omega]
      · simp [show i - 16 < 8 by omega, show 16 + (i - 16) = i by omega]
      · simp [show i - 24 < 8 by omega, show 24 + (i - 24) = i by omega]
    simp only [wordsBytes] at e
    simp [wordsBytes, wordBytes, packWords, e]; exact j

/-- Bytes of whole words are packed before what follows. -/
theorem packWords_append : ∀ as bs : List Byte, 4 ∣ as.length → packWords (as ++ bs) = packWords as ++ packWords bs
  | [], _, _ => rfl
  | [_], _, h | [_, _], _, h | [_, _, _], _, h => by simp at h
  | a :: b :: c :: d :: r, bs, h => by
    have hr : 4 ∣ r.length := by simp only [List.length_cons] at h; omega
    simp [packWords, packWords_append r bs hr]

@[simp] theorem fill_length {α : Type} (n : Nat) (z : α) (l : List α) : (fill n z l).length = n := by
  simp [fill]

/-- Filling keeps what there is. -/
theorem fill_take {α : Type} (n m : Nat) (z : α) (l : List α) (h : m ≤ l.length) (hn : m ≤ n) : (fill n z l).take m = l.take m := by
  rw [fill, List.take_take, Nat.min_eq_left hn, List.take_append_of_le_length h]

/-! ### CCM (R247, R311) -/

@[simp] theorem ccmCrypt_length (k : BitVec 128) (n : BitVec 104) (m : List Byte) : (ccmCrypt k n m).length = m.length := by
  simp [ccmCrypt]

/-- Enciphering twice gives the message back. -/
@[simp] theorem ccmCrypt_ccmCrypt (k : BitVec 128) (n : BitVec 104) (m : List Byte) : ccmCrypt k n (ccmCrypt k n m) = m := by
  apply List.ext_getElem <;> simp [ccmCrypt]

/-- A message enciphered opens with its key, nonce and associated data. -/
theorem ccmOpen_ccmCrypt (k : BitVec 128) (n : BitVec 104) (aad m : List Byte) :
    ccmOpen k n aad (ccmCrypt k n m) (ccmMic k n aad m) = some m := by simp [ccmOpen]

/-! ### Segments (R234, R247) -/

/-- A CRC-32 put behind words holds. -/
theorem crcLastOk_close (ws : List Word) : crcLastOk (segClose ws) = true := by simp [crcLastOk, segClose]

theorem segCrcOk_close (ws : List Word) (h : ws.length = 127) : segCrcOk (segClose ws) = true := by
  simp [segCrcOk, crcLastOk_close]; simp [segClose, h]

theorem segPlain_eq (h : Word) (body : List Byte) :
    segPlain h body = segClose (h :: packWords (fill 504 0 body)) := rfl

/-- A segment formed in the clear passes its check. -/
@[simp] theorem segCrcOk_segPlain (h : Word) (body : List Byte) : segCrcOk (segPlain h body) = true :=
  segCrcOk_close _ (by simp [packWords_length])

/-- A secured segment passes its check. -/
@[simp] theorem segCrcOk_segSecured (k : BitVec 128) (n : BitVec 104) (h : Word) (body : List Byte) :
    segCrcOk (segSecured k n h body) = true :=
  segCrcOk_close _ (by simp [packWords_length, bigWords])

@[simp] theorem segPlain_head (h : Word) (body : List Byte) : (segPlain h body).headD 0 = h := rfl
@[simp] theorem segSecured_head (k : BitVec 128) (n : BitVec 104) (h : Word) (body : List Byte) :
    (segSecured k n h body).headD 0 = h := rfl

/-- The body of a segment formed in the clear. -/
@[simp] theorem segBody_segPlain (h : Word) (body : List Byte) : segBody (segPlain h body) = fill 504 0 body := by
  have e : (packWords (fill 504 (0 : Byte) body)).length = 126 := by simp [packWords_length]
  rw [segBody, segPlain_eq, segClose, List.cons_append, List.drop_succ_cons, List.drop_zero,
    List.take_left' e, wordsBytes_packWords _ (by simp)]

theorem big_two (x : BitVec 64) : bigWords 2 x = [x.extractLsb' 32 32, x.extractLsb' 0 32] := rfl

@[simp] theorem join_two (x : BitVec 64) : x.extractLsb' 32 32 ++ x.extractLsb' 0 32 = x := by
  ext i hi
  have h : (x.extractLsb' 32 32 ++ x.extractLsb' 0 32 : BitVec (32 + 32)).getLsbD i = _ := BitVec.getLsbD_append
  rw [← BitVec.getLsbD_eq_getElem hi, ← BitVec.getLsbD_eq_getElem hi]
  refine h.trans ?_
  split
  · simp [*]
  · simp [show i - 32 < 32 by omega, show 32 + (i - 32) = i by omega]

/-- A MIC that stands in clear behind 484 bytes is read where R241 has it, and covers those bytes. -/
theorem segPlain_mic (h : Word) (body : List Byte) (hb : body.length = 484) (mic : BitVec 64) :
    let seg := segPlain h (body ++ wordsBytes (bigWords 2 mic))
    (segBody seg).take 484 = body ∧ seg.getD 122 0 ++ seg.getD 123 0 = mic := by
  refine ⟨?_, ?_⟩
  · rw [segBody_segPlain, fill_take _ _ _ _ (by simp [hb]) (by omega), List.take_left' hb]
  · have f : fill 504 (0 : Byte) (body ++ wordsBytes (bigWords 2 mic)) = body ++ (wordsBytes (bigWords 2 mic) ++ List.replicate 12 0) := by
      have l : (wordsBytes (bigWords 2 mic)).length = 8 := rfl
      rw [fill, List.append_assoc, List.take_append, hb, List.take_of_length_le (by omega), List.take_append, l,
        List.take_of_length_le (by omega)]
      congr 2
    have e : (packWords body).length = 121 := by simp [packWords_length, hb]
    have g : ∀ (i : Nat) (ws : List Word), (packWords body ++ ws)[121 + i]?.getD 0 = ws[i]?.getD 0 := fun i ws => by
      rw [List.getElem?_append_right (by omega), e, Nat.add_sub_cancel_left]
    rw [segPlain_eq, f, packWords_append _ _ (by omega), packWords_wordsBytes_append, big_two]
    have a := g 0
    have b := g 1
    simp only [segClose, List.getD_eq_getElem?_getD, List.cons_append, List.getElem?_cons_succ, List.append_assoc]
    rw [a, b]
    exact join_two mic

/-- A secured segment opens with its own key and nonce (R247). -/
theorem segOpen_segSecured (k : BitVec 128) (n : BitVec 104) (h : Word) (body : List Byte) :
    segOpen k n (segSecured k n h body) = some (fill 496 0 body) := by
  have e : (packWords (ccmCrypt k n (fill 496 (0 : Byte) body))).length = 124 := by simp [packWords_length]
  have t : (((segSecured k n h body).drop 1).take 124) = packWords (ccmCrypt k n (fill 496 0 body)) := by
    rw [segSecured, segClose, List.cons_append, List.cons_append, List.drop_succ_cons, List.drop_zero, List.append_assoc,
      List.take_left' e]
  have m : segMic (segSecured k n h body) = ccmMic k n (wordBytes h) (fill 496 0 body) := by
    simp [segMic, segSecured, segClose, big_two, packWords_length]
  rw [segOpen, t, m, segSecured_head, wordsBytes_packWords _ (by simp), ccmOpen_ccmCrypt]

/-! ### Beacons (R241) -/

theorem bytesNat_take (bs : List Byte) (i n : Nat) (h : i + n ≤ 484) : bytesNat (bs.take 484) i n = bytesNat bs i n := by
  rw [bytesNat, bytesNat, List.drop_take, List.take_take, Nat.min_eq_left (by omega)]

theorem byte_take (bs : List Byte) (i : Nat) (h : i < 484) : (bs.take 484).getD i 0 = bs.getD i 0 := by
  simp [List.getD_eq_getElem?_getD, h]

/-- A beacon stands in the 484 bytes that its MIC covers. -/
theorem beaconOf_take (bs : List Byte) : beaconOf (bs.take 484) = beaconOf bs := by
  have f : ∀ k ∈ List.range (min 32 (bs.getD 18 0).toNat), k < 32 := fun k hk => by
    have := List.mem_range.mp hk; omega
  simp (disch := omega) only [beaconOf, bytesNat_take, byte_take]
  congr 1
  refine List.map_congr_left fun k hk => ?_
  have := f k hk
  simp (disch := omega) only [bytesNat_take, byte_take]

/-! ### Receiving (R243 to R245) -/

/-- With the next segment first in a frame, none is given up. -/
@[simp] theorem State.rxGiveUp_none (s : State) (x : MlRxLink) (n : Nat) : s.rxGiveUp x x.next n = (s, x) := by
  cases n <;> simp [State.rxGiveUp]

/-- A management frame of one segment, the next of its link, gives the message that the segment holds. -/
theorem State.mgmtTake_one {s : State} {clear : Bool} {f : MlFrame} {seg : List Word} {x y z : MlRxLink} {body : List Byte} {m}
    (hs : f.segs = [seg]) (hx : s.rxLink f.fc 0 = (x, s))
    (hq : segSeq seg = fcSeq f.fc) (hp : x.pnOf (fcSeq f.fc) = x.next) (hc : segCrcOk seg = true) (hn : x.placed x.next = false)
    (ho : (if clear then some (segBody seg) else mlOpen x.src (fcDst f.fc) 0 x.next seg (s.mlKeys x.src x.bc)) = some body)
    (hy : y = x.place x.next 63 ((bodyWords body (segWords seg)).map rword) s.ticks) (hm : s.takeMsg y 128 = (z, m)) :
    s.mgmtTake clear f = ((s.setRxLink z).oweSack f (y.sackBits x.next), m) := by
  have hr : s.msgRxSegs x clear (fcDst f.fc) [seg] = (s, y) := by
    simp only [State.msgRxSegs, State.msgRxSeg, hq, hp, hc, hn, Nat.lt_irrefl, decide_false, Bool.not_true, Bool.or_self,
      Bool.false_eq_true, if_false, ho, hy]
  rw [State.mgmtTake, hx, hs]
  simp only [hp, State.rxGiveUp_none, hr, hm]

end Sys2Proof.Machine
end

