-- ==== Sys2Proof/Laws/Ops.lean ====
section
/-!
SUPPORT. What each shared operation of a thread can do, said once: the issue slot, the outcomes of an instruction, trap
entry and the fault record.
-/

namespace Sys2Proof.Machine

/-! ### Words and fields -/

theorem bits_lt (w : Word) (lo n : Nat) : bits w lo n < 2 ^ n := Nat.mod_lt _ (Nat.two_pow_pos n)

/-! ### The issue slot -/

/-- A slot that issues runs the body of its instruction. -/
theorem State.issue_eq {s : State} {i : Issue} (h : s.issues i) (ins : Instr) (body : State → IssueRes) :
    s.issue i ins body = (s.touched i.thread).settle i.thread ins (body (s.touched i.thread)) := by
  obtain ⟨hr, hs, hx⟩ := h
  unfold State.issue
  simp only [hr, ne_eq, not_true_eq_false, if_false]
  rw [if_neg, if_neg, if_neg, if_neg]
  · intro hc
    simp only [Bool.and_eq_true] at hc
    simp [(hx hc.1).2.2] at hc
  · intro hc
    simp only [Bool.and_eq_true] at hc
    have := (hx hc.1).2.1
    simp [Option.isSome_iff_ne_none] at this
    exact this (Option.isNone_iff_eq_none.mp hc.2)
  · intro hc
    simp only [Bool.and_eq_true] at hc
    simp [(hx hc.1).1] at hc
  · intro hc
    simp only [Bool.and_eq_true, Bool.or_eq_true, decide_eq_true_eq] at hc
    have := hs hc.1
    simp [this.1, this.2] at hc

/-- A thread that is not in Run leaves its slot empty (R20). -/
theorem State.issue_idle {s : State} {i : Issue} (h : (s.th i.thread).st ≠ .run) (ins : Instr) (body : State → IssueRes) :
    s.issue i ins body = s := by
  unfold State.issue
  simp [h]

@[simp] theorem State.settle_done (s t' : State) (t : Tid) (ins : Instr) : s.settle t ins (.done t') = t' := rfl

@[simp] theorem State.settle_th (s s' : State) (t : Tid) (ins : Instr) (f : Thread → Thread) :
    s.settle t ins (.th s' t f) = s'.setTh t (f (s'.th t)) := rfl

@[simp] theorem State.settle_wait (s : State) (t : Tid) (ins : Instr) (code : BitVec 4) (dl : Option Nat) :
    s.settle t ins (.wait code dl) = s.enterWait t ins code dl none := rfl

@[simp] theorem State.settle_trap (s s' : State) (t : Tid) (ins : Instr) (cause arg : Nat) (a : Option Word) :
    s.settle t ins (.trap s' cause arg a) = s'.takeTrap t cause arg (s'.th t).pc a := rfl

/-- An instruction whose body changes its thread alone completes so. -/
theorem State.issue_th {s : State} {i : Issue} (h : s.issues i) (ins : Instr) {body : State → IssueRes}
    {f : Thread → Thread} (hb : body (s.touched i.thread) = .th (s.touched i.thread) i.thread f) :
    s.issue i ins body = (s.touched i.thread).setTh i.thread (f (s.th i.thread)) := by
  rw [State.issue_eq h, hb, State.settle_th, State.touched_th_acc]

/-! ### Threads -/

theorem vset_self {α : Type} {n : Nat} (v : Vector α n) (i : Fin n) : vset v i v[i] = v := by
  simp [vset]

@[simp] theorem State.setTh_self (s : State) (t : Tid) : s.setTh t (s.th t) = s := by
  unfold State.setTh State.th
  rw [vset_self]

@[simp] theorem State.setTh_setTh (s : State) (t : Tid) (x y : Thread) : (s.setTh t x).setTh t y = s.setTh t y := by
  simp [State.setTh, vset]

@[simp] theorem Thread.setRg_pc (x : Thread) (r : BitVec 4) (w : Word) : (x.setRg r w).pc = x.pc := by
  unfold Thread.setRg; split <;> rfl

/-- A register write changes the register file alone. -/
theorem Thread.setRg_eq (x : Thread) (r : BitVec 4) (w : Word) : x.setRg r w = { x with g := (x.setRg r w).g } := by
  unfold Thread.setRg; split <;> rfl

/-- Every register after a write of one: a write of g0 is discarded (R21). -/
theorem Thread.rg_setRg (x : Thread) (r q : BitVec 4) (w : Word) :
    (x.setRg r w).rg q = if q = r ∧ q ≠ 0 then w else x.rg q := by
  by_cases hq : q = r
  · subst hq
    by_cases h0 : q = 0
    · rw [if_neg fun h => h.2 h0]
      unfold Thread.setRg
      rw [if_pos h0]
    · rw [if_pos ⟨rfl, h0⟩, Thread.rg_setRg_same w h0]
  · rw [if_neg fun h => hq h.1, Thread.rg_setRg_other w hq]

/-! ### Events and faults -/

/-- A source raises its event in one thread, or in none; nothing else changes (R47). -/
theorem State.raiseRouted_only (s : State) (w : Word) :
    s.raiseRouted w = { s with threads := (s.raiseRouted w).threads } := by
  unfold State.raiseRouted; split <;> rfl

/-- Noting when a wait was met changes that mark alone. -/
theorem Thread.noteMet_only (now : Nat) (x : Thread) : ∃ m, x.noteMet now = { x with met := m } := by
  unfold Thread.noteMet
  split
  · exact ⟨_, rfl⟩
  · exact ⟨_, rfl⟩

theorem Thread.noteMet_event (now : Nat) (x : Thread) (e : Word) :
    ∃ e' m, ({ x with event := e } : Thread).noteMet now = { x with event := e', met := m } := by
  obtain ⟨m, h⟩ := Thread.noteMet_only now { x with event := e }
  exact ⟨e, m, h⟩

/-- It wakes at most what waits there: the thread's event register and the mark of a wait that was met change. -/
theorem State.raiseRouted_th (s : State) (w : Word) (u : Tid) :
    ∃ e m, (s.raiseRouted w).th u = { s.th u with event := e, met := m } := by
  unfold State.raiseRouted
  split
  · unfold State.hwEvent State.setEvents
    by_cases h : u = evtThread w
    · subst h; rw [State.th_modTh_same]; exact Thread.noteMet_event _ _ _
    · rw [State.th_modTh_other _ _ h]; exact ⟨_, _, rfl⟩
  · exact ⟨_, _, rfl⟩

/-- A register write keeps the canonical form, whatever the write. -/
theorem State.regsWf_setFld {s : State} (h : s.regsWf) (a lo n v : Nat) : (s.setFld a lo n v).regsWf := Sparse.wf_set h

theorem State.regsWf_setFlag {s : State} (h : s.regsWf) (a i : Nat) : (s.setFlag a i).regsWf := Sparse.wf_set h

theorem State.regsWf_countFld {s : State} (h : s.regsWf) (a lo n k : Nat) : (s.countFld a lo n k).regsWf := Sparse.wf_set h

theorem State.regsWf_raiseRouted {s : State} (h : s.regsWf) (w : Word) : (s.raiseRouted w).regsWf := by
  unfold State.regsWf; rw [State.raiseRouted_regs]; exact h

theorem State.reg_setFlag_same {s : State} (h : s.regsWf) (a i : Nat) : (s.setFlag a i).reg a = s.reg a ||| flagW i true :=
  State.reg_setReg_same h _ _

theorem State.reg_setFlag_other (s : State) {a i c : Nat} (h : c ≠ a) : (s.setFlag a i).reg c = s.reg c :=
  State.reg_setReg_other _ h

theorem State.reg_setFld_same {s : State} (h : s.regsWf) (a lo n v : Nat) :
    (s.setFld a lo n v).reg a = withBits (s.reg a) lo n v := State.reg_setReg_same h _ _

theorem State.reg_setFld_other (s : State) {a lo n v c : Nat} (h : c ≠ a) : (s.setFld a lo n v).reg c = s.reg c :=
  State.reg_setReg_other _ h

theorem State.reg_countFld_same {s : State} (h : s.regsWf) (a lo n k : Nat) :
    (s.countFld a lo n k).reg a = withBits (s.reg a) lo n (min (s.fld a lo n + k) (2 ^ n - 1)) :=
  State.reg_setReg_same h _ _

theorem State.reg_countFld_other (s : State) {a lo n k c : Nat} (h : c ≠ a) : (s.countFld a lo n k).reg c = s.reg c :=
  State.reg_setReg_other _ h

theorem State.fault_th (s : State) (cls source detail : Nat) (u : Tid) :
    ∃ e m, (s.fault cls source detail).th u = { s.th u with event := e, met := m } := by
  have := State.raiseRouted_th (((s.logFault cls source detail s.tbLo).setFlag FLT_STATUS cls).countFld (FLT_CNT cls) 0 16 1)
    ((((s.logFault cls source detail s.tbLo).setFlag FLT_STATUS cls).countFld (FLT_CNT cls) 0 16 1).reg FLT_EVT) u
  simp only [State.countFld_th_acc, State.setFlag_th_acc, State.logFault_th_acc] at this
  exact this

theorem State.regsWf_logFault {s : State} (h : s.regsWf) (cls source detail : Nat) (tb : Word) :
    (s.logFault cls source detail tb).regsWf := by
  unfold State.logFault
  dsimp only
  refine State.regsWf_setFld (State.regsWf_setFld (State.regsWf_setReg (State.regsWf_setReg ?_ _ _) _ _) _ _ _ _) _ _ _ _
  split
  · exact State.regsWf_countFld h _ _ _ _
  · exact h

theorem State.regsWf_fault {s : State} (h : s.regsWf) (cls source detail : Nat) : (s.fault cls source detail).regsWf :=
  State.regsWf_raiseRouted (State.regsWf_countFld (State.regsWf_setFlag (State.regsWf_logFault h _ _ _ _) _ _) _ _ _ _) _

/-- The sticky bit of the class is set (R327). -/
theorem State.fault_status {s : State} (h : s.regsWf) (cls source detail : Nat) :
    (s.fault cls source detail).reg FLT_STATUS =
      (s.logFault cls source detail s.tbLo).reg FLT_STATUS ||| flagW cls true := by
  unfold State.fault State.noteFault
  dsimp only
  rw [State.raiseRouted_reg_acc, State.reg_countFld_other _ (by unfold FLT_STATUS FLT_CNT; omega),
    State.reg_setFlag_same (State.regsWf_logFault h _ _ _ _)]

end Sys2Proof.Machine
end

