-- ==== Sys2Proof/WellFormed.lean ====
section
/-!
DEFINITION. Well-formed commands: operands the spec can put on a bus, a line or an antenna. `exec` gives every
command a meaning, well-formed or not; the checks say which operands the outside world can supply.
-/

namespace Sys2Proof

/-- A host frame carries at most 4,095 body words (R205). -/
def frameOk (f : HostFrame) : Bool := decide (f.body.length ≤ 4095)

/-- A scan has one sample at most for each port (R152). -/
def scanOk (xs : List WatchSample) : Bool := decide ((xs.map (·.port)).Nodup)

/-- An HF reply has a bit at least, and its first collided bit lies in it. -/
def hfReplyOk (r : HfReply) : Bool := !r.bits.isEmpty && r.coll.all fun i => decide (i < r.bits.length)

/-- Powers of the 982 carriers of the mains link, or of none (R230). -/
def levelOk (ws : List Nat) : Bool := ws.isEmpty || ws.length == 982

/-- A mains frame carries at most 48 segments of 512 bytes (R234, R235). -/
def mlFrameOk (f : MlFrame) : Bool :=
  levelOk f.level && decide (f.segs.length ≤ 48) && f.segs.all fun g => g.length == 128

/-- The checks on a command's operands. -/
def Instr.wf (c : Instr) : Bool :=
  match c with
  | .add _ _ => true
  | .sub _ _ => true
  | .and _ _ => true
  | .or _ _ => true
  | .xor _ _ => true
  | .shl _ _ => true
  | .shr _ _ => true
  | .sar _ _ => true
  | .mul _ _ => true
  | .min _ _ => true
  | .max _ _ => true
  | .cmp _ _ => true
  | .addi _ _ => true
  | .andi _ _ => true
  | .ori _ _ => true
  | .lui _ _ => true
  | .ld _ _ => true
  | .st _ _ => true
  | .ldio _ _ => true
  | .stio _ _ => true
  | .b _ _ => true
  | .call _ _ => true
  | .ret _ _ => true
  | .air _ _ => true
  | .waitk _ _ => true
  | .testk _ _ => true
  | .waitany _ _ => true
  | .canck _ _ => true
  | .push _ _ => true
  | .pop _ _ => true
  | .crcw _ _ => true
  | .crcf _ _ => true
  | .tbr _ _ => true
  | .sleepu _ _ => true
  | .evw _ _ => true
  | .evs _ _ => true
  | .halt _ _ => true
  | .trap _ _ => true
  | .nop _ _ => true
  | .waitConditionMet _ _ => true
  | .sleepuExpiry _ => true
  | .waitanyTimeout _ => true
  | .evwTimeout _ => true
  | .threadReset _ _ => true
  | .threadHalt _ _ => true
  | .threadStart _ _ => true
  | .evsetWrite _ _ => true
  | .semaphoreRead _ => true
  | .semaphoreRelease _ => true
  | .registerWrite _ addr _ => decide (addr.toNat < 0x130000)
  | .refetchLineRewritten _ data _ => data.length == 8 || data.length == 1024
  | .startTimeReached _ => true
  | .operationDispatch _ => true
  | .operationExpiry _ => true
  | .cancelall _ => true
  | .heldItemWritten _ => true
  | .uSelect _ => true
  | .uRound _ => true
  | .uAccess _ => true
  | .uRaw _ => true
  | .hField _ => true
  | .hActivate _ => true
  | .hFrame _ _ => true
  | .hWatch _ => true
  | .cListen _ => true
  | .cSend _ _ => true
  | .sFix _ => true
  | .kCalCnc _ => true
  | .kCalIqr _ => true
  | .kCalDpd _ => true
  | .kCalPph _ => true
  | .kCalLbt _ => true
  | .kCalHdi _ => true
  | .kCalHro _ => true
  | .kCalMag _ => true
  | .kCalTsn _ => true
  | .calPreconditionsEnd _ _ => true
  | .spareSwitch _ => true
  | .calMeasurementEnd _ _ => true
  | .trimApplyStep => true
  | .calNvWriteDone _ => true
  | .temperatureRecompute => true
  | .carrierSettled _ _ => true
  | .holdoverExpiry _ => true
  | .lbtListenEnd _ _ => true
  | .replyPreambleDetected _ _ _ => true
  | .noReplyDecision _ _ => true
  | .collisionDecision _ _ _ => true
  | .replyEnd _ _ r => decide (r.bits.length ≤ 4095)
  | .dwellBoundary _ _ => true
  | .meterResume _ => true
  | .solveComplete _ _ => true
  | .uhfPortFault _ _ => true
  | .uhfFaultProbe _ _ => true
  | .uhfFaultClear _ _ => true
  | .uhfPortDisable _ _ => true
  | .cancellerTrimStep _ _ _ _ => true
  | .agcStepDown _ _ => true
  | .agcStepUp _ _ _ _ => true
  | .agcOverloadStep _ _ => true
  | .agcUnfreeze _ => true
  | .hfReplyReceived _ _ r => hfReplyOk r
  | .hfReplyWindowClose _ => true
  | .hfFieldSettled _ => true
  | .hfWatchScan _ xs => scanOk xs
  | .watchStateScan xs => scanOk xs
  | .rebase _ => true
  | .hfPortFault _ _ => true
  | .hfFaultProbe _ _ => true
  | .hfFaultClear _ _ => true
  | .chirpDetection _ _ _ _ _ _ => true
  | .reanchor _ _ _ => true
  | .headerVerdict _ _ => true
  | .preempted _ _ _ _ => true
  | .payloadVerdict _ _ bytes _ => decide (bytes.length ≤ 257)
  | .listenWindowClose _ => true
  | .cSendClaim _ => true
  | .cSendFrameEnd _ => true
  | .dutyBucketRoll => true
  | .ringEnable _ _ => true
  | .ringDisable _ _ => true
  | .flush _ _ => true
  | .ringPointerReset _ => true
  | .transferRequest _ => true
  | .transferMove _ _ => true
  | .egressDecision _ => true
  | .shaperRefill => true
  | .deficitReplenish => true
  | .meterColourChange _ _ => true
  | .meterEnable _ _ => true
  | .ingressMeterEnable _ _ => true
  | .latencySample => true
  | .snap _ => true
  | .clear _ => true
  | .regrd f => frameOk f
  | .regwr f => frameOk f
  | .ringwr f => frameOk f
  | .ringrd f => frameOk f
  | .resend f => frameOk f
  | .stop f => frameOk f
  | .enclave f => frameOk f
  | .enclaveFetch f => frameOk f
  | .load f => frameOk f
  | .loadRepair f => frameOk f
  | .noframe _ => true
  | .truncated _ _ => true
  | .splitFrameTimeout => true
  | .hostSilentTimeout => true
  | .xipLineFill _ flash => flash.length == 8
  | .inval _ => true
  | .msDcmdGo _ => true
  | .directCommandDone _ => true
  | .psQentWrite _ => true
  | .pspWordDone _ => true
  | .contbrk => true
  | .psRxRead => true
  | .psFlush _ => true
  | .zcEdge _ => true
  | .zcLost => true
  | .cycleStart => true
  | .backoffExpiry _ => true
  | .mlFrameTransmit _ _ => true
  | .beacon _ f => mlFrameOk f
  | .dataFrame _ f => mlFrameOk f
  | .sack _ f => mlFrameOk f
  | .sackMissing => true
  | .sounding _ f => mlFrameOk f
  | .segmentGiveUp _ _ _ => true
  | .assocReq _ f => mlFrameOk f
  | .assocRsp _ f => mlFrameOk f
  | .assocConf _ f => mlFrameOk f
  | .tmap _ f => mlFrameOk f
  | .soundReq _ f => mlFrameOk f
  | .allocReq _ f => mlFrameOk f
  | .key _ f => mlFrameOk f
  | .pairReq _ f => mlFrameOk f
  | .pairRsp _ f => mlFrameOk f
  | .pairConf _ f => mlFrameOk f
  | .leave _ f => mlFrameOk f
  | .mlAdmitWrite _ => true
  | .associationTimeout _ => true
  | .tmapPeriodExpiry _ => true
  | .controlFrame _ f => mlFrameOk f
  | .beaconMissed => true
  | .beaconLoss10s => true
  | .lineShort => true
  | .lineOpen => true
  | .referenceQualified _ => true
  | .refloss => true
  | .mpllLocked => true
  | .mpllUnlock => true
  | .mpllSettleDone => true
  | .relockslow => true
  | .loUnlock _ => true
  | .loRelockEnd _ _ _ _ _ => true
  | .loStepEnd _ _ _ => true
  | .epochTick => true
  | .epochiEdge _ => true
  | .epochlost => true
  | .realign _ => true
  | .clkoutConfig _ _ => true
  | .arm _ => true
  | .timerWrap _ => true
  | .compareMatch _ _ => true
  | .captureEdge _ _ _ _ => true
  | .swcap _ _ => true
  | .timerClr _ _ => true
  | .check _ _ => true
  | .initnow _ _ => true
  | .ccStateRestore _ _ => true
  | .poweron => true
  | .resetn => true
  | .brownout => true
  | .softwareReset _ => true
  | .debugReset => true
  | .debugHalt _ => true
  | .bootImageReady image => decide (image.length ≤ 65560 ∧ image.length % 8 = 0)
  | .ready _ => true
  | .powerReqRun => true
  | .powerReqIdle => true
  | .powerReqWatch => true
  | .powerReqHibernate => true
  | .powerReqHibernateClocked => true
  | .powerStateEntry => true
  | .wake => true
  | .acokWake => true
  | .wakeCounterExpiry => true
  | .hkAdcSequence xs => xs.length == 16
  | .railWarning _ _ => true
  | .acokLossConfirmed => true
  | .acokRestoreConfirmed => true
  | .shedLevelEntry => true
  | .shedRestore => true
  | .discard _ => true
  | .go _ _ => true
  | .done _ _ => true
  | .getCert => true
  | .sign => true
  | .getProfile => true
  | .change _ => true
  | .imageSig => true
  | .mailboxResponseReady => true
  | .mailboxResponseDiscard => true
  | .profileCommit => true
  | .residueMismatch _ => true
  | .recomputationDone _ _ => true
  | .iopad source _ => decide (source.toNat ≤ 11 ∨ (16 ≤ source.toNat ∧ source.toNat ≤ 31) ∨ source.toNat = 36)
  | .resetRelease _ => true
  | .identifierEnd _ _ _ _ _ _ => true
  | .tunewarn _ _ => true
  | .silentWindow noise => levelOk noise
  | .replyCap _ => true

/-- A command that passes every check. -/
abbrev WellFormed (c : Instr) : Prop := c.wf = true

end Sys2Proof
end

