-- ==== Sys2Proof/Tests/Slice0.lean ====
section
/-!
SUPPORT. Tests: the checks of WellFormed, words written out from the encodings of the spec, single steps with the
values the spec gives, and, for each statement, concrete states and operands that meet its hypotheses.
-/

open Sys2Proof Sys2Proof.Machine

namespace Sys2Proof.Tests

-- Each proof is checked before the next is begun.
set_option Elab.async false

/-! ### An ill-formed command for every check -/

theorem test_wf_register_address : (Instr.registerWrite .host 0x12FFFC 0).wf = true ∧
    (Instr.registerWrite .host 0x130000 0).wf = false := by decide
theorem test_wf_line_of_eight_words : (Instr.refetchLineRewritten 0 (List.replicate 8 0) false).wf = true ∧
    (Instr.refetchLineRewritten 0 (List.replicate 1024 0) false).wf = true ∧
    (Instr.refetchLineRewritten 0 (List.replicate 7 0) false).wf = false ∧
    (Instr.xipLineFill 0 (List.replicate 8 0)).wf = true ∧ (Instr.xipLineFill 0 (List.replicate 9 0)).wf = false := by decide +kernel
/-- A reply of `n` bits. -/
def bitsReply (n : Nat) : ReplyData := { bits := List.replicate n true }

theorem test_wf_backscatter_reply : (Instr.replyEnd ⟨0, 0⟩ 0 (bitsReply 16)).wf = true ∧
    (Instr.replyEnd ⟨0, 0⟩ 0 (bitsReply 4096)).wf = false := by
  simp only [Instr.wf, bitsReply, List.length_replicate]; decide

/-- An HF reply of `n` bits with a collision in one of them. -/
def cardReply (n : Nat) (coll : Option Nat) : HfReply := { bits := List.replicate n true, coll := coll, det := 100, sof := 10 }

theorem test_wf_hf_reply : (Instr.hfReplyReceived ⟨0, 0⟩ 0 (cardReply 18 (some 17))).wf = true ∧
    (Instr.hfReplyReceived ⟨0, 0⟩ 0 (cardReply 18 (some 18))).wf = false ∧
    (Instr.hfReplyReceived ⟨0, 0⟩ 0 (cardReply 0 none)).wf = false := by decide
theorem test_wf_scan : (Instr.watchStateScan [⟨1, 0, 0, 0⟩, ⟨2, 0, 0, 0⟩]).wf = true ∧
    (Instr.watchStateScan [⟨1, 0, 0, 0⟩, ⟨1, 0, 0, 0⟩]).wf = false ∧
    (Instr.hfWatchScan ⟨0, 0⟩ [⟨1, 0, 0, 0⟩, ⟨1, 0, 0, 0⟩]).wf = false := by decide
theorem test_wf_chirp_payload : (Instr.payloadVerdict 0 0 (List.replicate 257 0) false).wf = true ∧
    (Instr.payloadVerdict 0 0 (List.replicate 258 0) false).wf = false := by
  simp only [Instr.wf, List.length_replicate]; decide

/-- A host frame with a body of `n` words of 0. -/
def longFrame (n : Nat) : HostFrame := { alive := 1, flags := 0, body := List.replicate n 0, crc := 0 }

theorem test_wf_host_frame : (Instr.regrd (longFrame 4095)).wf = true ∧ (Instr.regrd (longFrame 4096)).wf = false ∧
    (Instr.load (longFrame 4096)).wf = false := by
  simp only [Instr.wf, frameOk, longFrame, List.length_replicate]; decide

/-- A mains frame of `g` segments of `n` words. -/
def segsFrame (g n : Nat) : MlFrame := ⟨0, false, [], List.replicate g (List.replicate n 0)⟩

theorem test_wf_mains_frame : (Instr.assocReq 0 (segsFrame 1 128)).wf = true ∧ (Instr.assocReq 0 (segsFrame 1 127)).wf = false ∧
    (Instr.dataFrame 0 (segsFrame 49 128)).wf = false ∧ (Instr.beacon 0 ⟨0, false, List.replicate 981 0, []⟩).wf = false := by
  decide +kernel
theorem test_wf_silent_window : (Instr.silentWindow (List.replicate 982 5)).wf = true ∧
    (Instr.silentWindow (List.replicate 983 5)).wf = false := by decide +kernel
theorem test_wf_boot_image : (Instr.bootImageReady (List.replicate 16 0)).wf = true ∧
    (Instr.bootImageReady (List.replicate 65568 0)).wf = false ∧ (Instr.bootImageReady [0]).wf = false := by
  simp only [Instr.wf, List.length_replicate]; decide
theorem test_wf_housekeeping_channels : (Instr.hkAdcSequence (List.replicate 16 0)).wf = true ∧
    (Instr.hkAdcSequence (List.replicate 15 0)).wf = false := by decide
theorem test_wf_pad_sources : (Instr.iopad 11 true).wf = true ∧ (Instr.iopad 12 true).wf = false ∧
    (Instr.iopad 36 true).wf = true ∧ (Instr.iopad 35 true).wf = false := by decide

/-! ### Words of the spec's encodings -/

/-- Thread 0's issue slot. -/
def slot0 : Issue := { thread := 0 }

-- R31, R34: op [31:26], rd [25:22], ra [21:18], imm [17:0]; ADDI g3, g0, 0x100 is 0x10, 3, 0, 0x100.
theorem test_word_addi : decodeBenlon slot0 0b010000_0011_0000_000000000100000000#32 =
    some (.addi slot0 { rd := 3, ra := 0, imm := 0x100 }) := by decide
-- B.NE by -5 words: op 0x20, cond 2, off22.
theorem test_word_branch : decodeBenlon slot0 0b100000_0010_1111111111111111111011#32 =
    some (.b slot0 { cond := 2, off := 0x3FFFFB }) := by decide
-- WAITK k0, g5: op 0x29, rd the slot, ra the register.
theorem test_word_waitk : decodeBenlon slot0 0b101001_0000_0101_000000000000000000#32 =
    some (.waitk slot0 { rd := 0, ra := 5, imm := 0 }) := by decide
-- SUB g1, g2, g3: format A with rb [17:14] and fn 0.
theorem test_word_sub : decodeBenlon slot0 0b000010_0001_0010_0011_00000000000000#32 =
    some (.sub slot0 { rd := 1, ra := 2, rb := 3, fn := 0 }) := by decide
theorem test_word_unlisted : decodeBenlon slot0 0b111111_0000_0000_000000000000000000#32 = none ∧
    decodeBenlon slot0 0 = none := by decide
-- R205: type [31:28], alive [27:20], body words [19:8], flags [7:0].
theorem test_word_frame_header : frameHeader 1 { alive := 1, flags := 0, body := [0, 0], crc := 0 } = 0x10100200 := by decide
-- The opcode table gives no row any bits.
theorem test_word_table : decodeTableWord 32 0x40C00100 = none ∧ State.reset.withFetchWord 32 0x40C00100 = State.reset :=
  ⟨rfl, rfl⟩

/-! ### Single steps and values that the spec states -/

/-- What a command's next state shows; false where it answers none. -/
def shows (c : Instr) (s : State) (p : State → Bool) : Bool :=
  match exec c s with
  | .next t => p t
  | _ => false

/-- Thread 0 running after reset with g1 and g2 set. -/
def two (a b : Word) : State :=
  State.reset.setTh 0 { st := .run, pc := 0x10000040, g := #v[0, a, b, 0, 0, 0, 0, 0, 0, 0, 0, 0, 0, 0, 0, 0] }

-- R34: the carry out, the zero result, the next word.
theorem test_add_wraps : shows (.add slot0 { rd := 3, ra := 1, rb := 2, fn := 0 }) (two 0xFFFFFFFF 1) fun t =>
    (t.th 0).rg 3 = 0 ∧ (t.th 0).z = true ∧ (t.th 0).c = true ∧ (t.th 0).v = false ∧ (t.th 0).pc = 0x10000044 := by decide
-- R34: signed overflow of a subtraction whose source is its destination.
theorem test_sub_overflows : shows (.sub slot0 { rd := 1, ra := 1, rb := 2, fn := 0 }) (two 0x80000000 1) fun t =>
    (t.th 0).rg 1 = 0x7FFFFFFF ∧ (t.th 0).v = true ∧ (t.th 0).c = true ∧ (t.th 0).n = false := by decide
-- R21: g0 reads 0 whatever is written to it.
theorem test_g0_discards : shows (.or slot0 { rd := 0, ra := 1, rb := 2, fn := 0 }) (two 5 2) fun t =>
    (t.th 0).rg 0 = 0 ∧ (t.th 0).z = false := by decide
-- R34: SAR keeps the sign and C takes the last bit shifted out.
theorem test_sar : shows (.sar slot0 { rd := 3, ra := 1, rb := 2, fn := 0 }) (two 0x80000008 4) fun t =>
    (t.th 0).rg 3 = 0xF8000000 ∧ (t.th 0).c = true := by decide
-- The example after R34: LUI g1, 0x4401 places 0x11004000 in g1.
theorem test_lui : shows (.lui slot0 { rd := 1, ra := 0, imm := 0x4401 }) (two 0 0) fun t =>
    (t.th 0).rg 1 = 0x11004000 := by decide
-- R33, R34: B.NE is taken with Z = 0, five words back; not with Z = 1.
theorem test_branch : shows (.b slot0 { cond := 2, off := 0x3FFFFB }) (two 0 0) fun t => (t.th 0).pc = 0x1000002C := by
  decide
-- R53: MUL with a nonzero rb in its immediate form traps ILLEGAL, code 0x01.
theorem test_illegal : shows (.mul slot0 { rd := 3, ra := 1, rb := 2, fn := 0x2001 }) (two 1 1) fun t =>
    (t.th 0).tcause.toNat % 256 = 1 ∧ (t.th 0).tpc = 0x10000040 ∧ (t.th 0).st = .trapped ∧ (t.th 0).rg 3 = 0 := by decide
-- R46: the first read of a free semaphore takes it and reads 0; a second reads 1.
theorem test_semaphore : shows (.semaphoreRead 31) State.reset (fun t => t.busData = 0 ∧
    shows (.semaphoreRead 31) t fun u => u.busData = 1) := by decide

-- The check values after R293: the nine bytes of "123456789" as CRC-8, CRC-16 and CRC-32.
theorem test_crc_check_values :
    let nine : List Word := [0x31, 0x32, 0x33, 0x34, 0x35, 0x36, 0x37, 0x38, 0x39]
    nine.foldl (fun s b => crcFeed 8 0x07 s b 8) 0 = 0xF4 ∧
    nine.foldl (fun s b => crcFeed 16 0x1021 s b 8) 0xFFFF = 0x29B1 ∧
    crcResult 0 0xFFFFFFFF (nine.foldl (fun s b => crcFeed 0 0x04C11DB7 s b 8) 0xFFFFFFFF) = 0xFC891918 := by decide +kernel
-- The same CRC-32 fed as two words and one byte.
theorem test_crc_words : crcResult 0 0xFFFFFFFF (crcFeed 0 0x04C11DB7 (crcFeed 0 0x04C11DB7
    (crcFeed 0 0x04C11DB7 0xFFFFFFFF 0x31323334 32) 0x35363738 32) 0x39 8) = 0xFC891918 := by decide +kernel

-- The example after R97: TARI 2, DATA1 2, DR 64/3, with BLF 640 and BLF 160.
theorem test_link_example : rtcal 0x8A280000 = 16272 ∧ linkBad 0x8A280000 = true ∧ linkBad 0x8A0A0000 = false := by decide
/-- The reference settings: Tari 6.25 µs, data-1 of 1.5 Tari, DR 64/3, FM0, BLF 640 kHz. -/
def refLink : Word := 0x02280000
-- The slot example after R102: a QueryRep lasts 62.5 µs and its window opens 9.719 µs and closes 21.531 µs after it.
theorem test_slot_example : cmdTicks refLink (cmdQueryRep 1) = 13560 ∧ winOpenTicks refLink = 2109 ∧
    winCloseTicks refLink = 4671 := by decide
-- The example after R81: PAGAIN 72 and TXPWR 120 give driver level 48.
theorem test_driver_example : UPort.driver { ctrl := 0x14, txcfg := 0x48000000 } 120 = (48, false) := by decide
-- The examples after R164 and R181: N = 27 at SO9 for 12 bytes, N = 28 at SO7 for 8; 33 symbols at SO9 and 100 kHz.
theorem test_chirp_examples : paySymbols 4 12 0 = 27 ∧ paySymbols 2 8 0 = 28 ∧ symTicks 4 0 33 = 36657562 := by decide
-- The example after R264: the frequency word of 866.3 MHz.
theorem test_lo_example : loWord 866300000 = 2143672894 := by decide
-- The example after R223: A = 0x00123460 of the XIP window lies in line 0x91A3.
theorem test_xip_line_example : xipLine 0x20123460 = 0x91A3 := by decide
-- The example after R285: ZC rises at 980,000 and falls at 47,800 with RELOAD 999,999.
theorem test_pulse_width_example : shows (.captureEdge 2 0 false 0)
    ((((State.reset.setReg (TU_CAPCFG 2) 1).setReg (TU_RELOAD 2) 999999).setReg (TU_CAPR 2 0) 980000).setReg (TU_COUNT 2) 47800)
      fun t => t.reg (TU_PW 2 0) = 67800 := by decide
-- The example after R353: with NV_PAGE = 5, word 9,000 of the snapshot reads at 0x00128CA0.
theorem test_nv_page_example :
    (State.busRead { State.reset.setReg NV_PAGE 5 with nv.snap := Memory.setWords [] 36000 [0xCAFE0123] } 0x128CA0).1 =
      0xCAFE0123 := by decide

/-! ### States that meet the hypotheses of the statements

Each theorem `witness_<statement>` gives, clause by clause, concrete states and operands that meet the clause's hypotheses
together. -/

/-- The device running: reset released, a reference chosen, the MPLL locked. -/
def base : State :=
  { State.reset with power.released := true, power.st := .run, clk.refSrc := 1, clk.mpllLock := true, tb := 5000000
                     ticks := 5000000 }

/-- Thread 0 running with some register values. -/
def run0 : State :=
  base.setTh 0 { st := .run, pc := 0x10000040
                 g := #v[0, 5, 0xFFFFFFFE, 0x11000000, 0x102, 0x10000040, 0x20000040, 0x900, 0x130000, 9, 10, 11, 12, 13, 14, 15] }

/-- Ticket slot 0 of thread 0. -/
def o0 : OpId := ⟨0, 0⟩

/-- An Active operation on that slot from descriptor word 0 and some further words. -/
def mkOp (w0 : Nat) (ws : List (Nat × Nat)) : Op :=
  { id := o0, active := true
    desc := Vector.ofFn fun j => BitVec.ofNat 32 (if j.val = 0 then w0 else ((ws.find? fun x => x.1 == j.val).map (·.2)).getD 0) }

/-- A state with one operation in flight. -/
def withOp (s : State) (op : Op) : State :=
  ({ s with ops := [op] }).setSlot op.id { st := if op.active then .active else .pending }

/-- A state with an LO locked at a frequency. -/
def locked (s : State) (n : LoNo) (f : Nat) : State :=
  s.modLo n fun l => { l with lock := true, aligned := true, freq := f }

/-- A state with one ring changed. -/
def withRing (s : State) (n : RingNo) (f : Ring → Ring) : State := s.setRing n (f (s.ring n))

/-- A ring word that is an item of its own. -/
def word1 (d : Nat) : RWord := { data := BitVec.ofNat 64 d, v := true, s := true, e := true, tick := 77 }

/-- Fields of formats I and A. -/
def fI (rd ra im : Nat) : IFields := { rd := BitVec.ofNat 4 rd, ra := BitVec.ofNat 4 ra, imm := BitVec.ofNat 18 im }
def fA (rd ra rb fn : Nat) : AFields :=
  { rd := BitVec.ofNat 4 rd, ra := BitVec.ofNat 4 ra, rb := BitVec.ofNat 4 rb, fn := BitVec.ofNat 14 fn }

/-- The address a memory instruction of thread 0 uses. -/
def addr0 (s : State) (f : IFields) : Nat := (memAddr (s.th 0) f).toNat

/-! #### Threads -/

/-- Thread 0's stack full, its trap handler set and active. -/
def full0 : State := run0.modTh 0 fun x => { x with rstack := List.replicate 8 64, tactive := true, tven := true, tvec := 0x200 }

theorem run0_sound : run0.sound := by unfold State.sound Thread.sound; decide +kernel
theorem run0_issues : run0.issues slot0 := by unfold State.issues State.fetches; decide +kernel
theorem full0_sound : full0.sound := by unfold State.sound Thread.sound; decide +kernel
theorem full0_issues : full0.issues slot0 := by unfold State.issues State.fetches; decide +kernel

theorem witness_AluRegisterFormsResultAndFlags :
    run0.issues slot0 ∧ aluLegal (fA 0 1 2 0) ∧ aluLegal (fA 3 1 0 0x3FFF) ∧ (fA 0 1 2 0).rd = 0 :=
  ⟨run0_issues, by unfold aluLegal; decide, by unfold aluLegal; decide, by decide⟩
theorem witness_AluImmediateFormsResultAndFlags : run0.issues slot0 ∧ (fI 3 0 0x3FFFF).ra = 0 := ⟨run0_issues, by decide⟩

/-- The XIP window served, one line cached. -/
def xip0 : State := { run0.setReg MS_CFG 1 with msp.lines := [(2, [1, 2, 3, 4, 5, 6, 7, 8])] }

theorem witness_LoadsReadAndStoresWriteOneWord :
    run0.sound ∧ run0.issues slot0 ∧ addr0 run0 (fI 3 0 0x7FC) = 0x7FC ∧ addr0 run0 (fI 3 5 4) = 0x10000044 ∧
    addr0 run0 (fI 3 3 0) = 0x11000000 ∧ xip0.issues slot0 ∧ addr0 xip0 (fI 3 6 4) = 0x20000044 ∧ xip0.xipOn = true ∧
    (xip0.cached 2).isSome = true ∧ slot0.dataErr = false ∧ run0.image.bad = [] :=
  ⟨run0_sound, run0_issues, by decide, by decide, by decide, by unfold State.issues State.fetches; decide +kernel, by decide,
    by decide +kernel, by decide, by decide, by decide⟩
/-- Thread 0 with a posted write of its own THn_CTRL.HALT. -/
def halting0 : State := run0.modTh 0 fun x => { x with posted := [(0x80000, 2)] }

theorem witness_LdioReadsAndStioWritesRegisters :
    (let s := (run0.touched 0).drainPosted 0
     (s.th 0).st = .run ∧ (s.th 0).pc = (run0.th 0).pc) ∧ halting0.issues slot0 ∧
    (((halting0.touched 0).drainPosted 0).th 0).st ≠ .run ∧
    run0.issues slot0 ∧ run0.issues { slot0 with contended := true } ∧ addr0 run0 (fI 3 4 2) = 0x104 ∧
    addr0 run0 (fI 3 8 0x3FFFC) = 0x12FFFC ∧ (run0.th 0).posted.length < 4 :=
  ⟨by decide +kernel, by unfold State.issues State.fetches; decide +kernel, by decide +kernel, run0_issues, run0_issues,
    by decide, by decide, by decide⟩
theorem witness_RegisterWritesFollowAccessTypes :
    run0.sound ∧ run0.powered = true ∧ (regRow 0x120000).isSome = true ∧ (regRow 0x50000).isSome = true ∧
    regRow 0x5FFFC = none ∧ 0x130000 ≤ (0x130000 : Word).toNat :=
  ⟨run0_sound, by decide, by decide +kernel, by decide +kernel, by decide +kernel, by decide⟩
theorem witness_BranchesAndCallsSetThePc :
    run0.issues slot0 ∧ taken (run0.th 0) 0 = some true ∧ taken (run0.th 0) 14 = some false ∧
    (run0.th 0).rstack.length < 8 ∧ full0.issues slot0 ∧ (full0.th 0).rstack = 64 :: List.replicate 7 64 ∧
    ((full0.th 0).rg 5).toNat % 4 = 0 ∧ (full0.th 0).tactive = true :=
  ⟨run0_issues, by decide, by decide, by decide, full0_issues, by decide, by decide, by decide⟩
theorem witness_TbrSleepuNopAndHaltEffects :
    run0.issues slot0 ∧ (fA 14 0 0 0).rd.toNat % 2 = 0 ∧ (fA 14 0 0 0).rd ≠ 0 ∧
    ((run0.th 0).rg (fI 0 0 0).ra).toNat + (fI 0 0 0).imm.toNat = 0 ∧
    ((run0.th 0).rg (fI 0 0 1).ra).toNat + (fI 0 0 1).imm.toNat ≠ 0 :=
  ⟨run0_issues, by decide, by decide, by decide, by decide⟩
theorem witness_TrapsArePreciseWithTheirCause :
    run0.sound ∧ run0.issues slot0 ∧ (fI 0 0 0xFF).imm.toNat < 0x100 ∧ addr0 run0 (fI 3 4 0) = 0x102 ∧
    addr0 run0 (fI 3 7 0) = 0x900 ∧ addr0 run0 (fI 3 5 0) = 0x10000040 ∧ addr0 run0 (fI 3 8 0) = 0x130000 ∧
    (run0.th 0).rstack = [] ∧ (run0.th 0).tactive = false ∧ full0.sound ∧ full0.issues slot0 ∧
    (full0.th 0).rstack.length = 8 ∧ (fA 0 0 0 3).fn.toNat % 4 = 3 ∧ ¬ aluLegal (fA 3 1 2 0x2001) ∧ ¬ aluLegal (fA 3 1 2 1) :=
  ⟨run0_sound, run0_issues, by decide, by decide, by decide, by decide, by decide, by decide, by decide, full0_sound, full0_issues,
    by decide, by decide, by unfold aluLegal; decide, by unfold aluLegal; decide⟩

/-- Thread 0 with two event bits pending. -/
def event0 : State := run0.modTh 0 fun x => { x with event := 0x00018004 }

theorem witness_EventBitsAreSetAndTaken :
    event0.issues slot0 ∧ (event0.th 0).event &&& (event0.th 0).rg 1 ≠ 0 ∧ (event0.th 0).event &&& (event0.th 0).rg 0 = 0 ∧
    (fA 0 1 2 1).fn.toNat < 2 :=
  ⟨by unfold State.issues State.fetches; decide +kernel, by decide, by decide, by decide⟩

/-- Thread 0 with ticket slot 3 in a state. -/
def ticket0 (st : SlotState) : State := run0.modTh 0 fun x => { x with slots := vset x.slots 3 { st := st, word := 0x1234 } }

theorem witness_TicketInstructionsCollectOrWait :
    (∀ st ∈ [SlotState.free, .pending, .active, .done], (ticket0 st).issues slot0 ∧
      ((ticket0 st).th 0).slots[(fI 3 2 0).rd.toNat].st = st) ∧ (fI 3 0 8).imm.toNat.testBit 3 = true :=
  ⟨by unfold State.issues State.fetches; decide +kernel, by decide⟩

/-- A Pending H.FIELD on slot 3 of thread 0. -/
def pending0 : State :=
  { ticket0 .pending with ops := [{ mkOp 0x10110001 [(2, 0xFFFF), (5, 0x80640000)] with id := ⟨0, 3⟩, active := false }] }

/-- Thread 0 with the descriptor of an H.FIELD at address 8 of its memory. -/
def descr0 (w2 : Word) : State :=
  run0.modTh 0 fun x => { x with mem := Memory.setWords [] 8 [0x10100001, 0, w2, 0, 0, 0x80640000] }
/-- The operation of that descriptor. -/
def copied0 (w2 : Word) : Op :=
  (descr0 w2).dueOp { id := ⟨0, 3⟩, desc := Vector.ofFn fun j => Memory.word ((descr0 w2).th 0).mem (8 + 4 * j) }

theorem witness_AirIssuesAndCanckCancels :
    pending0.issues slot0 ∧ (pending0.op? ⟨0, 3⟩).isSome = true ∧ (∀ op ∈ pending0.ops, op.active = false ∧ op.words = 0) ∧
    (pending0.slot ⟨0, 3⟩).discard = false ∧ (ticket0 .done).issues slot0 ∧ (descr0 0x100000).ops = [] ∧
    (descr0 0x100000).issues { slot0 with contended := true } ∧ addr0 run0 (fI 3 0 8) + 64 ≤ 0x800 ∧
    (descr0 0x100000).issues slot0 ∧ (descr0 0x100000).copyOk (copied0 0x100000) = true ∧ addr0 run0 (fI 3 0 8) = 8 ∧
    (descr0 0xFFFF).issues slot0 ∧ (descr0 0xFFFF).copyOk (copied0 0xFFFF) = false :=
  by unfold State.issues State.fetches; constructorm* _ ∧ _ <;> decide +kernel

/-- Thread 0 waiting, its condition met at a tick. -/
def wait0 (c : Option Instr) (on : BitVec 4) (d m : Option Nat) : State :=
  run0.modTh 0 fun x => { x with st := .wait, waiting := c, waitOn := on, deadline := d, event := 0x10007, met := m
                                 slots := vset x.slots 3 { st := .done, word := 0x1234 } }

theorem witness_WaitsEndWithTheirResult :
    (let x := (wait0 (some (.waitk slot0 (fI 3 2 0))) 1 none none).th 0
     x.posted = [] ∧ x.deadline = none ∧ x.waitsOn (.waitk slot0 (fI 3 2 0)) ∧ x.slots[3].st = .done) ∧
    (let x := (wait0 (some (.evw slot0 (fA 3 1 1 0))) 5 (some 55) (some 54)).th 0
     x.posted = [] ∧ x.waitsOn (.evw slot0 (fA 3 1 1 0)) ∧ x.event &&& x.rg 1 ≠ 0 ∧ x.waitOn = 5 ∧ x.deadline = some 55 ∧
       x.met = some 54) ∧
    (let x := (wait0 (some (.waitany slot0 (fI 3 1 8))) 2 (some 55) (some 54)).th 0
     x.waitsOn (.waitany slot0 (fI 3 1 8)) ∧ (fI 3 1 8).imm.toNat.testBit 3 = true ∧ x.slots[3].st = .done ∧ x.waitOn = 2 ∧
       x.deadline = some 55 ∧ x.met = some 54 ∧ ∀ l : Fin 16, l < 3 → (fI 3 1 8).imm.toNat.testBit l = false) ∧
    (let s := ({ wait0 none 7 none none with msp.lines := [(2, [])] }).modTh 0 fun x => { x with xipLine := some 2 }
     (s.th 0).st = .wait ∧ (s.th 0).waiting = none ∧ (s.th 0).xipLine = some 2 ∧ s.cached 2 = some []) ∧
    (let x := (wait0 (some (.sleepu slot0 (fI 0 2 3))) 6 (some 6000000) none).th 0
     x.waitsOn (.sleepu slot0 (fI 0 2 3)) ∧ x.waitOn = 6 ∧ x.deadline = some 6000000) ∧
    (let x := (wait0 (some (.waitany slot0 (fI 3 1 16))) 2 (some 55) none).th 0
     x.waitsOn (.waitany slot0 (fI 3 1 16)) ∧ x.waitOn = 2 ∧ x.deadline = some 55 ∧ x.met = none) ∧
    (let x := (wait0 (some (.evw slot0 (fA 3 1 1 0))) 5 (some 55) (some 55)).th 0
     x.waitsOn (.evw slot0 (fA 3 1 1 0)) ∧ x.waitOn = 5 ∧ x.deadline = some 55 ∧ x.met = some 55) := by
  unfold Thread.waitsOn; decide +kernel
theorem witness_ThreadControlChangesThreadState :
    (4 : Word).toNat % 8 = 4 ∧ run0.opsOf 0 = [] ∧ (∀ k ∈ (run0.th 0).slots.toList, k.st = .done ∨ k = {}) ∧
    (0x102 : Word).toNat % 8 = 2 ∧ (run0.th 0).st = .run ∧ (1 : Word).toNat % 8 = 1 ∧ run0.debugLevel = 0 := by decide +kernel
theorem witness_SemaphoreReadTestsAndSets : run0.sound := run0_sound

/-- Ring E0 in service between thread 0 and itself. -/
def ring0 : State := run0.setReg (RG_CFG 16) 0x80000000

theorem ring0_issues : ring0.issues slot0 := by unfold State.issues State.fetches; decide +kernel
theorem ring0_sound : ring0.sound := by unfold State.sound Thread.sound; decide +kernel

theorem witness_PushStoresItsWordOrWaits :
    ring0.issues slot0 ∧ (fA 0 1 2 0x30).fn.toNat < 0x100 ∧ ring0.ringOn 16 = true ∧ ring0.ringProd 16 = 0 ∧
    ring0.openByOther 16 (.thread 0) = false ∧ ring0.ringRoom 16 = 16 ∧
    (let s := withRing ring0 16 fun r => { r with open_ := some ⟨.thread 0, 4, 1⟩ }
     s.openBy 16 (.thread 0) = true ∧ s.orphan 16 (.thread 0) = none ∧ s.ringRoom 16 ≠ 0) ∧
    (withRing ring0 16 fun r => { r with words := List.replicate 16 {} }).ringRoom 16 = 0 ∧
    (let x := (ring0.modTh 0 fun x => { x with st := .wait, waiting := some (.push slot0 (fA 0 1 2 0x30)) }).th 0
     x.waitsOn (.push slot0 (fA 0 1 2 0x30)) ∧ x.posted = []) :=
  ⟨ring0_issues, by unfold Thread.waitsOn; decide +kernel⟩
theorem witness_PopTakesTheOldestWord :
    ring0.sound ∧ ring0.issues slot0 ∧ (fA 14 0 0 0x10).fn.toNat % 0x100 < 32 ∧ (fA 2 0 0 0x110).fn.toNat < 0x200 ∧
    (fA 2 0 0 0x110).fn.getLsbD 8 = true ∧ ring0.ringOn 16 = true ∧ ring0.ringCons 16 = 0 ∧ (ring0.ring 16).words = [] ∧
    ring0.ringCap 16 ≠ 4096 ∧ (ring0.setReg (RG_CFG 16) 0xC0000000).ringCap 16 = 4096 ∧
    ((withRing ring0 16 fun r => { r with words := [word1 5] }).ring 16).words = [word1 5] :=
  ⟨ring0_sound, ring0_issues, by decide +kernel⟩
theorem witness_CheckValuesAreFedReadAndChecked :
    run0.sound ∧ run0.issues slot0 ∧ ((run0.touched 0).drainPosted 0).sound ∧
    (((run0.touched 0).drainPosted 0).th 0).st = .run ∧ (((run0.touched 0).drainPosted 0).th 0).pc = (run0.th 0).pc ∧
    run0.ccFed 7 = false ∧ (fA 0 1 0 23).fn.toNat < 24 ∧
    (fA 3 0 0 39).fn.toNat < 40 ∧ (run0.reg (CC_CFG 7)).getLsbD 9 = false ∧ run0.ccMatches 7 = true ∧
    (run0.setReg (CC_EXPECT 7) 1).ccMatches 7 = false ∧
    ({ run0 with xfers := vset run0.xfers 0 { cfg := 0x80004000 } }).ccFed 0 = true :=
  ⟨run0_sound, run0_issues, by unfold State.sound Thread.sound; decide +kernel, by decide +kernel, by decide +kernel,
    by decide +kernel⟩

/-! #### Backscatter operations -/

/-- A region profile of two hop positions. -/
def region0 : Profile :=
  { State.reset.profile with
    region := [0x00040400, 400000, 0, 0xFF000000] ++
      (List.range 64).map (fun k => BitVec.ofNat 32 ((9020000 + 5000 * k) * 256 + 120)) ++ List.replicate 16 0x00010203 ++
      [900000000, 930000000, 0] ++ List.replicate 60 0 }

/-- The device with that profile. -/
def air0 : State := { base with profile := region0 }

/-- A UHF operation of a code on U0 and U4, LO2, with the reference link. -/
def uhfOp (code : Nat) : Op :=
  { mkOp (code * 0x100000 + 0x20011) [(2, 0xFFFF), (6, 0x02AA0000)] with link := refLink, freq := 902000000 }
/-- The tag that a U.ACCESS handle names. -/
def tag0 : TagEntry := ⟨1, 0x3000, 0, 0, [1, 2, 3, 4, 5, 6], none⟩
def settledOp (code : Nat) : Op := { uhfOp code with settled := true, entry := some tag0 }

theorem air0_regsWf : air0.regsWf := by decide +kernel

theorem witness_UhfOperationsBeginOnTheirBeam :
    air0.regsWf ∧ (withOp air0 (uhfOp 1)).begins o0 0 1 = some (uhfOp 1) ∧ (withOp air0 (uhfOp 2)).begins o0 0 2 = some (uhfOp 2) ∧
    (withOp air0 (uhfOp 3)).begins o0 0 3 = some (uhfOp 3) ∧ (withOp air0 (uhfOp 4)).begins o0 0 4 = some (uhfOp 4) ∧
    (let s := withOp air0 (settledOp 1)
     s.begins o0 0 1 = some (settledOp 1) ∧ (settledOp 1).fits (settledOp 1).selectCmd .none (s.ticks + 174) = true ∧
       (s.slot o0).discard = false ∧ (settledOp 1).held = []) ∧
    (let s := withOp air0 (settledOp 2)
     let op := settledOp 2
     s.begins o0 0 2 = some op ∧ s.colour o0.thread ≠ 2 ∧
       op.fits (cmdQuery op.link op.sel op.session op.target op.q0) (.immediate 16) (s.ticks + 174) = true) ∧
    (let s := withOp air0 (settledOp 3)
     let op := settledOp 3
     let start2 := s.ticks + 174 + cmdTicks op.link (reselect tag0) + t4Ticks op.link
     s.begins o0 0 3 = some op ∧ op.entry = some tag0 ∧ op.fits (reselect tag0) .none (s.ticks + 174) = true ∧
       op.fits (cmdQuery op.link 3 (bits op.bscCfg 4 2) false 0) (.immediate 16) start2 = true) ∧
    (let op := settledOp 4
     (withOp air0 op).begins o0 0 4 = some op ∧ op.fits op.rawCmd op.rawExpect (air0.ticks + 174) = true ∧ bits (op.w 7) 0 16 = 0) ∧
    (let op : Op := { settledOp 4 with desc := (settledOp 4).desc.set 7 0x00100100 }
     (withOp air0 op).begins o0 0 4 = some op ∧ op.fits op.rawCmd op.rawExpect (air0.ticks + 174) = true ∧ bits (op.w 7) 0 16 ≠ 0) :=
  ⟨air0_regsWf, by decide +kernel⟩

/-- A U.ROUND of its own in a state, its LO locked on its channel. -/
def round0 (f : Op → Op) : State := locked (withOp air0 (f (uhfOp 2))) 2 902000000
/-- A hopping U.ROUND whose dwell closes. -/
def hopping0 : Op :=
  { uhfOp 2 with desc := (uhfOp 2).desc.set 5 0x8000, settled := true, started := true, dwellEnd := some 4000000
                 eng := .round { st := .waitRN, q := 4 } }

theorem witness_BeamEventsMoveOperationsOn :
    (let s := round0 id
     s.op? o0 = some (uhfOp 2) ∧ (uhfOp 2).isBeam = true ∧ (uhfOp 2).solving = false ∧ (uhfOp 2).metered = false ∧
       (s.lo (uhfOp 2).lo).at (uhfOp 2).freq = true ∧ (∀ x ∈ s.ops, x.isListen = false) ∧ s.txPorts (uhfOp 2) ≠ [] ∧
       (uhfOp 2).holds = true ∧ s.power.level = 0 ∧ (s.up 0).capped = false ∧ (s.up 0).spare = false) ∧
    (let op : Op := { uhfOp 2 with lbtWait := true }
     let s := locked (withOp air0 op) 2 902000000
     s.regsWf ∧ s.op? o0 = some op ∧ op.hop = false ∧ op.plain ∧ (s.lo op.lo).at op.freq = true ∧ op.fix? = none ∧
       (s.slot o0).discard = false ∧ 0 ∈ s.txPorts op ∧ (s.up 0).carrier = none ∧
       (∀ p : UPortNo, ([] : List Int).getD p.val (-32768) < signed 16 ((s.regionW 2).toNat % 65536)) ∧
       ¬ ([5] : List Int).getD 0 (-32768) < signed 16 ((s.regionW 2).toNat % 65536)) ∧
    (let s := locked (withOp air0 hopping0) 2 902000000
     s.op? o0 = some hopping0 ∧ hopping0.hop = true ∧ hopping0.retest = false ∧ 4000000 ≤ (s.advance 7).ticks ∧
       hopping0.held = [] ∧ 0 < bits (s.reg (UP_BEAMW 0)) 0 8 ∧ bit (s.up 0).ctrl 1 = false ∧
       (let op : Op := { hopping0 with held := [word1 1] }
        (withOp air0 op).op? o0 = some op ∧ op.held ≠ [])) ∧
    (let op : Op := { uhfOp 2 with started := true, eng := .round { st := .metered, q := 4 } }
     (withOp air0 op).running o0 = some op ∧ (withOp air0 op).colour o0.thread ≠ 2 ∧
       (withOp air0 op).carried op ((withOp air0 op).opFreq op) = false) ∧
    ((air0.modUp 4 fun x => { x with holdover := some (o0, 3) }).up 4).holdover ≠ none := by
  unfold Op.plain; decide +kernel

/-- A U.ROUND in its slot: a reply in progress, or awaited. -/
def slotOp (st : RState) (q : Nat) (reply : Bool) : Op :=
  { settledOp 2 with started := true, reply := reply, winFrom := if reply then none else some 4999000, winTo := 5001000
                     cmdEnd := 4998000, eng := .round { st := st, q := q, qfp := 100 * q, slots := 3, fresh := false, empties := 2 } }
/-- That round's own state. -/
def slotRound (st : RState) (q : Nat) : RoundSt := { st := st, q := q, qfp := 100 * q, slots := 3, fresh := false, empties := 2 }

/-- A preamble of a link frequency, heard by U0 alone. -/
def heard0 (f : Nat) : PreambleData := ⟨f, [{ power := -800, snr := 80 }]⟩
/-- A reply in progress, latched at 4,999,500. -/
def latched0 : Op := { slotOp .waitRN 4 true with latched := some ⟨4999000, 4998500, 640000, 0, []⟩ }

theorem witness_RoundRepliesDecideTheSlot :
    (∀ b ∈ [false, true], ∀ st ∈ [RState.waitRN, .waitEPC], ∀ q ∈ [0, 4],
      let s := withOp air0 (slotOp st q b)
      s.regsWf ∧ s.running o0 = some (slotOp st q b) ∧ (slotOp st q b).eng = .round (slotRound st q) ∧ (slotOp st q b).plain ∧
        (slotOp st q b).cancel = false ∧ (slotOp st q b).failItems = false ∧ (s.slot o0).discard = false ∧
        (slotOp st q b).code = 2 ∧ (slotOp st q b).cls = 0 ∧ (slotOp st q b).uports = [0, 4]) ∧
    (let op := slotOp .waitRN 4 false
     op.winFrom = some 4999000 ∧ (4 * 479999 < 3000 * blf op.link) ∧ op.detects (heard0 480000) = true ∧
       ¬ 4999000 + detectTicks op.link 480000 ≤ (air0.advance 0).ticks ∧
       4999000 + detectTicks op.link 480000 ≤ (air0.advance 2700).ticks ∧
       (air0.advance 2700).ticks < op.winTo + detectTicks op.link 480000) ∧
    (∀ p : UPortNo, ([] : List Int).getD p.val 0 < 48) ∧ 48 ≤ ([48] : List Int).getD 0 0 ∧ 4999000 ≤ air0.ticks + 500 ∧
    air0.ticks + 500 < (slotOp .waitRN 4 false).winTo ∧
    (let s := withOp air0 latched0
     s.running o0 = some latched0 ∧ latched0.reply = true ∧ latched0.latched.all (fun l => decide (40 * 16000 ≤ l.freq)) = true ∧
       (List.replicate 15 true).length ≠ 16 ∧ (List.replicate 16 true).length = 16) ∧
    crcHolds (withCrc16 (List.replicate 16 false)) = true ∧
    roundOver (slotOp .waitRN 0 false) { slotRound .waitRN 0 with st := .next, outcome := .empty, empties := 3 } = true ∧
    roundOver (slotOp .waitRN 4 false) { slotRound .waitRN 4 with st := .next, outcome := .empty, qfp := 370, empties := 0 } = false ∧
    (slotOp .waitRN 4 false).fits (cmdQueryRep (slotOp .waitRN 4 false).session) (.immediate 16) 5010000 = true ∧
    (slotOp .waitRN 4 true).fits (cmdAck 0xFFFF) (.immediate 560) 5010000 = true ∧ (slotOp .waitRN 4 true).gap = false := by
  unfold Op.plain; constructorm* _ ∧ _ <;> decide +kernel

/-! #### The operation queue -/

/-- The HF cluster supplied and its ports 0, 1 and 4 enabled. -/
def hf0 : State :=
  ((((base.setReg HC_VHF 5000).setReg (HP_CTRL 0) 1).setReg (HP_CTRL 1) 1).setReg (HP_CTRL 4) 1).setReg HC_PWR 400
/-- A Pending H.FIELD on H0, its START as given. -/
def fieldOp (start : Nat) : Op := { mkOp 0x10100001 [(1, start), (2, 0x0010FFFF), (5, 0x80640000)] with active := false }
/-- A Pending C.SEND on U0 and U4 that begins in 10 ticks. -/
def sendOp : Op := { mkOp 0x20220011 [(1, 5000010), (2, 0x0010FFFF), (4, 0xFF000700), (6, 915000000)] with active := false }

/-- UHF ports 0 and 4 enabled, to transmit, and the class command of a Pending U.ROUND on them. -/
def beams0 : State := ((((air0.setReg (UP_CTRL 0) 1).setReg (UP_CTRL 4) 1).setReg (UP_TXCFG 0) 0).setReg (UP_TXCFG 4) 0)
def roundOp0 : Op := { uhfOp 2 with desc := (uhfOp 2).desc.set 4 refLink, active := false }

/-- An operation passes every test but those of its dispatch. -/
def passing (s : State) (op : Op) : Bool :=
  let l := s.latchOp op
  s.airOpen && !l.1.waits l.2 && l.1.classWins l.2 && l.1.colourWins l.2 && (!op.isSend || s.sendFits op)

/-- What the tests of an operation begin from. -/
def tested (s : State) (p : State → Op → Bool) : Bool :=
  match s.refreshDue.op? o0 with
  | some op0 => op0.due &&
    match (s.refreshDue.noteColour op0).op? o0 with
    | some op1 => p (s.refreshDue.noteColour op0) op1 && passing (s.refreshDue.noteColour op0) op1
    | none => false
  | none => false

/-- An operation that nothing serialises or outranks has this status at its dispatch. -/
def statusIs (st : Option Nat → Bool) (s : State) (op : Op) : Bool :=
  let l := s.latchOp op
  !l.1.serialised l.2 && !s.outranked op && st (l.1.dispatchStatus l.2)

/-- An ended H.FIELD that holds words for its ring, which is empty. -/
def holding0 (ws : List RWord) (e : Option Byte) : Op :=
  { fieldOp 0 with active := true, held := ws, ending := e, words := 3, part := 1 }
def heldRing (op : Op) (r : Ring) : State :=
  withRing ((withOp base op).setReg (RG_CFG op.egress) 0x80004000) op.egress fun _ => r
/-- The item of that operation stands open on a ring with these words. -/
def openRing (ws : List RWord) : Ring := { words := ws, open_ := some ⟨.air o0, 4, 1⟩ }
/-- The last word of an item. -/
def tail0 : RWord := { data := 5, v := true, e := true }

theorem witness_OperationsDispatchExpireAndCancel :
    ((withOp hf0 (fieldOp 0)).regsWf ∧ (withOp hf0 (fieldOp 0)).op? o0 = some (fieldOp 0) ∧ (fieldOp 0).words = 0 ∧
      ((withOp hf0 (fieldOp 0)).slot o0).discard = false) ∧
    (tested (withOp hf0 (fieldOp 0)) (statusIs Option.isNone) = true ∧ (fieldOp 0).isBeam = false) ∧
    tested (withOp base (fieldOp 0)) (statusIs Option.isSome) = true ∧
    (tested (withOp beams0 roundOp0) (fun s op => let l := s.latchOp op; statusIs Option.isNone s op && !(l.1.txPorts l.2).isEmpty) = true ∧ roundOp0.isBeam = true ∧ roundOp0.eng = .idle) ∧
    (let op : Op := { fieldOp 0 with desc := (fieldOp 0).desc.set 2 0x1010FFFF }
     op.conc = true ∧ tested (withOp (hf0.modHp 0 fun x => { x with faulted := true }) op)
       (fun s op => let l := s.latchOp op; l.1.serialised l.2 && op.conc) = true) ∧
    ((fieldOp 6000000).start ≠ 0 ∧ (fieldOp 6000000).due = false ∧ (withOp hf0 (fieldOp 6000000)).tbRuns = true ∧
      (withOp hf0 (fieldOp 6000000)).ahead (fieldOp 6000000).start = true ∧
      tested ((withOp hf0 (fieldOp 6000000)).advance 1000000) (statusIs Option.isNone) = true) ∧
    (let s := withOp hf0 { fieldOp 0 with expTick := some 5000100, redLast := true }
     (s.refreshDue.op? o0).map (·.expTick) = some (some 5000100)) ∧
    (let s := withOp base sendOp
     sendOp.isSend = true ∧ (sendOp.sendStart - s.tbLo).toInt ≤ ticksOf 50 ∧ s.sendFits sendOp = false ∧ s.colour o0.thread ≠ 2) ∧
    (let op : Op := { sendOp with desc := (sendOp.desc.set 4 0x04000003).set 5 5000000 }
     let s1 := (withOp beams0 op).noteColour op
     (op.sendStart - (withOp beams0 op).tbLo).toInt ≤ ticksOf 50 ∧ s1.op? o0 = some op ∧ passing s1 op = true) ∧
    (withOp hf0 (fieldOp 0)).ops = [fieldOp 0] ∧
    (let op := holding0 [word1 1, word1 2] (some 6)
     let r := heldRing op { words := List.replicate 16 {} }
     r.regsWf ∧ r.op? o0 = some op ∧ (r.slot o0).discard = false ∧ r.ringOn op.egress = true ∧ r.ringRoom op.egress = 0 ∧
       (word1 1).s = true) ∧
    (let op := holding0 [tail0] none
     let r := heldRing op (openRing (List.replicate 16 {}))
     r.ringRoom op.egress = 0 ∧ tail0.s = false ∧ r.openBy op.egress (.air o0) = true ∧ r.orphan op.egress (.air o0) = none) ∧
    (∀ e ∈ [none, some 6], let op := holding0 [tail0] e
     let r := heldRing op (openRing [])
     r.regsWf ∧ r.op? o0 = some op ∧ (r.slot o0).discard = false ∧ tail0.e = true ∧ r.ringOn op.egress = true ∧
       r.ringRoom op.egress ≠ 0 ∧ r.openBy op.egress (.air o0) = true ∧ r.orphan op.egress (.air o0) = none ∧
       op.round? = none ∧ op.eng = .idle) ∧
    (let op := holding0 [tail0, word1 1] (some 6)
     (withOp base op).op? o0 = some op ∧ (withOp base op).ringOn op.egress = false) := by
  constructorm* _ ∧ _ <;> decide +kernel

/-! #### HF operations -/

/-- An HF operation of a code on H0 and H1, words 2 and 5 as given. -/
def hfOp (code w2 w5 : Nat) (e : Engine := .idle) : Op :=
  { mkOp (0x10000003 + code * 0x100000) [(2, w2), (5, w5)] with eng := e, started := e != .idle, settled := e != .idle }

/-- The device with the fields of H0 and H1 on. -/
def fields0 : State := (base.modHp 0 fun x => { x with field := true }).modHp 1 fun x => { x with field := true }

theorem witness_HfOperationsTurnFieldsOn :
    (∀ s ∈ [base, fields0], ∀ code ∈ [1, 2, 3, 4], let s := withOp s (hfOp code 0x0010FFFF 0x80640000)
      s.regsWf ∧ (hfOp code 0x0010FFFF 0x80640000).plain ∧ (s.slot o0).discard = false ∧
        s.begins o0 1 code = some (hfOp code 0x0010FFFF 0x80640000)) ∧
    bit ((hfOp 1 0 0x80640000).w 5) 31 = true ∧ bit ((hfOp 1 0 0x00640000).w 5) 31 = false ∧
    (hfOp 1 0 0).hports = [0, 1] ∧ ([0, 1].all fun p => (base.hp p).field) = false ∧
    ([0, 1].all fun p => (fields0.hp p).field) = true ∧
    (hfOp 2 0 0x80640000).mayAsk { exp := min 4 (bits (base.reg HC_ACTCFG) 8 3) } := by
  unfold Op.plain Op.mayAsk; decide +kernel

/-- An H.FRAME or H.ACTIVATE that awaits a reply, of a protocol, and two bytes received in its window or not. -/
def hfAsked (w2 proto : Nat) (e : Engine) : Op :=
  { hfOp 3 w2 0x03640000 e with
    desc := ((hfOp 3 w2 0x03640000 e).desc.set 4 (BitVec.ofNat 32 (proto * 0x10000000))).set 6 5000
    winFrom := some 4999000, winTo := 5001000 }
def hfReply (det : Nat) (coll : Option Nat) (eof : Bool) : HfReply :=
  { bits := bitsA [1, 2], coll := coll, det := det, sof := 10, eof := eof }

theorem witness_HfExchangesEndWithTheirStatus :
    (∀ e ∈ [Engine.hfield true, .hframe true, .hactivate {}, .hactivate { replies := true }],
      let op := hfAsked 0x0010FFFF 0 e
      let s := withOp base op
      s.regsWf ∧ s.running o0 = some op ∧ op.plain ∧ (s.slot o0).discard = false ∧ op.cancel = false ∧
        op.failItems = false ∧ op.winFrom ≠ none) ∧
    (∀ e ∈ [Engine.hframe true, .hactivate {}],
      let op : Op := { hfAsked 0x0010FFFF 0 e with settled := false }
      (withOp base op).running o0 = some op ∧ op.settled = false) ∧
    ((hfAsked 0x0010FFFF 0 (.hactivate {})).mayAsk {} ∧ (hfAsked 0x0010FFFF 0 (.hactivate {})).proto = 0 ∧
      (hfAsked 0x0010FFFF 0 (.hactivate {})).hports = [0, 1]) ∧
    (let op := hfAsked 0x80100001 0 (.hframe true)
     op.hfInside (replyStart (hfReply 9000 none true) base.ticks) = false ∧
       op.hfInside (replyStart (hfReply 100 none true) base.ticks) = true ∧
       (∀ k ∈ [none, some 3], hfEnd 0 (hfBytes 0 (hfReply 100 k true).bits).1 388 (some 5000) true = some ([1, 2], false)) ∧
       hfEnd 0 (hfBytes 0 (hfReply 100 none false).bits).1 388 (some 5000) false = none ∧
       op.mem = true ∧ op.limit < op.memWords + 2) ∧
    (let op := hfAsked 0x4010FFFF 0 (.hframe true)
     let s := withOp (base.setReg (RG_CFG op.egress) 0x80000000) op
     s.regsWf ∧ s.running o0 = some op ∧ op.failItems = true ∧ op.mem = false ∧ s.ringOn op.egress = true ∧
       2 ≤ s.ringRoom op.egress ∧ (s.ring op.egress).open_ = none ∧ (s.ring op.egress).orphans = []) ∧
    (∀ a ∈ [({ exp := 1 } : ActSt), { exp := 1, step := .slot }],
      let op := hfAsked 0x0010FFFF 1 (.hactivate a)
      (withOp base op).running o0 = some op ∧ op.proto = 1 ∧ a.next 1 = some { a with step := .slot, slot := 2, tries := 0 } ∧
        op.mayAsk { a with step := .slot, slot := 2, tries := 0 }) := by
  unfold Op.plain Op.mayAsk; constructorm* _ ∧ _ <;> decide +kernel

/-- An Active H.WATCH on H1 after 3 scans, `m` reports, with a limit of scans. -/
def watchOp (m limit : Nat) : Op :=
  { mkOp 0x10400002 [(2, 0x0010FFFF), (6, limit * 65536)] with started := true, eng := .hwatch 3 m }

theorem witness_CardWatchScanSetsBaselines :
    (∀ limit ∈ [0, 4, 9], let s := withOp base (watchOp 1 limit)
      s.regsWf ∧ s.running o0 = some (watchOp 1 limit) ∧ (watchOp 1 limit).plain ∧ (watchOp 1 limit).limitHit = false ∧
        (watchOp 1 limit).hports = [1] ∧ (s.slot o0).discard = false ∧
        (s.modHp 1 fun x => { x with needBase := true }).watchSkips 1 = false) ∧
    ((base.modHp 1 fun x => { x with faulted := true }).hp 1).faulted = true := by
  unfold Op.plain; decide +kernel

/-! #### Ports -/

/-- U4 and H1 in service, U4 with a holdover carrier; U7 and H2 in service and faulted with a kind that probes end. -/
def ports0 : State :=
  (((((((((base.setReg (UP_CTRL 4) 0x11).setReg (UP_FBCFG 4) 8).setReg (UP_CTRL 7) 0x11).setReg (UP_FAULT 7) 0x00FF0300).setReg
    (HP_CTRL 1) 3).setReg (HP_CTRL 2) 3).setReg (HP_FAULT 2) 0x200).modUp 4
    fun x => { x with carrier := some (1, 902000000), holdover := some (o0, 3) }).modUp 7
    fun x => { x with faulted := true, probes := 1 }).modHp 2 fun x => { x with faulted := true }

theorem witness_PortFaultsRemoveCarriersUntilCleared :
    (ports0.regsWf ∧ bit (ports0.reg (UP_CTRL 4)) 0 = true ∧ (ports0.up 4).faulted = false ∧ ports0.onPort 4 = [] ∧
      ports0.endedNow = [] ∧ ports0.ops = []) ∧
    (let m : UhfSense := { us := 20, rl := 31, phase := 256 }
     (ports0.up 4).carrier ≠ none ∧ m.rl < 4 * ports0.fld (UP_FBCFG 4) 0 8 ∧ ports0.uhfKind 4 m = some 1 ∧
       ports0.uhfKind 4 { m with phase := 257 } = some 2 ∧ ports0.uhfKind 7 m = none) ∧
    (let m : UhfSense := { us := 2, current := 151 }
     ports0.uhfKind 7 m = some 3 ∧ ports0.fld (UP_FAULT 7) 8 4 = 3 ∧ (ports0.up 7).faulted = true ∧
       bit (base.reg (UP_CTRL 5)) 0 = false ∧ ports0.uhfKind 7 { us := 2, rxDc := 801 } = some 4) ∧
    (let m : HfSense := { cycles := 1, current := 1201, vant := 0 }
     bit (ports0.reg (HP_CTRL 1)) 0 = true ∧ (ports0.hp 1).faulted = false ∧ ports0.hfDetects 1 m 1 = true ∧
       (([1, 2, 3, 4, 5] : List Nat).find? fun k => ports0.hfDetects 1 { cycles := 1, current := 0, vant := 0 } k) = none) ∧
    (bit (ports0.reg (UP_CTRL 7)) 4 = true ∧ 1 ≤ (ports0.up 7).probes ∧ (ports0.hp 2).faulted = true ∧
      bit (ports0.reg (HP_CTRL 2)) 1 = true ∧ ports0.fld (HP_FAULT 2) 8 4 = 2 ∧ (ports0.hp 2).probes = 0 ∧
      (ports0.up 4).holdover ≠ none) := by
  constructorm* _ ∧ _ <;> decide +kernel
theorem witness_GainStepsAndCancellerTrims :
    ports0.regsWf ∧ ports0.frozen 4 = false ∧ (-100 : Int) < -8 * (bits (ports0.reg (UP_AGC_CTRL 4)) 4 4 : Int) - 32 ∧
    (ports0.up 4).carrier ≠ none ∧
    (let s := withOp ports0 { uhfOp 2 with started := true, settled := true, reply := true }
     s.frozen 4 = true ∧ (s.up 4).agc ≠ .stepped ∧ bit (s.reg (UP_AGC_CTRL 4)) 3 = false ∧
       max 1 (bits (s.reg (UP_AGC_CTRL 4)) 8 8) ≤ 255 ∧ s.replyWin 4 = true) ∧
    ports0.replyWin 4 = false ∧ ports0.cncApplying 4 = false ∧ bit (ports0.reg (UP_CNC 4)) 1 = false ∧
    bit ((ports0.setReg (UP_CNC 4) 2).reg (UP_CNC 4)) 1 = true ∧
    ((ports0.modUp 4 fun x => { x with spare := true }).up 4).spare = true := by decide +kernel

/-! #### The chirp link -/

/-- A C.SEND on U4 and LO2 at 915 MHz, word 5 as given, its result in memory. -/
def chirpOp (start : Nat) (e : Engine := .idle) : Op :=
  { mkOp 0x20220010 [(2, 0x80100000), (4, 0x04000003), (5, start), (6, 915000000)] with
    freq := 915000000, eng := e, started := e != .idle }
/-- The device with the chirp sub-bands and LO2 on that channel. -/
def chirp0 : State := { locked { air0 with tb := 0x10000000 } 2 915000000 with ticks := 5000000 }
/-- A C.LISTEN on U4 and LO2. -/
def listenOp (w5 : Nat) (e : Engine) : Op :=
  { mkOp 0x20120010 [(2, 0x8010FFFF), (4, 0x0002007F), (5, w5), (6, 0), (7, 915000000)] with
    entries := 2, chans := [(915000000, 1)], eng := e, started := e != .idle, settled := e != .idle, winOpen := 10 }

theorem witness_ChirpOperationsSendAndListen :
    (let op := chirpOp (0x10000000 - 108480000 + 500)
     let s := withOp chirp0 op
     s.regsWf ∧ op.plain ∧ (s.slot o0).discard = false ∧ s.begins o0 2 2 = some op ∧ (s.lo op.lo).at op.freq = true ∧
       (s.advance (op.sendStart - s.tbLo).toInt.toNat).sendFits op = true ∧ op.sendCr ≠ 3 ∧ ∀ x ∈ s.ops, x.isListen = false) ∧
    (let op := chirpOp 5
     let s := withOp chirp0 op
     s.begins o0 2 2 = some op ∧ (s.advance (op.sendStart - s.tbLo).toInt.toNat).sendFits op = false) ∧
    ({ base with clk.refSrc := 0 }.tbRuns = false) ∧
    (let op := chirpOp 5 (.csend true 77)
     let s := withOp chirp0 op
     s.running o0 = some op ∧ op.eng = .csend true 77 ∧ op.mem = true ∧ op.limit < op.memWords + 2 ∧
       ∀ x ∈ s.ops, x.isListen = false) ∧
    (let op : Op := { chirpOp 5 (.csend true 77) with band := some 0 }
     let s := { withOp chirp0 op with duty := vset chirp0.duty 0 [3, 4] }
     s.running o0 = some op ∧ s.duty[(0 : Fin 4)] = 3 :: [4]) ∧
    (let op := listenOp 1000 .idle
     (withOp chirp0 op).begins o0 2 1 = some op ∧ ((withOp chirp0 op).lo op.lo).lockedOn (op.w 7).toNat = true ∧
       (withOp air0 op).begins o0 2 1 = some op ∧ ((withOp air0 op).lo op.lo).lockedOn (op.w 7).toNat = false) ∧
    (let op := listenOp 1000 (.listen false 2)
     let s := withOp chirp0 op
     s.running o0 = some op ∧ op.settled = true ∧ op.w 5 ≠ 0 ∧ op.limitHit = false ∧ bits (op.w 4) 8 8 = 0 ∧
       s.decoders = Vector.replicate 16 none ∧ s.tbRuns = true) := by
  unfold Op.plain; decide +kernel

/-- A reception on U4, entry 1, SO7. -/
def recep0 (lv : Int) (ops : List OpId) : Recep :=
  { port := 4, chan := 1, freq := 915000000, bw := 1, so := 2, level := lv, ops := ops }
/-- The header of an uplink of three bytes. -/
def header0 : BitVec 24 := BitVec.ofNat 24 (chirpHeader 3 1 true false)
/-- A decoder that follows a reception. -/
def decoding (s : State) (r : Recep) : State := { s with decoders := vset s.decoders 3 (some r) }

theorem witness_ChirpReceptionsAnchorAndRelease :
    (let s := decoding chirp0 (recep0 100 [])
     s.regsWf ∧ s.decoders[(3 : Fin 16)] = some (recep0 100 []) ∧ (∀ x ∈ s.ops, x.isListen = false) ∧
       (recep0 100 []).netid = none ∧ (recep0 100 []).hdr = none ∧
       ({ recep0 100 [] with netid := some 5 } : Recep).netid ≠ none) ∧
    hcrc (header0.toNat / 256) = header0.toNat % 256 ∧ header0.toNat / 65536 ≠ 0 ∧ header0.toNat / 16384 % 4 ≠ 3 ∧
    header0.toNat / 256 % 16 = 0 ∧ header0.toNat / 4096 % 2 = 0 ∧
    (let h := chirpHeader 3 1 true true
     hcrc (h / 256) = h % 256 ∧ h / 65536 ≠ 0 ∧ h / 16384 % 4 ≠ 3 ∧ h / 256 % 16 = 0 ∧ h / 4096 % 2 = 1) ∧
    hcrc (0x030001 / 256) ≠ 0x030001 % 256 := by decide +kernel

/-- The C.LISTEN listening, its window open. -/
def listening : Op := listenOp 0 (.listen false 0)
def listen0 : State := withOp chirp0 listening
/-- What it hears of a packet of a level. -/
def heard (lv : Int) : Recep := recep0 lv [o0]
/-- The same with its header passed. -/
def inPayload (lv : Int) (ops : List OpId) : Recep := { recep0 lv ops with netid := some 5, hdr := some header0, capthr := 6 }

/-- A payload with its CRC-16 (R164), most significant byte first. -/
def payload0 (bs : List Byte) : List Byte :=
  let c := crcRun 16 0x1021 0xFFFF (bs.flatMap msbBits)
  bs ++ [BitVec.ofNat 8 (c / 256), BitVec.ofNat 8 c]

theorem witness_ChirpCaptureAndDelivery :
    (let s := decoding listen0 (inPayload 100 [o0])
     let r := inPayload 100 [o0]
     s.decoders[(3 : Fin 16)] = some r ∧ r.hdr ≠ none ∧ r.gap = false ∧ r.step = false ∧ r.ops = [listening.id] ∧
       s.ops = [listening] ∧ listening.isListen = true ∧ listening.takesSo r = true ∧ listening.passes r = true ∧
       listening.ending = none ∧ listening.eng = .listen false 0 ∧ bits (listening.w 4) 8 8 = 0 ∧ listening.limitHit = false ∧
       listening.mem = true ∧ listening.memWords + 4 ≤ listening.limit ∧ (header0.extractLsb' 16 8).toNat = 3 ∧
       payloadOk (payload0 [1, 2, 3]) = true ∧ (payload0 [1, 2, 3]).length = 5) ∧
    (let s := decoding listen0 (heard 100)
     s.regsWf ∧ (∀ lv ∈ [(115 : Int), 116, 195, 196], s.newRecep 4 1 2 lv = some (heard lv) ∧ s.detects (heard lv) = true) ∧
       (heard 100).hdr = none ∧
       ∀ x ∈ s.ops, x.w 5 = 0 ∧ bits (x.w 4) 8 8 = 0 ∧ x.limitHit = false ∧ x.eng = .listen false 0) ∧
    (inPayload 100 []).hdr ≠ none ∧ (inPayload 100 []).level + 16 * (inPayload 100 []).capthr = 196 ∧
    (let s := { decoding listen0 (inPayload 100 []) with units := [(4, 1)] }
     (4, 1) ∈ s.units ∧ s.newRecep 4 1 3 10 = some { heard 10 with so := 3 } ∧ s.detects { heard 10 with so := 3 } = true ∧
       s.follower { heard 10 with so := 3 } = none ∧ s.decoders[(0 : Fin 16)] = none) ∧
    (let s := { listen0 with units := [(4, 1)], decoders := Vector.replicate 16 (some (heard 100)) }
     s.follower { heard 10 with so := 3 } = none ∧ ∀ e : Fin 16, s.decoders[e] ≠ none) := by decide +kernel

/-! #### S.FIX and K.CAL -/

/-- An S.FIX on U0 and U4, with four hops, for the tag of handle 1. -/
def fixOp (e : Engine := .idle) : Op :=
  { mkOp 0x30120011 [(2, 0x80000004), (4, 1), (5, 0x00040000)] with eng := e, started := e != .idle }
/-- The device with an Atlas that describes every port, the phase corrections of U0 and U4, and that tag. -/
def fix0 : State :=
  { ((((beams0.setReg (UP_CTRL 0) 3).setReg (UP_CTRL 4) 3).setReg (CAL_UVALID 0) 0x000F8000).setReg (CAL_UVALID 4) 0x000F8000).setReg
      SV_LINK refLink with
    profile := { region0 with atlas := [0xFFFF] }, atlasOk := true, tags := [tag0] }
/-- That S.FIX Pending, and on its settled beam. -/
def fixDue0 : Op := { fixOp with active := false }
def fixOn0 : Op := { fixOp with settled := true, entry := some tag0, link := refLink }

theorem witness_FixesBeginAndSolve :
    (let s := withOp fix0 fixDue0
     s.regsWf ∧ fixDue0.plain ∧ (s.slot o0).discard = false ∧ s.op? o0 = some fixDue0 ∧ fixDue0.cls = 3 ∧
       fixDue0.failItems = false ∧
       tested s (fun s op => let l := s.latchOp op; statusIs Option.isNone s op && (l.1.txPorts l.2).isEmpty) = true) ∧
    (let s := withOp base fixOp
     s.regsWf ∧ fixOp.plain ∧ (s.slot o0).discard = false ∧ s.begins o0 3 1 = some fixOp ∧ fixOp.settled = false) ∧
    (let s := withOp base fixOn0
     let start2 := s.ticks + 174 + cmdTicks fixOn0.link (reselect tag0) + t4Ticks fixOn0.link
     s.begins o0 3 1 = some fixOn0 ∧ fixOn0.pos = 0 ∧ fixOn0.entry = some tag0 ∧ fixOn0.retest = false ∧ s.colour o0.thread ≠ 2 ∧
       fixOn0.fits (reselect tag0) .none (s.ticks + 174) = true ∧
       fixOn0.fits (cmdQuery fixOn0.link 3 (bits fixOn0.bscCfg 4 2) false 0) (.immediate 16) start2 = true) ∧
    (let op := fixOp (.solve {})
     let s := { withOp base op with solving := [o0] }
     s.running o0 = some op ∧ op.eng = .solve {} ∧ o0 ∈ s.solving ∧ op.cls = 3 ∧ op.mem = true ∧ op.limit < op.memWords + 5) := by
  unfold Op.plain; constructorm* _ ∧ _ <;> decide +kernel

/-- A K.CAL of a code and port mask on LO2 at 915 MHz, its results in memory. -/
def calOp (code mask : Nat) (e : Engine := .idle) : Op :=
  { mkOp (0x40120000 + mask) [(2, 0x80000002), (4, code * 0x1000000 + 1), (5, 915000000)] with
    freq := 915000000, eng := e, started := e != .idle }
def cal0 : State := locked (base.setReg (UP_CTRL 4) 0x11) 2 915000000

theorem witness_CalibrationRunsClaimAndBegin :
    (∀ k ∈ [(1, 16), (2, 16), (3, 16), (4, 16), (5, 0), (6, 2), (7, 2), (8, 0), (9, 0)],
      (withOp cal0 (calOp k.1 k.2)).begins o0 4 1 = some (calOp k.1 k.2) ∧ (calOp k.1 k.2).calCode = k.1) ∧
    ((withOp cal0 (calOp 3 16)).lo (calOp 3 16).lo).at (calOp 3 16).freq = true ∧ (calOp 3 16).lbtWait = false ∧
    ∀ x ∈ (withOp cal0 (calOp 3 16)).ops, x.isListen = false := by decide +kernel

/-- A measurement of `n` values. -/
def calResult (n : Nat) : CalResult := { quality := 30, values := List.replicate n 5, sensors := List.replicate 8 400 }
/-- The run of a stage. -/
def calAt (st : CalStage) : CalSt := { stage := st, set := 2 }

/-- The run that measured it. -/
def measured (code n : Nat) : CalSt :=
  { calAt .measuring with quality := calQuality code (calResult n), values := (calResult n).values }

theorem witness_CalibrationRunsMeasureAndStore :
    (∀ k ∈ [(7, 2), (9, 0)], ∀ st ∈ [CalStage.preconds, .waitSwitch, .measuring, .writing],
      let op := calOp k.1 k.2 (.cal (calAt st))
      let s := withOp cal0 op
      s.regsWf ∧ s.running o0 = some op ∧ op.eng = .cal (calAt st) ∧ op.isCal = true ∧ op.plain ∧
        (s.slot o0).discard = false ∧ ∀ y ∈ s.ops, y.isListen = false) ∧
    (let op := calOp 1 16 (.cal (calAt .preconds))
     (withOp base op).running o0 = some op ∧ ((withOp base op).advanceTo (usTicks 50)).calPre op { foreign := -239 } = false) ∧
    (let op := calOp 7 2 (.cal (calAt .preconds))
     let s := withOp (cal0.setReg (HP_CTRL 1) 1) op
     (s.advanceTo (usTicks 50)).calPre op {} = true ∧ op.spareNo ≠ none) ∧
    (let op := calOp 9 0 (.cal (calAt .preconds))
     ((withOp cal0 op).advanceTo (usTicks 50)).calPre op {} = true ∧ op.spareNo = none ∧ op.calCode ≠ 8) ∧
    (let op := calOp 7 2 (.cal (calAt .waitSwitch))
     let s := withOp cal0 op
     op.lbtWait = false ∧ op.spareNo ≠ none ∧ (s.hostOp op).isNone = true ∧ op.hports = [1] ∧ (s.hholder 1).isNone = true) ∧
    (let op := calOp 7 2 (.cal (calAt .measuring))
     let s := withOp cal0 op
     s.calMoved op (calAt .measuring) = false ∧
       (s.advanceTo (usTicks (calDuration 7))).calPlausible op (measured 7 2) (calResult 2) = true) ∧
    (let op := calOp 9 0 (.cal (calAt .measuring))
     let s := withOp cal0 op
     s.calMoved op (calAt .measuring) = false ∧ op.mask = 0 ∧ bit (op.w 4) 0 = true ∧ s.applying = [] ∧
       (s.advanceTo (usTicks (calDuration 9))).calPlausible op (measured 9 16) (calResult 16) = true) ∧
    (let op := calOp 9 0 (.cal (calAt .writing))
     op.mem = true ∧ op.limit < op.memWords + 3 ∧ (calAt .writing).verdict = 0) := by
  unfold Op.plain; constructorm* _ ∧ _ <;> decide +kernel

theorem witness_TrimsStepAndTemperaturesUpdate :
    (∀ t ∈ [(-5 : Int), 0, 1, 5], let s := { base with applying := [⟨.mag 0, t, none, 5001000⟩] }
      s.regsWf ∧ s.applying = [⟨.mag 0, t, none, 5001000⟩] ∧ s.tbRuns = true) ∧
    base.calSets = [] ∧ base.calBase = [] ∧ base.ops = [] := by decide +kernel

/-! #### Rings, transfers and the scheduler -/

theorem base_regsWf : base.regsWf := by decide +kernel

theorem witness_RingsEnableEmptyAndReset :
    base.regsWf ∧ base.ringOn 16 = false ∧ base.ringCfgOk 16 0x80000000 = true ∧ base.ringCfgOk 16 0xF8000000 = false ∧
    ring0.regsWf ∧ ring0.ringOn 16 = true :=
  ⟨base_regsWf, by decide +kernel⟩

/-- Transfer channel 1 from ring 2 to ring 18, both in service for it. -/
def xfer0 (y : Xfer) (ws : List RWord) : State :=
  { withRing ((base.setReg (RG_CFG 2) 0x80000045).setReg (RG_CFG 18) 0x80004500) 2 fun r => { r with words := ws } with
    xfers := vset base.xfers 1 { y with cfg := 0x80528000 } }

theorem witness_TransferChannelsServeRequests :
    (base.xf 1).cfg.getLsbD 31 = false ∧ ((xfer0 {} []).xf 1).cfg.getLsbD 31 = true ∧ ((xfer0 {} []).ring 2).words = [] ∧
    ((xfer0 {} [word1 3]).ring 2).words ≠ [] ∧
    (let s := xfer0 { busy := true } [word1 0x1000000000005]
     let y := s.xf 1
     s.regsWf ∧ y.cfg.getLsbD 31 = true ∧ y.busy = true ∧ y.held = false ∧ y.mid = false ∧ y.cfg.getLsbD 15 = true ∧
       y.cfg.getLsbD 14 = false ∧ y.src = 2 ∧ y.dst = 18 ∧ s.ringOn 2 = true ∧ s.ringCons 2 = 0x45 ∧ s.ringOn 18 = true ∧
       s.ringProd 18 = 0x45 ∧ s.ringRoom 18 ≠ 0 ∧ (s.ring 2).words = [word1 0x1000000000005] ∧
       itemLength (word1 0x1000000000005).data = 1 ∧ (s.ring 18).open_ = none ∧ y.src ≠ y.dst ∧ ({} : Xfer).busy = false ∧
       ({} : Xfer).mid = false) ∧
    ((xfer0 { busy := true, held := true } [word1 3]).xf 1).held = true := by decide +kernel

/-- An egress ring with an item of its own at its head. -/
def egress0 (n : RingNo) : State :=
  withRing (base.setReg (RG_CFG n) 0x80000042) n fun r => { r with words := [word1 0x1000000000005, word1 1] }

theorem witness_EgressSendsByPriorityThenDeficit :
    (let s := egress0 18
     s.regsWf ∧ s.hsp.sending = none ∧ s.egReady 18 = true ∧ headItem (s.ring 18).words = some [word1 0x1000000000005] ∧
       s.hsp.txq.length + 1 ≤ 2048 ∧ ∀ m : RingNo, 16 ≤ m.val → m < 18 → s.egReady m = false) ∧
    (let s := { egress0 22 with hsp.cursor := 2 }
     s.hsp.sending = none ∧ headItem (s.ring 22).words = some [word1 0x1000000000005] ∧ s.egReady 22 = true ∧ (∀ m : RingNo, 16 ≤ m.val → m.val < 20 → s.egReady m = false) ∧ (22 : Nat) = 20 + s.hsp.cursor ∧
       (s.ring 22).visited = false ∧ (1 : Int) ≤ (s.ring 22).deficit + max 1 (bits (s.reg (SC_EGR 6)) 16 16)) ∧
    2048 ≤ { base with hsp.txq := List.replicate 2048 {} }.hsp.txq.length := by
  refine ⟨by decide +kernel, by decide +kernel, ?_⟩
  simp only [List.length_replicate]; decide

/-- Thread 0 in class A5 with an operation in flight and its meter in force; ring E2 with words. -/
def credit0 : State :=
  withRing (withOp ((((base.setReg (SC_THCLASS 0) 5).setReg (SC_THCLASS 1) 0).setReg (SC_AMCTL 0) 0x80000000).setReg (RG_CFG 18) 0x80000000)
    (fieldOp 0)) 18 fun r => { r with words := List.replicate 15 (word1 3) }

theorem witness_CreditsRefillAndLatencyIsSampled :
    credit0.regsWf ∧ 4 ≤ credit0.airClass 0 ∧ (∀ x ∈ credit0.ops, x.id.thread = 0) ∧ (∃ x ∈ credit0.ops, x.id.thread = 0) ∧
    credit0.deficits[(0 : Tid)] ≤ credit0.defCap ∧ credit0.airClass 8 < 4 ∧ bit (credit0.reg (SC_AMCTL 0)) 31 = true ∧
    bit (credit0.reg (SC_AMCTL 8)) 31 = false ∧ (1 : Fin 16) ≠ 0 ∧ credit0.ringOn 18 = true ∧
    (credit0.ring 18).words = word1 3 :: List.replicate 14 (word1 3) ∧ credit0.ringOn 16 = false ∧
    (0x80000000 : Word).getLsbD 30 = false ∧ (∀ x ∈ credit0.ops, 0 ≤ credit0.deficits[x.id.thread]) ∧
    (let s := withOp (credit0.setReg (SC_THCLASS 0) 0) (hfOp 1 0xFFFF 0x80640000 (.hfield true))
     s.regsWf ∧ (∀ x ∈ s.ops, x.active = true ∧ x.isSend = false) ∧ bit (s.reg (SC_AMCTL 0)) 31 = true ∧
       bit (s.reg (SC_AMCTL 1)) 31 = false ∧ s.airClass 1 < 4) := by
  simp only [credit0]; decide +kernel

/-! #### The serial ports -/

/-- A host frame of a type with its CRC word. -/
def frame (ty alive flags : Nat) (body : List Word) : HostFrame :=
  let f : HostFrame := { alive := BitVec.ofNat 8 alive, flags := BitVec.ofNat 8 flags, body := body, crc := 0 }
  { f with crc := crc32 (frameHeader ty f :: body) }
/-- The device ready on the host port. -/
def host0 (f : Hsp → Hsp := id) : State := { base with hsp := f { base.hsp with ready := true } }

theorem witness_BadFramesAreAnsweredNotExecuted :
    (host0.regsWf ∧ host0.hsp.badRun ≠ 15 ∧ host0.hears (frame 1 1 0 [4]) ∧
      frameCrcOk 1 { frame 1 1 0 [4] with crc := 7 } = false ∧ (frame 1 1 0 [4]).alive ≠ 0) ∧
    (frameCrcOk 1 (frame 1 3 0 [4]) = true ∧ ¬ host0.inTurn (frame 1 3 0 [4])) ∧
    (base.hsp.ready = false ∧ base.power.released = true) := by
  unfold State.hears State.inTurn; decide +kernel

/-- A kept answer of the device. -/
def kept0 : Answer := { verdict := 3, ftype := 2, alive := 5, length := 2, data := [] }

theorem witness_GoodFramesAreExecutedAndAnswered :
    (host0.hears (frame 1 1 0 [0x200]) ∧ host0.inTurn (frame 1 1 0 [0x200]) ∧ host0.inTurn (frame 1 0 0 [0x200])) ∧
    (frameCrcOk 1 (frame 1 1 0 [0x12FFFC]) = true ∧ wordAddr 0x12FFFC < regSpace ∧
      (host0.inFrame.busRead 0x200).2.hsp = host0.inFrame.hsp) ∧
    (frameCrcOk 2 (frame 2 1 0 [0x200, 5]) = true ∧ (host0.inFrame.busWrite .host 0x200 5).hsp = host0.inFrame.hsp) ∧
    (let s := host0.setReg (RG_CFG 2) 0x80004000
     frameCrcOk 3 (frame 3 1 2 [0x10000, 5]) = true ∧ itemLength (0x10000#32 ++ 5#32) = 1 ∧ s.ringOn 2 = true ∧
       s.ringProd 2 = 0x40 ∧ s.ringRoom 2 ≠ 0 ∧ (s.reg (SC_IMCTL 2)).getLsbD 31 = false ∧ (s.ring 2).open_ = none ∧ s.regsWf ∧
       (withRing s 2 fun r => { r with words := List.replicate 16 {} }).ringRoom 2 = 0 ∧ s.ringCap 2 ≠ 0) ∧
    (frameCrcOk 4 (frame 4 1 0 [4095]) = true ∧ (4095 : Word).toNat < 4096) ∧
    (frameCrcOk 5 (frame 5 9 0 [0xFFFFFFFF, 0x10000]) = true ∧ (0x10000 : Word).toNat % 4 = 0) ∧
    (frameCrcOk 6 (frame 6 1 0 [5, 0]) = true ∧ host0.saffron.held = false ∧
      { host0 with saffron.held := true }.saffron.held = true) ∧
    (frameCrcOk 6 (frame 6 1 0 []) = true ∧ { host0 with saffron.ready := true }.saffron.owner = .host) ∧
    (frameCrcOk 7 (frame 7 1 1 [0x3FFE0, 1, 2, 3, 4, 5, 6, 7, 8]) = true ∧ (0x3FFE0 : Word).toNat % 32 = 0 ∧
      (0x3FFE0 : Word).toNat + 4 * 8 ≤ 0x40000 ∧ (host0 fun h => { h with loading := true }).hsp.loading = true) ∧
    (frameCrcOk 7 (frame 7 1 2 [64, 1, 2, 3, 4, 5, 6, 7, 8]) = true ∧ (64 : Word).toNat = 32 * 2 ∧
      (host0 fun h => { h with refetch := [2, 3] }).hsp.refetch = [2, 3]) ∧
    (frameCrcOk 1 (frame 1 1 0x80 [5]) = true ∧ (frame 1 1 0x80 [5]).flags = 0x80 ∧
      (host0 fun h => { h with kept := [kept0] }).hsp.kept.find? (fun x => x.alive == (5 : Word).extractLsb' 0 8) = some kept0) := by
  unfold State.hears State.inTurn; decide +kernel
theorem witness_SelectsWithoutFramesAndTimeouts :
    host0.regsWf ∧ host0.hsp.badRun ≠ 15 ∧ host0.hsp.ready = true ∧ ({} : SelectInfo).ready = true ∧ host0.hsp.split = false ∧
    (0x20000000 : Word).toNat / 0x10000000 ≠ 1 ∧ ({} : SelectInfo).boundary = false ∧
    7 < (0x90000000 : Word).toNat / 0x10000000 ∧
    1 ≤ (0x10000080 : Word).toNat / 0x10000000 ∧ ({ boundary := true } : SelectInfo).boundary = true ∧
    ((host0.setReg HS_CFG 1).reg HS_CFG).getLsbD 0 = true ∧ (host0.setReg HS_CFG 1).regsWf ∧
    (host0 fun h => { h with split := true, splitHdr := 5 }).hsp.splitHdr = 5 ∧
    (let s := (host0 fun h => { h with timerOn := true }).setReg HS_TMO 0xC0000000
     s.regsWf ∧ s.hsp.timerOn = true ∧ (s.reg HS_TMO).getLsbD 31 = true ∧ (s.reg HS_TMO).getLsbD 30 = true ∧ s.ops = []) ∧
    (((host0 fun h => { h with timerOn := true }).setReg HS_TMO 0x80000000).reg HS_TMO).getLsbD 30 = false := by decide +kernel
theorem witness_MemoryAndPeripheralPortTransfers :
    host0.regsWf ∧
    (let s := { base with msp.fills := [0x7FFFF, 3] }
     s.msp.fills = (0x7FFFF : BitVec 19).toNat :: [3] ∧ (∀ a, s.xipRegion a = none) ∧ (∀ t, (s.th t).waiting = none) ∧
       s.msp.lines = []) ∧
    (let s := base.setReg MS_DCMD 0x40080000
     (s.reg MS_DCMD).getLsbD 30 = true ∧ s.msp.queued = false ∧ bits (s.reg MS_DCMD) 16 4 = 8) ∧ (base.reg MS_DCMD).getLsbD 30 = false ∧
    64 ≤ { base with psp.queue := List.replicate 64 0 }.psp.queue.length ∧ base.psp.queue.length < 64 ∧
    6 ≤ (0x30000000 : Word).toNat / 2 ^ 27 % 8 ∧ (0xA8031234 : Word).toNat / 2 ^ 27 % 8 < 6 ∧
    (base.reg PS_CTRL).getLsbD 0 = false ∧
    { base with psp.word := some 0xA8031234 }.psp.word = some 0xA8031234 ∧ base.psp.queue = [] ∧
    (0xA8031234 : Word).getLsbD 30 = false ∧ (0xC8000123 : Word).getLsbD 30 = true ∧
    { base with psp.held := some 2 }.psp.held ≠ none ∧ base.psp.word = none ∧ base.psp.rx = [] ∧
    { base with psp.rx := [1, 5] }.psp.rx = [1, 5] := by
  refine ⟨by decide +kernel, ⟨by decide, fun a => ?_, by decide +kernel, by decide⟩, by decide +kernel⟩
  rfl


/-! #### The mains link -/

/-- The mains link in a role and state, its management ring 1 in service, ZC present, its cycle begun 2,401 µs ago. -/
def mains (role st : Nat) (f : Mlink → Mlink := id) : State :=
  { (base.setReg ML_CFG (BitVec.ofNat 32 (role * 0x40000000 + 0x10005))).setReg (RG_CFG 1) 0x80004100 with
    ml := f { base.ml with st := BitVec.ofNat 3 st, zcOk := true, start := some 4479000, ready := true } }

/-- A beacon of this network. -/
def beacon0 : MlBeacon := ⟨5, 77, 39000, 0x3FFF0123, 500, 3000, false, false, 3, [(1, 10, 20)], 7⟩

/-- Frame control of a frame of one segment with the robust map. -/
def fc0 (ftype : BitVec 4) (src dst : BitVec 7) (link : BitVec 4) : BitVec 96 :=
  mlFc ftype src dst link { bits := 491 } false false 17 1 0

/-- The frame of that beacon, with a MIC. -/
def beaconFrame (mic : BitVec 64) : MlFrame :=
  ⟨fc0 0 0 0x7F 0, false, [], [segPlain (segHead 0 0 63 false) (beaconBytes beacon0 ++ wordsBytes (bigWords 2 mic))]⟩

/-- What any such frame reads as: the beacon's words, and the MIC. -/
theorem beaconFrame_reads (mic : BitVec 64) : let seg := (beaconFrame mic).segs.headD []
    segCrcOk seg = true ∧ beaconOf (segBody seg) = beacon0 ∧ segSeq seg = 0 ∧ (segBody seg).take 484 = beaconBytes beacon0 ∧
      seg.getD 122 0 ++ seg.getD 123 0 = mic := by
  have h := segPlain_mic (segHead 0 0 63 false) (beaconBytes beacon0) (by simp [beaconBytes]) mic
  have b : beaconOf (beaconBytes beacon0) = beacon0 := by decide +kernel
  have q : segSeq [segHead 0 0 63 false] = 0 := by decide
  exact ⟨segCrcOk_segPlain _ _, by rw [← beaconOf_take]; exact (congrArg beaconOf h.1).trans b, q, h.1, h.2⟩

/-- A member before, and in, the network of group key 9. -/
def member (st : Nat) (g : Option (BitVec 128)) : State := mains 1 st fun m => { m with group := g, epoch := 3, unseen := 3 }

@[simp] theorem beaconFrame_fc (mic : BitVec 64) : (beaconFrame mic).fc = fc0 0 0 0x7F 0 := by simp only [beaconFrame]
@[simp] theorem beaconFrame_negated (mic : BitVec 64) : (beaconFrame mic).negated = false := by simp only [beaconFrame]

/-- What every frame gives does not depend on its segments. -/
theorem heard_congr (s : State) {f g : MlFrame} (hc : f.fc = g.fc) (hn : f.negated = g.negated) : s.heard f = s.heard g := by
  simp only [State.heard, hc, hn]
theorem heard_mic (s : State) (mic : BitVec 64) : s.heard (beaconFrame mic) = s.heard (beaconFrame 0) :=
  heard_congr s (by simp) (by simp)

theorem member_accepts (s : State) (h : s ∈ [member 1 none, member 3 (some 9)]) (mic : BitVec 64) :
    s.accepts 0 0 (beaconFrame mic) ((s.advance 0).heard (beaconFrame mic)) ∧
      ((s.advance 0).heard (beaconFrame mic)).mlRole = 1 ∧ fcSrc (beaconFrame mic).fc = 0 := by
  rw [State.accepts, beaconFrame_fc, heard_mic _ mic]
  have fc : fcOk (fc0 0 0 0x7F 0) = true ∧ fcType (fc0 0 0 0x7F 0) = 0 ∧ fcSrc (fc0 0 0 0x7F 0) = 0 := by decide +kernel
  have m : ∀ s ∈ [member 1 none, member 3 (some 9)], (s.advance 0).mlRuns = true ∧
      ((s.advance 0).heard (beaconFrame 0)).mlRole = 1 := by decide +kernel
  exact ⟨⟨(m s h).1, fc.1, fc.2.1, rfl⟩, (m s h).2, fc.2.2⟩

/-- A member that knows the numbering of the head's broadcasts. -/
def hearer : State := (member 3 (some 9)).modMl fun m => { m with rx := [{ src := 0, bc := true, link := 0, next := 256 }] }

/-- A beacon heard by a station without a group key, one that the group key did not sign, and one that it did. -/
theorem witness_beacons :
    (let s1 := ((member 1 none).advance 0).heard (beaconFrame 0)
     s1.ml.group = none ∧ s1.ml.st = 1 ∧ beacon0.nid.toNat = bits ((member 1 none).reg ML_CFG) 0 16) ∧
    (let s1 := (((member 3 (some 9)).modMl fun m => { m with epoch := 8 }).advance 0).heard (beaconFrame 0)
     s1.ml.group ≠ none ∧ s1.groupKeys = [(9, 8)] ∧ beacon0.epoch = 3) ∧
    ∃ mic, let f := beaconFrame mic
      let s1 := (hearer.advance 0).heard f
      let pn := (s1.rxLink f.fc 0).1.pnOf (segSeq (f.segs.headD []))
      (∃ k ∈ s1.groupKeys, k.2 = beacon0.epoch ∧ ccmMic k.1 (mlNonce 0 0x7F 0 pn beacon0.epoch) (beaconBytes beacon0) [] = mic) ∧
        s1.ml.group ≠ none ∧ s1.ml.st = 3 ∧ (s1.rxLink f.fc 0).1.placed pn = false := by
  refine ⟨by decide +kernel, by decide +kernel, ccmMic 9 (mlNonce 0 0x7F 0 256 3) (beaconBytes beacon0) [], ?_⟩
  generalize hm : ccmMic 9 (mlNonce 0 0x7F 0 256 3) (beaconBytes beacon0) [] = mic
  have e : (((hearer.advance 0).heard (beaconFrame 0)).rxLink (fc0 0 0 0x7F 0) 0).1.pnOf 0 = 256 ∧
      (((hearer.advance 0).heard (beaconFrame 0)).rxLink (fc0 0 0 0x7F 0) 0).1.placed 256 = false ∧
      ((hearer.advance 0).heard (beaconFrame 0)).groupKeys = [(9, 3)] ∧ ((hearer.advance 0).heard (beaconFrame 0)).ml.st = 3 ∧
      ((hearer.advance 0).heard (beaconFrame 0)).ml.group ≠ none := by decide +kernel
  simp only [heard_mic _ mic, (beaconFrame_reads mic).2.2.1, beaconFrame_fc, e.1, e.2.1, e.2.2.1]
  exact ⟨⟨(9, 3), .head _, rfl, hm⟩, e.2.2.2.2, e.2.2.2.1, trivial⟩

/-- A K.CAL MAG that waits for the silent window. -/
def magOp : Op := calOp 8 0 (.cal { stage := .waitSwitch })

theorem witness_MainsCycleFollowsBeacons :
    (mains 2 4).regsWf ∧ base.mlRole ≠ 1 ∧
    (let s := mains 1 3
     s.mlRole = 1 ∧ s.ml.start = some 4479000 ∧ s.zcMis = false ∧ ((s.advance 0).zcSteps 4479000).toNat = 1 ∧
       bits (s.reg ML_CFG) 24 3 = 0 ∧ ((s.advance 0).zcSteps 5000000).toNat = 0) ∧
    (mains 2 4).mlRole = 2 ∧ (mains 2 4).ml.zcGone = false ∧ (mains 2 4).mlRuns = true ∧
    (mains 2 4).ml.st = 4 ∧ (mains 2 4).power.level < 4 ∧ pnSpent ((mains 2 4).txLink 0x7F 0).pn = false ∧
    (mains 1 3).mlRuns = true ∧ (mains 1 3).ml.st = 3 ∧
    (let s := member 3 (some 9)
     s.regsWf ∧ s.mlRuns = true ∧ s.mlRole = 1 ∧ 2 ≤ s.ml.st.toNat ∧ s.mlMaySend = true ∧ 0 < s.ml.cw ∧ 3 ≤ s.ml.unseen ∧
       s.ml.openLine = false) ∧
    (let s := withOp (mains 2 4) magOp
     s.mlRuns = true ∧ s.ml.start = some 4479000 ∧ s.op? o0 = some magOp ∧ magOp.eng = .cal { stage := .waitSwitch } ∧
       magOp.calCode = 8) := by
  decide +kernel

/-- Station 3, up, with a link key and asking for soundings; the head; and a station whose key is not there. -/
def peer3 : MlPeer := { id := 3, up := true, key := some 7, soundReq := 0x3F, signal := [(0, [])] }
def head0 : MlPeer := { id := 0, up := true, key := some 6 }
def keyless : MlPeer := { id := 3, up := true }

/-- Station 5 of a network with ring E2 on link 2 to station 3, an item on it, and ring I1 written by the link. -/
def member0 (f : Mlink → Mlink := id) : State :=
  withRing (((mains 1 3 fun m => f { m with myId := 5, peers := [peer3, head0], noise := [(0, [])] }).setReg (ML_LINK 2) 0x80000302).setReg
    (RG_CFG 18) 0x80000041) 18 fun r => { r with words := [word1 0x1000000000005] }

/-- A message of some content in its segment's words. -/
def msgBytes (mt : Byte) (c : List Byte) : List Byte := [mt, 0] ++ halfBytes (BitVec.ofNat 16 c.length) ++ c


/-- A frame of one segment brings the message that the segment holds. -/
theorem brings_one {s s1 : State} {mtype : Byte} {dt : Nat} {f : MlFrame} {seg : List Word} {x y z : MlRxLink} {body c : List Byte}
    (ha : s.accepts 2 dt f s1) (hf : s1.forMe f.fc = true) (hs : f.segs = [seg]) (hx : s1.rxLink f.fc 0 = (x, s1))
    (hq : segSeq seg = fcSeq f.fc) (hp : x.pnOf (fcSeq f.fc) = x.next) (hc : segCrcOk seg = true) (hn : x.placed x.next = false)
    (ho : (if mtypeOpen mtype then some (segBody seg) else mlOpen x.src (fcDst f.fc) 0 x.next seg (s1.mlKeys x.src x.bc)) = some body)
    (hy : y = x.place x.next 63 ((bodyWords body (segWords seg)).map rword) s1.ticks) (hm : s1.takeMsg y 128 = (z, some (mtype, c))) :
    s.brings mtype dt f ((s1.setRxLink z).oweSack f (y.sackBits x.next)) (fcSrc f.fc) c := by
  intro k
  obtain ⟨h1, h2, h3, h4⟩ := ha
  simp only [State.mgmtFrame, State.rxFrame, h1, h2, h3, ← h4, hf, State.mgmtTake_one hs hx hq hp hc hn ho hy hm, takenAs,
    Bool.and_self, beq_self_eq_true, if_true]

/-- The state in which the first message of a link is heard. -/
def hearing (s : State) (src dst : BitVec 7) : State := (s.advance 0).heard ⟨fc0 2 src dst 0, false, [], []⟩
/-- Its link with the first segment placed. -/
def placing (s : State) (src dst : BitVec 7) (n : Nat) (body : List Byte) : MlRxLink :=
  MlRxLink.place { src := src, bc := dst == 0x7F, link := 0, next := 0 } 0 63 ((bodyWords body n).map rword) (hearing s src dst).ticks
/-- The state in which it is taken. -/
def taken (s : State) (src dst : BitVec 7) (n : Nat) (body : List Byte) : State :=
  let y := placing s src dst n body
  ((hearing s src dst).setRxLink ((hearing s src dst).takeMsg y 128).1).oweSack ⟨fc0 2 src dst 0, false, [], []⟩ (y.sackBits 0)

/-- What a state must hold for a message of `n` words to be taken. -/
def taking (s : State) (src dst : BitVec 7) (n : Nat) (mt : Byte) (c body : List Byte) : Bool :=
  let fc := fc0 2 src dst 0
  let s1 := hearing s src dst
  (s.advance 0).mlRuns && fcOk fc && fcType fc == 2 && s1.forMe fc && fcSeq fc == 0 && fcSrc fc == src && fcDst fc == dst &&
    (let found := s1.ml.rx.find? fun x => x.src == src && x.link == 0 && x.bc == (dst == 0x7F)
     found == none && dst != 0x7F || found == some { src := src, bc := dst == 0x7F, link := 0, next := 0 }) &&
    (s1.takeMsg (placing s src dst n body) 128).2 == some (mt, c) && segSeq [segHead 0 n 63 false] == 0 &&
    segWords [segHead 0 n 63 false] == n

/-- A frame with a sound segment whose body holds a message brings it. -/
theorem brings_frame {s : State} {src dst : BitVec 7} {n : Nat} {mt : Byte} {c body : List Byte} {seg : List Word}
    (h : taking s src dst n mt c body = true) (hc : segCrcOk seg = true) (hh : seg.headD 0 = segHead 0 n 63 false)
    (ho : (if mtypeOpen mt then some (segBody seg) else mlOpen src dst 0 0 seg ((hearing s src dst).mlKeys src (dst == 0x7F))) =
      some body) :
    s.brings mt 0 ⟨fc0 2 src dst 0, false, [], [seg]⟩ (taken s src dst n body) src c := by
  simp only [taking, Bool.and_eq_true, beq_iff_eq, Bool.or_eq_true, bne_iff_ne, segSeq, segWords, List.headD_cons] at h
  obtain ⟨⟨⟨⟨⟨⟨⟨⟨⟨⟨h1, h2⟩, h3⟩, h4⟩, h5⟩, h6⟩, h7⟩, h8⟩, h10⟩, h11⟩, h12⟩ := h
  have hx : (hearing s src dst).rxLink (fc0 2 src dst 0) 0 =
      ({ src := src, bc := dst == 0x7F, link := 0, next := 0 }, hearing s src dst) := by
    rcases h8 with ⟨h8, h9⟩ | h8
    · simp only [State.rxLink, h5, h6, h7, h8]
      split <;> simp
      exact fun h => absurd h h9
    · simp only [State.rxLink, h6, h7, h8]
  have e := brings_one (s := s) (mtype := mt) (dt := 0) (f := ⟨fc0 2 src dst 0, false, [], [seg]⟩) (s1 := hearing s src dst) (seg := seg)
    (body := body) (c := c) ⟨h1, h2, h3, heard_congr _ rfl rfl⟩ h4 rfl hx (by rw [segSeq, hh, h11]; exact h5.symm)
    (by rw [h5]; simp [MlRxLink.pnOf]) hc rfl (by simpa only [h7] using ho) rfl
    (Prod.ext rfl (by rw [segWords, hh, h12]; exact h10))
  rw [segWords, hh, h12, h6] at e
  exact e

/-- A message's frame in the clear. -/
theorem brings_open {s : State} {src dst : BitVec 7} {n : Nat} {mt : Byte} {c : List Byte} (ht : mtypeOpen mt = true)
    (h : taking s src dst n mt c (fill 504 0 (msgBytes mt c)) = true) :
    s.brings mt 0 ⟨fc0 2 src dst 0, false, [], [segPlain (segHead 0 n 63 false) (msgBytes mt c)]⟩
      (taken s src dst n (fill 504 0 (msgBytes mt c))) src c :=
  brings_frame h (segCrcOk_segPlain _ _) rfl (by rw [if_pos ht, segBody_segPlain])

/-- A message's frame secured with the link's key. -/
theorem brings_sealed {s : State} {src dst : BitVec 7} {n : Nat} {mt : Byte} {c : List Byte} {k : BitVec 128}
    (ht : mtypeOpen mt = false) (hk : (hearing s src dst).mlKeys src (dst == 0x7F) = [(k, 0)])
    (h : taking s src dst n mt c (fill 496 0 (msgBytes mt c)) = true) :
    s.brings mt 0 ⟨fc0 2 src dst 0, false, [], [segSecured k (mlNonce src dst 0 0 0) (segHead 0 n 63 false) (msgBytes mt c)]⟩
      (taken s src dst n (fill 496 0 (msgBytes mt c))) src c :=
  brings_frame h (segCrcOk_segSecured _ _ _ _) rfl (by simp only [ht, hk, mlOpen, segOpen_segSecured]; rfl)

/-! What a station sends. -/

/-- The place in its cycle of `member0`, and the end of its contention interval. -/
theorem member0_opens (f : Mlink → Mlink) (h : f = id ∨ f = fun m => { m with outMsgs := [(3, 8, [1, 2])] }) (b : Bool) :
    ((member0 f).advance 0).opens b 521000 1388544 := by
  unfold State.opens
  rcases h with rfl | rfl <;> cases b <;>
    exact ⟨by decide +kernel, by decide +kernel, by decide +kernel, by decide +kernel, by decide +kernel, true, by decide +kernel⟩

theorem witness_frames_sent :
    fcOk 0 = false ∧ ((mains 1 1).advance 0).mlMaySend = false ∧
    (let s := member0
     let w := s.reg (ML_LINK 2)
     s.regsWf ∧ s.mlCarries 2 = true ∧ w.extractLsb' 8 7 = (3 : BitVec 7) ∧ w.extractLsb' 0 4 = (2 : BitVec 4) ∧ 3 ≤ s.ml.st.toNat ∧
       s.peerUp 3 = true ∧ s.mlKeys 3 false = [(7, 0)] ∧ (s.txLink 3 2).out = [] ∧ pnSpent (s.txLink 3 2).pn = false ∧
       0 < s.mlReady (egRing 2) ∧ s.mlReady (egRing 2) ≤ 62) ∧
    ((member0.advance 0).pickLoad 521000 1388544 1 true ((member0.advance 0).loadsFor 3 ((member0.advance 0).mlNotch 3) 521000)).isSome = true ∧
    (let s := member0 fun m => { m with outMsgs := [(3, 8, [1, 2])] }
     s.ml.tx = [] ∧ s.ml.outMsgs = (3, 8, [1, 2]) :: [] ∧ mtypeOpen 8 = true ∧ pnSpent (s.txLink 3 0).pn = false ∧
       ((s.advance 0).pickLoad 521000 1388544 1 true [(s.advance 0).robust ((s.advance 0).mlNotch 3)]).isSome = true) ∧
    (let s := member0 fun m => { m with sackDue := [⟨3, 5, 77, false, 5000000⟩] }
     (s.advance 0).mlMaySend = true ∧ s.ml.sackDue = ⟨3, 5, 77, false, 5000000⟩ :: []) ∧
    (let s := member0
     s.ml.peers = peer3 :: [head0] ∧ peer3.soundReq.getLsbD ((s.advance 0).regionAt 521000).1 = true ∧
       521000 + frameTicks false 4 ≤ min 1388544 ((s.advance 0).regionAt 521000).2 ∧
       (s.advance 0).clearOf 521000 (frameTicks false 4) = true) := by
  constructorm* _ ∧ _ <;> decide +kernel

/-! What acknowledges it. -/

/-- A frame on the air to station 3, its segment outstanding. -/
def onAir0 : State :=
  member0 fun m => { m with onAir := some ⟨3, 2, [1], 5100000⟩, tx := [{ dst := 3, link := 2, pn := 2, out := [⟨1, 1, []⟩] }] }
/-- A SACK from station 3 to station 5. -/
def sack0 : MlFrame := ⟨sackFc 3 5 1 0 false false false, false, [], []⟩

theorem witness_acknowledgements :
    (onAir0.accepts 3 0 sack0 ((onAir0.advance 0).heard sack0) ∧ ((onAir0.advance 0).heard sack0).ml.onAir = some ⟨3, 2, [1], 5100000⟩ ∧
      fcSrc sack0.fc = 3 ∧ ((onAir0.advance 0).heard sack0).forMe sack0.fc = true) ∧
    (onAir0.mlRuns = true ∧ onAir0.ml.onAir = some ⟨3, 2, [1], 5100000⟩) := by
  refine ⟨⟨⟨by decide +kernel, by decide +kernel, by decide +kernel, rfl⟩, ?_⟩, ?_⟩ <;> decide +kernel

/-! What a station receives. -/

/-- A link on which station 3 has sent nothing yet, and that state of station 5. -/
def fresh0 (link : BitVec 4) : MlRxLink := { src := 3, bc := false, link := link, next := 0 }
def linked (p : MlPeer) (link : BitVec 4) : State := member0 fun m => { m with peers := [p], rx := [fresh0 link] }
/-- The body of a segment with one item of one word, and its frame. -/
def body0 : List Byte := fill 496 0 (wordsBytes (bigWords 2 (0x1000000000005 : DWord)))
def seg0 : List Word := segSecured 7 (mlNonce 3 5 1 0 0) (segHead 0 1 0 false) (wordsBytes (bigWords 2 (0x1000000000005 : DWord)))
def data0 (link : BitVec 4) (segs : List (List Word)) : MlFrame := ⟨fc0 1 3 5 link, false, [], segs⟩

/-- The station hears a data frame on a link. -/
theorem hears_data (p : MlPeer) (link : BitVec 4) (h : p = peer3 ∨ p = keyless) (hl : link = 1 ∨ link = 2) (segs : List (List Word)) :
    let s := linked p link
    let s1 := (s.advance 0).heard (data0 link [])
    s.accepts 1 0 (data0 link segs) s1 ∧ s1.mlUp = true ∧ s1.forMe (data0 link segs).fc = true ∧ fcLink (data0 link segs).fc = link ∧
      fcDst (data0 link segs).fc = 5 ∧ fcSrc (data0 link segs).fc = 3 ∧ fcTmi (data0 link segs).fc = 6 ∧ fcSeq (data0 link segs).fc = 0 ∧
      s1.peerUp 3 = true ∧ s1.ml.rx.find? (fun x => x.src == 3 && x.link == link && x.bc == false) = some (fresh0 link) := by
  have e : (data0 link segs).fc = fc0 1 3 5 link := by simp only [data0]
  simp only [State.accepts, e]
  refine ⟨⟨?_, ?_, ?_, heard_congr _ rfl rfl⟩, ?_⟩ <;> rcases h with rfl | rfl <;> rcases hl with rfl | rfl <;> decide +kernel

theorem witness_frames_received :
    ((linked peer3 2).mlWrites (linkRing 2) = false ∧
      (let s := linked peer3 1
       s.mlWrites (linkRing 1) = true ∧ s.ringRoom (linkRing 1) ≠ 0 ∧ (s.ring (linkRing 1)).open_ = none)) ∧
    (segCrcOk seg0 = true ∧ segSeq [segHead 0 1 0 false] = 0 ∧ segWords [segHead 0 1 0 false] = 1 ∧
      segFirst [segHead 0 1 0 false] = 0 ∧ segPsn [segHead 0 1 0 false] = false ∧ bodyWords body0 1 = [0x1000000000005] ∧
      itemLength 0x1000000000005 = 1) ∧
    (mlOpen 3 5 1 0 seg0 (((linked peer3 1).advance 0).heard (data0 1 []) |>.mlKeys 3 false) = some body0 ∧
      mlOpen 3 5 1 0 seg0 (((linked keyless 1).advance 0).heard (data0 1 []) |>.mlKeys 3 false) = none) ∧
    (let s := member0 fun m => { m with rx := [{ fresh0 1 with item := [word1 0x2000000000005] }] }
     s.mlUp = true ∧ s.ml.rx.find? (fun x => x.src == 3 && x.link == 1 && x.bc == false) =
       some { fresh0 1 with item := [word1 0x2000000000005] }) := by
  refine ⟨by decide +kernel, ⟨segCrcOk_segSecured _ _ _ _, by decide +kernel⟩, ⟨?_, ?_⟩, by decide +kernel⟩
  · have k : (((linked peer3 1).advance 0).heard (data0 1 [])).mlKeys 3 false = [(7, 0)] := by decide +kernel
    rw [k, mlOpen, seg0, segOpen_segSecured]; rfl
  · have k : (((linked keyless 1).advance 0).heard (data0 1 [])).mlKeys 3 false = [] := by decide +kernel
    rw [k, mlOpen]

/-! Messages, maps, soundings and control frames. -/

/-- A PAIR_REQ of two bytes to station 5, and the same state hearing it. -/
def req0 : MlFrame := ⟨fc0 2 3 5 0, false, [], [segPlain (segHead 0 1 63 false) (msgBytes 8 [1, 2])]⟩

theorem witness_message_in_one_segment :
    let s1 := ((linked peer3 0).advance 0).heard ⟨fc0 2 3 5 0, false, [], []⟩
    let seg := segPlain (segHead 0 1 63 false) (msgBytes 8 [1, 2])
    (linked peer3 0).accepts 2 0 req0 s1 ∧ s1.forMe req0.fc = true ∧ fcDst req0.fc = 5 ∧ fcSrc req0.fc = 3 ∧ req0.segs = [seg] ∧
      segCrcOk seg = true ∧ mtypeOpen 8 = true ∧
      s1.ml.rx.find? (fun x => x.src == 3 && x.link == 0 && x.bc == false) = some (fresh0 0) ∧ segSeq seg = 0 ∧ fcSeq req0.fc = 0 ∧
      2 + 4 ≤ 8 * segWords seg ∧ (segBody seg).take 6 = [8, 0] ++ halfBytes 2 ++ [1, 2] := by
  have e : req0.fc = fc0 2 3 5 0 := by simp only [req0]
  simp only [State.accepts, e, segSeq, segWords, segPlain_head, segBody_segPlain, segCrcOk_segPlain, true_and]
  refine ⟨⟨?_, ?_, ?_, heard_congr _ rfl rfl⟩, ?_, ?_, ?_, rfl, ?_⟩ <;> decide +kernel

/-- A sounding frame, and the station that hears it with noise measured in every region. -/
def sound0 : MlFrame := ⟨fc0 4 3 5 0, false, [9], []⟩
def sounded (noise : List (Nat × List Nat)) : State := member0 fun m => { m with noise := noise, peers := [{ peer3 with signal := [] }] }
def quietLine : List (Nat × List Nat) := (List.range 6).map fun r => (r, [])

theorem witness_maps :
    (member0.buildMap peer3 0).isSome = true ∧ (member0.snrOf peer3 0).isSome = true ∧
    (let s := sounded quietLine
     let s1 := (s.advance 0).heard sound0
     (s.advance 0).mlRuns = true ∧ fcOk sound0.fc = true ∧ fcType sound0.fc = 4 ∧ s1.mlUp = true ∧ s1.forMe sound0.fc = true ∧
       s1.ml.start = some 4479000 ∧ sound0.level ≠ [] ∧
       s1.peer? 3 = some { peer3 with signal := [], negated := some false } ∧
       (s1.buildMap { peer3 with signal := [((s1.regionAt (s1.frameStart sound0.fc - 4479000)).1, [9])], negated := some false }
         (s1.regionAt (s1.frameStart sound0.fc - 4479000)).1).isSome = true) ∧
    (((sounded []).advance 0).heard sound0).ml.noise = [] ∧
    (member0.mlUp = true ∧ member0.peer? 3 = some peer3 ∧ bits (member0.reg ML_TMCFG) 16 8 ≠ 0 ∧
      bits ((member0.setReg ML_TMCFG 0).reg ML_TMCFG) 16 8 = 0) := by
  constructorm* _ ∧ _ <;> decide +kernel

/-- A head with the peer. -/
def chief : State := mains 2 4 fun m => { m with peers := [peer3] }

/-- TMAP, SOUND_REQ and ALLOC_REQ come in sealed frames of a peer that is up. -/
theorem witness_sealed_messages :
    (∀ mt ∈ [(0x04 : Byte), 0x05], ∃ f s1, member0.brings mt 0 f s1 3 [1, 2, 3] ∧ s1.mlUp = true ∧ (s1.peer? 3).isSome = true ∧
      s1.peerUp 3 = true) ∧
    ∃ f s1, chief.brings 0x06 0 f s1 3 [1, 2] ∧ s1.mlUp = true ∧ (s1.peer? 3).isSome = true ∧ s1.peerUp 3 = true ∧ s1.ml.st = 4 := by
  have k : (hearing member0 3 5).mlKeys 3 false = [(7, 0)] ∧ (hearing chief 3 0).mlKeys 3 false = [(7, 0)] := by decide +kernel
  refine ⟨fun mt h => ?_, _, _, brings_sealed (k := 7) (n := 1) (dst := 0) (by decide) k.2 (by decide +kernel), by decide +kernel⟩
  rcases List.mem_pair.mp h with rfl | rfl
  · exact ⟨_, _, brings_sealed (k := 7) (n := 1) (dst := 5) (by decide) k.1 (by decide +kernel), by decide +kernel⟩
  · exact ⟨_, _, brings_sealed (k := 7) (n := 1) (dst := 5) (by decide) k.1 (by decide +kernel), by decide +kernel⟩

/-- A control frame of the head with mask and flags in its body; the station that hears it expects PN `next`. -/
def control0 : List Word := segSecured 6 (mlNonce 0 5 0 0 0) (segHead 0 1 63 false) [0, 0, 0, 0x10, 2]
def ordered (key : Option (BitVec 128)) (next : Nat) : State :=
  member0 fun m => { m with peers := [{ head0 with key := key }], rx := [{ src := 0, bc := false, link := 0, next := next }] }
def orders : MlFrame := ⟨fc0 5 0 5 0, false, [], []⟩

theorem witness_control_frames :
    segCrcOk control0 = true ∧ segSeq control0 = 0 ∧ fcOk orders.fc = true ∧ fcType orders.fc = 5 ∧ fcSrc orders.fc = 0 ∧ fcDst orders.fc = 5 ∧
    (∀ x ∈ [(some (6 : BitVec 128), 0), (some 6, 1), (none, 0)],
      let s1 := ((ordered x.1 x.2).advance 0).heard orders
      ((ordered x.1 x.2).advance 0).mlRuns = true ∧ s1.mlUp = true ∧ s1.forMe orders.fc = true ∧
        s1.ml.rx.find? (fun y => y.src == 0 && y.link == 0 && y.bc == false) = some { src := 0, bc := false, link := 0, next := x.2 }) ∧
    (({ src := 0, bc := false, link := 0, next := 0 } : MlRxLink).pnOf 0 = 0 ∧
      ({ src := 0, bc := false, link := 0, next := 1 } : MlRxLink).pnOf 0 = 0) ∧
    mlOpen 0 5 0 0 control0 ((((ordered (some 6) 0).advance 0).heard orders).mlKeys 0 false) = some (fill 496 0 [0, 0, 0, 0x10, 2]) ∧
    mlOpen 0 5 0 0 control0 ((((ordered none 0).advance 0).heard orders).mlKeys 0 false) = none ∧
    ((fill 496 0 [0, 0, 0, 0x10, 2] : List Byte).getD 4 0).getLsbD 0 = false ∧
    ((fill 496 0 [0, 0, 0, 0x10, 2] : List Byte).getD 4 0).getLsbD 1 = true := by
  have k : (((ordered (some 6) 0).advance 0).heard orders).mlKeys 0 false = [(6, 0)] ∧
      (((ordered none 0).advance 0).heard orders).mlKeys 0 false = [] := by decide +kernel
  have q : segSeq control0 = 0 := by rw [segSeq, control0, segSecured_head]; decide
  refine ⟨segCrcOk_segSecured _ _ _ _, q, ?_⟩
  constructorm* _ ∧ _
  all_goals first
    | (rw [k.1, control0, mlOpen, segOpen_segSecured])
    | (rw [k.2, mlOpen])
    | decide +kernel

/-- The states that meet the hypotheses of this statement, clause by clause. -/
theorem witness_MainsFramesAreSentAndAcknowledged :
    (∀ b, (member0.advance 0).opens b 521000 1388544) ∧ (member0.mlCarries 2 = true ∧ member0.mlKeys 3 false = [(7, 0)]) ∧
    onAir0.accepts 3 0 sack0 ((onAir0.advance 0).heard sack0) ∧
    (∀ segs, (linked peer3 1).accepts 1 0 (data0 1 segs) (((linked peer3 1).advance 0).heard (data0 1 []))) ∧
    (linked peer3 0).accepts 2 0 req0 (((linked peer3 0).advance 0).heard ⟨fc0 2 3 5 0, false, [], []⟩) ∧
    (∃ f s1, member0.brings 0x04 0 f s1 3 [1, 2, 3]) ∧ (∃ f s1, chief.brings 0x06 0 f s1 3 [1, 2] ∧ s1.ml.st = 4) :=
  ⟨fun b => member0_opens id (.inl rfl) b, ⟨witness_frames_sent.2.2.1.2.1, witness_frames_sent.2.2.1.2.2.2.2.2.2.1⟩,
    witness_acknowledgements.1.1, fun segs => (hears_data peer3 1 (.inl rfl) (.inl rfl) segs).1, witness_message_in_one_segment.1,
    let ⟨f, s1, h, _⟩ := witness_sealed_messages.1 _ (.head _); ⟨f, s1, h⟩,
    let ⟨f, s1, h, _, _, _, h4⟩ := witness_sealed_messages.2; ⟨f, s1, h, h4⟩⟩

/-- An attempt to associate or pair with station 3. -/
def pend0 (pair asked : Bool) (stage : BitVec 2) : MlPend := ⟨0, pair, asked, stage, 1, 3, { peer := 3 }, 5000000⟩
/-- A station in such an attempt: the head has its own id 0; the member is station 5, or has no id yet. -/
def assoc0 (role st : Nat) (ps : List MlPend) : State :=
  mains role st fun m => { m with pend := ps, members := 1, peers := [head0, peer3], myId := if role == 1 && st == 3 then 5 else 0
                                  rx := [{ src := 0, bc := true, link := 0, next := 0 }] }

/-- A signature holds or does not: Config leaves the verification open, so each clause that has one as its hypothesis is
met by these states in one of the two ways. -/
theorem signature_holds_or_not (s : State) (p : MlPend) (sig : BitVec 512) : s.peerSigOk p sig = true ∨ s.peerSigOk p sig = false := by
  cases s.peerSigOk p sig <;> simp

/-- The messages that ask, answer and confirm, and the states they meet. -/
theorem witness_association_messages :
    (∃ f s1, (assoc0 2 4 []).brings 0x01 0 f s1 0x7F [1, 2] ∧ s1.regsWf ∧ s1.ml.st = 4 ∧ s1.ml.pend = [] ∧ s1.freeIdx = some 0 ∧
      s1.mgmtRing ≠ none) ∧
    (∃ f s1, ((assoc0 2 4 []).setReg ML_CFG 0x80000005).brings 0x01 0 f s1 0x7F [1, 2] ∧ s1.ml.st = 4 ∧ s1.mgmtRing = none ∧
      s1.freeIdx ≠ none) ∧
    (∃ f s1, (assoc0 1 2 []).brings 0x02 0 f s1 0 [1, 2] ∧ s1.regsWf ∧ s1.ml.st = 2 ∧ s1.ml.pend = [] ∧ s1.freeIdx = some 0) ∧
    (∃ f s1, (assoc0 1 3 []).brings 0x08 0 f s1 3 [1, 2] ∧ s1.regsWf ∧ s1.mlUp = true ∧ s1.ml.pend = [] ∧ s1.freeIdx = some 0) ∧
    (∃ f s1, (assoc0 1 3 [pend0 true true 1]).brings 0x09 0 f s1 3 [1, 2] ∧ s1.regsWf ∧ s1.mlUp = true ∧ s1.mgmtRing ≠ none ∧
      s1.ml.pend.find? (fun p => p.pair && p.asked && p.stage == 1 && p.id == 3) = some (pend0 true true 1) ∧
      (s1.dropPend (pend0 true true 1)).freeIdx = some 0) ∧
    (∃ f s1, (assoc0 2 4 [pend0 false false 1]).brings 0x03 0 f s1 3 [1, 2] ∧ s1.regsWf ∧ s1.ml.st = 4 ∧
      s1.ml.pend.find? (fun p => p.pair == false && p.stage == 1 && !p.asked && p.id == 3) = some (pend0 false false 1)) ∧
    ∃ f s1, (assoc0 1 3 [pend0 true false 1]).brings 0x0A 0 f s1 3 [1, 2] ∧ s1.regsWf ∧ s1.mlUp = true ∧
      s1.ml.pend.find? (fun p => p.pair == true && p.stage == 1 && !p.asked && p.id == 3) = some (pend0 true false 1) :=
  ⟨⟨_, _, brings_open (n := 1) (dst := 0) (by decide) (by decide +kernel), by decide +kernel⟩,
    ⟨_, _, brings_open (n := 1) (dst := 0) (by decide) (by decide +kernel), by decide +kernel⟩,
    ⟨_, _, brings_open (n := 1) (dst := 0x7F) (by decide) (by decide +kernel), by decide +kernel⟩,
    ⟨_, _, brings_open (n := 1) (dst := 5) (by decide) (by decide +kernel), by decide +kernel⟩,
    ⟨_, _, brings_open (n := 1) (dst := 5) (by decide) (by decide +kernel), by decide +kernel⟩,
    ⟨_, _, brings_open (n := 1) (dst := 0) (by decide) (by decide +kernel), by decide +kernel⟩,
    ⟨_, _, brings_open (n := 1) (dst := 5) (by decide) (by decide +kernel), by decide +kernel⟩⟩

/-- KEY to a member that has confirmed and to one that is up, and LEAVE of a peer to a member and to a head. -/
theorem witness_key_messages :
    (∃ f s1, ((assoc0 1 2 [pend0 false true 2]).modMl fun m => { m with myId := 3 }).brings 0x07 0 f s1 0 [1, 2] ∧ s1.regsWf ∧ s1.mlRole = 1 ∧
      s1.ml.pend.find? (fun p => p.stage == 2 && !p.pair) = some (pend0 false true 2)) ∧
    (∃ f s1, (assoc0 1 3 []).brings 0x07 0 f s1 0 [1, 2] ∧ s1.mlRole = 1 ∧ s1.ml.pend = [] ∧ s1.ml.st = 3) ∧
    (∃ f s1, (assoc0 1 3 []).brings 0x0B 0 f s1 0 [1] ∧ s1.peerUp 0 = true ∧ s1.ml.st = 3) ∧
    ∃ f s1, (assoc0 2 4 []).brings 0x0B 0 f s1 3 [1] ∧ s1.regsWf ∧ s1.peerUp 3 = true ∧ s1.ml.st = 4 := by
  exact ⟨⟨_, _, brings_sealed (k := 6) (n := 1) (dst := 3) (by decide) (by decide +kernel) (by decide +kernel), by decide +kernel⟩,
    ⟨_, _, brings_sealed (k := 6) (n := 1) (dst := 5) (by decide) (by decide +kernel) (by decide +kernel), by decide +kernel⟩,
    ⟨_, _, brings_sealed (k := 6) (n := 1) (dst := 5) (by decide) (by decide +kernel) (by decide +kernel), by decide +kernel⟩,
    ⟨_, _, brings_sealed (k := 7) (n := 1) (dst := 0) (by decide) (by decide +kernel) (by decide +kernel), by decide +kernel⟩⟩

theorem witness_MainsAssociationAdmitsAndPairs :
    ((assoc0 2 4 []).regsWf ∧ (assoc0 2 4 []).freeId = some 1 ∧
    (assoc0 2 4 [pend0 false false 0]).ml.pend.find? (fun p => p.idx == (0x10 : Word).extractLsb' 0 3 && p.stage == 0) =
      some (pend0 false false 0) ∧ (0x10 : Word).getLsbD 4 = true ∧ (0 : Word).getLsbD 4 = false ∧
    (assoc0 1 2 [pend0 false true 0]).ml.pend.find? (fun p => p.idx == (0x10 : Word).extractLsb' 0 3 && p.stage == 0) =
      some (pend0 false true 0) ∧
    (assoc0 2 4 [pend0 false false 0]).ml.pend.find? (fun p => p.idx == 0) = some (pend0 false false 0) ∧
    (assoc0 1 2 []).ml.pend = [] ∧ (assoc0 1 2 []).ml.st = 2) ∧
    (∃ f s1, (assoc0 2 4 []).brings 0x01 0 f s1 0x7F [1, 2] ∧ s1.regsWf) ∧ (∃ f s1, (assoc0 1 2 []).brings 0x02 0 f s1 0 [1, 2]) ∧
    (∃ f s1, (assoc0 1 3 []).brings 0x07 0 f s1 0 [1, 2]) :=
  ⟨by decide +kernel, let ⟨f, s1, h, w, _⟩ := witness_association_messages.1; ⟨f, s1, h, w⟩,
    let ⟨f, s1, h, _⟩ := witness_association_messages.2.2.1; ⟨f, s1, h⟩, let ⟨f, s1, h, _⟩ := witness_key_messages.2.1; ⟨f, s1, h⟩⟩
/-! #### Clocks and timers -/

theorem witness_ReferenceChoiceAndMpllUnlock :
    (let s := { State.reset with power.released := true }
     s.regsWf ∧ s.power.released = true ∧ s.clk.refSrc = 0) ∧
    ({ base with clk.mpllLock := false }.clk.refSrc ≠ 0 ∧ { base with clk.settling := true }.clk.settling = true ∧
      base.clk.mpllLock = true ∧ base.ops = [] ∧ base.endedNow = [] ∧ { base with clk.limp := true, clk.mpllLock := false }.clk.limp = true) ∧
    (base.setReg (CK_CLKOUT 0) 0x92200000).reg (CK_CLKOUT 0) = 0x92200000 ∧
    (let v : Word := 0x92200000
     clkoutSource v = .mpll 8 ∧ v.getLsbD 31 = true ∧ v.getLsbD 21 = true ∧ 2712 ≤ clkoutRate v) :=
  ⟨by decide +kernel, by decide +kernel, State.reg_setReg_same base_regsWf _ _, by decide⟩

/-- LO2 relocking at 902 MHz, its VCO locked or not yet. -/
def relocking (lock : Bool) : State := base.modLo 2 fun l => { l with relock := true, lock := lock, freq := 902000000 }

theorem witness_OscillatorsUnlockRelockAndSlew :
    base.regsWf ∧ base.ops = [] ∧ base.endedNow = [] ∧ ((locked base 2 902000000).lo 2).lock = true ∧
    ((relocking false).lo 2).relock = true ∧ ((relocking false).lo 2).lock = false ∧ ((relocking true).lo 2).lock = true ∧
    ((relocking true).lo 2).next = none ∧ (∀ k : Fin 5, (base.bandCode 2 (bandEntry 902000000) k).1 = false) ∧
    (let s := base.setReg (CK_BTA 2 (bandEntry 902000000)) 0x8A93
     nearestSet (fun k => (s.bandCode 2 (bandEntry 902000000) k).1) (s.dieTemp 3) ≠ none) ∧
    ((base.modLo 2 fun l => { l with lock := true, slewing := true }).lo 2).slewing = true ∧
    ((base.modLo 2 fun l => { l with lock := true, slewing := true }).lo 2).next = none := by decide +kernel

/-- A member station of the epoch whose TB stands at `tb`. -/
def epoch0 (tb : Nat) (st : BitVec 2) : State := { base with tb := BitVec.ofNat 64 tb, clk.epState := st }.setReg CK_EPOCH 0x80000000

theorem witness_EpochTicksAlignTheTimebase :
    (let s := { base with tb := 204799 }
     s.regsWf ∧ s.tbRuns = true ∧ s.epochRole ≠ 2 ∧ s.tb.toNat + 204800 < 2 ^ 64 ∧ bit (s.reg TB_CTRL) 0 = false ∧ s.ops = []) ∧
    bit ((base.setReg TB_CTRL 1).reg TB_CTRL) 0 = true ∧
    (let s := epoch0 5000000 0
     s.regsWf ∧ s.tbRuns = true ∧ s.epochRole = 2 ∧ s.clk.epState = 0 ∧ bit (s.reg TB_CTRL) 0 = false ∧ s.ops = [] ∧
       8 * bits (s.reg CK_EPOCH) 0 4 ≤ ((s.advance 0).advance 0).tb.toNat ∧ ((s.advance 0).advance 0).tb.toNat + 204800 < 2 ^ 64) ∧
    (let s := epoch0 5000000 1
     s.epochRole = 2 ∧ s.clk.epState = 1 ∧ s.clk.epWait = false ∧ 16 < (s.tb.toNat + 204800) % 204800 ∧
       (s.tb.toNat + 204800) % 204800 < 204784) ∧
    ((epoch0 5120000 1).tb.toNat + 204800) % 204800 ≤ 16 ∧
    clkoutOk 0 0x32000000 = true ∧ clkoutOk 0 0x10000000 = false ∧ bits (0x10000000 : Word) 28 3 = 1 ∧ (1 : Word).getLsbD 0 = true ∧
    (base.reg TB_OFSHI ++ base.reg TB_OFSLO).toInt % 204800 = 0 ∧
    (let s := base.setReg TB_OFSLO 7
     (s.reg TB_OFSHI ++ s.reg TB_OFSLO).toInt % 204800 ≠ 0) := by decide +kernel

/-- Timer unit 2 running with its compares set, one capture from a pin and one by software. -/
def timer0 : State :=
  ((((((((base.setReg (TU_CTRL 2) 1).setReg (TU_RELOAD 2) 0xFFFFFFFF).setReg (TU_CMP 2 0) 9).setReg (TU_CMP 2 1) 8).setReg
    (TU_CMP 2 2) 7).setReg (TU_CMP 2 3) 0x20000000).setReg (TU_CAPCFG 2) 0x72)).modTu 2 fun x => { x with at_ := 5000000, seen := #v[5000000, 5000000, 5000000, 5000000] }

theorem witness_TimersWrapMatchAndCapture :
    timer0.regsWf ∧ (∀ r, r < 4 → (timer0.reg (TU_ROUTE 2 r)).getLsbD 31 = false) ∧ timer0.tuRun 3 = false ∧
    timer0.tuRun 2 = true ∧ timer0.tuBclk 2 = true ∧ timer0.tbRuns = true ∧ (∀ k, k < 4 → timer0.reg (TU_CMP 2 k) ≠ 0) ∧
    (timer0.reg (TU_CMP 2 1)).toNat ≤ timer0.tuLast 2 ∧
    (timer0.reg (TU_COUNT 2)).toNat + timer0.tuSince 2 (timer0.tu 2).seen[1] < (timer0.reg (TU_CMP 2 1)).toNat ∧
    timer0.ticks ≤ timer0.tuReach 2 (timer0.reg (TU_CMP 2 1)).toNat ∧
    (timer0.setReg (TU_RELOAD 2) 99).tuLast 2 < (timer0.reg (TU_CMP 2 3)).toNat ∧ timer0.capSrc 2 0 = 2 ∧ timer0.capSrc 2 1 = 7 ∧
    base.capSrc 2 0 ≠ 7 ∧ base.capSrc 2 1 ≠ 7 := by decide +kernel

/-! #### Resets, start-up, power and shedding -/

theorem witness_ResetsKeepTheVbatIslandAlone :
    base.regsWf ∧ bits (0x5A5 : Word) 0 8 = 0xA5 ∧ bits (0x5A : Word) 0 8 ≠ 0xA5 ∧ base.debugLevel = 0 ∧
    { base with profile.held := 16, profile.debugWs := [0x02000000] }.debugLevel ≠ 0 ∧ base.clk.refSrc ≠ 0 ∧ State.reset.clk.refSrc = 0 ∧
    { base with power.st := .watch }.asleep = true ∧ base.asleep = false ∧
    { base with power.st := .hibernateClocked }.power.st = .hibernateClocked := by decide +kernel

/-- An image that boots waits to be loaded. -/
def booting0 (m : BitVec 2) : State := { base with power.booting := true, power.boot := m }
/-- An image without code, and what is too short for one. -/
def image0 : List Word := [0x50583234, 0] ++ List.replicate 22 0

theorem witness_StartUpLoadsStoresAndImage :
    State.reset.regsWf ∧ State.reset.power.st = .starting ∧ State.reset.power.released = false ∧
    (let s := { State.reset with power.released := true, clk.refSrc := 1, clk.mpllLock := true, power.boot := 1 }
     s.regsWf ∧ s.power.st = .starting ∧ s.power.boot = 1 ∧ s.power.rails = 0 ∧ s.power.schedOn = false ∧ s.clk.refSrc ≠ 0 ∧
       s.clk.mpllLock = true) ∧
    (booting0 3).regsWf ∧ (booting0 3).power.booting = true ∧ (booting0 3).hsp.loading = false ∧
    2 ≤ (booting0 2).power.boot.toNat ∧ (booting0 2).image.source ≠ 2 ∧ ((booting0 2).th 0).st = .off ∧
    (imageFits 2 image0 = true ∧ (booting0 2).storedOk image0 = true) ∧ imageFits 2 [0] = false ∧
    (let s := { booting0 0 with image := { (booting0 0).image with source := 2 } }
     s.hostImageOk = true ∧ s.saffron.imageHdr = none ∧
       { s with profile := { s.profile with held := 4, policy := [0x01000000] } }.hostImageOk = false) := by
  constructorm* _ ∧ _ <;> decide +kernel

/-- With IMGREQ = 1 an image passes or does not: Config leaves the verification of its signature open. -/
theorem image_passes_or_not (s : State) (img : List Word) : s.storedOk img = true ∨ s.storedOk img = false := by
  cases s.storedOk img <;> simp
theorem witness_PowerStatesAreEnteredAndLeft :
    base.regsWf ∧ base.power.st ≠ .idle ∧ { base with power.st := .idle }.power.st = .idle ∧
    { base with power.acok := true }.power.acok = true ∧ base.power.acok = false ∧
    (withOp base (uhfOp 2)).ops.any (·.active) = true ∧ base.ops.any (·.active) = false ∧
    { base with power.req := some .idle }.power.req = some .idle ∧ { base with power.req := some .watch }.power.req = some .watch ∧
    (let s := ({ base with power.st := .watch }.setReg HC_WATCHCFG 0x0200).setReg (HP_WATCH 1) 0x00100010
     s.regsWf ∧ s.power.st = .watch ∧ s.fld HC_WATCHCFG 8 8 = 2 ^ (1 : Fin 8).val ∧ s.watchSkips 1 = false ∧
       ((s.modHp 1 fun x => { x with needBase := true }).hp 1).needBase = true ∧
       (s.hp 1).needBase = false ∧ (s.watchStep 1 ⟨1, 100, 100, 4000⟩ (watchM 0 0 0 ⟨1, 100, 100, 4000⟩)).2 = true) ∧
    base.powered = true ∧ (List.replicate 16 (5 : BitVec 16)).length = 16 := by decide +kernel

/-- The schedule at a level, the supply restored or not, thread 4 running and a carrier on. -/
def shedding (k : Nat) (ac : Bool) : State :=
  (({ base with power.schedOn := true, power.schedule := k, power.level := k, power.acok := ac }.modUp 3
    fun x => { x with carrier := some (1, 902000000), pa := true }).modTh 4 fun x => { x with st := .run })

theorem witness_SheddingLevelsRiseAndFall :
    (shedding 0 false).regsWf ∧ (shedding 0 false).ops = [] ∧ (shedding 0 false).saffron.commit = none ∧
    (shedding 0 false).endedNow = [] ∧ (shedding 0 false).powered = true ∧ (shedding 0 false).power.rails = 0 ∧ base.power.schedOn = false ∧ base.power.level = 0 ∧
    (shedding 4 false).power.schedOn = true ∧ (shedding 4 false).power.schedule = (shedding 4 false).power.level ∧
    ((shedding 4 false).advanceTo (0 + ticksOf (500 * (shedding 4 false).shedTime 5))).endedNow = [] ∧ (shedding 4 false).power.level < 5 ∧ (shedding 5 false).power.level = 5 ∧
    (shedding 5 true).power.acok = true ∧ (shedding 5 true).forced < 5 ∧ 0 < (shedding 1 true).power.level := by decide +kernel

/-! #### Saffron, the program store and the pads -/

/-- The mailbox with a request under way. -/
def asked0 (r : List Word) (loading : Bool := false) : State :=
  { base with saffron.held := true, saffron.busy := true, saffron.request := r, hsp.loading := loading }

theorem witness_MailboxHoldsOneRequest :
    base.regsWf ∧ (1 : Word).getLsbD 1 = false ∧ base.saffron.held = false ∧ (asked0 []).saffron.held = true ∧
    (let s := { asked0 [] with saffron.owner := .thread 31, saffron.ready := true }
     (2 : Word).getLsbD 0 = false ∧ s.saffron.owner = .thread 31 ∧ s.saffron.ready = true) ∧
    (let s := { asked0 [0x05110000] with saffron.answer := [1, 2] }
     s.saffron.busy = true ∧ s.sfService = 5 ∧ s.saffron.answer ≠ []) ∧
    (asked0 [0x06110000]).sfService = 6 := by decide +kernel
theorem witness_SaffronServicesAnswer :
    (let s := asked0 [0x01110001, 0x02000000]
     s.sfServing 1 = true ∧ s.sfLength = 1 ∧ s.sfParams = [0x02000000] ∧ bits (0x02000000 : Word) 24 8 < 3) ∧
    (asked0 [0x01110002, 0]).sfLength ≠ 1 ∧ (asked0 [0x02110001, 0]).sfLength < 2 ∧
    (let s := asked0 ([0x02110021] ++ List.replicate 9 0)
     s.sfServing 2 = true ∧ (signDigest s.sfBytes).isSome = true ∧ s.sfWhole = true) ∧
    ((asked0 [0x03110000]).sfServing 3 = true ∧ (asked0 [0x03110000]).sfLength = 0 ∧ (asked0 [0x03110001, 0]).sfLength ≠ 0 ∧
      (asked0 [0x03110000]).profile.held.getLsbD 5 = false) ∧
    (let s := asked0 ([0x05110060] ++ List.replicate 24 5) true
     s.sfServing 5 = true ∧ s.hsp.loading = true ∧ s.sfLength = 96 ∧ s.sfWhole = true) ∧
    (asked0 [0x05110000]).hsp.loading = false ∧ (asked0 [0x05110000]).sfLength ≠ 96 := by decide +kernel

/-- A request that gives an unsealed device its authorization table. -/
def change0 : List Word :=
  [0x50520001] ++ base.uidWords ++ [1, 0x0020012C, 0x05000110] ++ [0x01000000] ++ List.replicate 16 1 ++ [0x01000000] ++
    List.replicate 16 2 ++ List.replicate 34 0
def changing0 : State := asked0 ((0x04110000 + BitVec.ofNat 32 (4 * change0.length)) :: change0)

theorem changing0_ok : ∃ p, changing0.checkChange = .ok p := by
  have hw : changing0.sfWhole = true := by decide +kernel
  have hc : changing0.profile.counter = 0 := by decide +kernel
  have hr : ∃ r, parseChange changing0.profile.isSealed changing0.sfLength changing0.sfParams = some r ∧ r.uid = changing0.uidWords ∧
      r.counter = 1 ∧ r.sigs = [] ∧ (r.sections.all fun x => sectionOk r.counter x.1 x.2) = true ∧
      (r.sections.any fun x => x.1 == 5) = true :=
    ⟨_, rfl, rfl, rfl, rfl, by decide +kernel, by decide +kernel⟩
  obtain ⟨r, h, hu, hk, hs, ho, ha⟩ := hr
  refine ⟨changing0.profile.apply r, ?_⟩
  rw [hk] at ho
  simp [State.checkChange, hw, h, hu, hk, hc, authorityOk, signaturesOk, hs, ha, -List.any_eq_true]
  exact fun a b hm => List.all_eq_true.mp ho (a, b) hm

theorem witness_ProfileChangesAreCheckedAndCommitted :
    changing0.regsWf ∧ changing0.sfServing 4 = true ∧ (∃ p, changing0.checkChange = .ok p) ∧
    (∃ v, (asked0 [0x04110004, 5]).checkChange = .error v) ∧ (asked0 [0x04110004, 5]).sfParams.headD 0 ≠ 0x50520001 ∧
    changing0.saffron.shedSub = false ∧ { changing0 with saffron.shedSub := true }.saffron.shedSub = true ∧
    { changing0 with saffron.commit := some region0 }.saffron.commit = some region0 ∧ changing0.nvBusy = false ∧
    { changing0 with nvBusy := true }.nvBusy = true := by
  refine ⟨by decide +kernel, by decide +kernel, changing0_ok, ⟨_, rfl⟩, by decide +kernel⟩

/-- Lines 5 and 9 of the program store bad, a thread waiting for line 5, two residue mismatches noted. -/
def bad0 : State :=
  { base with image.bad := [5, 9], faults.residues := [(3, 77), (24, 5)] }.modTh 3 fun x => { x with st := .refetch, refLine := some 5 }
/-- The page of a nonvolatile image with a line to fetch, and the digest kept of it. -/
def page0 : List Word := List.replicate 1024 5
def paged0 : State := { bad0 with image.pages := [Config.sha256 (wordsBytes page0)] }

theorem witness_RepairsResiduesAndPadsAreReported :
    bad0.sound ∧ bad0.lineWaits (5 : BitVec 13).toNat = true ∧ bad0.image.spares < 8 ∧
    8 ≤ { bad0 with image.spares := 8 }.image.spares ∧ (30 : Fin 32).val ≠ 31 ∧ bad0.faults.residues = (3, 77) :: [(24, 5)] ∧
    base.faults.residues = [] ∧ (36 : BitVec 6).toNat = 36 ∧ bad0.image.source = 0 ∧
    bad0.image.pages[5 / 128]? ≠ some (Config.sha256 (wordsBytes page0)) ∧
    paged0.image.pages[5 / 128]? = some (Config.sha256 (wordsBytes page0)) ∧ { bad0 with image.source := 1 }.image.source = 1 :=
  ⟨by unfold State.sound Thread.sound; decide +kernel, by decide +kernel, by decide +kernel, by decide, by decide, by decide +kernel,
    by decide +kernel, by decide, by decide +kernel, nofun, rfl, rfl⟩

/-- What that page gives for line 5. -/
theorem paged0_refetched : paged0.refetched 5 page0 = some (List.replicate 8 5) := by
  rw [State.refetched, if_neg (by decide +kernel), if_pos ⟨by decide +kernel, rfl⟩]
  decide +kernel

/-! #### The machine as a whole -/

theorem witness_StepRunsTheFrontCommand :
    { base with pending := [.lineShort, .lineOpen] }.pending = .lineShort :: [.lineOpen] ∧ base.pending = [] := ⟨rfl, rfl⟩
theorem witness_BenlonWordsDecodeAndEncodeAgree :
    encodeBenlon (.addi slot0 (fI 3 0 0x100)) = some (slot0, 0x40C00100) ∧
    decodeBenlon slot0 0x40C00100 = some (.addi slot0 (fI 3 0 0x100)) ∧ ((0xFC000000 : Word).extractLsb' 26 6).toNat = 0x3F := by
  decide +kernel
theorem witness_EveryStepKeepsTheStateSound :
    { run0 with pending := [.nop slot0 0] }.sound ∧
    (match step { run0 with pending := [.nop slot0 0] } with
     | .next t => t = run0.modTh 0 fun x => { x with pc := 0x10000044 }
     | _ => False) :=
  ⟨run0_sound, rfl⟩

end Sys2Proof.Tests
end

section
/-!
PROOF. A register write by the access type of each bit (R4, R5, R348), and the end of the register space (R17).
-/

open Sys2Proof Sys2Proof.Machine

namespace Sys2Proof.Machine

/-! ### Word addresses -/

/-- Ignoring the low two bits of an address rounds it down to a word. -/
theorem wordAddr_eq (a : Word) : wordAddr a = a.toNat / 4 * 4 := by
  have hmask : ∀ k : Fin 32, (0xFFFFFFFC : Word)[k] = decide (2 ≤ k.val) := by decide
  have hand : a &&& (0xFFFFFFFC : Word) = (a >>> 2) <<< 2 := by
    ext k hk
    have hbit : (0xFFFFFFFC : Word)[k] = decide (2 ≤ k) := hmask ⟨k, hk⟩
    rw [BitVec.getElem_and, hbit, BitVec.getElem_shiftLeft]
    by_cases h2 : k < 2
    · simp [h2]
    · have hsum : 2 + (k - 2) = k := by omega
      simp [h2, Nat.not_lt.mp h2, hsum, hk]
  have hlt := a.isLt
  rw [wordAddr, hand, BitVec.toNat_shiftLeft, BitVec.toNat_ushiftRight, Nat.shiftLeft_eq, Nat.shiftRight_eq_div_pow]
  omega

/-! ### Writes by access type -/

/-- Each bit of a written register: RW takes the bit written, W1C clears on a 1, W1S sets on a 1, else it keeps. -/
theorem getElem_storedWrite (r : RegRow) (old v : Word) (k : Fin 32) :
    (storedWrite r old v)[k] =
      ((((old[k] && !r.rw[k]) || (v[k] && r.rw[k])) && !(v[k] && r.w1c[k])) || (v[k] && r.w1s[k])) := by
  simp [storedWrite]

theorem State.writeFields_of_none {a : Nat} (h : regRow a = none) (s : State) (v : Word) : s.writeFields a v = s := by
  simp [State.writeFields, h]

theorem State.writeFields_of_some {a : Nat} {r : RegRow} (h : regRow a = some r) (s : State) (v : Word) :
    s.writeFields a v = s.setReg a (storedWrite r (s.reg a) v) := by
  simp [State.writeFields, h]

/-- In CHIRP, SURVEY, CAL, FAULT and NV a write has no effect beyond the register's fields. -/
theorem State.busWrite_eq_writeFields {a : Nat}
    (h : a / 0x10000 = 5 ∨ a / 0x10000 = 6 ∨ a / 0x10000 = 15 ∨ a / 0x10000 = 17 ∨ a / 0x10000 = 18)
    (s : State) (by_ : Agent) (v : Word) : s.busWrite by_ a v = s.writeFields a v := by
  rcases h with h | h | h | h | h <;> simp [State.busWrite, h]

/-! ### The command -/

/-- REGISTER_WRITE at or above the end of the register space stops. -/
theorem exec_registerWrite_outside {addr : Word} (h : regSpace ≤ wordAddr addr) (s : State) (by_ : Agent) (v : Word) :
    exec (.registerWrite by_ addr v) s = .fault (.outsideRegisterSpace addr) := by
  simp [exec, execRegisterWrite, h]

/-- REGISTER_WRITE by the host or a thread over a powered bus writes the register of the word. -/
theorem exec_registerWrite_powered {s : State} {by_ : Agent} {addr : Word} (ha : wordAddr addr < regSpace)
    (hp : s.powered = true) (hb : by_ ≠ .tap) (v : Word) :
    exec (.registerWrite by_ addr v) s = .next (s.busWrite by_ (wordAddr addr) v) := by
  cases by_ with
  | tap => exact absurd rfl hb
  | _ => simp [exec, execRegisterWrite, Nat.not_le.mpr ha, hp]

end Sys2Proof.Machine

/-- Settles O5: in these blocks a write is `State.writeFields`, which stores one register bit by bit. That an address at
or above 0x0013_0000 stops the machine is assumption 11. -/
theorem registerWritesFollowAccessTypes : Obligations.RegisterWritesFollowAccessTypes := by
  unfold Obligations.RegisterWritesFollowAccessTypes
  refine ⟨?_, ?_⟩
  · intro s by_ addr v ⟨hregs, _⟩ hp hb a hblock
    have hword : wordAddr addr = a := wordAddr_eq addr
    have hspace : wordAddr addr < regSpace := by unfold regSpace; omega
    have hexec : exec (.registerWrite by_ addr v) s = .next (s.writeFields a v) := by
      rw [exec_registerWrite_powered hspace hp hb, hword, State.busWrite_eq_writeFields hblock]
    refine ⟨?_, ?_⟩
    · intro hnone
      rw [hexec, State.writeFields_of_none hnone]
    · intro r hrow
      rw [State.writeFields_of_some hrow] at hexec
      refine ⟨_, hexec, rfl, fun b hba => State.reg_setReg_other _ hba, ?_⟩
      intro k
      rw [State.reg_setReg_same hregs, getElem_storedWrite]
      refine ⟨?_, ?_, ?_, ?_⟩ <;>
      · intro hrw hw1c hw1s
        simp [hrw, hw1c, hw1s]
  · intro s by_ addr v haddr
    refine exec_registerWrite_outside ?_ s by_ v
    rw [wordAddr_eq]
    unfold regSpace
    omega
end

section
/-!
PROOF. Benlon words (R31 to R34): the fields of a word and the word of its fields, and with them that decoding and
encoding undo each other.
-/

open Sys2Proof

namespace Sys2Proof

/-! ### Fields and words of each format (R31) -/

/-- Bits [31:26], the opcode of every format. -/
def opcodeOf (w : Word) : BitVec 6 := w.extractLsb' 26 6

/-- A field above the low part of a word is a field of its high part. -/
theorem extract_of_append {v w n : Nat} (hi : BitVec v) (lo : BitVec w) (k : Nat) :
    (hi ++ lo).extractLsb' (w + k) n = hi.extractLsb' k n := by
  rw [BitVec.extractLsb'_append_eq_of_le (by omega), Nat.add_sub_cancel_left]

@[simp] theorem opcodeOf_aWord (op : BitVec 6) (f : AFields) : opcodeOf (aWord op f) = op :=
  (extract_of_append (op ++ f.rd ++ f.ra ++ f.rb) f.fn 12).trans <|
    (extract_of_append (op ++ f.rd ++ f.ra) f.rb 8).trans <|
      (extract_of_append (op ++ f.rd) f.ra 4).trans BitVec.extractLsb'_append_eq_left

@[simp] theorem opcodeOf_iWord (op : BitVec 6) (f : IFields) : opcodeOf (iWord op f) = op :=
  (extract_of_append (op ++ f.rd ++ f.ra) f.imm 8).trans <|
    (extract_of_append (op ++ f.rd) f.ra 4).trans BitVec.extractLsb'_append_eq_left

@[simp] theorem opcodeOf_bWord (op : BitVec 6) (f : BFields) : opcodeOf (bWord op f) = op :=
  (extract_of_append (op ++ f.cond) f.off 4).trans BitVec.extractLsb'_append_eq_left

/-- The low field of what stands on top of others. -/
theorem extract_low {u v w : Nat} (hi : BitVec u) (x : BitVec v) (lo : BitVec w) :
    (hi ++ x ++ lo).extractLsb' w v = x :=
  (extract_of_append (hi ++ x) lo 0).trans BitVec.extractLsb'_append_eq_right

@[simp] theorem aFields_aWord (op : BitVec 6) (f : AFields) : aFields (aWord op f) = f := by
  have hrd : (aWord op f).extractLsb' 22 4 = f.rd :=
    (extract_of_append (op ++ f.rd ++ f.ra ++ f.rb) f.fn 8).trans <|
      (extract_of_append (op ++ f.rd ++ f.ra) f.rb 4).trans (extract_low op f.rd f.ra)
  have hra : (aWord op f).extractLsb' 18 4 = f.ra :=
    (extract_of_append (op ++ f.rd ++ f.ra ++ f.rb) f.fn 4).trans (extract_low (op ++ f.rd) f.ra f.rb)
  have hrb : (aWord op f).extractLsb' 14 4 = f.rb := extract_low (op ++ f.rd ++ f.ra) f.rb f.fn
  have hfn : (aWord op f).extractLsb' 0 14 = f.fn := BitVec.extractLsb'_append_eq_right
  rw [aFields, hrd, hra, hrb, hfn]

@[simp] theorem iFields_iWord (op : BitVec 6) (f : IFields) : iFields (iWord op f) = f := by
  have hrd : (iWord op f).extractLsb' 22 4 = f.rd :=
    (extract_of_append (op ++ f.rd ++ f.ra) f.imm 4).trans (extract_low op f.rd f.ra)
  have hra : (iWord op f).extractLsb' 18 4 = f.ra := extract_low (op ++ f.rd) f.ra f.imm
  have himm : (iWord op f).extractLsb' 0 18 = f.imm := BitVec.extractLsb'_append_eq_right
  rw [iFields, hrd, hra, himm]

@[simp] theorem bFields_bWord (op : BitVec 6) (f : BFields) : bFields (bWord op f) = f := by
  have hcond : (bWord op f).extractLsb' 22 4 = f.cond := extract_low op f.cond f.off
  have hoff : (bWord op f).extractLsb' 0 22 = f.off := BitVec.extractLsb'_append_eq_right
  rw [bFields, hcond, hoff]

/-- A word is its opcode and its format A fields. -/
theorem aWord_aFields (w : Word) : aWord (opcodeOf w) (aFields w) = w := by
  simp only [aWord, aFields, opcodeOf]
  rw [BitVec.extractLsb'_append_extractLsb'_eq_extractLsb' (by omega),
    BitVec.extractLsb'_append_extractLsb'_eq_extractLsb' (by omega),
    BitVec.extractLsb'_append_extractLsb'_eq_extractLsb' (by omega),
    BitVec.extractLsb'_append_extractLsb'_eq_extractLsb' (by omega)]
  exact BitVec.extractLsb'_eq_self

/-- A word is its opcode and its format I fields. -/
theorem iWord_iFields (w : Word) : iWord (opcodeOf w) (iFields w) = w := by
  simp only [iWord, iFields, opcodeOf]
  rw [BitVec.extractLsb'_append_extractLsb'_eq_extractLsb' (by omega),
    BitVec.extractLsb'_append_extractLsb'_eq_extractLsb' (by omega),
    BitVec.extractLsb'_append_extractLsb'_eq_extractLsb' (by omega)]
  exact BitVec.extractLsb'_eq_self

/-- A word is its opcode and its format B fields. -/
theorem bWord_bFields (w : Word) : bWord (opcodeOf w) (bFields w) = w := by
  simp only [bWord, bFields, opcodeOf]
  rw [BitVec.extractLsb'_append_extractLsb'_eq_extractLsb' (by omega),
    BitVec.extractLsb'_append_extractLsb'_eq_extractLsb' (by omega)]
  exact BitVec.extractLsb'_eq_self

@[simp] theorem opcodeOf_nop (x : BitVec 26) : opcodeOf (0x3E#6 ++ x) = 0x3E#6 := BitVec.extractLsb'_append_eq_left

@[simp] theorem extract_nop (x : BitVec 26) : (0x3E#6 ++ x : Word).extractLsb' 0 26 = x :=
  BitVec.extractLsb'_append_eq_right

theorem append_nop (w : Word) : opcodeOf w ++ w.extractLsb' 0 26 = w := by
  rw [opcodeOf, BitVec.extractLsb'_append_extractLsb'_eq_extractLsb' (by omega)]
  exact BitVec.extractLsb'_eq_self

/-! ### The two directions -/

/-- Decoding the word of an instruction gives it back. -/
theorem decodeBenlon_of_encodeBenlon {c : Instr} {i : Issue} {w : Word} (h : encodeBenlon c = some (i, w)) :
    decodeBenlon i w = some c := by
  have hop : w.extractLsb' 26 6 = opcodeOf w := rfl
  cases c <;> cases h <;> rw [decodeBenlon, hop] <;> simp

theorem opcodeOf_eq {w : Word} {n : Nat} (h : (w.extractLsb' 26 6).toNat = n) : opcodeOf w = BitVec.ofNat 6 n := by
  rw [← h, BitVec.ofNat_toNat, BitVec.setWidth_eq, opcodeOf]

/-- A word that decodes is the word of what it decodes to. -/
theorem encodeBenlon_of_decodeBenlon {c : Instr} {i : Issue} {w : Word} (h : decodeBenlon i w = some c) :
    encodeBenlon c = some (i, w) := by
  have ha := aWord_aFields w
  have hi := iWord_iFields w
  have hb := bWord_bFields w
  have hn := append_nop w
  unfold decodeBenlon at h
  split at h <;> cases h <;> rename_i hop <;> rw [opcodeOf_eq hop] at ha hi hb hn <;>
    simp [encodeBenlon, ha, hi, hb, hn]

/-- A word of an opcode outside the table decodes to nothing (R32). -/
theorem decodeBenlon_unlisted (i : Issue) {w : Word} (h : (w.extractLsb' 26 6).toNat ∈ [0x00, 0x0D, 0x0E, 0x0F, 0x14, 0x15, 0x16, 0x17, 0x1C, 0x1D, 0x1E,
      0x1F, 0x23, 0x24, 0x25, 0x26, 0x27, 0x2D, 0x2E, 0x2F, 0x3A, 0x3B, 0x3C, 0x3D, 0x3F]) : decodeBenlon i w = none := by
  cases hd : decodeBenlon i w with
  | none => rfl
  | some c =>
    unfold decodeBenlon at hd
    split at hd <;> cases hd <;> rename_i hop <;> simp [hop] at h

end Sys2Proof

/-- Settles O59: by the opcode, each format's fields are read where its word puts them. -/
theorem benlonWordsDecodeAndEncodeAgree : Obligations.BenlonWordsDecodeAndEncodeAgree :=
  ⟨fun _ _ _ => decodeBenlon_of_encodeBenlon, fun _ _ _ => encodeBenlon_of_decodeBenlon, fun i _ => decodeBenlon_unlisted i⟩
end

section
/-!
PROOF. What the commands of a thread's issue slot come to (R20, R22), said once for every instruction: it completes in its
thread, it waits, or it traps.
-/

open Sys2Proof Sys2Proof.Machine

namespace Sys2Proof.Machine

section
variable {s : State} {i : Issue} {c : Instr} {body : State → IssueRes} {post : Thread → Thread → Prop}

/-- An instruction whose body changes its thread alone runs. -/
theorem Runs.of_th {f : Thread → Thread} (h : s.issues i) (hc : exec c s = .next (s.issue i c body))
    (hb : body (s.touched i.thread) = .th (s.touched i.thread) i.thread f) (hp : post (s.th i.thread) (f (s.th i.thread))) :
    Runs c i s post :=
  ⟨f (s.th i.thread), by rw [hc, State.issue_th h c hb], hp⟩

/-- The thread of an instruction that waits (R22). -/
def Thread.waitsFor (x : Thread) (c : Instr) (code : BitVec 4) (dl : Option Nat) : Thread :=
  { x with st := .wait, waiting := some c, waitOn := code, deadline := dl, xipLine := none, met := none }

/-- An instruction whose body must wait leaves its thread in Wait. -/
theorem Runs.of_wait {code : BitVec 4} {dl : Option Nat} (h : s.issues i) (hc : exec c s = .next (s.issue i c body))
    (hb : body (s.touched i.thread) = .wait code dl) (hp : post (s.th i.thread) ((s.th i.thread).waitsFor c code dl)) :
    Runs c i s post := by
  refine ⟨(s.th i.thread).waitsFor c code dl, ?_, hp⟩
  rw [hc, State.issue_eq h, hb, State.settle_wait, State.enterWait, State.modTh, State.touched_th_acc, Thread.waitsFor]

/-- An instruction whose body completes with a whole new state. -/
theorem exec_of_done {s' : State} (h : s.issues i) (hc : exec c s = .next (s.issue i c body))
    (hb : body (s.touched i.thread) = .done s') : exec c s = .next s' := by
  rw [hc, State.issue_eq h, hb, State.settle_done]

/-- An instruction whose body traps enters the trap with the PC that its body leaves. -/
theorem exec_of_trap {s' : State} {cause arg : Nat} {a : Option Word} (h : s.issues i)
    (hc : exec c s = .next (s.issue i c body)) (hb : body (s.touched i.thread) = .trap s' cause arg a) :
    exec c s = .next (s'.takeTrap i.thread cause arg (s'.th i.thread).pc a) := by
  rw [hc, State.issue_eq h, hb, State.settle_trap]

end

/-! ### The thread registers -/

/-- A register write leaves the general registers written as `Thread.wrote` says. -/
theorem Thread.wrote_setRg (x : Thread) (rd : BitVec 4) (w : Word) : x.wrote (x.setRg rd w) rd w :=
  fun q => Thread.rg_setRg x rd q w

/-- The registers depend on the register file alone. -/
theorem Thread.rg_congr {x y : Thread} (h : x.g = y.g) (q : BitVec 4) : x.rg q = y.rg q := by
  simp [Thread.rg, h]

@[simp] theorem Thread.setRg_z (x : Thread) (r : BitVec 4) (w : Word) : (x.setRg r w).z = x.z := by rw [Thread.setRg_eq]
@[simp] theorem Thread.setRg_n (x : Thread) (r : BitVec 4) (w : Word) : (x.setRg r w).n = x.n := by rw [Thread.setRg_eq]
@[simp] theorem Thread.setRg_c (x : Thread) (r : BitVec 4) (w : Word) : (x.setRg r w).c = x.c := by rw [Thread.setRg_eq]
@[simp] theorem Thread.setRg_v (x : Thread) (r : BitVec 4) (w : Word) : (x.setRg r w).v = x.v := by rw [Thread.setRg_eq]
@[simp] theorem Thread.setRg_event (x : Thread) (r : BitVec 4) (w : Word) : (x.setRg r w).event = x.event := by
  rw [Thread.setRg_eq]
@[simp] theorem Thread.setRg_slots (x : Thread) (r : BitVec 4) (w : Word) : (x.setRg r w).slots = x.slots := by
  rw [Thread.setRg_eq]

@[simp] theorem Thread.advance_pc (x : Thread) : x.advance.pc = x.pc + 4 := rfl
@[simp] theorem Thread.advance_rg (x : Thread) (q : BitVec 4) : x.advance.rg q = x.rg q := rfl

/-- What is written and moves on changes the registers and the PC alone. -/
theorem Thread.advance_setRg (x : Thread) (r : BitVec 4) (w : Word) :
    (x.setRg r w).advance = { x with g := (x.setRg r w).g, pc := x.pc + 4 } := by
  rw [Thread.advance, Thread.setRg_pc]
  conv_lhs => rw [Thread.setRg_eq]

/-! ### Bits of a word -/

theorem bits_low (w : Word) (n : Nat) : bits w 0 n = w.toNat % 2 ^ n := by simp [bits]

/-- The low bits of a word, as a mask takes them. -/
theorem and_ones (w : Word) (n : Nat) (m : Word) (hm : m.toNat = 2 ^ n - 1) : w &&& m = BitVec.ofNat 32 (w.toNat % 2 ^ n) := by
  apply BitVec.eq_of_toNat_eq
  rw [BitVec.toNat_and, hm, Nat.and_two_pow_sub_one_eq_mod, BitVec.toNat_ofNat]
  have := w.isLt
  have := Nat.mod_le w.toNat (2 ^ n)
  exact (Nat.mod_eq_of_lt (by omega)).symm

/-- The address of formats M and K. -/
theorem Thread.addr_eq (x : Thread) (f : IFields) : x.addr f = memAddr x f := rfl

theorem ticksOf_eq (us : Nat) : usTicks us = ticksOf us := by
  unfold usTicks ticksOf; omega

end Sys2Proof.Machine
end

section
/-!
PROOF. The arithmetic of a thread (R32, R34): operands, results and flags.
-/

open Sys2Proof Sys2Proof.Machine

namespace Sys2Proof.Machine

/-! ### Operands (R31, R32) -/

/-- The immediate of the short form: fn[12:0]. -/
theorem fn_low (fn : BitVec 14) (n : Nat) : (fn.extractLsb' 0 n).toNat = fn.toNat % 2 ^ n := by
  simp [BitVec.extractLsb'_toNat]

theorem aluBad_eq_false {f : AFields} (h : aluLegal f) : aluBad f = false := by
  unfold aluLegal at h
  unfold aluBad
  split
  · next hb => rw [if_pos hb] at h; simp [h]
  · next hb =>
    rw [if_neg hb] at h
    have : f.fn.extractLsb' 0 13 = 0 := BitVec.eq_of_toNat_eq (by rw [fn_low]; exact h)
    simp [this]

theorem opB_eq (x : Thread) (f : AFields) : x.opB f = aluB x f := by
  unfold Thread.opB aluB
  split
  · apply BitVec.eq_of_toNat_eq
    rw [BitVec.toNat_setWidth, fn_low, BitVec.toNat_ofNat]
    rfl
  · rfl

theorem zx18_eq (n : BitVec 18) : zx18 n = BitVec.ofNat 32 n.toNat := (BitVec.ofNat_toNat _ _).symm

theorem sx18_eq (n : BitVec 18) : sx18 n = BitVec.ofInt 32 n.toInt := rfl

theorem sx18_toInt (n : BitVec 18) : (sx18 n).toInt = n.toInt := BitVec.toInt_signExtend_of_le (by omega)

/-! ### Flags (R34) -/

/-- Reduction to 32 signed bits changes exactly the integers outside the range. -/
theorem bmod_ne_iff_outside (n : Int) : decide (n.bmod (2 ^ 32) ≠ n) = outside32 n := by
  unfold outside32
  rw [decide_eq_decide]
  simp only [Int.bmod]
  omega

theorem ovfAdd_eq (a b : Word) : ovfAdd a b = outside32 (a.toInt + b.toInt) := by
  rw [ovfAdd, BitVec.toInt_add, bmod_ne_iff_outside]

theorem ovfSub_eq (a b : Word) : ovfSub a b = outside32 (a.toInt - b.toInt) := by
  rw [ovfSub, BitVec.toInt_sub, bmod_ne_iff_outside]

theorem ovfMul_eq (a b : Word) : ovfMul a b = outside32 (a.toInt * b.toInt) := by
  rw [ovfMul, BitVec.toInt_mul, bmod_ne_iff_outside]

theorem carryMul_eq (a b : Word) : carryMul a b = decide (a.toNat * b.toNat / 2 ^ 32 ≠ 0) := by
  rw [carryMul, decide_eq_decide]
  omega

theorem getLsbD_eq_div (w : Word) (k : Nat) : w.getLsbD k = decide (w.toNat / 2 ^ k % 2 = 1) :=
  Nat.testBit_eq_decide_div_mod_eq

theorem outShl_getD (a : Word) (n : Nat) (c : Bool) :
    (outShl a n).getD c = if n = 0 then c else decide (a.toNat / 2 ^ (32 - n) % 2 = 1) := by
  unfold outShl
  split <;> simp [getLsbD_eq_div]

theorem outShr_getD (a : Word) (n : Nat) (c : Bool) :
    (outShr a n).getD c = if n = 0 then c else decide (a.toNat / 2 ^ (n - 1) % 2 = 1) := by
  unfold outShr
  split <;> simp [getLsbD_eq_div]

/-! ### Results -/

theorem shl_eq (a : Word) (n : Nat) : a <<< n = BitVec.ofNat 32 (a.toNat * 2 ^ n) := by
  apply BitVec.eq_of_toNat_eq
  simp [Nat.shiftLeft_eq]

theorem shr_eq (a : Word) (n : Nat) : a >>> n = BitVec.ofNat 32 (a.toNat / 2 ^ n) := by
  apply BitVec.eq_of_toNat_eq
  have := Nat.div_le_self a.toNat (2 ^ n)
  have := a.isLt
  rw [BitVec.toNat_ushiftRight, Nat.shiftRight_eq_div_pow, BitVec.toNat_ofNat, Nat.mod_eq_of_lt (by omega)]

theorem sar_eq (a : Word) (n : Nat) : a.sshiftRight n = BitVec.ofInt 32 (a.toInt / 2 ^ n) := by
  rw [BitVec.sshiftRight, Int.shiftRight_eq_div_pow]
  norm_cast

/-- An ALU result is what R32 says of rd, Z, N, C and V, and no more of the thread. -/
theorem Thread.result_spec (x : Thread) (rd : BitVec 4) (r : Word) (c v : Option Bool) :
    let y := x.result rd r c v
    x.wrote y rd r ∧ y.z = decide (r = 0) ∧ y.n = r.getLsbD 31 ∧ y.c = c.getD x.c ∧ y.v = v.getD x.v ∧
      y.pc = x.pc + 4 ∧ x.sameBut y := by
  refine ⟨Thread.wrote_setRg x rd r, ?_, ?_, rfl, rfl, rfl, ?_⟩
  · exact beq_eq_decide r 0
  · exact BitVec.msb_eq_getLsbD_last r
  · unfold Thread.sameBut Thread.result
    conv_lhs => rw [Thread.setRg_eq]

/-! ### The two forms -/

/-- An A-format instruction follows its rule when its operation gives the rule's result, C and V. -/
theorem aluRule_of {c : Issue → AFields → Instr} {ok : AFields → Prop} {r : Word → Word → Word}
    {cf vf : Word → Word → Bool → Bool} {op : Word → Word → Word × Option Bool × Option Bool}
    (hc : ∀ i f s, ok f → exec (c i f) s = .next (s.issue i (c i f) (aluBody i.thread f op)))
    (hr : ∀ a b, (op a b).1 = r a b) (hcf : ∀ a b x, (op a b).2.1.getD x = cf a b x)
    (hvf : ∀ a b x, (op a b).2.2.getD x = vf a b x) : AluRule c ok r cf vf := by
  intro s i f hi hlegal hok
  have hbody : aluBody i.thread f op (s.touched i.thread) = .th (s.touched i.thread) i.thread fun x =>
      x.result f.rd (op ((s.th i.thread).rg f.ra) (aluB (s.th i.thread) f)).1
        (op ((s.th i.thread).rg f.ra) (aluB (s.th i.thread) f)).2.1
        (op ((s.th i.thread).rg f.ra) (aluB (s.th i.thread) f)).2.2 := by
    simp [aluBody, aluBad_eq_false hlegal, opB_eq]
  refine Runs.of_th hi (hc i f s hok) hbody ?_
  have hspec := Thread.result_spec (s.th i.thread) f.rd (op ((s.th i.thread).rg f.ra) (aluB (s.th i.thread) f)).1
    (op ((s.th i.thread).rg f.ra) (aluB (s.th i.thread) f)).2.1 (op ((s.th i.thread).rg f.ra) (aluB (s.th i.thread) f)).2.2
  simpa only [hr, hcf, hvf] using hspec

/-- An I-format instruction follows its rule when its operation gives the rule's result, C and V. -/
theorem immRule_of {c : Issue → IFields → Instr} {r : Word → BitVec 18 → Word} {cf vf : Word → BitVec 18 → Bool → Bool}
    {op : BitVec 18 → Word → Word × Option Bool × Option Bool}
    (hc : ∀ i f s, exec (c i f) s = .next (s.issue i (c i f) (immBody i.thread f (op f.imm))))
    (hr : ∀ a n, (op n a).1 = r a n) (hcf : ∀ a n x, (op n a).2.1.getD x = cf a n x)
    (hvf : ∀ a n x, (op n a).2.2.getD x = vf a n x) : ImmRule c r cf vf := by
  intro s i f hi
  have hbody : immBody i.thread f (op f.imm) (s.touched i.thread) = .th (s.touched i.thread) i.thread fun x =>
      x.result f.rd (op f.imm ((s.th i.thread).rg f.ra)).1 (op f.imm ((s.th i.thread).rg f.ra)).2.1
        (op f.imm ((s.th i.thread).rg f.ra)).2.2 := by
    simp [immBody]
  refine Runs.of_th hi (hc i f s) hbody ?_
  have hspec := Thread.result_spec (s.th i.thread) f.rd (op f.imm ((s.th i.thread).rg f.ra)).1
    (op f.imm ((s.th i.thread).rg f.ra)).2.1 (op f.imm ((s.th i.thread).rg f.ra)).2.2
  simpa only [hr, hcf, hvf] using hspec

theorem exec_cmp {f : AFields} (h : f.rd = 0) (i : Issue) (s : State) :
    exec (.cmp i f) s = .next (s.issue i (.cmp i f) (aluBody i.thread f fun a b =>
      (a - b, some (carrySub a b), some (ovfSub a b)))) := by
  simp [exec, execCmp, h]

end Sys2Proof.Machine

/-- Settles O1: each instruction of the group is one operation on ra and B, put through the shared ALU rule. -/
theorem aluRegisterFormsResultAndFlags : Obligations.AluRegisterFormsResultAndFlags := by
  unfold Obligations.AluRegisterFormsResultAndFlags
  refine ⟨⟨?add, ?sub, ?mul, ?cmp⟩, ⟨?and, ?or, ?xor, ?min, ?max⟩, ?shl, ?shr, ?sar⟩
  case add => exact aluRule_of (fun _ _ _ _ => rfl) (fun _ _ => rfl) (fun _ _ _ => rfl) fun a b _ => ovfAdd_eq a b
  case sub => exact aluRule_of (fun _ _ _ _ => rfl) (fun _ _ => rfl) (fun _ _ _ => rfl) fun a b _ => ovfSub_eq a b
  case mul =>
    exact aluRule_of (fun _ _ _ _ => rfl) (fun _ _ => rfl) (fun a b _ => carryMul_eq a b) fun a b _ => ovfMul_eq a b
  case cmp => exact aluRule_of (fun i _ s h => exec_cmp h i s) (fun _ _ => rfl) (fun _ _ _ => rfl) fun a b _ => ovfSub_eq a b
  case and => exact aluRule_of (fun _ _ _ _ => rfl) (fun _ _ => rfl) (fun _ _ _ => rfl) fun _ _ _ => rfl
  case or => exact aluRule_of (fun _ _ _ _ => rfl) (fun _ _ => rfl) (fun _ _ _ => rfl) fun _ _ _ => rfl
  case xor => exact aluRule_of (fun _ _ _ _ => rfl) (fun _ _ => rfl) (fun _ _ _ => rfl) fun _ _ _ => rfl
  case min =>
    exact aluRule_of (fun _ _ _ _ => rfl) (fun a b => by simp [BitVec.sle]) (fun _ _ _ => rfl) fun _ _ _ => rfl
  case max =>
    exact aluRule_of (fun _ _ _ _ => rfl) (fun a b => by simp [BitVec.sle]) (fun _ _ _ => rfl) fun _ _ _ => rfl
  case shl =>
    exact aluRule_of (fun _ _ _ _ => rfl) (fun a b => by rw [bits_low, shl_eq]; rfl)
      (fun a b c => by rw [bits_low]; exact outShl_getD a _ c) fun _ _ _ => rfl
  case shr =>
    exact aluRule_of (fun _ _ _ _ => rfl) (fun a b => by rw [bits_low, shr_eq]; rfl)
      (fun a b c => by rw [bits_low]; exact outShr_getD a _ c) fun _ _ _ => rfl
  case sar =>
    exact aluRule_of (fun _ _ _ _ => rfl) (fun a b => by rw [bits_low, sar_eq]; rfl)
      (fun a b c => by rw [bits_low]; exact outShr_getD a _ c) fun _ _ _ => rfl

/-- Settles O2: as O1, with the immediate for the second operand. -/
theorem aluImmediateFormsResultAndFlags : Obligations.AluImmediateFormsResultAndFlags := by
  unfold Obligations.AluImmediateFormsResultAndFlags
  refine ⟨?addi, ?andi, ?ori, ?lui⟩
  case addi =>
    exact immRule_of (op := fun n a => (a + sx18 n, some (carryAdd a (sx18 n)), some (ovfAdd a (sx18 n))))
      (fun _ _ _ => rfl) (fun _ _ => rfl) (fun _ _ _ => rfl) fun a n _ => by rw [Option.getD_some, ovfAdd_eq, sx18_toInt]
  case andi =>
    exact immRule_of (op := fun n a => (a &&& zx18 n, none, none)) (fun _ _ _ => rfl) (fun a n => by rw [zx18_eq])
      (fun _ _ _ => rfl) fun _ _ _ => rfl
  case ori =>
    exact immRule_of (op := fun n a => (a ||| zx18 n, none, none)) (fun _ _ _ => rfl) (fun a n => by rw [zx18_eq])
      (fun _ _ _ => rfl) fun _ _ _ => rfl
  case lui =>
    intro s i f hi hra
    have hshift : zx18 f.imm <<< 14 = BitVec.ofNat 32 (f.imm.toNat * 2 ^ 14) := by
      rw [shl_eq, zx18_eq, BitVec.toNat_ofNat, Nat.mod_eq_of_lt (by have := f.imm.isLt; omega)]
    refine Runs.of_th hi rfl (f := fun x => (x.setRg f.rd (zx18 f.imm <<< 14)).advance) (by simp [hra]) ?_
    rw [hshift, Thread.advance_setRg]
    exact ⟨Thread.wrote_setRg _ _ _, ⟨rfl, rfl, rfl, rfl⟩, rfl, rfl⟩
end

section
/-!
PROOF. Branches, calls and returns (R33 to R35); TBR, SLEEPU, NOP and HALT (R22, R49, R50, R255); events (R47, R48);
semaphores (R46).
-/

open Sys2Proof Sys2Proof.Machine

namespace Sys2Proof.Machine

/-! ### Branches (R33 to R35) -/

/-- The condition of B, read from the table of R33. -/
theorem condHolds_eq (x : Thread) (cond : BitVec 4) : condHolds x.z x.n x.c x.v cond = taken x cond := by
  have h : ∀ k : Fin 16, condHolds x.z x.n x.c x.v (BitVec.ofFin k) = taken x (BitVec.ofFin k) := by
    intro k
    fin_cases k <;> rfl
  exact h cond.toFin

/-- Shifting a sign-extended offset left by two multiplies it by four. -/
theorem target_eq (x : Thread) (off : BitVec 22) : x.target off = x.pc + BitVec.ofInt 32 (4 * off.toInt) := by
  have h : off.signExtend 32 <<< 2 = BitVec.ofInt 32 (4 * off.toInt) := by
    rw [← BitVec.mul_twoPow_eq_shiftLeft, BitVec.signExtend, show BitVec.twoPow 32 2 = BitVec.ofInt 32 4 from rfl,
      ← BitVec.ofInt_mul, Int.mul_comm]
  rw [Thread.target, h]

/-- The form of RET is fn[1:0], the bits above it being 0 (R34). -/
theorem retForm_eq {fn : BitVec 14} {n : Nat} (h : fn.toNat = n) (hn : n < 4) :
    fn.extractLsb' 2 12 = 0 ∧ bits (fn.setWidth 32) 0 2 = n := by
  refine ⟨BitVec.eq_of_toNat_eq ?_, ?_⟩
  · rw [BitVec.extractLsb'_toNat, h, Nat.shiftRight_eq_div_pow, Nat.div_eq_of_lt (by omega)]; rfl
  · rw [bits_low, BitVec.toNat_setWidth, h]; omega

/-- Bits [1:0] of an aligned address. -/
theorem aligned_bits {w : Word} : bits w 0 2 = 0 ↔ w.toNat % 4 = 0 := by rw [bits_low]; rfl

theorem branchesAndCalls_ret_pop {s : State} {i : Issue} {f : AFields} {a : Word} {rest : List Word} (h : s.issues i)
    (hfn : f.fn = 0) (hrd : f.rd = 0) (hra : f.ra = 0) (hrb : f.rb = 0) (hst : (s.th i.thread).rstack = a :: rest) :
    Runs (.ret i f) i s fun x y => y = { x with pc := a, rstack := rest } := by
  obtain ⟨hhi, hform⟩ := retForm_eq (n := 0) (congrArg BitVec.toNat hfn) (by omega)
  refine Runs.of_th h rfl (f := fun x => { x with pc := a, rstack := rest }) ?_ rfl
  simp [hhi, hform, hrd, hra, hrb, hst]

/-- RET ra and RET.T ra: the two register forms. -/
theorem branchesAndCalls_ret_reg {s : State} {i : Issue} {f : AFields} {n : Nat} (h : s.issues i) (hfn : f.fn.toNat = n)
    (hn : n = 1 ∨ n = 2) (hrd : f.rd = 0) (hrb : f.rb = 0) (hal : ((s.th i.thread).rg f.ra).toNat % 4 = 0)
    (hact : n = 2 → (s.th i.thread).tactive = true) :
    Runs (.ret i f) i s fun x y =>
      y = { x with pc := x.rg f.ra, tactive := if n = 2 then false else x.tactive } := by
  obtain ⟨hhi, hform⟩ := retForm_eq (n := n) hfn (by omega)
  refine Runs.of_th h rfl (f := fun x => { x with pc := x.rg f.ra, tactive := if n = 2 then false else x.tactive }) ?_ rfl
  have halb := aligned_bits.mpr hal
  rcases hn with rfl | rfl
  · simp [hhi, hform, hrd, hrb, halb]
  · simp [hhi, hform, hrd, hrb, halb, hact rfl]

/-! ### Time and halting (R22, R49, R50, R255) -/

/-- TB as it shows in limp operation: a multiple of 8. -/
theorem tbShown_eq (s : State) : s.tbShown = if s.clk.limp then BitVec.ofNat 64 (s.tb.toNat / 8 * 8) else s.tb := by
  have hmask : ∀ k : Fin 64, (~~~7#64)[k] = decide (3 ≤ k.val) := by decide
  have hand : s.tb &&& ~~~7#64 = (s.tb >>> 3) <<< 3 := by
    ext k hk
    have hbit : (~~~7#64)[k] = decide (3 ≤ k) := hmask ⟨k, hk⟩
    rw [BitVec.getElem_and, hbit, BitVec.getElem_shiftLeft]
    by_cases h3 : k < 3
    · simp [h3]
    · have hsum : 3 + (k - 3) = k := by omega
      simp [h3, Nat.not_lt.mp h3, hsum, hk]
  unfold State.tbShown
  split
  · refine Eq.trans hand (BitVec.eq_of_toNat_eq ?_)
    simp [Nat.shiftLeft_eq, Nat.shiftRight_eq_div_pow]
  · rfl

/-- A pair's registers, the even one from g2 to g14. -/
theorem pairOk_of {r : BitVec 4} (he : r.toNat % 2 = 0) (h0 : r ≠ 0) : pairOk r = true := by
  revert r; decide

theorem pair_succ {r : BitVec 4} (he : r.toNat % 2 = 0) : r + 1 ≠ 0 ∧ r + 1 ≠ r := by
  revert r; decide

/-- A write of a register pair. -/
theorem Thread.rg_setRg_pair (x : Thread) {r : BitVec 4} (he : r.toNat % 2 = 0) (h0 : r ≠ 0) (lo hi : Word) (q : BitVec 4) :
    ((x.setRg r lo).setRg (r + 1) hi).rg q = if q = r then lo else if q = r + 1 then hi else x.rg q := by
  obtain ⟨hs0, hsr⟩ := pair_succ he
  rw [Thread.rg_setRg, Thread.rg_setRg]
  by_cases hq : q = r
  · subst hq
    rw [if_neg fun h => hsr h.1.symm, if_pos ⟨rfl, h0⟩, if_pos rfl]
  · rw [if_neg hq]
    by_cases hq1 : q = r + 1
    · subst hq1
      rw [if_pos ⟨rfl, hs0⟩, if_pos rfl]
    · rw [if_neg fun h => hq1 h.1, if_neg fun h => hq h.1, if_neg hq1]

/-- A write of a register pair that moves on changes the registers and the PC alone. -/
theorem Thread.sameBut_setRg_pair (x : Thread) (r q : BitVec 4) (lo hi : Word) :
    x.sameBut ((x.setRg r lo).setRg q hi).advance := by
  unfold Thread.sameBut
  rw [Thread.setRg_eq (x.setRg r lo), Thread.setRg_eq x]
  rfl

@[simp] theorem State.touched_tbShown (s : State) (t : Tid) : (s.touched t).tbShown = s.tbShown := by
  simp [State.tbShown]

@[simp] theorem State.touched_tbLo (s : State) (t : Tid) : (s.touched t).tbLo = s.tbLo := by simp [State.tbLo]

/-! ### Events (R47, R48) -/

/-- What setting events does to a thread: the bits, and the mark of a wait that they meet. -/
def Thread.withEvents (now : Nat) (m : Word) (x : Thread) : Thread := { x with event := x.event ||| m }.noteMet now

theorem Thread.withEvents_eq (now : Nat) (m : Word) (x : Thread) :
    x.withEvents now m = { x with event := x.event ||| m, met := (x.withEvents now m).met } := by
  obtain ⟨k, hk⟩ := Thread.noteMet_only now { x with event := x.event ||| m }
  unfold Thread.withEvents
  rw [hk]

theorem State.setEvents_eq (s : State) (t : Tid) (m : Word) :
    s.setEvents t m = s.modTh t (Thread.withEvents s.ticks m) := rfl

/-- The threads of a list changed in turn. -/
theorem State.foldl_modTh_th (f : Thread → Thread) (u : Tid) :
    ∀ (l : List Tid) (s : State), l.Nodup →
      (l.foldl (fun s t => s.modTh t f) s).th u = if u ∈ l then f (s.th u) else s.th u
  | [], s, _ => by simp
  | t :: l, s, hl => by
    obtain ⟨ht, hl⟩ := List.nodup_cons.mp hl
    rw [List.foldl_cons, State.foldl_modTh_th f u l _ hl]
    by_cases hu : u = t
    · subst hu; simp [ht]
    · simp [hu, State.th_modTh_other]

/-- Changing threads in turn changes nothing else. -/
theorem State.foldl_modTh_only (f : Thread → Thread) :
    ∀ (l : List Tid) (s : State), l.foldl (fun s t => s.modTh t f) s =
      { s with threads := (l.foldl (fun s t => s.modTh t f) s).threads }
  | [], s => rfl
  | t :: l, s => by
    rw [List.foldl_cons]
    exact State.foldl_modTh_only f l (s.modTh t f)

/-- As no event moves time, the tick noted is the same in all. -/
theorem State.foldl_setEvents_const (m : Word) (now : Nat) :
    ∀ (l : List Tid) (s : State), s.ticks = now →
      l.foldl (fun s t => s.setEvents t m) s = l.foldl (fun s t => s.modTh t (Thread.withEvents now m)) s
  | [], _, _ => rfl
  | t :: l, s, h => by
    rw [List.foldl_cons, List.foldl_cons, State.setEvents_eq, h]
    exact State.foldl_setEvents_const m now l _ h

/-- Events set in every thread (EVS with ALL). -/
theorem State.forThreads_setEvents (s : State) (m : Word) :
    (s.forThreads fun s t => s.setEvents t m) =
        { s with threads := (s.forThreads fun s t => s.setEvents t m).threads } ∧
      ∀ u, (s.forThreads fun s t => s.setEvents t m).th u = (s.th u).withEvents s.ticks m := by
  unfold State.forThreads
  rw [State.foldl_setEvents_const m s.ticks _ s rfl]
  refine ⟨State.foldl_modTh_only _ _ _, fun u => ?_⟩
  rw [State.foldl_modTh_th _ _ _ _ (List.nodup_finRange 32)]
  simp

/-- Events set in one thread. -/
theorem State.setEvents_th (s : State) (t u : Tid) (m : Word) :
    (s.setEvents t m).th u = if u = t then (s.th u).withEvents s.ticks m else s.th u := by
  rw [State.setEvents_eq]
  split
  · next h => subst h; exact State.th_modTh_same _ _ _
  · next h => exact State.th_modTh_other _ _ h

/-- What EVW leaves when it takes the bits `m`. -/
def Thread.tookEvents (x : Thread) (rd : BitVec 4) (m : Word) : Thread :=
  ({ x with event := x.event &&& ~~~ m, c := true }.setRg rd m).advance

/-- Clearing the masked pending bits clears the mask. -/
theorem and_not_and (e m : Word) : e &&& ~~~ (e &&& m) = e &&& ~~~ m := by
  ext k hk
  simp only [BitVec.getElem_and, BitVec.getElem_not]
  cases e[k] <;> simp

/-- The outcome of EVS, for the threads `P` whose bits it sets. -/
theorem exec_evs_of {s S : State} {i : Issue} {f : AFields} {m : Word} {P : Tid → Prop} [DecidablePred P]
    (hc : exec (.evs i f) s = .next (S.modTh i.thread Thread.advance))
    (honly : S = { s.touched i.thread with threads := S.threads })
    (hth : ∀ u, S.th u = if P u then (s.th u).withEvents s.ticks m else s.th u) :
    ∃ t : State, exec (.evs i f) s = .next t ∧ t = { s.touched i.thread with threads := t.threads } ∧
      ∀ u, t.th u = { s.th u with
        event := if P u then (s.th u).event ||| m else (s.th u).event
        pc := if u = i.thread then (s.th i.thread).pc + 4 else (s.th u).pc, met := (t.th u).met } := by
  have hbits : ∀ u, ∃ k, S.th u =
      { s.th u with event := if P u then (s.th u).event ||| m else (s.th u).event, met := k } := by
    intro u
    rw [hth u]
    split
    · exact ⟨_, Thread.withEvents_eq s.ticks m (s.th u)⟩
    · exact ⟨_, rfl⟩
  refine ⟨_, hc, ?_, fun u => ?_⟩
  · conv_lhs => rw [honly]
    rfl
  · obtain ⟨k, hk⟩ := hbits u
    by_cases hu : u = i.thread
    · subst hu
      rw [State.th_modTh_same, hk, if_pos rfl]
      rfl
    · rw [State.th_modTh_other _ _ hu, hk, if_neg hu]

/-- fn of EVS: ALL or not. -/
theorem evsForm_cases {fn : BitVec 14} (h : fn.toNat < 2) :
    fn.extractLsb' 1 13 = 0 ∧ (fn.getLsbD 0 = true ∧ fn = 1 ∨ fn.getLsbD 0 = false ∧ fn ≠ 1) := by
  have h01 : fn = 0 ∨ fn = 1 := by
    rcases Nat.lt_or_ge fn.toNat 1 with h0 | h1
    · exact .inl (BitVec.eq_of_toNat_eq (by simpa using h0))
    · exact .inr (BitVec.eq_of_toNat_eq (by show fn.toNat = 1; omega))
  rcases h01 with rfl | rfl <;> decide

end Sys2Proof.Machine

/-- Settles O6. -/
theorem branchesAndCallsSetThePc : Obligations.BranchesAndCallsSetThePc := by
  unfold Obligations.BranchesAndCallsSetThePc
  intro s i h
  refine ⟨?b, ?call, ?pop, ?reg, ?leave⟩
  case b =>
    intro f b hb
    rw [← condHolds_eq] at hb
    refine Runs.of_th h rfl (f := fun x => { x with pc := if b then x.target f.off else x.pc + 4 }) ?_
      (by rw [target_eq])
    cases b
    · simp [hb]; rfl
    · simp [hb]
  case call =>
    intro f hc hlen
    refine Runs.of_th h rfl (f := fun x => { x with rstack := (x.pc + 4) :: x.rstack, pc := x.target f.off }) ?_
      (by rw [target_eq])
    simp [hc, Nat.not_le.mpr hlen]
  case pop =>
    intro f a rest hfn hrd hra hrb hst
    exact branchesAndCalls_ret_pop h hfn hrd hra hrb hst
  case reg =>
    intro f hfn hrd hrb hal
    exact branchesAndCalls_ret_reg h (congrArg BitVec.toNat hfn) (.inl rfl) hrd hrb hal fun h => absurd h (by decide)
  case leave =>
    intro f hfn hrd hrb hal hact
    exact branchesAndCalls_ret_reg h (congrArg BitVec.toNat hfn) (.inr rfl) hrd hrb hal fun _ => hact

/-- Settles O7. -/
theorem tbrSleepuNopAndHaltEffects : Obligations.TbrSleepuNopAndHaltEffects := by
  unfold Obligations.TbrSleepuNopAndHaltEffects
  refine ⟨fun s i h => ⟨?tbr, ?nop, ?halt⟩, fun s i f h hrd => ⟨?yield, ?sleep⟩⟩
  case tbr =>
    intro f hfn hra hrb he h0
    have hbody := pairOk_of he h0
    refine Runs.of_th h rfl
      (f := fun x => ((x.setRg f.rd s.tbLo).setRg (f.rd + 1) (s.tbShown.extractLsb' 32 32)).advance) ?_ ?_
    · simp [hfn, hra, hrb, hbody]
    · rw [← tbShown_eq]
      refine ⟨fun q => Thread.rg_setRg_pair _ he h0 _ _ q, ⟨?_, ?_, ?_, ?_⟩, ?_, ?_⟩
      · simp [Thread.advance]
      · simp [Thread.advance]
      · simp [Thread.advance]
      · simp [Thread.advance]
      · simp
      · exact Thread.sameBut_setRg_pair _ _ _ _ _
  case nop =>
    intro w
    exact Runs.of_th h rfl rfl rfl
  case halt =>
    intro f hfn hrd hra hrb
    have hrun : (s.th i.thread).st = .run := h.1
    refine Runs.of_th h rfl (f := fun x => x.advance.halt 1) (by simp [hfn, hrd, hra, hrb]) ?_
    simp [Thread.halt, Thread.advance, hrun, Thread.flagsOf]
  case yield =>
    intro h0
    exact Runs.of_th h rfl (f := Thread.advance) (by simp_all) rfl
  case sleep =>
    intro h0
    refine Runs.of_wait h rfl (code := 6) (dl := some (s.ticks + usTicks (((s.th i.thread).rg f.ra).toNat + f.imm.toNat)))
      (by simp_all) ?_
    rw [ticksOf_eq]
    rfl

/-- Settles O9. -/
theorem eventBitsAreSetAndTaken : Obligations.EventBitsAreSetAndTaken := by
  unfold Obligations.EventBitsAreSetAndTaken
  refine ⟨fun s i f h => ⟨?take, ?wait, ?set⟩, ?evset⟩
  case take =>
    intro hfn hm
    refine Runs.of_th h rfl (f := fun x => x.tookEvents f.rd (x.event &&& x.rg f.rb)) ?_ ?_
    · have hm0 : ¬ (s.th i.thread).event &&& (s.th i.thread).rg f.rb = 0#32 := hm
      simp [evwBody, hfn, hm0, Thread.tookEvents, IssueRes.th, State.modTh]
    · rw [Thread.tookEvents, and_not_and, Thread.advance_setRg]
      exact ⟨Thread.wrote_setRg _ _ _, rfl, rfl, rfl, rfl, rfl, rfl, rfl⟩
  case wait =>
    intro hfn hm
    refine Runs.of_wait h rfl (code := 5) (dl := s.timeout i.thread f.ra) ?_ ?_
    · simp [evwBody, hfn, hm, State.timeout]
    · simp [State.timeout, Thread.waitsFor, ticksOf_eq]
  case set =>
    intro hfn hrd
    obtain ⟨hhi, hform⟩ := evsForm_cases hfn
    rcases hform with ⟨hall, hfn1⟩ | ⟨hall, hfn1⟩
    · have hset := (s.touched i.thread).forThreads_setEvents ((s.th i.thread).rg f.rb &&& 0xFFFF)
      refine exec_evs_of (S := (s.touched i.thread).forThreads fun s t => s.setEvents t _) ?_ hset.1 fun u => ?_
      · exact exec_of_done h rfl (by simp [hhi, hrd, hall, IssueRes.th])
      · rw [if_pos (.inl hfn1), hset.2 u]
        simp
    · refine exec_evs_of (S := (s.touched i.thread).setEvents (((s.th i.thread).rg f.ra).extractLsb' 0 5).toFin
        ((s.th i.thread).rg f.rb &&& 0xFFFF)) ?_ rfl fun u => ?_
      · exact exec_of_done h rfl (by simp only [State.touched_th_acc, hhi, hrd, ne_eq, not_true_eq_false, or_self, if_false, hall,
          Bool.false_eq_true, IssueRes.th])
      · rw [State.setEvents_th]
        have hu : u = (((s.th i.thread).rg f.ra).extractLsb' 0 5).toFin ↔ u.val = ((s.th i.thread).rg f.ra).toNat % 32 := by
          rw [Fin.ext_iff]; simp
        simp only [hfn1, hu, false_or, State.touched_th_acc, State.touched_ticks]
  case evset =>
    intro s t v
    refine ⟨_, rfl, ?_⟩
    have hmask : v &&& 0xFFFF = BitVec.ofNat 32 (v.toNat % 0x10000) := and_ones v 16 _ rfl
    rw [← hmask]
    exact Thread.withEvents_eq _ _ _

/-- Settles O14. -/
theorem semaphoreReadTestsAndSets : Obligations.SemaphoreReadTestsAndSets := by
  unfold Obligations.SemaphoreReadTestsAndSets
  intro s k hs
  obtain ⟨hregs, -⟩ := hs
  have hlock (w : Word) : (w &&& 1).toNat = w.toNat % 2 := by
    rw [and_ones w 1 1 rfl, BitVec.toNat_ofNat]
    omega
  refine ⟨⟨_, rfl, rfl, hlock _, ?_, fun a ha => State.reg_setReg_other 1 ha, _, rfl, ?_⟩,
    ⟨_, rfl, rfl, ?_, fun a ha => State.reg_setReg_other _ ha, _, rfl, ?_⟩⟩
  · have h := State.reg_setReg_same hregs (TH_SEM k) 1
    exact congrArg (fun w : Word => w.toNat % 2) h
  · have h := State.reg_setReg_same hregs (TH_SEM k) 1
    exact congrArg (· &&& 1) h
  · have h := State.reg_setReg_same hregs (TH_SEM k) 0
    exact congrArg (fun w : Word => w.toNat % 2) h
  · have h := State.reg_setReg_same hregs (TH_SEM k) 0
    exact congrArg (· &&& 1) h

/-! ### The reset state (R25, R36, R298, R311) -/

/-- An empty memory reads 0. -/
theorem Sys2Proof.Machine.Memory.word_nil (a : Nat) : Memory.word [] a = 0 := by
  have hbyte (b : Nat) : Memory.byte [] b = 0 := rfl
  rw [Memory.word, hbyte, hbyte, hbyte, hbyte]
  rfl

/-- Settles O58: nothing is stored yet, so every read gives what an unwritten place reads as. -/
theorem resetStateIsSoundAndCleared : Obligations.ResetStateIsSoundAndCleared := by
  unfold Obligations.ResetStateIsSoundAndCleared
  have hth (t : Tid) : State.reset.th t = {} := by simp [State.th, State.reset]
  have hring (n : RingNo) : State.reset.ring n = {} := by simp [State.ring, State.reset]
  have hup (p : UPortNo) : State.reset.up p = {} := by simp [State.up, State.reset]
  have hhp (p : HPortNo) : State.reset.hp p = {} := by simp [State.hp, State.reset]
  refine ⟨⟨⟨List.Pairwise.nil, nofun⟩, Memory.wf_nil, Memory.wf_nil, Memory.wf_nil, ?_⟩, rfl, fun _ => rfl,
    fun a => ⟨Memory.word_nil a, Memory.word_nil a⟩, ?_, ?_, rfl, ?_, ?_, rfl, rfl, rfl, ?_, ?_⟩
  · intro t
    rw [hth]
    exact ⟨Memory.wf_nil, by decide, by decide⟩
  · intro t
    rw [hth]
    refine ⟨rfl, rfl, fun r => ?_, rfl, rfl, rfl, rfl, rfl, Memory.word_nil, fun k => ?_⟩
    · simp [Thread.rg]
    · simp
  · intro n
    refine ⟨by rw [hring], ?_⟩
    revert n
    decide +kernel
  · intro p; rw [hup]
  · intro p; rw [hhp]
  · decide +kernel
  · decide +kernel
end

section
/-!
PROOF. Loads and stores (R27 to R30, R222) and the register bus in a thread (R45).
-/

open Sys2Proof Sys2Proof.Machine

namespace Sys2Proof.Machine

/-! ### Words in memory (assumption 3) -/

theorem byteAt_eq (w : Word) (k : Nat) : byteAt w k = w.extractLsb' (8 * (3 - k)) 8 := by
  apply BitVec.eq_of_toNat_eq
  rw [byteAt, BitVec.toNat_ofNat, BitVec.extractLsb'_toNat, Nat.shiftRight_eq_div_pow]

/-- A word written stands in its four bytes, and no other byte changes. -/
theorem Memory.stored_setWord {m : Mem} (h : Memory.wf m) (a : Nat) (w : Word) : Stored m (Memory.setWord m a w) a w := by
  have h1 := Memory.wf_setByte h a (w.extractLsb' 24 8)
  have h2 := Memory.wf_setByte h1 (a + 1) (w.extractLsb' 16 8)
  have h3 := Memory.wf_setByte h2 (a + 2) (w.extractLsb' 8 8)
  intro b
  split
  · next hb =>
    have hcases : b = a ∨ b = a + 1 ∨ b = a + 2 ∨ b = a + 3 := by omega
    rw [byteAt_eq]
    unfold Memory.setWord
    rcases hcases with rfl | rfl | rfl | rfl
    · rw [Memory.byte_setByte_other _ (by omega), Memory.byte_setByte_other _ (by omega),
        Memory.byte_setByte_other _ (by omega), Memory.byte_setByte_same h, Nat.sub_self]
    · rw [Memory.byte_setByte_other _ (by omega), Memory.byte_setByte_other _ (by omega), Memory.byte_setByte_same h1,
        Nat.add_sub_cancel_left]
    · rw [Memory.byte_setByte_other _ (by omega), Memory.byte_setByte_same h2, Nat.add_sub_cancel_left]
    · rw [Memory.byte_setByte_same h3, Nat.add_sub_cancel_left]
  · exact Memory.byte_setWord_other w (by omega)

/-! ### The XIP cache (R222) -/

/-- Moving a line to the front leaves what every line holds. -/
theorem State.cached_touchLine (s : State) (l k : Nat) : (s.touchLine l).cached k = s.cached k := by
  have hfind : (s.touchLine l).msp.lines.find? (·.1 == k) = s.msp.lines.find? (·.1 == k) := by
    by_cases hk : k = l
    · subst hk
      have hrest : (s.msp.lines.filter (·.1 != k)).find? (·.1 == k) = none := by simp
      have hhead : (s.msp.lines.filter (·.1 == k)).find? (·.1 == k) = s.msp.lines.find? (·.1 == k) := by
        simp [List.find?_filter, beq_eq_decide]
      rw [State.touchLine, List.find?_append, hrest, hhead, Option.or_none]
    · have hhead : (s.msp.lines.filter (·.1 == l)).find? (·.1 == k) = none := by
        rw [List.find?_eq_none]
        intro e he
        have := (List.mem_filter.mp he).2
        simp only [beq_iff_eq] at this ⊢
        omega
      have hrest : (s.msp.lines.filter (·.1 != l)).find? (·.1 == k) = s.msp.lines.find? (·.1 == k) := by
        rw [List.find?_filter]
        congr 1
        funext e
        by_cases he : e.1 = k
        · simp [he, hk]
        · simp [he]
      rw [State.touchLine, List.find?_append, hhead, hrest, Option.none_or]
  rw [State.cached, State.cached, hfind]

@[simp] theorem State.cached_touched (s : State) (t : Tid) (k : Nat) : (s.touched t).cached k = s.cached k := by
  unfold State.touched
  split
  · exact State.cached_touchLine s _ k
  · rfl

@[simp] theorem State.touched_xipOn (s : State) (t : Tid) : (s.touched t).xipOn = s.xipOn := by
  simp [State.xipOn]

/-! ### Loads -/

/-- rd written and the PC moved on is a load's result. -/
theorem loaded_setRg (x : Thread) (f : IFields) (w : Word) : Loaded f w x ((x.setRg f.rd w).advance) := by
  rw [Thread.advance_setRg]
  exact ⟨Thread.wrote_setRg _ _ _, ⟨rfl, rfl, rfl, rfl⟩, rfl, rfl⟩

/-- An instruction whose body loads a word runs as a load. -/
theorem Runs.of_load {s : State} {i : Issue} {c : Instr} {body : State → IssueRes} {f : IFields} {w : Word} (h : s.issues i)
    (hc : exec c s = .next (s.issue i c body)) (hb : body (s.touched i.thread) = loadTo (s.touched i.thread) i.thread f.rd w) :
    Runs c i s fun x y => Loaded f w x y :=
  Runs.of_th h hc hb (loaded_setRg _ f w)

/-- Where an address lies, by its number (R19). -/
theorem inStore_iff {a : Word} : inStore a = true ↔ 0x10000000 ≤ a.toNat ∧ a.toNat < 0x10040000 := by simp [inStore]

theorem inShared_iff {a : Word} : inShared a = true ↔ 0x11000000 ≤ a.toNat ∧ a.toNat < 0x11040000 := by simp [inShared]

theorem inXip_iff {a : Word} : inXip a = true ↔ 0x20000000 ≤ a.toNat ∧ a.toNat < 0x21000000 := by simp [inXip]

section
variable {s : State} {t : Tid} {f : IFields}

theorem ldBody_local (hal : (memAddr (s.th t) f).toNat % 4 = 0) (h : (memAddr (s.th t) f).toNat < 0x800) :
    ldBody t false f s = loadTo s t f.rd (Memory.word (s.th t).mem (memAddr (s.th t) f).toNat) := by
  simp [ldBody, Thread.addr_eq, aligned_bits.mpr hal, h]

theorem ldBody_store (hal : (memAddr (s.th t) f).toNat % 4 = 0) (h : inStore (memAddr (s.th t) f) = true)
    (hgood : storeLine (memAddr (s.th t) f) ∉ s.image.bad) :
    ldBody t false f s = loadTo s t f.rd (Memory.word s.pstore ((memAddr (s.th t) f).toNat - 0x10000000)) := by
  have hr := inStore_iff.mp h
  simp [ldBody, Thread.addr_eq, aligned_bits.mpr hal, h, hgood]
  omega

theorem ldBody_shared (hal : (memAddr (s.th t) f).toNat % 4 = 0) (h : inShared (memAddr (s.th t) f) = true) :
    ldBody t false f s = loadTo s t f.rd (Memory.word s.smem ((memAddr (s.th t) f).toNat - 0x11000000)) := by
  have hr := inShared_iff.mp h
  have hst : inStore (memAddr (s.th t) f) = false := by
    rw [Bool.eq_false_iff]; intro hc; have := inStore_iff.mp hc; omega
  simp [ldBody, Thread.addr_eq, aligned_bits.mpr hal, h, hst]
  omega

theorem ldBody_xip {ws : List Word} (hal : (memAddr (s.th t) f).toNat % 4 = 0) (h : inXip (memAddr (s.th t) f) = true)
    (hon : s.xipOn = true) (hws : s.cached (xipLine (memAddr (s.th t) f)) = some ws) :
    ldBody t false f s = loadTo (s.touchLine (xipLine (memAddr (s.th t) f))) t f.rd
      (ws.getD (bits (memAddr (s.th t) f) 2 3) 0) := by
  have hr := inXip_iff.mp h
  have hst : inStore (memAddr (s.th t) f) = false := by
    rw [Bool.eq_false_iff]; intro hc; have := inStore_iff.mp hc; omega
  have hsh : inShared (memAddr (s.th t) f) = false := by
    rw [Bool.eq_false_iff]; intro hc; have := inShared_iff.mp hc; omega
  simp [ldBody, Thread.addr_eq, aligned_bits.mpr hal, h, hst, hsh, hon, hws]
  omega

/-- An address below the program store lies nowhere but in local memory. -/
theorem nowhere_below {a : Word} (h : a.toNat < 0x10000000) : inStore a = false ∧ inShared a = false ∧ inXip a = false := by
  simp only [Bool.eq_false_iff, ne_eq, inStore_iff, inShared_iff, inXip_iff]
  omega

theorem ldBody_outside (hal : (memAddr (s.th t) f).toNat % 4 = 0) (hlo : 0x800 ≤ (memAddr (s.th t) f).toNat)
    (hhi : (memAddr (s.th t) f).toNat < 0x10000000) (bad : Bool) :
    ldBody t bad f s = .trap s 0x03 0 (some (memAddr (s.th t) f)) := by
  obtain ⟨hst, hsh, hx⟩ := nowhere_below hhi
  simp [ldBody, Thread.addr_eq, aligned_bits.mpr hal, hst, hsh, hx, Nat.not_lt.mpr hlo]

/-! ### Stores -/

theorem stBody_local (hal : (memAddr (s.th t) f).toNat % 4 = 0) (h : (memAddr (s.th t) f).toNat < 0x800) :
    stBody t f s = .th s t fun x =>
      { x with mem := Memory.setWord x.mem (memAddr (s.th t) f).toNat (x.rg f.rd), pc := x.pc + 4 } := by
  simp [stBody, Thread.addr_eq, aligned_bits.mpr hal, h]

theorem stBody_shared (hal : (memAddr (s.th t) f).toNat % 4 = 0) (h : inShared (memAddr (s.th t) f) = true) :
    stBody t f s = .th { s with smem := Memory.setWord s.smem ((memAddr (s.th t) f).toNat - 0x11000000) ((s.th t).rg f.rd) } t
      Thread.advance := by
  have hr := inShared_iff.mp h
  simp [stBody, Thread.addr_eq, aligned_bits.mpr hal, h]
  omega

theorem stBody_outside (hal : (memAddr (s.th t) f).toNat % 4 = 0) (hlo : 0x800 ≤ (memAddr (s.th t) f).toNat)
    (hsh : inShared (memAddr (s.th t) f) = false) :
    stBody t f s = .trap s 0x03 0 (some (memAddr (s.th t) f)) := by
  simp [stBody, Thread.addr_eq, aligned_bits.mpr hal, hsh, Nat.not_lt.mpr hlo]

/-! ### Register accesses (R45) -/

/-- An aligned address below the end of the register space does not trap. -/
theorem ioTrap_free {a : Word} (hal : a.toNat % 4 = 0) (h : a.toNat < 0x130000) (r : Unit → IssueRes) :
    ioTrap s a r = r () := by
  rw [ioTrap, if_neg (by simpa using aligned_bits.mpr hal), if_neg (by unfold regSpace; omega)]

theorem ioTrap_outside {a : Word} (hal : a.toNat % 4 = 0) (h : 0x130000 ≤ a.toNat) (r : Unit → IssueRes) :
    ioTrap s a r = .trap s 0x03 0 (some a) := by
  rw [ioTrap, if_neg (by simpa using aligned_bits.mpr hal), if_pos (by unfold regSpace; omega)]

/-- A misaligned address traps, whatever the access (R52). -/
theorem ioTrap_misaligned {a : Word} (hal : a.toNat % 4 ≠ 0) (r : Unit → IssueRes) :
    ioTrap s a r = .trap s 0x02 0 (some a) := by
  rw [ioTrap, if_pos fun h => hal (aligned_bits.mp h)]

theorem ldBody_misaligned (hal : (memAddr (s.th t) f).toNat % 4 ≠ 0) (bad : Bool) :
    ldBody t bad f s = .trap s 0x02 0 (some (memAddr (s.th t) f)) := by
  have hb : bits (memAddr (s.th t) f) 0 2 ≠ 0 := fun h => hal (aligned_bits.mp h)
  simp [ldBody, Thread.addr_eq, hb]

theorem stBody_misaligned (hal : (memAddr (s.th t) f).toNat % 4 ≠ 0) :
    stBody t f s = .trap s 0x02 0 (some (memAddr (s.th t) f)) := by
  have hb : bits (memAddr (s.th t) f) 0 2 ≠ 0 := fun h => hal (aligned_bits.mp h)
  simp [stBody, Thread.addr_eq, hb]

end

end Sys2Proof.Machine

/-- Settles O3: each part of the data space has its own path through the body of LD or ST. -/
theorem loadsReadAndStoresWriteOneWord : Obligations.LoadsReadAndStoresWriteOneWord := by
  unfold Obligations.LoadsReadAndStoresWriteOneWord
  refine ⟨fun s i f h herr hal => ⟨?ldLocal, ?ldStore, ?ldShared, ?ldXip⟩, fun s i f hs h hal => ⟨?stLocal, ?stShared⟩⟩
  case ldLocal =>
    intro hlt
    refine Runs.of_load h rfl ?_
    rw [herr, ldBody_local (by simpa using hal) (by simpa using hlt), State.touched_th_acc]
  case ldStore =>
    intro hlo hhi hgood
    refine Runs.of_load h rfl ?_
    rw [herr, ldBody_store (by simpa using hal) (inStore_iff.mpr (by simpa using ⟨hlo, hhi⟩)) (by simpa [storeLine] using hgood),
      State.touched_th_acc, State.touched_pstore]
  case ldShared =>
    intro hlo hhi
    refine Runs.of_load h rfl ?_
    rw [herr, ldBody_shared (by simpa using hal) (inShared_iff.mpr (by simpa using ⟨hlo, hhi⟩)),
      State.touched_th_acc, State.touched_smem]
  case ldXip =>
    intro hlo hhi hon ws hws
    refine ⟨_, ?_, loaded_setRg _ f _⟩
    refine exec_of_done h rfl ?_
    have hcached : (s.touched i.thread).cached (xipLine (memAddr ((s.touched i.thread).th i.thread) f)) = some ws := by
      simpa [xipLine] using hws
    rw [herr, ldBody_xip (by simpa using hal) (inXip_iff.mpr (by simpa using ⟨hlo, hhi⟩)) (by simpa using hon) hcached,
      State.touched_th_acc]
    have hidx : bits (memAddr (s.th i.thread) f) 2 3 = (memAddr (s.th i.thread) f).toNat / 4 % 8 := by
      rw [bits, Nat.shiftRight_eq_div_pow]; rfl
    rw [hidx]
    exact congrArg IssueRes.done (congrArg (fun x : Thread => State.setTh _ _ ((x.setRg _ _).advance))
      (State.touched_th_acc s i.thread i.thread))
  case stLocal =>
    intro hlt
    obtain ⟨-, -, -, -, hth⟩ := hs
    refine Runs.of_th h rfl (f := fun x =>
      { x with mem := Memory.setWord x.mem (memAddr (s.th i.thread) f).toNat (x.rg f.rd), pc := x.pc + 4 }) ?_
      ⟨Memory.stored_setWord (hth i.thread).1 _ _, rfl⟩
    rw [stBody_local (by simpa using hal) (by simpa using hlt), State.touched_th_acc]
  case stShared =>
    intro hlo hhi
    obtain ⟨-, hsmem, -⟩ := hs
    refine ⟨Memory.setWord s.smem ((memAddr (s.th i.thread) f).toNat - 0x11000000) ((s.th i.thread).rg f.rd), ?_,
      Memory.stored_setWord hsmem _ _⟩
    refine exec_of_done h rfl ?_
    rw [stBody_shared (by simpa using hal) (inShared_iff.mpr (by simpa using ⟨hlo, hhi⟩)), State.touched_th_acc,
      State.touched_smem]
    exact congrArg IssueRes.done (congrArg (fun x : Thread => State.setTh _ _ x.advance)
      (State.touched_th_acc s i.thread i.thread))

/-- Settles O4. -/
theorem ldioReadsAndStioWritesRegisters : Obligations.LdioReadsAndStioWritesRegisters := by
  unfold Obligations.LdioReadsAndStioWritesRegisters
  intro s i f h a hal hlt
  have hfree (r : Unit → IssueRes) : ioTrap (s.touched i.thread) a r = r () := ioTrap_free hal hlt r
  have haddr : ((s.touched i.thread).th i.thread).addr f = a := by rw [State.touched_th_acc, Thread.addr_eq]
  refine ⟨fun hc => ⟨⟨?read, ?moved⟩, ?write⟩, ?wait, ?post⟩
  case read =>
    intro hready
    refine ⟨_, exec_of_done h rfl ?_, loaded_setRg _ f _⟩
    rw [ldioBody, haddr, hfree, hc]
    simp only [Bool.false_eq_true, if_false, State.busInOrder, State.touched_th_acc]
    rw [if_pos hready]
    rfl
  case moved =>
    intro hready
    refine exec_of_done h rfl ?_
    rw [ldioBody, haddr, hfree, hc]
    simp only [Bool.false_eq_true, if_false, State.busInOrder, State.touched_th_acc]
    rw [if_neg hready]
  case write =>
    refine exec_of_done h rfl ?_
    rw [stioBody, haddr, hfree, hc]
    simp only [ Bool.not_false, if_true, State.modTh, State.touched_th_acc, Thread.advance]
  case wait =>
    intro hc
    refine Runs.of_wait h rfl (code := 8) (dl := none) ?_ rfl
    rw [ldioBody, haddr, hfree, hc]
    rfl
  case post =>
    intro hc hlen
    refine Runs.of_th h rfl (f := fun x => { x.advance with posted := x.posted ++ [(a, (s.th i.thread).rg f.rd)] }) ?_ rfl
    rw [stioBody, haddr, hfree, hc]
    simp only [ State.touched_th_acc, Bool.not_true, Bool.false_eq_true, if_false,
      Nat.not_le.mpr hlen]
end

section
/-!
PROOF. Trap entry (R22, R52) and the traps of the instructions (R53).
-/

open Sys2Proof Sys2Proof.Machine

namespace Sys2Proof.Machine

/-! ### The fields of THn_TCAUSE -/

theorem fieldW_toNat {lo n v : Nat} (hv : v < 2 ^ n) (hw : lo + n ≤ 32) : (fieldW lo n v).toNat = v * 2 ^ lo := by
  have hlt : v * 2 ^ lo < 2 ^ 32 := by
    calc v * 2 ^ lo < 2 ^ n * 2 ^ lo := Nat.mul_lt_mul_of_pos_right hv (Nat.two_pow_pos lo)
      _ = 2 ^ (lo + n) := by rw [← Nat.pow_add, Nat.add_comm]
      _ ≤ 2 ^ 32 := Nat.pow_le_pow_right (by omega) hw
  rw [fieldW, BitVec.toNat_ofNat, Nat.mod_eq_of_lt hv, Nat.shiftLeft_eq, Nat.mod_eq_of_lt hlt]

/-- THn_TCAUSE as a number: the cause, ARG above it, and the bit of a trap taken in a handler. -/
theorem tcause_eq {cause arg : Nat} (hc : cause < 256) (ha : arg < 256) (b : Bool) :
    fieldW 16 1 (if b then 1 else 0) ||| fieldW 8 8 arg ||| fieldW 0 8 cause =
      BitVec.ofNat 32 (cause + 0x100 * arg + (if b then 0x10000 else 0)) := by
  apply BitVec.eq_of_toNat_eq
  have hlow : arg * 2 ^ 8 ||| cause * 2 ^ 0 = arg * 2 ^ 8 + cause := by
    rw [Nat.pow_zero, Nat.mul_one, ← Nat.shiftLeft_eq, Nat.shiftLeft_add_eq_or_of_lt hc]
  have hall (k : Nat) : k * 2 ^ 16 ||| (arg * 2 ^ 8 + cause) = k * 2 ^ 16 + (arg * 2 ^ 8 + cause) := by
    rw [← Nat.shiftLeft_eq k, Nat.shiftLeft_add_eq_or_of_lt (by omega)]
  rw [BitVec.toNat_or, BitVec.toNat_or, fieldW_toNat (by split <;> omega) (by omega), fieldW_toNat ha (by omega),
    fieldW_toNat hc (by omega), Nat.or_assoc, hlow, hall, BitVec.toNat_ofNat]
  cases b <;> simp <;> omega

/-! ### Trap entry -/

/-- The thread as trap entry leaves it before it vectors or stops. -/
def Thread.inTrap (x : Thread) (cause arg : Nat) (ret a : Word) : Thread :=
  { x with
    tpc := ret
    tcause := fieldW 16 1 (if x.tactive then 1 else 0) ||| fieldW 8 8 arg ||| fieldW 0 8 cause
    taddr := a &&& 0xFFFFFFFC
    waiting := none, waitOn := 0, deadline := none, xipLine := none }

/-- A thread that vectors: Run at THn_TVEC, in its handler. -/
def Thread.vectored (x : Thread) (cause arg : Nat) (ret a : Word) : Thread :=
  { x.inTrap cause arg ret a with st := .run, pc := x.tvec, tactive := true }

/-- A thread that does not vector: Trapped. -/
def Thread.stopped (x : Thread) (cause arg : Nat) (ret a : Word) : Thread :=
  { x.inTrap cause arg ret a with st := .trapped, pc := ret }

theorem State.takeTrap_vectors {s : State} {t : Tid} (hv : (s.th t).tven = true) (ha : (s.th t).tactive = false)
    (cause arg : Nat) (ret a : Word) :
    s.takeTrap t cause arg ret (some a) = s.setTh t ((s.th t).vectored cause arg ret a) := by
  simp [State.takeTrap, hv, ha, Thread.vectored, Thread.inTrap]

theorem State.takeTrap_stops {s : State} {t : Tid} (h : ¬ ((s.th t).tven = true ∧ (s.th t).tactive = false))
    (cause arg : Nat) (ret a : Word) :
    s.takeTrap t cause arg ret (some a) = (s.setTh t ((s.th t).stopped cause arg ret a)).fault 10 t.val 0 := by
  have hcond : ((s.th t).tven && !(s.th t).tactive) = false := by
    rw [Bool.eq_false_iff]; simpa using h
  simp [State.takeTrap, hcond, Thread.stopped, Thread.inTrap]

/-- A trap whose address no rule gives takes a free value (assumption 5). -/
theorem State.takeTrap_none (s : State) (t : Tid) (cause arg : Nat) (ret : Word) :
    s.takeTrap t cause arg ret none = s.freeW.2.takeTrap t cause arg ret (some s.freeW.1) := rfl

/-- A fault sets the sticky bit of its class (R327). -/
theorem State.fault_bit {s : State} (h : s.regsWf) {cls : Nat} (hc : cls < 32) (source detail : Nat) :
    ((s.fault cls source detail).reg FLT_STATUS).getLsbD cls = true := by
  have hflag : (flagW cls true).getLsbD cls = true := by
    rw [flagW, if_pos rfl, BitVec.getLsbD_ofNat, Nat.testBit_two_pow_self]
    simp [hc]
  rw [State.fault_status h, BitVec.getLsbD_or, hflag, Bool.or_true]

/-- Trap entry is what R22 and R52 say of it. -/
theorem State.trapped_takeTrap_some {s : State} (h : s.regsWf) (t : Tid) {cause arg : Nat} (hc : cause < 256) (ha : arg < 256)
    (ret a : Word) : Trapped s (s.takeTrap t cause arg ret (some a)) t cause arg ret (some a) := by
  have htc := tcause_eq hc ha (s.th t).tactive
  unfold Trapped
  by_cases hv : (s.th t).tven = true ∧ (s.th t).tactive = false
  · rw [State.takeTrap_vectors hv.1 hv.2, State.th_setTh_same]
    refine ⟨rfl, htc, ?_, rfl, ⟨rfl, rfl, rfl, rfl⟩, rfl, rfl, rfl, ?_,
      fun u hu => ⟨_, _, State.th_setTh_other s _ hu⟩, rfl, rfl, rfl, rfl⟩
    · rintro b ⟨⟩; rfl
    · rw [if_pos hv]
      exact ⟨rfl, rfl, rfl, rfl⟩
  · have hother (u : Tid) := State.fault_th (s.setTh t ((s.th t).stopped cause arg ret a)) 10 t.val 0 u
    obtain ⟨e, m, hth⟩ := hother t
    rw [State.th_setTh_same] at hth
    have hbit := State.fault_bit (s := s.setTh t ((s.th t).stopped cause arg ret a)) h (cls := 10) (by omega) t.val 0
    rw [State.takeTrap_stops hv, hth]
    refine ⟨rfl, htc, ?_, rfl, ⟨rfl, rfl, rfl, rfl⟩, rfl, rfl, rfl, ?_, fun u hu => ?_, by simp, by simp, by simp, by simp⟩
    · rintro b ⟨⟩; rfl
    · rw [if_neg hv]
      exact ⟨rfl, rfl, hbit⟩
    · obtain ⟨e, m, hu'⟩ := hother u
      rw [State.th_setTh_other _ _ hu] at hu'
      exact ⟨e, m, hu'⟩

/-- Trap entry from a state that agrees with `s` in all that R52 speaks of, but for the PC of the trapping thread. -/
theorem Trapped.congr {s S s' : State} {t : Tid} {cause arg : Nat} {ret : Word} {a b : Option Word} {p : Word}
    (h : Trapped S s' t cause arg ret a) (ht : S.th t = { s.th t with pc := p }) (hu : ∀ u, u ≠ t → S.th u = s.th u)
    (hregs : S.regs = s.regs) (hsmem : S.smem = s.smem) (hpstore : S.pstore = s.pstore) (hrings : S.rings = s.rings)
    (hops : S.ops = s.ops) (hb : ∀ w, b = some w → a = some w) : Trapped s s' t cause arg ret b := by
  unfold Trapped at h ⊢
  simp only [ht, hregs, hsmem, hpstore, hrings, hops] at h
  obtain ⟨h1, h2, h3, h4, h5, h6, h7, h8, h9, h10, h11⟩ := h
  exact ⟨h1, h2, fun w hw => h3 w (hb w hw), h4, h5, h6, h7, h8, h9, fun u hut => by rw [← hu u hut]; exact h10 u hut, h11⟩

/-- Trap entry of the thread `t`, from its fetch on, its PC at `ret`. -/
theorem trapped_of_touched {s S : State} {t : Tid} (h : s.sound) {cause arg : Nat} (hc : cause < 256) (ha : arg < 256)
    (hS : S = (s.touched t).setTh t { s.th t with pc := (S.th t).pc }) (a : Option Word) :
    Trapped s (S.takeTrap t cause arg (S.th t).pc a) t cause arg (S.th t).pc a := by
  obtain ⟨hregs, -⟩ := h
  have hSregs : S.regsWf := by rw [hS]; unfold State.regsWf; simpa using hregs
  have hth : S.th t = { s.th t with pc := (S.th t).pc } := by
    conv_lhs => rw [hS]
    rw [State.th_setTh_same]
  have hother (u : Tid) (hu : u ≠ t) : S.th u = s.th u := by
    conv_lhs => rw [hS]
    rw [State.th_setTh_other _ _ hu, State.touched_th_acc]
  have hkeeps : S.regs = s.regs ∧ S.smem = s.smem ∧ S.pstore = s.pstore ∧ S.rings = s.rings ∧ S.ops = s.ops := by
    rw [hS]; simp
  obtain ⟨h1, h2, h3, h4, h5⟩ := hkeeps
  cases a with
  | some a =>
    exact (State.trapped_takeTrap_some hSregs t hc ha _ a).congr hth hother h1 h2 h3 h4 h5 fun _ h => h
  | none =>
    rw [State.takeTrap_none]
    exact (State.trapped_takeTrap_some (s := S.freeW.2) hSregs t hc ha _ _).congr hth hother h1 h2 h3 h4 h5 nofun

/-- An instruction whose body traps with nothing done takes the trap of its cause, THn_TPC at the instruction. -/
theorem traps_of_body {s : State} {i : Issue} {c : Instr} {body : State → IssueRes} {cause : Nat} {a : Option Word}
    (hs : s.sound) (h : s.issues i) (hcause : cause < 256) (hc : exec c s = .next (s.issue i c body))
    (hb : body (s.touched i.thread) = .trap (s.touched i.thread) cause 0 a) :
    ∃ s' : State, exec c s = .next s' ∧ Trapped s s' i.thread cause 0 (s.th i.thread).pc a := by
  refine ⟨_, exec_of_trap h hc hb, ?_⟩
  have hS : s.touched i.thread =
      (s.touched i.thread).setTh i.thread { s.th i.thread with pc := ((s.touched i.thread).th i.thread).pc } := by
    conv_lhs => rw [← State.setTh_self (s.touched i.thread) i.thread, State.touched_th_acc]
    rw [State.touched_th_acc]
  have := trapped_of_touched hs hcause (arg := 0) (by omega) hS a
  rwa [State.touched_th_acc] at this ⊢

/-- An illegal field in an instruction ADD to CMP. -/
theorem aluBad_eq_true {f : AFields} (h : ¬ aluLegal f) : aluBad f = true := by
  unfold aluLegal at h
  unfold aluBad
  split
  · next hb => rw [if_pos hb] at h; simpa using h
  · next hb =>
    rw [if_neg hb] at h
    have hne : f.fn.extractLsb' 0 13 ≠ 0 := fun he => h (by rw [← show (2 : Nat) ^ 13 = 0x2000 from rfl, ← fn_low, he]; rfl)
    simpa using hne

end Sys2Proof.Machine

/-- Settles O8: each trap is one path of its instruction's body into the shared trap entry. That TCAUSE.ARG is 0 but for
TRAP is assumption 62. -/
theorem trapsArePreciseWithTheirCause : Obligations.TrapsArePreciseWithTheirCause := by
  unfold Obligations.TrapsArePreciseWithTheirCause
  refine ⟨?soft, fun s i hs h => ⟨?misaligned, ?outside, ?stStore, ?ioOutside, ?call, ?ret, ?retT, ?retForm, ?b, ?alu, ?cmp, ?lui,
    ?trap⟩⟩
  case soft =>
    intro s i f hs h hrd hra himm
    have hhi : f.imm.extractLsb' 8 10 = 0 := by
      apply BitVec.eq_of_toNat_eq
      rw [BitVec.extractLsb'_toNat, Nat.shiftRight_eq_div_pow, Nat.div_eq_of_lt (by omega)]; rfl
    refine ⟨_, exec_of_trap h rfl (s' := (s.touched i.thread).modTh i.thread Thread.advance) (cause := 0x20)
      (arg := f.imm.toNat) (a := none) ?_, ?_⟩
    · simp [hrd, hra, hhi, Nat.mod_eq_of_lt himm]
    · have hpc : (((s.touched i.thread).modTh i.thread Thread.advance).th i.thread).pc = (s.th i.thread).pc + 4 := by simp
      have := trapped_of_touched hs (S := (s.touched i.thread).modTh i.thread Thread.advance) (t := i.thread)
        (cause := 0x20) (arg := f.imm.toNat) (by omega) himm (by simp [State.modTh, Thread.advance]) none
      rwa [hpc] at this ⊢
  case misaligned =>
    intro f hal
    have hal' : (memAddr ((s.touched i.thread).th i.thread) f).toNat % 4 ≠ 0 := by rwa [State.touched_th_acc]
    refine ⟨?_, ?_, ?_, ?_⟩
    · exact traps_of_body hs h (by decide) rfl (by rw [ldBody_misaligned hal', State.touched_th_acc])
    · exact traps_of_body hs h (by decide) rfl (by rw [stBody_misaligned hal', State.touched_th_acc])
    · exact traps_of_body hs h (by decide) rfl (by rw [ldioBody, Thread.addr_eq, ioTrap_misaligned hal', State.touched_th_acc])
    · exact traps_of_body hs h (by decide) rfl (by rw [stioBody, Thread.addr_eq, ioTrap_misaligned hal', State.touched_th_acc])
  case outside =>
    intro f hal hlo hhi
    rw [← State.touched_th_acc s i.thread i.thread] at hal hlo hhi
    refine ⟨?_, ?_⟩
    · exact traps_of_body hs h (by decide) rfl (by rw [ldBody_outside hal hlo hhi, State.touched_th_acc])
    · exact traps_of_body hs h (by decide) rfl (by rw [stBody_outside hal hlo (nowhere_below hhi).2.1, State.touched_th_acc])
  case stStore =>
    intro f hal hlo hhi
    rw [← State.touched_th_acc s i.thread i.thread] at hal hlo hhi
    have hsh : inShared (memAddr ((s.touched i.thread).th i.thread) f) = false := by
      rw [Bool.eq_false_iff]
      intro hc
      have := inShared_iff.mp hc
      omega
    exact traps_of_body hs h (by decide) rfl (by rw [stBody_outside hal (by omega) hsh, State.touched_th_acc])
  case ioOutside =>
    intro f hal hlo
    rw [← State.touched_th_acc s i.thread i.thread] at hal hlo
    refine ⟨?_, ?_⟩
    · exact traps_of_body hs h (by decide) rfl (by rw [ldioBody, Thread.addr_eq, ioTrap_outside hal hlo, State.touched_th_acc])
    · exact traps_of_body hs h (by decide) rfl (by rw [stioBody, Thread.addr_eq, ioTrap_outside hal hlo, State.touched_th_acc])
  case call =>
    intro f hc hlen
    exact traps_of_body hs h (by decide) rfl (by simp [hc, hlen])
  case ret =>
    intro f hfn hrd hra hrb hst
    obtain ⟨hhi, hform⟩ := retForm_eq (n := 0) (congrArg BitVec.toNat hfn) (by omega)
    exact traps_of_body hs h (by decide) rfl (by simp [hhi, hform, hrd, hra, hrb, hst])
  case retT =>
    intro f hfn hrd hrb hact
    obtain ⟨hhi, hform⟩ := retForm_eq (n := 2) (congrArg BitVec.toNat hfn) (by omega)
    exact traps_of_body hs h (by decide) rfl (by simp [hhi, hform, hrd, hrb, hact, illegal])
  case retForm =>
    intro f hfn
    have hform : bits (f.fn.setWidth 32) 0 2 = 3 := by
      rw [bits_low, BitVec.toNat_setWidth]; omega
    exact traps_of_body hs h (by decide) rfl (by simp [hform, illegal])
  case b =>
    intro f hcond
    exact traps_of_body hs h (by decide) rfl (by simp [hcond, condHolds, illegal])
  case alu =>
    intro f hf
    refine ⟨?_, ?_⟩
    · exact traps_of_body hs h (by decide) rfl (by simp [aluBody, aluBad_eq_true hf, illegal])
    · exact traps_of_body hs h (by decide) rfl (by simp [aluBody, aluBad_eq_true hf, illegal])
  case cmp =>
    intro f hrd
    exact traps_of_body hs h (by decide) rfl (if_pos hrd)
  case lui =>
    intro f hra
    exact traps_of_body hs h (by decide) rfl (if_pos hra)
  case trap =>
    intro f himm
    have hhi : f.imm.extractLsb' 8 10 ≠ 0 := by
      intro he
      have := congrArg BitVec.toNat he
      rw [BitVec.extractLsb'_toNat, Nat.shiftRight_eq_div_pow] at this
      have h18 := f.imm.isLt
      change f.imm.toNat / 2 ^ 8 % 2 ^ 10 = 0 at this
      omega
    exact traps_of_body hs h (by decide) rfl (if_pos (.inr (.inr hhi)))
end

section
/-!
PROOF. How waits end (R22, R39, R48, R49), and THREAD control (R22 to R24, R26, R318, R355).
-/

open Sys2Proof Sys2Proof.Machine

namespace Sys2Proof.Machine

/-! ### Posted writes, and the end of a wait -/

/-- With nothing posted there is nothing to take effect (R45). -/
theorem State.drainPosted_nil {s : State} {t : Tid} (h : (s.th t).posted = []) : s.drainPosted t = s := by
  have hx : ({ s.th t with posted := [] } : Thread) = s.th t := by rw [← h]
  rw [State.drainPosted, h, List.foldl_nil, State.modTh, hx, State.setTh_self]

/-- An instruction that waited and can complete in its thread. -/
theorem State.retry_th {s : State} {t : Tid} {body : State → IssueRes} {f : Thread → Thread}
    (hb : body (s.modTh t Thread.resume) = .th (s.modTh t Thread.resume) t f) :
    s.retry t body = s.setTh t (f (s.th t).resume) := by
  rw [State.retry, hb]
  simp [IssueRes.th, State.modTh]

/-- A wait with no deadline, or one met before it, is not too late. -/
theorem Thread.tooLate_eq_false {x : Thread} (h : ∀ d m, x.deadline = some d → x.met = some m → m < d) :
    x.tooLate = false := by
  unfold Thread.tooLate
  split
  · next d m hd hm => simpa using h d m hd hm
  · rfl

/-- An instruction whose wait is met in time is tried again. -/
theorem State.meetWait_retry {s : State} {t : Tid} {bad : Bool} {c : Instr} {body : State → IssueRes}
    (hp : (s.th t).posted = []) (hw : (s.th t).waitsOn c) (hb : waitBody t bad c = some body)
    (hl : (s.th t).tooLate = false) : exec (.waitConditionMet t bad) s = .next (s.retry t body) := by
  obtain ⟨hst, hwait⟩ := hw
  simp only [exec, execWaitConditionMet, State.meetWait, State.drainPosted_nil hp, hst, hwait, hb, hl, ne_eq,
    not_true_eq_false, if_false]

/-- A timed wait that was met in time completes by the command of its timeout too. -/
theorem State.expireWait_retry {s : State} {t : Tid} {code : BitVec 4} {c : Instr} {body : Instr → State → IssueRes}
    (hw : (s.th t).waitsOn c) (hon : (s.th t).waitOn = code) (hd : (s.th t).deadline ≠ none) (hm : (s.th t).met ≠ none)
    (ha : (s.th t).awaited = true) (hl : (s.th t).tooLate = false) : s.expireWait t code body = s.retry t (body c) := by
  obtain ⟨hst, hwait⟩ := hw
  obtain ⟨d, hd⟩ := Option.ne_none_iff_exists'.mp hd
  obtain ⟨m, hm⟩ := Option.ne_none_iff_exists'.mp hm
  simp [State.expireWait, hst, hwait, hd, hm, hon, ha, hl]

/-- A timed wait that nothing met before its deadline times out. -/
theorem State.expireWait_timeUp {s : State} {t : Tid} {code : BitVec 4} {c : Instr} {body : Instr → State → IssueRes} {d : Nat}
    (hw : (s.th t).waitsOn c) (hon : (s.th t).waitOn = code) (hd : (s.th t).deadline = some d)
    (h : (s.th t).awaited = false ∨ ∀ m, (s.th t).met = some m → d ≤ m) : s.expireWait t code body = s.timeUp t c d := by
  obtain ⟨hst, hwait⟩ := hw
  have hnot : ((s.th t).met.isSome && (s.th t).awaited && !(s.th t).tooLate) = false := by
    rcases h with ha | hlate
    · simp [ha]
    · cases hm : (s.th t).met with
      | none => rfl
      | some m => simp [Thread.tooLate, hd, hm, hlate m hm]
  simp [State.expireWait, hst, hwait, hd, hon, hnot]

/-- Time passes to a deadline, and nothing else. -/
theorem State.waitedTo_advanceTo (s : State) (d : Nat) : s.waitedTo (s.advanceTo d) d := by
  unfold State.waitedTo State.advanceTo State.advance
  by_cases hrun : s.tbRuns = true
  · have hmax : s.ticks + (d - s.ticks) = max s.ticks d := by omega
    have hsub : d - s.ticks = max s.ticks d - s.ticks := by omega
    rw [if_pos hrun, if_pos hrun, hmax, hsub]
  · rw [if_neg hrun, if_neg hrun]
    simp

/-- The end of a timed wait: time has passed, and the thread goes on past its instruction. -/
theorem State.timeUp_eq (s : State) (t : Tid) (c : Instr) (d : Nat) :
    s.timeUp t c d = (s.advanceTo d).setTh t ((timedOut c (s.th t).resume).advance) := by
  rw [State.timeUp, State.modTh, State.advanceTo_th_acc]

/-! ### The lowest Done slot of a mask (R39) -/

/-- The first entry of a filtered enumeration is the least that passes. -/
theorem filter_finRange_eq_cons {n : Nat} {p : Fin n → Bool} {j : Fin n} (hj : p j = true) (hl : ∀ l, l < j → p l = false) :
    ∃ ks, (List.finRange n).filter p = j :: ks := by
  have hsplit : List.finRange n = (List.finRange n).take j.val ++ j :: (List.finRange n).drop (j.val + 1) := by
    have hlen : j.val < (List.finRange n).length := by simp
    have hget : (List.finRange n)[j.val] = j := by simp
    conv_lhs => rw [← List.take_append_drop j.val (List.finRange n), List.drop_eq_getElem_cons hlen, hget]
  have hnone : ((List.finRange n).take j.val).filter p = [] := by
    rw [List.filter_eq_nil_iff]
    intro l hmem
    obtain ⟨k, hk, hkl⟩ := List.getElem_of_mem hmem
    rw [List.length_take] at hk
    have hlt : l < j := by
      rw [← hkl, List.getElem_take, List.getElem_finRange, Fin.lt_def]
      simp only [Fin.val_cast]
      omega
    simp [hl l hlt]
  refine ⟨((List.finRange n).drop (j.val + 1)).filter p, ?_⟩
  conv_lhs => rw [hsplit]
  rw [List.filter_append, hnone, List.nil_append, List.filter_cons_of_pos hj]

/-- The masked slots that pass a test begin with the lowest. -/
theorem Thread.maskedSlots_eq_cons {x : Thread} {mask : Nat} {p : Slot → Bool} {j : Fin 16} (hm : mask.testBit j = true)
    (hj : p x.slots[j] = true) (hl : ∀ l : Fin 16, l < j → mask.testBit l = true → p x.slots[l] = false) :
    ∃ ks, x.maskedSlots mask p = j :: ks := by
  unfold Thread.maskedSlots setBits
  rw [List.filter_filter]
  refine filter_finRange_eq_cons ?_ fun l hlt => ?_
  · simpa [hm] using hj
  · cases hb : mask.testBit l.val with
    | false => simp
    | true => simpa [hb] using hl l hlt hb

/-- WAITANY finds the lowest Done slot of its mask. -/
theorem waitanyBody_found {s : State} {t : Tid} {f : IFields} {j : Fin 16} (himm : f.imm.toNat < 0x10000)
    (hm : f.imm.toNat.testBit j = true) (hj : (s.th t).slots[j].st = .done)
    (hl : ∀ l : Fin 16, l < j → f.imm.toNat.testBit l = true → (s.th t).slots[l].st ≠ .done) :
    waitanyBody t f s = .th s t fun x => ({ x with c := true }.setRg f.rd (BitVec.ofNat 32 j.val)).advance := by
  have hhi : f.imm.extractLsb' 16 2 = 0 := by
    apply BitVec.eq_of_toNat_eq
    rw [BitVec.extractLsb'_toNat, Nat.shiftRight_eq_div_pow, Nat.div_eq_of_lt (by omega)]
    rfl
  have hmod : f.imm.toNat % 0x10000 = f.imm.toNat := Nat.mod_eq_of_lt himm
  obtain ⟨ks, hdone⟩ := Thread.maskedSlots_eq_cons (x := s.th t) (p := fun k => k.st == .done) hm (by simpa using hj)
    fun l hlt hb => by simpa using hl l hlt hb
  have hfree : (s.th t).maskedSlots f.imm.toNat (fun k => k.st != .free) ≠ [] := by
    refine List.ne_nil_of_mem (a := j) ?_
    have hnot : (s.th t).slots[j].st ≠ .free := by rw [hj]; decide
    simpa [Thread.maskedSlots, setBits, hm] using hnot
  simp only [waitanyBody, hmod, hhi, hfree, hdone, ne_eq, not_true_eq_false, if_false]

/-- What a WAITANY awaits has come when a masked slot is Done. -/
theorem Thread.awaited_waitany {x : Thread} {i : Issue} {f : IFields} {j : Fin 16} (hw : x.waiting = some (.waitany i f))
    (himm : f.imm.toNat < 0x10000) (hm : f.imm.toNat.testBit j = true) (hj : x.slots[j].st = .done) : x.awaited = true := by
  simp only [Thread.awaited, hw, Nat.mod_eq_of_lt himm, List.any_eq_true]
  exact ⟨j, by simp [setBits, hm], by simpa using hj⟩

theorem Thread.awaited_evw {x : Thread} {i : Issue} {f : AFields} (hw : x.waiting = some (.evw i f))
    (h : x.event &&& x.rg f.rb ≠ 0) : x.awaited = true := by
  simp only [Thread.awaited, hw]
  exact bne_iff_ne.mpr h

/-- EVW takes the pending bits of its mask. -/
theorem evwBody_takes {s : State} {t : Tid} {f : AFields} (hfn : f.fn = 0) (h : (s.th t).event &&& (s.th t).rg f.rb ≠ 0) :
    evwBody t f s = .th s t fun x => x.tookEvents f.rd ((s.th t).event &&& (s.th t).rg f.rb) := by
  simp only [evwBody, hfn, ne_eq, not_true_eq_false, if_false]
  rw [if_neg h]
  rfl

/-! ### THREAD control -/

/-- The low bits of a write that names START, HALT or RESET alone. -/
theorem bit_or_of_alone {v : Word} {k : Nat} (hk : k < 3) (h : v.toNat % 8 = 2 ^ k) :
    bit (v ||| BitVec.ofNat 32 (2 ^ k)) 8 = v.getLsbD 8 ∧
      ∀ j, j < 3 → bit (v ||| BitVec.ofNat 32 (2 ^ k)) j = decide (j = k) := by
  have hlow (j : Nat) (hj : j < 3) : v.getLsbD j = decide (j = k) := by
    have hmod : v.toNat.testBit j = (v.toNat % 2 ^ 3).testBit j := by
      rw [Nat.testBit_mod_two_pow]; simp [hj]
    have h' : v.toNat % 2 ^ 3 = 2 ^ k := h
    rw [BitVec.getLsbD, hmod, h', Nat.testBit_two_pow]
    simp [eq_comm]
  refine ⟨?_, fun j hj => ?_⟩
  · rw [bit, BitVec.getLsbD_or, BitVec.getLsbD_ofNat, Nat.testBit_two_pow]
    simp
    omega
  · rw [bit, BitVec.getLsbD_or, hlow j hj, BitVec.getLsbD_ofNat, Nat.testBit_two_pow]
    by_cases hjk : j = k
    · simp [hjk]
    · have hkj : ¬ k = j := fun h => hjk h.symm
      simp [hjk, hkj]

/-- With nothing in flight a THREAD_RESET acts on its thread alone. -/
def Thread.resetIdle (x : Thread) : Thread :=
  { x with
    st := .off, rstack := [], z := false, n := false, c := false, v := false, tactive := false
    event := 0, waiting := none, waitOn := 0, deadline := none, refLine := none, xipLine := none
    shedHalt := false
    slots := x.slots.map fun k =>
      match k.st with
      | .done => {}
      | .pending | .active => { k with discard := true }
      | .free => k }

theorem State.resetTh_idle {s : State} {t : Tid} (h : s.opsOf t = []) : s.resetTh t = s.modTh t Thread.resetIdle := by
  have hops (f : Thread → Thread) : (s.modTh t f).opsOf t = [] := h
  rw [State.resetTh, hops]
  rfl

/-- Done slots are freed by a reset. -/
theorem Thread.resetIdle_slots {x : Thread} (h : ∀ k ∈ x.slots.toList, k.st = .done ∨ k = {}) :
    ∀ k ∈ x.resetIdle.slots.toList, k = {} := by
  intro k hk
  simp only [Thread.resetIdle, Vector.toList_map, List.mem_map] at hk
  obtain ⟨a, ha, rfl⟩ := hk
  rcases h a ha with hd | rfl
  · simp [hd]
  · rfl

/-- A thread in Run, Wait or Refetch halts (R22, R23). -/
theorem Thread.halt_of {x : Thread} (h : x.st = .run ∨ x.st = .wait ∨ x.st = .refetch) (src : BitVec 3) :
    x.halt src = { x with st := .halted, haltsrc := src, waiting := none, waitOn := 0, deadline := none,
                          xipLine := none, refLine := none } := by
  rcases h with h | h | h <;> simp [Thread.halt, h]

/-- A START begins a thread that is Off, Halted or Trapped, and leaves any other alone (R22, R26). -/
theorem Thread.start_eq (x : Thread) : x.start =
    { x with
      st := if x.st = .off ∨ x.st = .halted ∨ x.st = .trapped then .run else x.st
      tactive := if x.st = .trapped then false else x.tactive
      shedHalt := x.start.shedHalt } := by
  unfold Thread.start
  cases h : x.st <;> simp <;> exact h.symm ▸ rfl

end Sys2Proof.Machine

/-- Settles O12. -/
theorem waitsEndWithTheirResult : Obligations.WaitsEndWithTheirResult := by
  unfold Obligations.WaitsEndWithTheirResult
  intro s t bad x inTime
  refine ⟨?waitk, ?evw, ?waitany, ?fetch, ?sleep, ?anyTimeout, ?evwTimeout⟩
  case waitk =>
    intro i f hp hd hw himm hdone
    have hk : ((s.modTh t Thread.resume).th t).kslot f.rd = x.slots[f.rd.toNat]'f.rd.isLt := by
      rw [State.th_modTh_same]; rfl
    refine ⟨_, (State.meetWait_retry hp hw rfl (Thread.tooLate_eq_false fun d m h => by rw [hd] at h; cases h)).trans
      (congrArg _ (State.retry_th (f := fun y => ((y.freeSlot f.rd).setRg f.ra (x.slots[f.rd.toNat]'f.rd.isLt).word).advance) ?_)),
      ?_⟩
    · simp only [waitkBody, hk, himm, hdone, ne_eq, not_true_eq_false, if_false]
    · rw [Thread.advance_setRg]
      exact ⟨⟨rfl, rfl, rfl, rfl⟩, Thread.wrote_setRg _ _ _, rfl, ⟨rfl, rfl, rfl, rfl⟩, rfl, rfl⟩
  case evw =>
    intro i f hp hin hw hfn hm took
    have hl : x.tooLate = false := Thread.tooLate_eq_false hin
    have hbody : evwBody t f (s.modTh t Thread.resume) =
        .th (s.modTh t Thread.resume) t fun y => y.tookEvents f.rd (x.event &&& x.rg f.rb) := by
      have hth : ((s.modTh t Thread.resume).th t).event &&& ((s.modTh t Thread.resume).th t).rg f.rb = x.event &&& x.rg f.rb := by
        rw [State.th_modTh_same]; rfl
      rw [evwBody_takes hfn (by rw [hth]; exact hm), hth]
    have htook : took x (x.resume.tookEvents f.rd (x.event &&& x.rg f.rb)) := by
      unfold Thread.tookEvents
      rw [Thread.advance_setRg]
      exact ⟨⟨rfl, rfl, rfl, rfl⟩, Thread.wrote_setRg _ _ _, and_not_and _ _, rfl, rfl, rfl⟩
    refine ⟨⟨_, (State.meetWait_retry hp hw rfl hl).trans (congrArg _ (State.retry_th hbody)), htook⟩, fun hon hd hmet => ?_⟩
    exact ⟨_, congrArg _ ((State.expireWait_retry hw hon hd hmet (Thread.awaited_evw hw.2 hm) hl).trans (State.retry_th hbody)),
      htook⟩
  case waitany =>
    intro i f j hp hin hw himm hm hj hlow found
    have hl : x.tooLate = false := Thread.tooLate_eq_false hin
    have hbody : waitanyBody t f (s.modTh t Thread.resume) = .th (s.modTh t Thread.resume) t fun y =>
        ({ y with c := true }.setRg f.rd (BitVec.ofNat 32 j.val)).advance :=
      waitanyBody_found himm hm (by rw [State.th_modTh_same]; exact hj) (by rw [State.th_modTh_same]; exact hlow)
    have hfound : found x (({ x.resume with c := true }.setRg f.rd (BitVec.ofNat 32 j.val)).advance) := by
      rw [Thread.advance_setRg]
      exact ⟨⟨rfl, rfl, rfl, rfl⟩, Thread.wrote_setRg _ _ _, rfl, rfl, rfl⟩
    refine ⟨⟨_, (State.meetWait_retry hp hw rfl hl).trans (congrArg _ (State.retry_th hbody)), hfound⟩, fun hon hd hmet => ?_⟩
    exact ⟨_, congrArg _ ((State.expireWait_retry hw hon hd hmet (Thread.awaited_waitany hw.2 himm hm hj) hl).trans
      (State.retry_th hbody)), hfound⟩
  case fetch =>
    intro l ws hp hst hw hxip hc
    refine ⟨_, ?_, rfl⟩
    have hst' : (s.th t).st = .wait := hst
    have hw' : (s.th t).waiting = none := hw
    have hxip' : (s.th t).xipLine = some l := hxip
    simp only [exec, execWaitConditionMet, State.meetWait, State.drainPosted_nil hp, hst', hw', hxip', hc, ne_eq,
      not_true_eq_false, if_false, Option.isSome_some, if_true]
    rfl
  case sleep =>
    intro i f d hw hon hd
    have hun : (s.th t).awaited = false := by
      have hwait : (s.th t).waiting = some (.sleepu i f) := hw.2
      simp [Thread.awaited, hwait]
    exact ⟨_, _, congrArg _ ((State.expireWait_timeUp hw hon hd (.inl hun)).trans (State.timeUp_eq s t _ d)),
      State.waitedTo_advanceTo s d, ⟨rfl, rfl, rfl, rfl⟩, rfl, ⟨rfl, rfl, rfl, rfl⟩, rfl⟩
  case anyTimeout =>
    intro i f d hw hon hd hlate
    refine ⟨_, _, congrArg _ ((State.expireWait_timeUp hw hon hd (.inr hlate)).trans (State.timeUp_eq s t _ d)),
      State.waitedTo_advanceTo s d, ?_⟩
    simp only [timedOut]
    rw [Thread.setRg_eq]
    exact ⟨⟨rfl, rfl, rfl, rfl⟩, Thread.wrote_setRg _ _ _, rfl, rfl, rfl⟩
  case evwTimeout =>
    intro i f d hw hon hd hlate
    refine ⟨_, _, congrArg _ ((State.expireWait_timeUp hw hon hd (.inr hlate)).trans (State.timeUp_eq s t _ d)),
      State.waitedTo_advanceTo s d, ?_⟩
    simp only [timedOut]
    rw [Thread.setRg_eq]
    exact ⟨⟨rfl, rfl, rfl, rfl⟩, Thread.wrote_setRg _ _ _, rfl, rfl, rfl⟩

/-- Settles O13. -/
theorem threadControlChangesThreadState : Obligations.ThreadControlChangesThreadState := by
  unfold Obligations.ThreadControlChangesThreadState
  intro s t v x
  refine ⟨?reset, ?halt, ?start, ?debug⟩
  case reset =>
    intro hv hops hslots
    obtain ⟨h8, hbit⟩ := bit_or_of_alone (k := 2) (by omega) hv
    have h0 := hbit 0 (by omega)
    have h1 := hbit 1 (by omega)
    have h2 := hbit 2 (by omega)
    have hops' : (s.modTh t fun x => { x with tven := bit (v ||| 4) 8 }).opsOf t = [] := hops
    refine ⟨{ x.resetIdle with tven := v.getLsbD 8 }, ?_, rfl, rfl, rfl, rfl, rfl, rfl, rfl, rfl,
      Thread.resetIdle_slots hslots, rfl, ⟨rfl, rfl, rfl, rfl, rfl⟩⟩
    change bit (v ||| 4) 0 = false at h0
    change bit (v ||| 4) 1 = false at h1
    change bit (v ||| 4) 2 = true at h2
    simp only [exec, execThreadReset, State.writeThCtrl, h0, h1, h2, if_true, Bool.false_eq_true, if_false,
      State.resetTh_idle hops']
    simp only [State.modTh, State.th_setTh_same, State.setTh_setTh]
    rw [show bit (v ||| 4) 8 = v.getLsbD 8 from h8]
    rfl
  case halt =>
    intro hv hst
    obtain ⟨h8, hbit⟩ := bit_or_of_alone (k := 1) (by omega) hv
    have h0 : bit (v ||| 2) 0 = false := hbit 0 (by omega)
    have h1 : bit (v ||| 2) 1 = true := hbit 1 (by omega)
    have h2 : bit (v ||| 2) 2 = false := hbit 2 (by omega)
    refine ⟨({ x with tven := v.getLsbD 8 } : Thread).halt 2, ?_, ?_⟩
    · simp only [exec, execThreadHalt, State.writeThCtrl, h0, h1, h2, if_true, Bool.false_eq_true, if_false, State.haltTh,
        State.modTh, State.th_setTh_same, State.setTh_setTh]
      rw [show bit (v ||| 2) 8 = v.getLsbD 8 from h8]
    · rw [Thread.halt_of (x := { s.th t with tven := v.getLsbD 8 }) hst]
      exact ⟨rfl, rfl, rfl, rfl, rfl, ⟨rfl, rfl, rfl, rfl⟩, rfl, rfl, ⟨rfl, rfl, rfl, rfl, rfl⟩⟩
  case start =>
    intro hv
    obtain ⟨h8, hbit⟩ := bit_or_of_alone (k := 0) (by omega) hv
    have h0 : bit (v ||| 1) 0 = true := hbit 0 (by omega)
    have h1 : bit (v ||| 1) 1 = false := hbit 1 (by omega)
    have h2 : bit (v ||| 1) 2 = false := hbit 2 (by omega)
    refine ⟨({ x with tven := v.getLsbD 8 } : Thread).start, ?_, ?_⟩
    · simp only [exec, execThreadStart, State.writeThCtrl, h0, h1, h2, if_true, Bool.false_eq_true, if_false, State.startTh,
        State.modTh, State.th_setTh_same, State.setTh_setTh]
      rw [show bit (v ||| 1) 8 = v.getLsbD 8 from h8]
    · rw [Thread.start_eq]
      exact ⟨rfl, rfl, rfl, rfl, ⟨rfl, rfl, rfl, rfl⟩, rfl, rfl, ⟨rfl, rfl, rfl, rfl, rfl⟩⟩
  case debug =>
    intro hlevel hst
    refine ⟨x.halt 6, by simp only [exec, execDebugHalt, hlevel, if_true]; rfl, ?_⟩
    rw [Thread.halt_of hst]
    exact ⟨rfl, rfl, rfl, rfl, rfl, ⟨rfl, rfl, rfl, rfl⟩, rfl, ⟨rfl, rfl, rfl, rfl, rfl⟩⟩
end

section
/-!
PROOF. CANCK and AIR (R37, R39, R57, R64): what the release and the completion of an operation leave alone, and the
descriptor that AIR hands over.
-/

open Sys2Proof Sys2Proof.Machine

namespace Sys2Proof.Machine

/-! ### Release (R64, R72) -/

/-- What every step of a fold keeps, the fold keeps. -/
theorem foldl_keeps {α β : Type} (g : State → β) {f : State → α → State} (h : ∀ s a, g (f s a) = g s) :
    ∀ (l : List α) (s : State), g (l.foldl f s) = g s
  | [], _ => rfl
  | a :: l, s => by rw [List.foldl_cons, foldl_keeps g h l, h]

/-- The threads and the operations in flight, which no release of resources touches. -/
def State.tickets (s : State) : Vector Thread 32 × List Op := (s.threads, s.ops)

theorem State.releaseUp_tickets (s : State) (o : OpId) (p : UPortNo) : (s.releaseUp o p).tickets = s.tickets := by
  unfold State.releaseUp
  split <;> rfl

theorem State.relevel_tickets (s : State) (p : UPortNo) : (s.relevel p).tickets = s.tickets := by
  unfold State.relevel
  dsimp only
  split
  · rfl
  · split <;> rfl

theorem State.dutyFrame_tickets (s : State) (op : Op) : (s.dutyFrame op).tickets = s.tickets := by
  unfold State.dutyFrame
  split <;> rfl

theorem State.muteBeam_tickets (s : State) (op : Op) : (s.muteBeam op).tickets = s.tickets :=
  foldl_keeps State.tickets (fun _ _ => by rfl) _ s

theorem State.releaseSpares_tickets (s : State) (op : Op) : (s.releaseSpares op).tickets = s.tickets := by
  unfold State.releaseSpares
  split
  · refine (foldl_keeps State.tickets (fun _ _ => by rfl) _ _).trans ?_
    exact foldl_keeps State.tickets (fun s p => by exact State.relevel_tickets _ p) _ _
  · rfl

/-- What the end of an operation does to the carriers of its ports (R79, R80, R272). -/
def State.releaseCarriers (s : State) (op : Op) : State :=
  if op.isBeam && op.holds then op.uports.foldl (fun s p => s.releaseUp op.id p) s
  else if op.isSend && op.active then (s.muteBeam op).dutyFrame op
  else if op.radiates then s.muteBeam op
  else s

/-- What the end of a K.CAL HDI does to its fields (R270). -/
def State.releaseFields (s : State) (op : Op) : State :=
  if op.isCal && op.calCode == 6 && op.started then
    op.hports.foldl (fun s p => s.modHp p fun x => x.endHdi ((s.reg (HP_FIELD p)).extractLsb' 0 7)) s
  else s

/-- A C.LISTEN that ends leaves its receptions (R168). -/
def State.releaseDecoders (s : State) (op : Op) : State :=
  if op.isListen && op.active then s.releaseListen op else s

/-- The release of an operation's resources, in its order: carriers, fields, spares, decoders, solves and trims. -/
theorem State.release_eq (s : State) (op : Op) : s.release op =
    let s' := (((s.releaseCarriers op).releaseFields op).releaseSpares op).releaseDecoders op
    { s'.leaveSolve op.id with applying := s'.applying.map fun a => if a.op == some op.id then { a with op := none } else a } :=
  rfl

theorem State.releaseCarriers_tickets (s : State) (op : Op) : (s.releaseCarriers op).tickets = s.tickets := by
  unfold State.releaseCarriers
  split
  · exact foldl_keeps State.tickets (fun s p => State.releaseUp_tickets s op.id p) _ s
  · split
    · rw [State.dutyFrame_tickets, State.muteBeam_tickets]
    · split
      · exact State.muteBeam_tickets s op
      · rfl

theorem State.releaseFields_tickets (s : State) (op : Op) : (s.releaseFields op).tickets = s.tickets := by
  unfold State.releaseFields
  split
  · exact foldl_keeps State.tickets (fun _ _ => by rfl) _ s
  · rfl

theorem State.releaseDecoders_tickets (s : State) (op : Op) : (s.releaseDecoders op).tickets = s.tickets := by
  unfold State.releaseDecoders
  split <;> rfl

/-- Releasing the resources of an operation leaves the threads and the operations in flight alone. -/
theorem State.release_tickets (s : State) (op : Op) : (s.release op).tickets = s.tickets :=
  calc (s.release op).tickets
    _ = ((((s.releaseCarriers op).releaseFields op).releaseSpares op).releaseDecoders op).tickets := rfl
    _ = s.tickets := by
      rw [State.releaseDecoders_tickets, State.releaseSpares_tickets, State.releaseFields_tickets, State.releaseCarriers_tickets]

/-! ### Completion (R38, R64, R66) -/

/-- The completion word of an operation that placed nothing. -/
theorem completion_eq {op : Op} (hw : op.words = 0) {status : Nat} (hs : status < 256) :
    op.completion status = BitVec.ofNat 32 (0x100 * op.code + status) := by
  have hcode : op.code < 256 := bits_lt _ _ _
  apply BitVec.eq_of_toNat_eq
  have hor : op.code * 2 ^ 8 ||| status = op.code * 2 ^ 8 + status := by
    rw [← Nat.shiftLeft_eq, Nat.shiftLeft_add_eq_or_of_lt hs]
  rw [Op.completion, hw, BitVec.toNat_or, BitVec.toNat_or, fieldW_toNat (by decide) (by omega), fieldW_toNat hcode (by omega),
    fieldW_toNat hs (by omega)]
  simp only [Nat.zero_min, Nat.zero_mul, Nat.zero_or, Nat.pow_zero, Nat.mul_one]
  rw [hor, BitVec.toNat_ofNat]
  omega

/-- An operation no longer in flight, its resources released (R64, R68). -/
def State.takenOut (s : State) (op : Op) (status : Nat) : State :=
  let s := if op.released then s else s.release op
  { s with
    ops := s.ops.filter (·.id != op.id)
    ended := op :: (if s.endedAt = s.ticks then s.ended else [])
    endedAt := s.ticks }.countFld (AIR_STATCNT status) 0 32 1

theorem State.finishOp_eq (s : State) (op : Op) (status : Nat) : s.finishOp op status =
    if ((s.takenOut op status).slot op.id).discard then (s.takenOut op status).setSlot op.id {}
    else (s.takenOut op status).setSlot op.id { st := .done, word := op.completion status } := rfl

/-- Taking an operation out changes no thread, and no other operation. -/
theorem State.takenOut_tickets (s : State) (op : Op) (status : Nat) :
    (∀ u, (s.takenOut op status).th u = s.th u) ∧ (s.takenOut op status).ops = s.ops.filter (·.id != op.id) := by
  have hrel : (if op.released then s else s.release op).tickets = s.tickets := by
    split
    · rfl
    · exact State.release_tickets s op
  exact ⟨fun u => congrArg (fun x => x.1[u]) hrel, congrArg (fun x => x.2.filter (·.id != op.id)) hrel⟩

/-- A ticket slot written: its thread, but for the mark of a wait that it meets. -/
theorem State.setSlot_th (s : State) (o : OpId) (k : Slot) : ∃ m, (s.setSlot o k).th o.thread =
    { s.th o.thread with slots := vset (s.th o.thread).slots o.slot k, met := m } := by
  obtain ⟨m, hm⟩ := Thread.noteMet_only s.ticks { s.th o.thread with slots := vset (s.th o.thread).slots o.slot k }
  exact ⟨m, (State.th_modTh_same s o.thread _).trans hm⟩

/-- The end of an operation whose word is not to be discarded: its slot is Done, and it is no longer in flight. -/
theorem State.finishOp_tickets {s : State} {op : Op} {o : OpId} (hid : op.id = o)
    (hd : (s.th o.thread).slots[o.slot].discard = false) (status : Nat) :
    (∃ m, (s.finishOp op status).th o.thread = { s.th o.thread with
      slots := vset (s.th o.thread).slots o.slot { st := .done, word := op.completion status }, met := m }) ∧
    (s.finishOp op status).ops = s.ops.filter (·.id != o) := by
  subst hid
  obtain ⟨hth, hops⟩ := s.takenOut_tickets op status
  have hslot : ((s.takenOut op status).slot op.id).discard = false := by
    rw [State.slot, hth op.id.thread, hd]
  rw [State.finishOp_eq, hslot, if_neg (by decide), ← hth op.id.thread]
  exact ⟨State.setSlot_th _ _ _, hops⟩

/-- A Pending operation that nothing discards ends at once on cancellation (R74). -/
theorem State.cancelOp_pending {s : State} {o : OpId} {op : Op} (hop : s.op? o = some op) (ha : op.active = false) :
    s.cancelOp o = s.finishOp op 0x09 := by
  simp [State.cancelOp, hop, ha, State.endPending]

theorem State.op?_id {s : State} {o : OpId} {op : Op} (h : s.op? o = some op) : op.id = o := by
  have := List.find?_some h
  simpa using this

/-! ### The copy of a descriptor (R37, R57) -/

/-- The checks of a descriptor look at nothing of the state but the tag table. -/
theorem State.copyOk_congr {s t : State} (h : s.tags = t.tags) (op : Op) : s.copyOk op = t.copyOk op := by
  have htag (w : Word) : s.tagEntry w = t.tagEntry w := by unfold State.tagEntry; rw [h]
  unfold State.copyOk State.wordsOk
  simp only [htag]

/-- The start of an operation is judged by the time alone. -/
theorem State.dueOp_congr {s t : State} (hlo : s.tbLo = t.tbLo) (hticks : s.ticks = t.ticks) (op : Op) :
    s.dueOp op = t.dueOp op := by
  unfold State.dueOp State.ahead
  rw [hlo, hticks]

theorem State.dueOp_id (s : State) (op : Op) : (s.dueOp op).id = op.id := by
  unfold State.dueOp
  split <;> rfl

theorem State.dueOp_words (s : State) (op : Op) : (s.dueOp op).words = op.words := by
  unfold State.dueOp
  split <;> rfl

/-- The operation of a descriptor in a memory. -/
def descAt (m : Mem) (o : OpId) (a : Nat) : Op := { id := o, desc := Vector.ofFn fun j => Memory.word m (a + 4 * j) }

/-- A descriptor that lies in local memory is copied from it. -/
theorem State.copyDesc_local {s : State} {o : OpId} {a : Nat} (h : a + 64 ≤ 0x800) :
    s.copyDesc o a = descAt (s.th o.thread).mem o a := by
  have hword (k : Fin 16) : s.descWord o.thread (a + 4 * k.val) = Memory.word (s.th o.thread).mem (a + 4 * k.val) := by
    rw [State.descWord, if_pos (by have := k.isLt; omega)]
  unfold State.copyDesc descAt
  simp only [hword]

/-- AIR on a Free slot with an aligned descriptor in local memory issues its operation. -/
theorem airBody_local {s : State} {t : Tid} {f : IFields} (hal : (memAddr (s.th t) f).toNat % 4 = 0)
    (hin : (memAddr (s.th t) f).toNat + 64 ≤ 0x800) (hfree : ((s.th t).kslot f.rd).st = .free) :
    airBody t false false f s =
      .th (s.issueOp (descAt (s.th t).mem ⟨t, f.rd.toFin⟩ (memAddr (s.th t) f).toNat) false) t Thread.advance := by
  obtain ⟨hst, -, -⟩ := nowhere_below (a := memAddr (s.th t) f) (by omega)
  have hspan : descSpan (memAddr (s.th t) f).toNat = true := by simp [descSpan, memSpan, hin]
  simp [airBody, Thread.addr_eq, aligned_bits.mpr hal, hspan, hfree, hst, State.copyDesc_local hin]

theorem airBody_contended {s : State} {t : Tid} {f : IFields} (hal : (memAddr (s.th t) f).toNat % 4 = 0)
    (hin : (memAddr (s.th t) f).toNat + 64 ≤ 0x800) (hfree : ((s.th t).kslot f.rd).st = .free) (bad : Bool) :
    airBody t bad true f s = .wait 7 none := by
  have hspan : descSpan (memAddr (s.th t) f).toNat = true := by simp [descSpan, memSpan, hin]
  simp [airBody, Thread.addr_eq, aligned_bits.mpr hal, hspan, hfree]

/-- The state in which an issued operation is checked: its slot Pending, itself the last in flight. -/
def State.pendingWith (s : State) (op : Op) : State :=
  { s.setSlot op.id { st := .pending } with ops := s.ops ++ [op] }

theorem State.issueOp_ok {s : State} {op : Op} (h : s.copyOk (s.dueOp op) = true) :
    s.issueOp op false = s.pendingWith (s.dueOp op) := by
  have hck : (s.pendingWith (s.dueOp op)).copyOk (s.dueOp op) = true := h ▸ State.copyOk_congr rfl _
  have hdef : s.issueOp op false = if false || !(s.pendingWith (s.dueOp op)).copyOk (s.dueOp op) then
      (s.pendingWith (s.dueOp op)).endPending (s.dueOp op).id 0x0D else s.pendingWith (s.dueOp op) := rfl
  rw [hdef, hck]
  rfl

theorem State.issueOp_rejected {s : State} {op : Op} (h : s.copyOk (s.dueOp op) = false) :
    s.issueOp op false = (s.pendingWith (s.dueOp op)).endPending (s.dueOp op).id 0x0D := by
  have hck : (s.pendingWith (s.dueOp op)).copyOk (s.dueOp op) = false := h ▸ State.copyOk_congr rfl _
  have hdef : s.issueOp op false = if false || !(s.pendingWith (s.dueOp op)).copyOk (s.dueOp op) then
      (s.pendingWith (s.dueOp op)).endPending (s.dueOp op).id 0x0D else s.pendingWith (s.dueOp op) := rfl
  rw [hdef, hck]
  rfl

/-- The thread that issued an operation: its slot is Pending. -/
theorem State.pendingWith_th (s : State) {op : Op} {o : OpId} (hid : op.id = o) : ∃ m, (s.pendingWith op).th o.thread =
    { s.th o.thread with slots := vset (s.th o.thread).slots o.slot { st := .pending }, met := m } := by
  subst hid
  exact State.setSlot_th s op.id _

/-- The thread that issued an operation written whole. -/
theorem State.pendingWith_setTh (s : State) {op : Op} {o : OpId} (hid : op.id = o) (x : Thread) :
    (s.pendingWith op).setTh o.thread x = { s.setTh o.thread x with ops := s.ops ++ [op] } := by
  subst hid
  simp [State.pendingWith, State.setSlot, State.modTh, State.setTh, vset]

/-- An operation not in flight before is found once issued. -/
theorem State.pendingWith_op? {s : State} {op : Op} (h : s.op? op.id = none) : (s.pendingWith op).op? op.id = some op := by
  have hfind : s.ops.find? (·.id == op.id) = none := h
  show (s.ops ++ [op]).find? _ = _
  rw [List.find?_append, hfind]
  simp

/-- Taking out an operation that was just put in leaves those before it. -/
theorem filter_append_self {ops : List Op} {op : Op} (h : ops.find? (·.id == op.id) = none) :
    (ops ++ [op]).filter (·.id != op.id) = ops := by
  rw [List.filter_append, List.filter_cons_of_neg (by simp), List.filter_nil, List.append_nil, List.filter_eq_self]
  intro x hx
  have := List.find?_eq_none.mp h x hx
  simpa using this

end Sys2Proof.Machine

/-- Settles O11. -/
theorem airIssuesAndCanckCancels : Obligations.AirIssuesAndCanckCancels := by
  unfold Obligations.AirIssuesAndCanckCancels
  intro s i f h herr x o k a
  have hks : ((s.touched i.thread).th i.thread).kslot f.rd = k := by rw [State.touched_th_acc]; rfl
  refine ⟨?idle, ?cancel, ?wait, ?issue⟩
  case idle =>
    intro himm hra hk
    refine Runs.of_th h rfl (f := fun x => { x with c := false, z := decide (k.st = .free), pc := x.pc + 4 }) ?_ rfl
    have hks' : (s.th i.thread).kslot f.rd = k := rfl
    rcases hk with hk | hk <;> simp [himm, hra, hks', hk, Thread.advance]
  case cancel =>
    intro op himm hra hk hop hact hw hdis
    have hid : op.id = o := State.op?_id hop
    have hop' : (s.touched i.thread).op? o = some op := by rw [State.touched_op_acc]; exact hop
    have hd : (((s.touched i.thread).th o.thread).slots[o.slot]).discard = false := by
      rw [State.touched_th_acc]; exact hdis
    obtain ⟨⟨m, hth⟩, hops⟩ := State.finishOp_tickets hid hd 0x09
    rw [State.touched_th_acc] at hth
    rw [State.touched_ops] at hops
    refine ⟨_, exec_of_done h rfl (s' := ((s.touched i.thread).finishOp op 0x09).modTh i.thread fun x =>
      { x.advance with c := true, z := false }) ?_, ?_, ?_, ?_, ?_, ?_, ?_⟩
    · have hcancel := State.cancelOp_pending hop' hact
      have himm0 : ¬ (f.imm ≠ 0 ∨ f.ra ≠ 0) := by simp [himm, hra]
      simp only [hks, hk, if_neg himm0]
      exact congrArg (fun s => IssueRes.th s i.thread _) hcancel
    · rw [State.th_modTh_same, hth, ← completion_eq hw (by decide)]
      rfl
    · rw [State.th_modTh_same]
    · rw [State.th_modTh_same]
    · rw [State.th_modTh_same, hth]; rfl
    · rw [State.th_modTh_same, hth]; rfl
    · exact hops
  case wait =>
    intro hal hin hk hc
    refine Runs.of_wait h rfl (code := 7) (dl := none) ?_ rfl
    rw [hc]
    refine airBody_contended ?_ ?_ (by rw [hks, hk]) _
    · rw [State.touched_th_acc]; exact hal
    · rw [State.touched_th_acc]; exact hin
  case issue =>
    intro hal hin hk hnone hc op
    have hdue : (s.touched i.thread).dueOp (descAt x.mem o a) = op := State.dueOp_congr (by simp) (by simp) _
    have hopid : op.id = o := State.dueOp_id s _
    have hbody : airBody i.thread i.dataErr i.contended f (s.touched i.thread) =
        .th ((s.touched i.thread).issueOp (descAt x.mem o a) false) i.thread Thread.advance := by
      have hx : (s.touched i.thread).th i.thread = x := State.touched_th_acc s _ _
      rw [herr, hc, airBody_local (by rw [hx]; exact hal) (by rw [hx]; exact hin) (by rw [hks, hk]), hx]
      rfl
    obtain ⟨m, hpend⟩ := State.pendingWith_th (s.touched i.thread) hopid
    rw [State.touched_th_acc] at hpend
    refine ⟨fun hok => ?_, fun hbad => ?_⟩
    · have hok' : (s.touched i.thread).copyOk ((s.touched i.thread).dueOp (descAt x.mem o a)) = true := by
        rw [hdue, ← hok]; exact State.copyOk_congr (by simp) op
      have hth : (((s.touched i.thread).pendingWith op).modTh i.thread Thread.advance).th i.thread =
          { x with slots := vset x.slots o.slot { st := .pending }, pc := x.pc + 4, met := m } :=
        (State.th_modTh_same _ _ _).trans (congrArg Thread.advance hpend)
      refine ⟨((s.touched i.thread).pendingWith op).modTh i.thread Thread.advance,
        exec_of_done h rfl (by rw [hbody, State.issueOp_ok hok', hdue]; rfl), ?_⟩
      rw [hth, ← State.touched_ops s i.thread, ← State.pendingWith_setTh (s.touched i.thread) hopid]
      exact congrArg (State.setTh _ i.thread) ((State.th_modTh_same _ _ _).symm.trans hth)
    · have hbad' : (s.touched i.thread).copyOk ((s.touched i.thread).dueOp (descAt x.mem o a)) = false := by
        rw [hdue, ← hbad]; exact State.copyOk_congr (by simp) op
      have hnone' : (s.touched i.thread).op? op.id = none := by rw [hopid, State.touched_op_acc]; exact hnone
      have hend : ((s.touched i.thread).pendingWith op).endPending op.id 0x0D =
          ((s.touched i.thread).pendingWith op).finishOp op 0x0D := by
        rw [State.endPending, State.pendingWith_op? hnone']
      have hdis : ((((s.touched i.thread).pendingWith op).th o.thread).slots[o.slot]).discard = false := by
        rw [hpend]
        simp only [vset_get_same]
      obtain ⟨⟨m', hth⟩, hops⟩ := State.finishOp_tickets hopid hdis 0x0D
      refine ⟨(((s.touched i.thread).pendingWith op).finishOp op 0x0D).modTh i.thread Thread.advance,
        exec_of_done h rfl (by rw [hbody, State.issueOp_rejected hbad', hdue, hend]; rfl), ?_, ?_⟩
      · refine hops.trans ?_
        rw [← hopid]
        exact (filter_append_self hnone').trans (State.touched_ops s i.thread)
      · rw [State.th_modTh_same, ← completion_eq (op := op) (State.dueOp_words s _) (by decide)]
        refine (congrArg Thread.advance hth).trans ?_
        rw [hpend]
        simp [Thread.advance, vset, x, o]
        exact (congrArg Thread.met hth).symm
end

section
/-! PROOF. A repaired program-store line (R323): the fault it records raises the routed event of FLT_EVT, and a thread in
an EVW on that event bit notes when its wait was met, which the statement leaves no room for. -/

open Sys2Proof Sys2Proof.Machine

namespace Sys2Proof.Machine

/-- Line 5 is bad, FLT_EVT routes the fault event to HE0 of thread 0, and thread 0 waits for it in an EVW. -/
def faultAwaited : State :=
  ({ State.reset with image.bad := [5], image.source := 1 }.setReg FLT_EVT 0x8000).setTh 0
    { st := .wait, pc := 0x10000040, waitOn := 5, g := vset (Vector.replicate 16 0) 1 0x10000
      waiting := some (.evw { thread := 0 } { rd := 3, ra := 0, rb := 1, fn := 0 }) }

theorem faultAwaited_sound : faultAwaited.sound := by unfold State.sound Thread.sound; decide +kernel

/-- The repair with a spare line: what it leaves of thread 0's mark of a wait that was met. -/
theorem faultAwaited_met :
    ((faultAwaited.rewriteLine 5 (List.replicate 8 0) true).th 0).met = some 0 := by decide +kernel

end Sys2Proof.Machine

/-- Refutes O56: the fault of a line that fails again raises its routed event, and `met` of a thread whose EVW awaits that
event is set, where the statement keeps every field of the thread but `event`. -/
theorem not_repairsResiduesAndPadsAreReported : ¬ Obligations.RepairsResiduesAndPadsAreReported := by
  intro h
  obtain ⟨-, hline, -⟩ := h faultAwaited faultAwaited_sound
  have hgot : faultAwaited.refetched (5 : BitVec 13).toNat (List.replicate 8 0) = some (List.replicate 8 0) := by
    decide +kernel
  obtain ⟨-, hspare, -⟩ := hline 5 (List.replicate 8 0) (List.replicate 8 0) (by decide +kernel) hgot rfl
  obtain ⟨t, ht, ⟨-, hthreads, -⟩, -⟩ := hspare (by decide +kernel)
  have hrun : exec (.refetchLineRewritten 5 (List.replicate 8 0) true) faultAwaited =
      .next (faultAwaited.rewriteLine 5 (List.replicate 8 0) true) := by
    refine congrArg Host.Outcome.next ?_
    rw [hgot]
    exact if_pos (by decide +kernel)
  obtain rfl := Host.Outcome.next.inj (hrun.symm.trans ht)
  have hmet := congrArg Thread.met (hthreads 0)
  rw [faultAwaited_met, if_neg (by decide +kernel)] at hmet
  exact absurd hmet (by decide +kernel)
end

section
/-! PROOF. The word a ring takes (R184, R186) and PUSH (R42). -/

open Sys2Proof Sys2Proof.Machine

namespace Sys2Proof.Machine

/-! ### One word stored on a ring -/

/-- A state that differs from another in registers, faults and the item state of ring `n` at most: the ring's words, the other
rings, the memories, the operations, the threads and the time are the same. -/
structure State.SameWords (s t : State) (n : RingNo) : Prop where
  words : (t.ring n).words = (s.ring n).words
  others : ∀ m, m ≠ n → t.ring m = s.ring m
  smem : t.smem = s.smem
  ops : t.ops = s.ops
  threads : t.threads = s.threads
  ticks : t.ticks = s.ticks

theorem State.ring_modRing_same (s : State) (n : RingNo) (f : Ring → Ring) : (s.modRing n f).ring n = f (s.ring n) :=
  vset_get_same s.rings n _

theorem State.ring_modRing_other (s : State) {n m : RingNo} (f : Ring → Ring) (h : m ≠ n) : (s.modRing n f).ring m = s.ring m :=
  vset_get_other s.rings _ h

theorem State.SameWords.refl (s : State) (n : RingNo) : s.SameWords s n := ⟨rfl, fun _ _ => rfl, rfl, rfl, rfl, rfl⟩

section
variable {s t : State} {n : RingNo}

theorem State.SameWords.modRing (h : s.SameWords t n) {f : Ring → Ring} (hf : ∀ r, (f r).words = r.words) :
    s.SameWords (t.modRing n f) n :=
  ⟨by rw [State.ring_modRing_same, hf, h.words], fun m hm => (State.ring_modRing_other t f hm).trans (h.others m hm),
    h.smem, h.ops, h.threads, h.ticks⟩

theorem State.SameWords.malform (h : s.SameWords t n) : s.SameWords (t.malform n) n :=
  ⟨h.words, h.others, h.smem, h.ops, h.threads, h.ticks⟩

theorem State.SameWords.malform_if (h : s.SameWords t n) (c : Prop) [Decidable c] :
    s.SameWords (if c then t.malform n else t) n := by
  split
  · exact h.malform
  · exact h

/-- Item state opened or closed, in either of two ways. -/
theorem State.SameWords.modRing_if (h : s.SameWords t n) {f g : Ring → Ring} (hf : ∀ r, (f r).words = r.words)
    (hg : ∀ r, (g r).words = r.words) (c : Prop) [Decidable c] :
    s.SameWords (if c then t.modRing n f else t.modRing n g) n := by
  split
  · exact h.modRing hf
  · exact h.modRing hg

end

/-- An event raised in a thread: its event bits, and its mark of a wait that was met when it waits. -/
def Thread.Signalled (x y : Thread) : Prop :=
  ∃ e m, y = { x with event := e, met := m } ∧ (x.waiting = none → m = x.met)

theorem Thread.Signalled.refl (x : Thread) : x.Signalled x := ⟨_, _, rfl, fun _ => rfl⟩

/-- A thread that waits for nothing has no wait to be met. -/
theorem Thread.noteMet_idle {x : Thread} (h : x.waiting = none) (now : Nat) : x.noteMet now = x := by
  simp [Thread.noteMet, Thread.awaited, h]

theorem Thread.signalled_noteMet (x : Thread) (e : Word) (now : Nat) :
    x.Signalled (({ x with event := e } : Thread).noteMet now) := by
  obtain ⟨m, hm⟩ := Thread.noteMet_only now { x with event := e }
  refine ⟨e, m, hm, fun h => ?_⟩
  rw [Thread.noteMet_idle (x := { x with event := e }) h] at hm
  exact (congrArg Thread.met hm).symm

theorem State.hwEvent_signalled (s : State) (t : Tid) (b : Nat) (u : Tid) : (s.th u).Signalled ((s.hwEvent t b).th u) := by
  unfold State.hwEvent State.setEvents
  by_cases h : u = t
  · subst h
    rw [State.th_modTh_same]
    exact Thread.signalled_noteMet _ _ _
  · rw [State.th_modTh_other _ _ h]
    exact Thread.Signalled.refl _

theorem State.raiseRouted_signalled (s : State) (w : Word) (u : Tid) : (s.th u).Signalled ((s.raiseRouted w).th u) := by
  unfold State.raiseRouted
  split
  · exact State.hwEvent_signalled _ _ _ u
  · exact Thread.Signalled.refl _

/-- A word stands last on ring `n`; the other rings, the memories and the operations are the same, and a thread may have an
event raised. -/
structure State.Stored (s t : State) (n : RingNo) (w : RWord) : Prop where
  words : (t.ring n).words = (s.ring n).words ++ [{ w with v := true, tick := s.ticks }]
  others : ∀ m, m ≠ n → t.ring m = s.ring m
  smem : t.smem = s.smem
  ops : t.ops = s.ops
  threads : ∀ u, (s.th u).Signalled (t.th u)

/-- A watermark crossed sets registers and raises an event (R193). -/
theorem State.Stored.watermark {s t : State} {n : RingNo} {w : RWord} (h : s.Stored t n w) (ht : t.threads = s.threads)
    (m : RingNo) (old new : Nat) : s.Stored (t.watermark m old new) n w := by
  unfold State.watermark
  dsimp only
  split
  · have hring : ∀ k, (((t.setFlag (RG_FLAGS m) 0).countFld (RG_CNT m) 16 16 1).raiseRouted (t.reg (RG_WM m))).ring k = t.ring k :=
      fun k => State.raiseRouted_ring_acc _ _ k
    refine ⟨by rw [hring]; exact h.words, fun k hk => (hring k).trans (h.others k hk), ?_, ?_, fun u => ?_⟩
    · rw [State.raiseRouted_smem]; exact h.smem
    · rw [State.raiseRouted_ops]; exact h.ops
    · rw [show s.th u = ((t.setFlag (RG_FLAGS m) 0).countFld (RG_CNT m) 16 16 1).th u from congrArg (·[u]) ht.symm]
      exact State.raiseRouted_signalled _ _ u
  · exact h

/-- A word stored at the tail of a ring (R184). -/
theorem State.SameWords.appendWord {s t : State} {n : RingNo} (h : s.SameWords t n) (w : RWord) :
    s.Stored (t.appendWord n w) n w := by
  unfold State.appendWord
  dsimp only
  refine State.Stored.watermark (t := t.modRing n _) ⟨?_, fun m hm => ?_, h.smem, h.ops, fun u => ?_⟩ h.threads n _ _
  · rw [State.ring_modRing_same, h.ticks, h.words]
  · exact (State.ring_modRing_other t _ hm).trans (h.others m hm)
  · rw [show (t.modRing n _).th u = s.th u from congrArg (·[u]) h.threads]
    exact Thread.Signalled.refl _

/-- The first word of an item is stored (R186). -/
theorem State.putFirst_stored (s : State) (n : RingNo) (p : Producer) (w : RWord) : s.Stored (s.putFirst n p w) n w := by
  unfold State.putFirst
  dsimp only
  refine State.SameWords.appendWord (.malform_if (.modRing_if ?_ ?_ ?_ _) _) w
  · exact .modRing (.malform_if (.refl s n) _) fun _ => rfl
  · exact fun _ => rfl
  · exact fun _ => rfl

/-- A further word of an open item is stored (R186). -/
theorem State.putNext_stored (s : State) (n : RingNo) (p : Producer) (o : OpenItem) (w : RWord) :
    s.Stored (s.putNext n p o w) n w := by
  unfold State.putNext
  dsimp only
  refine State.SameWords.appendWord (.malform_if (.modRing_if (.refl s n) ?_ ?_ _) _) w
  · exact fun _ => rfl
  · exact fun _ => rfl

/-- A word is one its ring stores: the first of an item, or one of the producer's open item (R186, R191). -/
theorem State.ringPut_stored {s : State} {n : RingNo} {p : Producer} {w : RWord}
    (h : if w.s then s.openByOther n p = false else s.openBy n p = true ∧ s.orphan n p = none) :
    s.Stored (s.ringPut n p w) n w := by
  unfold State.ringPut
  split at h
  · next hs =>
    rw [if_pos hs]
    exact State.putFirst_stored s n p w
  · next hs =>
    obtain ⟨hopen, horphan⟩ := h
    rw [if_neg hs, horphan]
    unfold State.openBy at hopen
    cases ho : (s.ring n).open_ with
    | none => simp [ho] at hopen
    | some o =>
      rw [ho] at hopen
      simp only [hopen, if_true]
      exact State.putNext_stored s n p o w

/-! ### PUSH -/

theorem ringField_eq (fn : BitVec 14) : ringField fn = ⟨fn.toNat % 32, Nat.mod_lt _ (by omega)⟩ :=
  Fin.ext (fn_low fn 5)

/-- The low byte of a word replaced by a number of eight bits. -/
theorem withBits_low (w : Word) {v : Nat} (h : v < 256) : withBits w 0 8 v = BitVec.ofNat 32 (w.toNat / 256 * 256 + v) := by
  have hclear : w &&& ~~~ maskAt 0 8 = (w >>> 8) <<< 8 := by
    ext j hj
    rcases Nat.lt_or_ge j 8 with h8 | h8
    · interval_cases j <;> simp [maskAt]
    · interval_cases j <;> simp [maskAt]
  have hcut : ((w >>> 8) <<< 8).toNat = w.toNat / 256 * 256 := by
    have := w.isLt
    simp only [BitVec.toNat_shiftLeft, BitVec.toNat_ushiftRight, Nat.shiftRight_eq_div_pow, Nat.shiftLeft_eq]
    omega
  apply BitVec.eq_of_toNat_eq
  rw [withBits, hclear, BitVec.toNat_or, hcut, Nat.shiftLeft_zero, show v % 2 ^ 8 = v from Nat.mod_eq_of_lt h, BitVec.toNat_ofNat, BitVec.toNat_ofNat,
    Nat.mod_eq_of_lt (by omega : v < 2 ^ 32), Nat.mod_eq_of_lt (by have := w.isLt; omega)]
  simpa [Nat.mul_comm] using (Nat.two_pow_add_eq_or_of_lt (i := 8) h (w.toNat / 256)).symm

section
variable {s : State} {t : Tid} {f : AFields}

/-- PUSH to a ring with room stores its word. -/
theorem pushBody_stores (hrd : f.rd = 0) (hfn : f.fn.toNat < 0x100) (hon : s.ringOn (ringField f.fn) = true)
    (hprod : s.ringProd (ringField f.fn) = t) (hopen : f.fn.getLsbD 5 = true → s.openByOther (ringField f.fn) (.thread t) = false)
    (hroom : s.ringRoom (ringField f.fn) ≠ 0) :
    pushBody t f s = .th (s.ringPut (ringField f.fn) (.thread t) (pushWord t f (s.th t))) t Thread.advance := by
  have hhi : f.fn.extractLsb' 8 6 = 0 := BitVec.eq_of_toNat_eq (by simp [Nat.shiftRight_eq_div_pow]; omega)
  unfold pushBody
  dsimp only
  rw [if_neg (by simp [hrd, hhi]), if_neg (by simp [hon, hprod]), if_neg]
  rintro (h | h)
  · rw [Bool.and_eq_true] at h
    exact absurd h.2 (by simp [hopen h.1])
  · exact hroom h

/-- PUSH to a full ring waits (R42). -/
theorem pushBody_full (hrd : f.rd = 0) (hfn : f.fn.toNat < 0x100) (hon : s.ringOn (ringField f.fn) = true)
    (hprod : s.ringProd (ringField f.fn) = t) (hroom : s.ringRoom (ringField f.fn) = 0) : pushBody t f s = .wait 4 none := by
  have hhi : f.fn.extractLsb' 8 6 = 0 := BitVec.eq_of_toNat_eq (by simp [Nat.shiftRight_eq_div_pow]; omega)
  unfold pushBody
  dsimp only
  rw [if_neg (by simp [hrd, hhi]), if_neg (by simp [hon, hprod]), if_pos (Or.inr hroom)]

/-- What a PUSH of the thread with a word its ring stores leaves: the word last on the ring, and the PC past it. -/
theorem push_stored (hopen : if f.fn.getLsbD 5 then s.openByOther (ringField f.fn) (.thread t) = false
      else s.openBy (ringField f.fn) (.thread t) = true ∧ s.orphan (ringField f.fn) (.thread t) = none) :
    let u := (s.ringPut (ringField f.fn) (.thread t) (pushWord t f (s.th t))).modTh t Thread.advance
    ((u.ring (ringField f.fn)).words = (s.ring (ringField f.fn)).words ++
        [{ pushWord t f (s.th t) with v := true, tick := s.ticks }] ∧
      (∀ m, m ≠ ringField f.fn → u.ring m = s.ring m) ∧ u.smem = s.smem ∧ u.ops = s.ops) ∧
    (s.th t).advance.Signalled (u.th t) := by
  obtain ⟨hwords, hothers, hsmem, hops, hthreads⟩ := State.ringPut_stored (w := pushWord t f (s.th t)) hopen
  refine ⟨⟨hwords, hothers, hsmem, hops⟩, ?_⟩
  obtain ⟨e, m, hth, hm⟩ := hthreads t
  exact ⟨e, m, by rw [State.th_modTh_same, hth]; rfl, hm⟩

/-- The word of a PUSH: the thread's number in [39:32] when it starts an item (R42). -/
theorem pushWord_stored (x : Thread) (k : Nat) : { pushWord t f x with v := true, tick := k } =
    ({ data := (if f.fn.getLsbD 5 then BitVec.ofNat 32 ((x.rg f.ra).toNat / 256 * 256 + t.val) else x.rg f.ra) ++ x.rg f.rb
       v := true, p := f.fn.getLsbD 7, s := f.fn.getLsbD 5, e := f.fn.getLsbD 6, tick := k } : RWord) := by
  unfold pushWord
  dsimp only
  rw [withBits_low _ (by omega)]

end

/-- An instruction that waited and completes with a whole new state (R22). -/
theorem State.retry_done {s s' : State} {t : Tid} {body : State → IssueRes} (hb : body (s.modTh t Thread.resume) = .done s') :
    s.retry t body = s' := by
  rw [State.retry, hb]

end Sys2Proof.Machine

/-- Settles O15: the three endings of a PUSH, over the one lemma for a word its ring stores. -/
theorem pushStoresItsWordOrWaits : Obligations.PushStoresItsWordOrWaits := by
  intro s i f hrd hfn
  rw [← ringField_eq]
  intro n first x hon hprod hopen hi stores
  have hother : first = true → s.openByOther n (.thread i.thread) = false := fun h => by rwa [if_pos h] at hopen
  have hring : (s.touched i.thread).ring n = s.ring n := by simp
  have hon' : (s.touched i.thread).ringOn n = true := by simpa [State.ringOn] using hon
  have hprod' : (s.touched i.thread).ringProd n = i.thread := by simpa [State.ringProd] using hprod
  have hroom' : (s.touched i.thread).ringRoom n = s.ringRoom n := by simp [State.ringRoom, State.ringCap]
  refine ⟨fun h hroom => ?_, fun h hroom => ?_, fun bad hw hp hd hroom => ?_⟩
  · have hopen' : if f.fn.getLsbD 5 then (s.touched i.thread).openByOther n (.thread i.thread) = false
      else (s.touched i.thread).openBy n (.thread i.thread) = true ∧ (s.touched i.thread).orphan n (.thread i.thread) = none := by
      simp only [State.openByOther, State.openBy, State.orphan, hring]
      exact hopen
    obtain ⟨⟨hwords, hothers, hsmem, hops⟩, e, m, hth, -⟩ := push_stored hopen'
    refine ⟨_, e, m, exec_of_done h rfl (pushBody_stores hrd hfn hon' hprod' (fun hf => ?_) (hroom'.trans_ne hroom)),
      ⟨?_, fun k hk => (hothers k hk).trans (by simp), hsmem.trans (by simp), hops.trans (by simp)⟩, ?_⟩
    · rwa [if_pos hf] at hopen'
    · rw [hwords, pushWord_stored, hring]
      simp [hi, x, first]
    · rw [hth, State.touched_th_acc]
      rfl
  · exact Runs.of_wait h rfl (pushBody_full hrd hfn hon' hprod' (hroom'.trans hroom)) rfl
  · obtain ⟨⟨hwords, hothers, hsmem, hops⟩, e, m, hth, hm⟩ := push_stored (s := s.modTh i.thread Thread.resume) hopen
    have hresumed : (s.modTh i.thread Thread.resume).th i.thread = x.resume := State.th_modTh_same _ _ _
    obtain rfl : m = none := (hm (by rw [hresumed]; rfl)).trans (by rw [hresumed]; rfl)
    have hend := hth.trans (by rw [hresumed]; rfl : _ = { x.resume.advance with event := e })
    refine ⟨_, e, ?_, ⟨?_, hothers, hsmem, hops⟩, ?_, ?_⟩
    · rw [State.meetWait_retry hp hw rfl (Thread.tooLate_eq_false (fun d m h _ => by cases hd.symm.trans h)),
        State.retry_done (pushBody_stores hrd hfn hon hprod hother hroom)]
    · rw [hwords, pushWord_stored, hresumed]
      rfl
    · rw [hend]
      exact ⟨rfl, rfl, rfl, rfl⟩
    · exact hend
end

section
/-! PROOF. The check-value channels (R290 to R293). -/

open Sys2Proof Sys2Proof.Machine

namespace Sys2Proof.Machine

/-! ### Fields of a word written -/

theorem getLsbD_maskAt (lo n j : Nat) (hj : j < 32) : (maskAt lo n).getLsbD j = (decide (lo ≤ j) && decide (j - lo < n)) := by
  rw [maskAt, BitVec.getLsbD_ofNat, Nat.testBit_shiftLeft, Nat.testBit_two_pow_sub_one]
  simp [hj]

/-- A bit of a word with a field written. -/
theorem getLsbD_withBits (w : Word) (lo n v j : Nat) (hj : j < 32) : (withBits w lo n v).getLsbD j =
    if lo ≤ j ∧ j < lo + n then v.testBit (j - lo) else w.getLsbD j := by
  rw [withBits, BitVec.getLsbD_or, BitVec.getLsbD_and, BitVec.getLsbD_not, getLsbD_maskAt _ _ _ hj, BitVec.getLsbD_ofNat,
    Nat.testBit_shiftLeft, Nat.testBit_mod_two_pow]
  split
  · next h => simp [hj, h.1, show j - lo < n by omega]
  · next h =>
    by_cases hlo : lo ≤ j
    · simp [hj, hlo, show ¬ j - lo < n by omega]
    · simp [hj, hlo]

theorem bits_eq_extract (w : Word) (lo n : Nat) : bits w lo n = (w.extractLsb' lo n).toNat := by simp [bits]

/-- The field written reads back. -/
theorem bits_withBits_same (w : Word) {lo n v : Nat} (hn : lo + n ≤ 32) (hv : v < 2 ^ n) : bits (withBits w lo n v) lo n = v := by
  refine Nat.eq_of_testBit_eq fun j => ?_
  rw [bits, Nat.testBit_mod_two_pow, Nat.testBit_shiftRight]
  by_cases hj : j < n
  · rw [← BitVec.getLsbD, getLsbD_withBits _ _ _ _ _ (by omega), if_pos (by omega)]
    simp [hj]
  · rw [Nat.testBit_lt_two_pow (hv.trans_le (Nat.pow_le_pow_right (by omega) (Nat.le_of_not_lt hj)))]
    simp [hj]

/-- A field above or below the one written keeps. -/
theorem bits_withBits_other (w : Word) {lo n v k m : Nat} (h : k + m ≤ lo ∨ lo + n ≤ k) (hk : k + m ≤ 32) :
    bits (withBits w lo n v) k m = bits w k m := by
  refine Nat.eq_of_testBit_eq fun j => ?_
  rw [bits, bits, Nat.testBit_mod_two_pow, Nat.testBit_shiftRight, Nat.testBit_mod_two_pow, Nat.testBit_shiftRight]
  by_cases hj : j < m
  · rw [← BitVec.getLsbD, ← BitVec.getLsbD, getLsbD_withBits _ _ _ _ _ (by omega), if_neg (by omega)]
  · simp [hj]

/-- A counter of `n` bits counts up and stays at its greatest value. -/
theorem State.fld_countFld_same {s : State} (h : s.regsWf) (a : Nat) {lo n : Nat} (hn : lo + n ≤ 32) (k : Nat) :
    (s.countFld a lo n k).fld a lo n = min (s.fld a lo n + k) (2 ^ n - 1) := by
  rw [State.fld, State.reg_countFld_same h, bits_withBits_same _ hn]
  have := Nat.two_pow_pos n
  omega

theorem State.fld_countFld_other {s : State} (h : s.regsWf) (a : Nat) {lo n k m : Nat} (hd : k + m ≤ lo ∨ lo + n ≤ k)
    (hk : k + m ≤ 32) (j : Nat) : (s.countFld a lo n j).fld a k m = s.fld a k m := by
  rw [State.fld, State.reg_countFld_same h, bits_withBits_other _ hd hk, State.fld]

theorem bits_half (w : Word) : bits w 0 16 = w.toNat % 65536 ∧ bits w 16 16 = w.toNat / 65536 := by
  refine ⟨bits_low w 16, ?_⟩
  have := w.isLt
  rw [bits, Nat.shiftRight_eq_div_pow, Nat.mod_eq_of_lt (by omega)]

/-! ### The register of a channel -/

section
variable (s : State) (c : Nat)

theorem crcWidth_eq : crcWidth (s.reg (CC_CFG c)) = s.crcBits c := by rw [crcWidth, bits_low]; rfl

theorem crcMask_eq : crcMask (s.reg (CC_CFG c)) = BitVec.ofNat 32 (2 ^ s.crcBits c - 1) := by
  rw [crcMask, crcWidth_eq, maskAt, Nat.shiftLeft_zero]

/-- The order in which the bits of a value are fed (R291). -/
theorem crcOrder_eq (cfg w : Word) (n : Nat) : crcOrder cfg w n = feedBits (cfg.getLsbD 8) w n := by
  unfold crcOrder feedBits bit
  dsimp only
  split
  · rfl
  · refine List.ext_getElem (by simp) fun j h1 h2 => ?_
    simp

theorem crcFeed_eq (poly v w : Word) (n : Nat) : crcFeed (s.reg (CC_CFG c)) poly v w n =
    crcAfter (s.crcBits c) poly v (feedBits ((s.reg (CC_CFG c)).getLsbD 8) w n) := by
  rw [crcFeed, crcOrder_eq, crcAfter]
  refine congrArg (fun g => List.foldl g v _) (funext fun a => funext fun b => ?_)
  rw [crcBit, crcMask_eq, crcWidth_eq]

/-- Without REFOUT the result is the register, inverted by XOROUT and masked (R290). -/
theorem State.ccResult_plain {s : State} {c : Nat} (h : (s.reg (CC_CFG c)).getLsbD 9 = false) : s.ccResult c =
    (s.reg (CC_STATE c) ^^^ s.reg (CC_XOROUT c)) &&& BitVec.ofNat 32 (2 ^ s.crcBits c - 1) := by
  rw [State.ccResult, crcResult, crcMask_eq, bit, h, if_neg Bool.false_ne_true]

/-! ### A check (R292) -/

/-- A check that agrees is counted. -/
theorem State.ccCheck_match {s : State} {c : Nat} (h : s.ccMatches c = true) : s.ccCheck c = s.countFld (CC_CNT c) 0 16 1 := by
  rw [State.ccCheck, h, if_pos rfl]

/-- What a check that does not agree writes. -/
theorem State.ccCheck_mismatch_regs {s : State} {c : Nat} (h : s.ccMatches c = false) : (s.ccCheck c).regs =
    (((s.countFld (CC_CNT c) 0 16 1).setFlag (CC_FLAGS c) 0).countFld (CC_CNT c) 16 16 1).regs := by
  rw [State.ccCheck, h, if_neg Bool.false_ne_true]
  split <;> rfl

/-- A check writes the counter and the flags of its channel. -/
theorem State.ccCheck_reg_other {a : Nat} (hc : a ≠ CC_CNT c) (hf : a ≠ CC_FLAGS c) : (s.ccCheck c).reg a = s.reg a := by
  cases h : s.ccMatches c with
  | true => rw [State.ccCheck_match h, State.reg_countFld_other _ hc]
  | false =>
    rw [State.reg, State.ccCheck_mismatch_regs h, ← State.reg, State.reg_countFld_other _ hc, State.reg_setFlag_other _ hf,
      State.reg_countFld_other _ hc]

theorem State.ccCheck_smem : (s.ccCheck c).smem = s.smem := by
  unfold State.ccCheck
  dsimp only
  split
  · rfl
  · split <;> rfl

theorem State.ccCheck_rings : (s.ccCheck c).rings = s.rings := by
  unfold State.ccCheck
  dsimp only
  split
  · rfl
  · split <;> rfl

/-- A check raises at most an event in a thread. -/
theorem State.ccCheck_signalled (u : Tid) : (s.th u).Signalled ((s.ccCheck c).th u) := by
  unfold State.ccCheck
  dsimp only
  split
  · exact Thread.Signalled.refl _
  · split
    · exact State.hwEvent_signalled _ _ _ u
    · exact Thread.Signalled.refl _

theorem State.regsWf_ccCheck {s : State} (h : s.regsWf) (c : Nat) : (s.ccCheck c).regsWf := by
  cases hm : s.ccMatches c with
  | true => rw [State.ccCheck_match hm]; exact State.regsWf_countFld h _ _ _ _
  | false =>
    rw [State.regsWf, State.ccCheck_mismatch_regs hm]
    exact State.regsWf_countFld (State.regsWf_setFlag (State.regsWf_countFld h _ _ _ _) _ _) _ _ _ _

/-- The checks counted, saturating at 16 bits. -/
theorem State.ccCheck_checks {s : State} (h : s.regsWf) (c : Nat) :
    (s.ccCheck c).fld (CC_CNT c) 0 16 = min (s.fld (CC_CNT c) 0 16 + 1) 65535 := by
  have hone := State.fld_countFld_same h (CC_CNT c) (lo := 0) (n := 16) (by omega) 1
  cases hm : s.ccMatches c with
  | true => rw [State.ccCheck_match hm]; exact hone
  | false =>
    rw [State.fld, State.reg, State.ccCheck_mismatch_regs hm, ← State.reg, ← State.fld,
      State.fld_countFld_other (State.regsWf_setFlag (State.regsWf_countFld h _ _ _ _) _ _) _ (by omega) (by omega),
      State.fld, State.reg_setFlag_other _ (by unfold CC_CNT CC_FLAGS; omega), ← State.fld]
    exact hone

/-- A mismatch sets MISMATCH and is counted. -/
theorem State.ccCheck_mismatch {s : State} (h : s.regsWf) {c : Nat} (hm : s.ccMatches c = false) :
    ((s.ccCheck c).reg (CC_FLAGS c)).getLsbD 0 = true ∧
      (s.ccCheck c).fld (CC_CNT c) 16 16 = min (s.fld (CC_CNT c) 16 16 + 1) 65535 := by
  have hwf := State.regsWf_countFld h (CC_CNT c) 0 16 1
  have hne : CC_FLAGS c ≠ CC_CNT c := by unfold CC_CNT CC_FLAGS; omega
  constructor
  · rw [State.reg, State.ccCheck_mismatch_regs hm, ← State.reg, State.reg_countFld_other _ hne, State.reg_setFlag_same hwf,
      BitVec.getLsbD_or]
    simp [flagW]
  · rw [State.fld, State.reg, State.ccCheck_mismatch_regs hm, ← State.reg, ← State.fld,
      State.fld_countFld_same (State.regsWf_setFlag hwf _ _) _ (by omega), State.fld, State.reg_setFlag_other _ hne.symm, ← State.fld,
      State.fld_countFld_other h _ (by omega) (by omega)]
    rfl

end

/-! ### The two instructions -/

section
variable {s0 : State} {i : Issue}

/-- An access in issue order whose posted writes left its thread where it was (R45). -/
theorem exec_of_busInOrder {c : Instr} {body : State → IssueRes} {s' : State} {f : Thread → Thread} (h : s0.issues i)
    (hc : exec c s0 = .next (s0.issue i c fun s => s.busInOrder i.thread body))
    (hst : (((s0.touched i.thread).drainPosted i.thread).th i.thread).st = .run)
    (hpc : (((s0.touched i.thread).drainPosted i.thread).th i.thread).pc = (s0.th i.thread).pc)
    (hb : body ((s0.touched i.thread).drainPosted i.thread) = .th s' i.thread f) :
    exec c s0 = .next (s'.setTh i.thread (f (s'.th i.thread))) :=
  exec_of_done h hc (by
    rw [State.busInOrder, if_pos ⟨hst, hpc.trans (by rw [State.touched_th_acc])⟩, hb]
    rfl)

end

/-- CRCW on a channel that no transfer feeds (R51, R291). -/
theorem crcwBody_feeds {s : State} {f : AFields} (t : Tid) (hfn : f.fn.toNat < 24) (hrd : f.rd = 0) (hrb : f.rb = 0)
    (hfed : s.ccFed (f.fn.toNat % 8) = false) : crcwBody t f s =
      .th (s.ccFeed (f.fn.toNat % 8) ((s.th t).rg f.ra) (8 * 2 ^ (f.fn.toNat / 8))) t Thread.advance := by
  have hc : (f.fn.extractLsb' 0 3).toNat = f.fn.toNat % 8 := fn_low f.fn 3
  have hw : (f.fn.extractLsb' 3 2).toNat = f.fn.toNat / 8 := by
    rw [BitVec.extractLsb'_toNat, Nat.shiftRight_eq_div_pow]; omega
  have hhi : f.fn.extractLsb' 5 9 = 0 := BitVec.eq_of_toNat_eq (by simp [Nat.shiftRight_eq_div_pow]; omega)
  unfold crcwBody
  dsimp only
  rw [hc, hw, if_neg (by simp [hhi, hrd, hrb]; omega), hfed]
  rfl

/-- CRCF on a channel that no transfer feeds (R51, R292). -/
theorem crcfBody_reads {s : State} {f : AFields} (t : Tid) (hfn : f.fn.toNat < 8 ∨ 32 ≤ f.fn.toNat ∧ f.fn.toNat < 40)
    (hra : f.ra = 0) (hrb : f.rb = 0) (hfed : s.ccFed (f.fn.toNat % 8) = false) : crcfBody t f s =
      .th (if f.fn.getLsbD 5 then (s.ccCheck (f.fn.toNat % 8)).ccInit (f.fn.toNat % 8) else s.ccCheck (f.fn.toNat % 8)) t
        fun x => { (x.setRg f.rd (s.ccResult (f.fn.toNat % 8))).advance with z := s.ccMatches (f.fn.toNat % 8) } := by
  have hc : (f.fn.extractLsb' 0 3).toNat = f.fn.toNat % 8 := fn_low f.fn 3
  have hmid : f.fn.extractLsb' 3 2 = 0 := BitVec.eq_of_toNat_eq (by simp [Nat.shiftRight_eq_div_pow]; omega)
  have hhi : f.fn.extractLsb' 6 8 = 0 := BitVec.eq_of_toNat_eq (by simp [Nat.shiftRight_eq_div_pow]; omega)
  unfold crcfBody
  dsimp only
  rw [hc, if_neg (by simp [hhi, hmid, hra, hrb]), hfed]
  rfl

/-- INIT taken by the register of a channel (R290). -/
theorem State.ccInit_reg {s : State} (h : s.regsWf) (c : Nat) : (s.ccInit c).reg (CC_STATE c) =
    s.reg (CC_INIT c) &&& BitVec.ofNat 32 (2 ^ s.crcBits c - 1) := by
  rw [State.ccInit, State.reg_setReg_same h, crcMask_eq]

/-- What a check with or without a reload of INIT leaves of the state beside registers: a thread may have an event raised. -/
theorem State.ccCheck_then_init (s : State) (c : Nat) (init : Bool) :
    let s' := if init then (s.ccCheck c).ccInit c else s.ccCheck c
    (∀ u, (s.th u).Signalled (s'.th u)) ∧ s'.smem = s.smem ∧ s'.rings = s.rings := by
  cases init <;> exact ⟨State.ccCheck_signalled s c, State.ccCheck_smem s c, State.ccCheck_rings s c⟩

/-- A write of CCn_CTRL with CHECK alone (R292). -/
theorem exec_check (s : State) (c : Fin 8) {v : Word} (h : v.toNat % 2 = 0) : exec (.check c v) s = .next (s.ccCheck c) := by
  have h0 : bit (v ||| 2) 0 = false := by rw [bit, BitVec.getLsbD_or, getLsbD_eq_div]; simp [h]
  have h1 : bit (v ||| 2) 1 = true := by rw [bit, BitVec.getLsbD_or]; simp
  change Host.Outcome.next (s.writeCcCtrl c (v ||| 2)) = _
  rw [State.writeCcCtrl, h0, h1]
  rfl

/-- A write of CCn_CTRL with INITNOW alone (R290). -/
theorem exec_initnow (s : State) (c : Fin 8) {v : Word} (h : v.toNat / 2 % 2 = 0) :
    exec (.initnow c v) s = .next (s.ccInit c) := by
  have h0 : bit (v ||| 1) 0 = true := by rw [bit, BitVec.getLsbD_or]; simp
  have h1 : bit (v ||| 1) 1 = false := by rw [bit, BitVec.getLsbD_or, getLsbD_eq_div]; simp [h]
  change Host.Outcome.next (s.writeCcCtrl c (v ||| 1)) = _
  rw [State.writeCcCtrl, h0, h1]
  rfl

end Sys2Proof.Machine

/-- Settles O17: the feed is R290's division bit by bit, a check writes the counter and the flags alone. -/
theorem checkValuesAreFedReadAndChecked : Obligations.CheckValuesAreFedReadAndChecked := by
  constructor
  · intro s0 i f h c n s x hs hst hpc mask hfed
    obtain ⟨hregs, -⟩ := hs
    constructor
    · intro hfn hrd hrb
      refine ⟨s.ccFeed c (x.rg f.ra) n, ?_, rfl, ?_, fun a ha => State.reg_setReg_other _ ha⟩
      · exact exec_of_busInOrder h rfl hst hpc (crcwBody_feeds _ hfn hrd hrb hfed)
      · rw [State.ccFeed, State.reg_setReg_same hregs, crcFeed_eq]
    · intro hfn hra hrb hrefout r
      have hinit : (s.ccCheck c).reg (CC_INIT c) = s.reg (CC_INIT c) :=
        State.ccCheck_reg_other s c (by unfold CC_INIT CC_CNT; omega) (by unfold CC_INIT CC_FLAGS; omega)
      have hcfg : (s.ccCheck c).reg (CC_CFG c) = s.reg (CC_CFG c) :=
        State.ccCheck_reg_other s c (by unfold CC_CFG CC_CNT; omega) (by unfold CC_CFG CC_FLAGS; omega)
      have hstate : (s.ccCheck c).reg (CC_STATE c) = s.reg (CC_STATE c) :=
        State.ccCheck_reg_other s c (by unfold CC_STATE CC_CNT; omega) (by unfold CC_STATE CC_FLAGS; omega)
      have hr : s.ccResult c = r := State.ccResult_plain hrefout
      have hmatch : s.ccMatches c = decide (r = s.reg (CC_EXPECT c) &&& mask) := by
        rw [State.ccMatches, hr, crcMask_eq]
        exact beq_eq_decide _ _
      have hbit : f.fn.getLsbD 5 = decide (32 ≤ f.fn.toNat) := by
        rw [BitVec.getLsbD, Nat.testBit_eq_decide_div_mod_eq]
        exact decide_eq_decide.mpr (by omega)
      obtain ⟨hth, hmem, hrings⟩ := State.ccCheck_then_init s c (f.fn.getLsbD 5)
      obtain ⟨e, m, hx, -⟩ := hth i.thread
      refine ⟨_, _, exec_of_busInOrder h rfl hst hpc (crcfBody_reads _ hfn hra hrb hfed), fun q => ?_, ?_, ?_, fun h32 => ?_,
        fun h8 => ?_, hmem, hrings⟩
      · rw [hr]
        refine (Thread.rg_setRg _ f.rd q r).trans ?_
        rw [Thread.rg_congr (congrArg Thread.g hx) q]
        rfl
      · exact hmatch
      · have hpc' := congrArg Thread.pc hx
        exact congrArg (· + 4) ((Thread.setRg_pc _ _ _).trans hpc')
      · rw [hbit, decide_eq_true h32, if_pos rfl, State.ccInit_reg (State.regsWf_ccCheck hregs c), hinit, State.crcBits, hcfg]
        rfl
      · rw [hbit, decide_eq_false (by omega), if_neg Bool.false_ne_true, hstate]
  · intro s c v hs mask
    obtain ⟨hregs, -⟩ := hs
    refine ⟨fun hv => ?_, fun hv => ?_, ?_⟩
    · refine ⟨_, exec_check s c hv, State.ccCheck_rings s c, ?_, ?_, fun hm => ?_, fun hm => ?_⟩
      · exact State.ccCheck_reg_other s c (by unfold CC_STATE CC_CNT; omega) (by unfold CC_STATE CC_FLAGS; omega)
      · rw [← (bits_half _).1, ← (bits_half _).1]
        exact State.ccCheck_checks hregs c
      · rw [State.ccCheck_match hm]
        exact ⟨rfl, State.reg_countFld_other _ (by unfold CC_FLAGS CC_CNT; omega)⟩
      · rw [← (bits_half _).2, ← (bits_half _).2]
        exact State.ccCheck_mismatch hregs hm
    · exact ⟨_, exec_initnow s c hv, rfl, State.ccInit_reg hregs c, fun a ha => State.reg_setReg_other _ ha⟩
    · refine ⟨_, rfl, ?_, fun hfed => ?_, fun hfed => ?_⟩
      · unfold State.writeCcState
        split <;> rfl
      · rw [State.writeCcState, hfed]
        exact ⟨State.reg_setReg_same hregs _ _, fun a ha => State.reg_setReg_other _ ha⟩
      · rw [State.writeCcState, hfed, if_pos rfl]
        refine ⟨?_, fun a ha => State.reg_setFlag_other _ ha⟩
        rw [State.reg_setFlag_same hregs, BitVec.getLsbD_or]
        simp [flagW]
end

section
/-! PROOF. Soundness of the state (R25, R35, R45): what it rests on,
and the operations on the state, rings and operations in flight that keep it. -/

open Sys2Proof Sys2Proof.Machine

namespace Sys2Proof.Machine

variable {s : State} {x : Thread}

/-! ### What soundness rests on -/

/-- Soundness speaks of five parts of the state alone: a change of any other part keeps it. -/
theorem State.sound.keep {s t : State} (h : s.sound)
    (hsame : (t.regs, t.smem, t.pstore, t.nv.snap, t.threads) = (s.regs, s.smem, s.pstore, s.nv.snap, s.threads)) :
    t.sound := by
  obtain ⟨hregs, hsmem, hpstore, hsnap, hthreads⟩ : t.regs = s.regs ∧ t.smem = s.smem ∧ t.pstore = s.pstore ∧
      t.nv.snap = s.nv.snap ∧ t.threads = s.threads := by simpa only [Prod.mk.injEq] using hsame
  unfold State.sound State.regsWf State.th at *
  rw [hregs, hsmem, hpstore, hsnap, hthreads]
  exact h

/-- So it does of three parts of a thread. -/
theorem Thread.sound.keep {x y : Thread} (h : x.sound) (hsame : (y.mem, y.rstack, y.posted) = (x.mem, x.rstack, x.posted)) :
    y.sound := by
  obtain ⟨hmem, hrstack, hposted⟩ : y.mem = x.mem ∧ y.rstack = x.rstack ∧ y.posted = x.posted := by
    simpa only [Prod.mk.injEq] using hsame
  unfold Thread.sound at *
  rw [hmem, hrstack, hposted]
  exact h

/-- The state an instruction of a thread completes, traps or asks for a fill with is sound. -/
def IssueRes.sound : IssueRes → Prop
  | .done s => s.sound
  | .fill s _ => s.sound
  | .trap s _ _ _ => s.sound
  | .wait _ _ => True
  | .refetch _ => True

/-- The next state of a command that answers is sound. -/
def outSound : Out → Prop
  | .next s => s.sound
  | _ => True

theorem State.sound.ite {c : Prop} [Decidable c] {a b : State} (ha : a.sound) (hb : b.sound) :
    (if c then a else b).sound := by
  split
  · exact ha
  · exact hb

theorem State.sound.dite {c : Prop} [Decidable c] {a : c → State} {b : ¬ c → State} (ha : ∀ hc, (a hc).sound)
    (hb : ∀ hc, (b hc).sound) : (if hc : c then a hc else b hc).sound := by
  split
  · exact ha _
  · exact hb _

theorem Thread.sound.ite {c : Prop} [Decidable c] {a b : Thread} (ha : a.sound) (hb : b.sound) :
    (if c then a else b).sound := by
  split
  · exact ha
  · exact hb

theorem IssueRes.sound.ite {c : Prop} [Decidable c] {a b : IssueRes} (ha : a.sound) (hb : b.sound) :
    (if c then a else b).sound := by
  split
  · exact ha
  · exact hb

theorem State.sound.of_fst {α : Type} {p : State × α} {s : State} {x : α} (h : p.1.sound) (e : p = (s, x)) : s.sound := by
  rwa [e] at h

theorem State.sound.of_snd {α : Type} {p : α × State} {s : State} {x : α} (h : p.2.sound) (e : p = (x, s)) : s.sound := by
  rwa [e] at h

theorem State.sound.ite_fst {α : Type} {c : Prop} [Decidable c] {p q : State × α} (hp : p.1.sound) (hq : q.1.sound) :
    (if c then p else q).1.sound := by
  split
  · exact hp
  · exact hq

theorem State.sound.ite_snd {α : Type} {c : Prop} [Decidable c] {p q : α × State} (hp : p.2.sound) (hq : q.2.sound) :
    (if c then p else q).2.sound := by
  split
  · exact hp
  · exact hq

theorem State.sound.dite_snd {α : Type} {c : Prop} [Decidable c] {p : c → α × State} {q : ¬ c → α × State}
    (hp : ∀ hc, (p hc).2.sound) (hq : ∀ hc, (q hc).2.sound) : (if hc : c then p hc else q hc).2.sound := by
  split
  · exact hp _
  · exact hq _

theorem State.sound.ite_state {c : Prop} [Decidable c] {a b : Exec} (ha : a.state.sound) (hb : b.state.sound) :
    (if c then a else b).state.sound := by
  split
  · exact ha
  · exact hb

/-- The program store written anew. -/
theorem State.sound.withStore {s : State} (h : s.sound) {m : Mem} (hm : Memory.wf m) : { s with pstore := m }.sound := by
  obtain ⟨hregs, hsmem, -, hrest⟩ := h
  exact ⟨hregs, hsmem, hm, hrest⟩

/-- The shared memory written anew. -/
theorem State.sound.withShared {s : State} (h : s.sound) {m : Mem} (hm : Memory.wf m) : { s with smem := m }.sound := by
  obtain ⟨hregs, -, hrest⟩ := h
  exact ⟨hregs, hm, hrest⟩

/-- A fold keeps what each of its steps keeps. -/
theorem State.sound.foldl {α : Type} {f : State → α → State} (hf : ∀ s a, s.sound → (f s a).sound) {l : List α}
    {s : State} (h : s.sound) : (l.foldl f s).sound := by
  induction l generalizing s with
  | nil => exact h
  | cons a l ih => exact ih (hf s a h)

theorem State.sound.foldl_fst {α β : Type} {f : State × β → α → State × β}
    (hf : ∀ r a, r.1.sound → (f r a).1.sound) {l : List α} {r : State × β} (h : r.1.sound) : (l.foldl f r).1.sound := by
  induction l generalizing r with
  | nil => exact h
  | cons a l ih => exact ih (hf r a h)

/-- A register write, whatever the register. -/
theorem State.sound.setReg {s : State} (h : s.sound) {a : Nat} {w : Word} : (s.setReg a w).sound := by
  obtain ⟨hregs, hrest⟩ := h
  exact ⟨State.regsWf_setReg hregs a w, hrest⟩

theorem State.sound.th {s : State} (h : s.sound) {t : Tid} : (s.th t).sound := by
  obtain ⟨-, -, -, -, hth⟩ := h
  exact hth t

theorem State.sound.setTh {s : State} (h : s.sound) {t : Tid} {x : Thread} (hx : x.sound) : (s.setTh t x).sound := by
  obtain ⟨hregs, hsmem, hpstore, hsnap, hth⟩ := h
  refine ⟨hregs, hsmem, hpstore, hsnap, fun u => ?_⟩
  by_cases hu : u = t
  · subst hu
    rw [State.th_setTh_same]
    exact hx
  · rw [State.th_setTh_other _ _ hu]
    exact hth u

theorem State.sound.modTh {s : State} (h : s.sound) {t : Tid} {f : Thread → Thread} (hf : ∀ x, x.sound → (f x).sound) :
    (s.modTh t f).sound := h.setTh (hf _ h.th)

theorem State.sound_reset : State.reset.sound := by unfold State.sound Thread.sound; decide +kernel

/-! ### Registers, faults and thread transitions -/

theorem State.sound.setFld (h : s.sound) {a lo n v : Nat} : (s.setFld a lo n v).sound := h.setReg

theorem State.sound.setFlag (h : s.sound) {a i : Nat} : (s.setFlag a i).sound := h.setReg

theorem State.sound.countFld (h : s.sound) {a lo n k : Nat} : (s.countFld a lo n k).sound := h.setFld

theorem State.sound.writeFields (h : s.sound) {a : Nat} {v : Word} : (s.writeFields a v).sound := by
  unfold State.writeFields
  split
  · exact h
  · exact h.setReg

theorem State.sound.advance (h : s.sound) {dt : Nat} : (s.advance dt).sound := .ite (h.keep rfl) h

theorem State.sound.advanceTo (h : s.sound) {t : Nat} : (s.advanceTo t).sound := h.advance

theorem State.sound.freeW (h : s.sound) : s.freeW.2.sound := h.keep rfl

theorem Thread.sound.setRg (hx : x.sound) {i : BitVec 4} {w : Word} : (x.setRg i w).sound := .ite hx (hx.keep rfl)

theorem Thread.sound.noteMet {now : Nat} (hx : x.sound) : (Thread.noteMet now x).sound := .ite (hx.keep rfl) hx

theorem State.sound.setEvents (h : s.sound) {t : Tid} {m : Word} : (s.setEvents t m).sound :=
  h.modTh (fun _ hx4 => (hx4.keep (by rfl)).noteMet)

theorem State.sound.hwEvent (h : s.sound) {t : Tid} {b : Nat} : (s.hwEvent t b).sound := h.setEvents

theorem State.sound.raiseRouted (h : s.sound) {w : Word} : (s.raiseRouted w).sound := .ite h.hwEvent h

theorem State.sound.logFault (h : s.sound) {cls source detail : Nat} {tb : Word} :
    (s.logFault cls source detail tb).sound := by
  unfold State.logFault
  extract_lets _ _ s1 _ s2 s3 s4
  have h1 : s1.sound := .ite h.countFld h
  have h2 : s2.sound := h1.keep rfl
  have h3 : s3.sound := h2.setReg
  have h4 : s4.sound := h3.setReg
  exact h4.setFld.setFld

theorem State.sound.noteFault (h : s.sound) {cls : Nat} : (s.noteFault cls).sound := by
  unfold State.noteFault
  extract_lets s1 s2
  have h1 : s1.sound := h.setFlag
  have h2 : s2.sound := h1.countFld
  exact h2.raiseRouted

theorem State.sound.fault (h : s.sound) {cls source detail : Nat} : (s.fault cls source detail).sound := h.logFault.noteFault

theorem State.sound.takeTrap (h : s.sound) {t : Tid} {cause arg : Nat} {retPc : Word} {addr : Option Word} :
    (s.takeTrap t cause arg retPc addr).sound := by
  unfold State.takeTrap
  split
  next w s1 e =>
    have h1 : s1.sound := by
      cases addr with
      | none => exact h.freeW.of_snd e
      | some a => exact State.sound.of_snd (p := (a, s)) h e
    exact .ite (h1.setTh (h1.th.keep (by rfl))) (h1.setTh (h1.th.keep (by rfl))).fault

theorem State.sound.enterRefetch (h : s.sound) {t : Tid} {line : Nat} : (s.enterRefetch t line).sound := by
  unfold State.enterRefetch
  extract_lets s1 s2 _ s3 _
  have h1 : s1.sound := h.modTh (fun _ hx5 => hx5.keep rfl)
  have h2 : s2.sound := h1.fault
  have h3 : s3.sound := .ite h2 (h2.keep rfl)
  exact .ite (h3.keep rfl) h3

theorem State.sound.enterWait (h : s.sound) {t : Tid} {i : Instr} {code : BitVec 4} {dl xl : Option Nat} :
    (s.enterWait t i code dl xl).sound := h.modTh (fun _ hx4 => hx4.keep rfl)

theorem Thread.sound.resume (hx : x.sound) : x.resume.sound := hx.keep rfl

theorem Thread.sound.halt (hx : x.sound) {src : BitVec 3} : (x.halt src).sound := by
  unfold Thread.halt
  split
  · exact hx.keep rfl
  · exact hx.keep rfl
  · exact hx.keep rfl
  · exact hx

theorem State.sound.haltTh (h : s.sound) {t : Tid} {src : BitVec 3} : (s.haltTh t src).sound :=
  h.modTh (fun _ hx4 => hx4.halt)

theorem Thread.sound.start (hx : x.sound) : x.start.sound := by
  unfold Thread.start
  split
  · exact hx.keep rfl
  · exact hx.keep rfl
  · exact hx.keep rfl
  · exact hx

theorem State.sound.startTh (h : s.sound) {t : Tid} : (s.startTh t).sound := h.modTh (fun _ hx4 => hx4.start)

theorem State.sound.forThreads {f : State → Tid → State} (hf : ∀ s t, s.sound → (f s t).sound) (h : s.sound) :
    (s.forThreads f).sound := .foldl hf h

/-! ### Rings -/

theorem State.sound.setRing (h : s.sound) {n : RingNo} {r : Ring} : (s.setRing n r).sound := h.keep rfl

theorem State.sound.modRing (h : s.sound) {n : RingNo} {f : Ring → Ring} : (s.modRing n f).sound := h.setRing

theorem State.sound.dropWords (h : s.sound) {n : RingNo} {k : Nat} : (s.dropWords n k).sound := h.countFld

theorem State.sound.malform (h : s.sound) {n : RingNo} : (s.malform n).sound := h.setFlag

theorem State.sound.watermark (h : s.sound) {n : RingNo} {old new : Nat} : (s.watermark n old new).sound := by
  unfold State.watermark
  extract_lets _
  exact .ite h.setFlag.countFld.raiseRouted h

theorem State.sound.appendWord (h : s.sound) {n : RingNo} {w : RWord} : (s.appendWord n w).sound := by
  unfold State.appendWord
  extract_lets _
  exact h.modRing.watermark

theorem State.sound.endOrphan (h : s.sound) {n : RingNo} {p : Producer} : (s.endOrphan n p).sound := h.modRing

theorem State.sound.putFirst (h : s.sound) {n : RingNo} {p : Producer} {w : RWord} : (s.putFirst n p w).sound := by
  unfold State.putFirst
  extract_lets s1 s2 _ s3 s4
  have h1 : s1.sound := .ite h.malform h
  have h2 : s2.sound := h1.endOrphan
  have h3 : s3.sound := .ite h2.modRing h2.modRing
  have h4 : s4.sound := .ite h3.malform h3
  exact h4.appendWord

theorem State.sound.putNext (h : s.sound) {n : RingNo} {p : Producer} {o : OpenItem} {w : RWord} :
    (s.putNext n p o w).sound := by
  unfold State.putNext
  extract_lets _ s1 s2
  have h1 : s1.sound := .ite h.modRing h.modRing
  have h2 : s2.sound := .ite h1.malform h1
  exact h2.appendWord

theorem State.sound.putOrphan (h : s.sound) {n : RingNo} {p : Producer} {o : OpenItem} {w : RWord} :
    (s.putOrphan n p o w).sound := by
  unfold State.putOrphan
  extract_lets _ s1
  have h1 : s1.sound := h.dropWords
  exact .ite h1.endOrphan h1.modRing

theorem State.sound.ringPut (h : s.sound) {n : RingNo} {p : Producer} {w : RWord} : (s.ringPut n p w).sound := by
  unfold State.ringPut
  refine .ite h.putFirst ?_
  split
  · exact h.putOrphan
  · split
    · exact .ite h.putNext h.dropWords.malform
    · exact h.dropWords.malform

theorem State.sound.ringPutAll (h : s.sound) {n : RingNo} {p : Producer} {ws : List RWord} :
    (s.ringPutAll n p ws).sound := by
  induction ws generalizing s with
  | nil => exact h
  | cons w ws ih => exact ih h.ringPut

theorem State.sound.ringTake (h : s.sound) {n : RingNo} {bad : Bool} {w : RWord} {t : State}
    (e : s.ringTake n bad = some (w, t)) : t.sound := by
  unfold State.ringTake at e
  split at e
  · cases e
  · obtain ⟨-, rfl⟩ := Prod.mk.inj (Option.some.inj e)
    exact .ite h.modRing.setFlag.countFld.fault h.modRing

theorem State.sound.discardRing (h : s.sound) {n : RingNo} : (s.discardRing n).sound := by
  unfold State.discardRing
  extract_lets s1
  have h1 : s1.sound := h.dropWords
  exact h1.modRing

theorem State.sound.flushRing (h : s.sound) {n : RingNo} : (s.flushRing n).sound := h.discardRing.setFlag

theorem State.sound.enableRing (h : s.sound) {n : RingNo} {v : Word} : (s.enableRing n v).sound := by
  unfold State.enableRing
  extract_lets _
  exact .ite h (.ite h.setReg.modRing h.setReg.setFlag)

theorem State.sound.disableRing (h : s.sound) {n : RingNo} {v : Word} : (s.disableRing n v).sound := by
  unfold State.disableRing
  extract_lets s1
  have h1 : s1.sound := .ite h.flushRing h
  exact h1.setReg

theorem State.sound.writeRingCfg (h : s.sound) {n : RingNo} {v : Word} : (s.writeRingCfg n v).sound :=
  .ite h.enableRing h.disableRing

/-! ### Operations in flight -/

theorem State.sound.modUp (h : s.sound) {p : UPortNo} {f : UPort → UPort} : (s.modUp p f).sound := h.keep rfl

theorem State.sound.modHp (h : s.sound) {p : HPortNo} {f : HPort → HPort} : (s.modHp p f).sound := h.keep rfl

theorem State.sound.modOp (h : s.sound) {o : OpId} {f : Op → Op} : (s.modOp o f).sound := h.keep rfl

theorem State.sound.setEng (h : s.sound) {o : OpId} {e : Engine} : (s.setEng o e).sound := h.modOp

theorem State.sound.setSlot (h : s.sound) {o : OpId} {y : Slot} : (s.setSlot o y).sound :=
  h.modTh (fun _ hx4 => (hx4.keep (by rfl)).noteMet)

theorem State.sound.drainItem (h : s.sound) {n : RingNo} {o : OpId} {ws : List RWord} : (s.drainItem n o ws).1.sound := by
  induction ws generalizing s with
  | nil => exact h
  | cons w ws ih =>
    rw [State.drainItem]
    exact .ite_fst h.dropWords.modOp (.ite_fst h (ih h.ringPut.modOp))

theorem Memory.wf_memStoreAll {m : Mem} (h : Memory.wf m) (a : Nat) (ws : List RWord) : Memory.wf (memStoreAll m a ws) := by
  induction ws generalizing m a with
  | nil => exact h
  | cons w ws ih => exact ih (Memory.wf_setWord (Memory.wf_setWord h _ _) _ _) _

theorem State.sound.storeResult (h : s.sound) {t : Tid} {a : Nat} {ws : List RWord} : (s.storeResult t a ws).sound := by
  refine .ite (h.modTh fun x hx => ?_) ?_
  · obtain ⟨hmem, hrest⟩ := hx
    exact ⟨Memory.wf_memStoreAll hmem a ws, hrest⟩
  · obtain ⟨-, hsmem, -⟩ := id h
    exact h.withShared (Memory.wf_memStoreAll hsmem _ ws)

theorem State.sound.emit (h : s.sound) {o : OpId} {type status : Nat} {body : List RWord} :
    (s.emit o type status body).sound := by
  unfold State.emit
  split
  · exact h
  · extract_lets _ _ s1
    have h1 : s1.sound := h.storeResult
    refine .ite (.ite h.modOp h1.modOp) (.ite h.dropWords ?_)
    split
    next s2 _ e =>
      have h2 : s2.sound := (State.sound.ite_fst h.drainItem h).of_fst e
      exact h2.modOp

theorem State.sound.carrierOff (h : s.sound) {p : UPortNo} : (s.carrierOff p).sound := h.modUp

theorem State.sound.releaseUp (h : s.sound) {o : OpId} {p : UPortNo} : (s.releaseUp o p).sound := .ite h.modUp h.carrierOff

theorem State.sound.relevel (h : s.sound) {p : UPortNo} : (s.relevel p).sound := by
  unfold State.relevel
  extract_lets _ _ s1
  have h1 : s1.sound := .ite h.setFlag h
  exact .ite h h1.modUp

theorem State.sound.releaseSpares (h : s.sound) {op : Op} : (s.releaseSpares op).sound := by
  unfold State.releaseSpares
  extract_lets s1 s2
  have h1 : s1.sound := h.keep rfl
  have h2 : s2.sound := .foldl (fun _ _ h6 => h6.modUp.relevel) h1
  exact .ite (.foldl (fun _ _ h4 => h4.modHp) h2) h

theorem State.sound.releaseListen (h : s.sound) {op : Op} : (s.releaseListen op).sound := by
  unfold State.releaseListen
  extract_lets _ _ s1 _ _
  have h1 : s1.sound := h.keep rfl
  exact h1.keep rfl

theorem State.sound.leaveSolve (h : s.sound) {o : OpId} : (s.leaveSolve o).sound := by
  unfold State.leaveSolve
  extract_lets _ _ _
  exact h.keep rfl

theorem State.sound.dutyAdd (h : s.sound) {k : Fin 4} {us : Nat} : (s.dutyAdd k us).sound := h.keep rfl

theorem State.sound.dutyFrame (h : s.sound) {op : Op} : (s.dutyFrame op).sound := by
  unfold State.dutyFrame
  split
  · exact h.dutyAdd
  · exact h

theorem State.sound.release (h : s.sound) {op : Op} : (s.release op).sound := by
  unfold State.release
  extract_lets s1 s2 s3 s4 s5
  have h1 : s1.sound :=
    .ite (.foldl (fun _ _ h9 => h9.releaseUp) h)
        (.ite ((State.sound.foldl (fun _ _ h11 => h11.carrierOff) h).dutyFrame)
            (.ite (.foldl (fun _ _ h13 => h13.carrierOff) h) h))
  have h2 : s2.sound := .ite (.foldl (fun _ _ h7 => h7.modHp) h1) h1
  have h3 : s3.sound := h2.releaseSpares
  have h4 : s4.sound := .ite h3.releaseListen h3
  have h5 : s5.sound := h4.leaveSolve
  exact h5.keep rfl

theorem State.sound.finishOp (h : s.sound) {op : Op} {status : Nat} : (s.finishOp op status).sound := by
  unfold State.finishOp
  extract_lets s1 s2 s3 _
  have h1 : s1.sound := .ite h h.release
  have h2 : s2.sound := h1.keep rfl
  have h3 : s3.sound := h2.countFld
  exact .ite h3.setSlot h3.setSlot

theorem State.sound.letGo (h : s.sound) {o : OpId} {status : Nat} : (s.letGo o status).sound := by
  unfold State.letGo
  split
  · exact h
  · exact .ite h.release.modOp h

theorem State.sound.endOp (h : s.sound) {o : OpId} {status : Nat} : (s.endOp o status).sound := by
  unfold State.endOp
  split
  · exact h
  · split
    · exact .ite h.modOp.letGo h
    · extract_lets s1
      have h1 : s1.sound := .ite h.emit h
      split
      · exact h1
      · exact .ite h1.finishOp h1.modOp.letGo

theorem State.sound.restatus (h : s.sound) {o : OpId} {status : Nat} : (s.restatus o status).sound := by
  unfold State.restatus
  extract_lets _ s1 s2 _
  have h1 : s1.sound := h.setFld
  have h2 : s2.sound := h1.countFld
  exact .ite h2.setSlot h

theorem State.sound.endPending (h : s.sound) {o : OpId} {status : Nat} : (s.endPending o status).sound := by
  unfold State.endPending
  split
  · exact h
  · exact h.finishOp

theorem State.sound.cancelOp (h : s.sound) {o : OpId} : (s.cancelOp o).sound := by
  unfold State.cancelOp
  split
  · exact h
  · exact .ite h.endPending (.ite h (.ite h.modOp.endOp h.modOp))

theorem State.sound.cancelAll (h : s.sound) {os : List OpId} : (s.cancelAll os).sound := .foldl (fun _ _ h4 => h4.cancelOp) h

theorem State.sound.muteBeam (h : s.sound) {op : Op} : (s.muteBeam op).sound := .foldl (fun _ _ h4 => h4.carrierOff) h

theorem State.sound.killOp (h : s.sound) {o : OpId} {status : Nat} : (s.killOp o status).sound := by
  unfold State.killOp
  split
  · exact h.restatus
  · exact .ite (((State.sound.ite h h.muteBeam).endOp).letGo) h

theorem State.sound.killAll (h : s.sound) {p : Op → Bool} {status : Nat} : (s.killAll p status).sound :=
  .foldl (fun _ _ h4 => h4.killOp) h

theorem State.sound.resetTh (h : s.sound) {t : Tid} : (s.resetTh t).sound := by
  refine State.sound.cancelAll (h.modTh fun x hx => ?_)
  obtain ⟨hmem, -, hposted⟩ := hx
  exact ⟨hmem, Nat.zero_le _, hposted⟩

theorem State.sound.writeThCtrl (h : s.sound) {t : Tid} {v : Word} : (s.writeThCtrl t v).sound := by
  unfold State.writeThCtrl
  extract_lets s1 s2 s3
  have h1 : s1.sound := h.modTh (fun _ hx5 => hx5.keep rfl)
  have h2 : s2.sound := .ite h1.resetTh h1
  have h3 : s3.sound := .ite h2.haltTh h2
  exact .ite h3.startTh h3

/-! ### HF ports -/

theorem State.sound.hfTurnOn (h : s.sound) {op : Op} {p : HPortNo} : (s.hfTurnOn op p).sound := by
  unfold State.hfTurnOn
  extract_lets s1 _ _ _
  have h1 : s1.sound := .ite h.setFlag h
  exact h1.modHp

theorem State.sound.hfTurnOff (h : s.sound) {p : HPortNo} : (s.hfTurnOff p).sound := h.modHp

theorem State.sound.hfTo (h : s.sound) {op : Op} : (s.hfTo op).sound :=
  .foldl (fun _ _ h4 => .ite h4.hfTurnOn h4.hfTurnOff) h

theorem State.sound.hfAhead (h : s.sound) : s.hfAhead.sound := .foldl (fun _ _ h4 => h4.hfTo) h

theorem State.sound.hfRemove (h : s.sound) {p : HPortNo} : (s.hfRemove p).sound := by
  unfold State.hfRemove
  extract_lets _ s1
  have h1 : s1.sound := .ite h.setFlag h
  exact h1.hfTurnOff

theorem State.sound.hfRemoveAll (h : s.sound) : s.hfRemoveAll.sound := .foldl (fun _ _ h4 => h4.hfRemove) h

end Sys2Proof.Machine

end

section
/-! PROOF. The instructions of a thread and the timers keep the state sound. -/

open Sys2Proof Sys2Proof.Machine

namespace Sys2Proof.Machine

variable {s : State} {x : Thread}

/-! ### The issue of an instruction -/

theorem Thread.sound.advance (hx : x.sound) : x.advance.sound := hx.keep rfl

theorem Thread.sound.result (hx : x.sound) {rd : BitVec 4} {r : Word} {c v : Option Bool} : (x.result rd r c v).sound := by
  unfold Thread.result
  extract_lets x1
  have hx1 : x1.sound := hx.setRg
  exact hx1.keep rfl

theorem State.sound.illegal (h : s.sound) : (illegal s).sound := h

theorem State.sound.issueTh (h : s.sound) {t : Tid} {f : Thread → Thread} (hf : ∀ y0, y0.sound → (f y0).sound) :
    (IssueRes.th s t f).sound := h.modTh (fun _ hx4 => hf _ hx4)

theorem State.sound.touchLine (h : s.sound) {line : Nat} : (s.touchLine line).sound := h.keep rfl

theorem State.sound.touched (h : s.sound) {t : Tid} : (s.touched t).sound := .ite h.touchLine h

theorem State.sound.requestFill (h : s.sound) {line : Nat} : (s.requestFill line).sound := .ite h (h.keep rfl)

theorem State.sound.settle (h : s.sound) {t : Tid} {ins : Instr} {r : IssueRes} (hr : r.sound) :
    (s.settle t ins r).sound := by
  cases r with
  | done s' => exact hr
  | wait code dl => exact h.enterWait
  | fill s' line => exact State.sound.enterWait (State.sound.requestFill hr)
  | trap s' cause arg addr => exact State.sound.takeTrap hr
  | refetch line => exact h.enterRefetch

theorem State.sound.dropLine (h : s.sound) {line : Nat} : (s.dropLine line).sound := (h.keep (by rfl)).setFlag

theorem State.sound.awaitFetch (h : s.sound) {t : Tid} {line : Nat} : (s.awaitFetch t line).sound :=
  h.requestFill.modTh (fun _ hx4 => hx4.keep rfl)

theorem State.sound.issue (h : s.sound) {i : Issue} {ins : Instr} {body : State → IssueRes}
    (hbody : ∀ y0, y0.sound → (body y0).sound) : (s.issue i ins body).sound := by
  unfold State.issue
  extract_lets x1
  exact .ite h (.ite h.enterRefetch (.ite h.takeTrap
      (.ite h.awaitFetch (.ite h.dropLine.awaitFetch (h.touched.settle (hbody _ h.touched))))))

theorem State.sound.retry (h : s.sound) {t : Tid} {body : State → IssueRes} (hbody : ∀ s, s.sound → (body s).sound) :
    (s.retry t body).sound := by
  have h1 : (s.modTh t Thread.resume).sound := h.modTh fun _ hx => hx.resume
  have hr := hbody _ h1
  unfold State.retry
  extract_lets s1
  change (body s1).sound at hr
  generalize body s1 = r at hr ⊢
  cases r with
  | done s' => exact hr
  | wait code dl => exact h
  | fill s' line => exact h
  | trap s' cause arg addr => exact State.sound.takeTrap hr
  | refetch line => exact h1.enterRefetch

/-! ### ALU instructions -/

theorem State.sound.aluBody {t : Tid} {f : AFields} {op : Word → Word → Word × Option Bool × Option Bool} (h : s.sound) :
    (aluBody t f op s).sound := by
  unfold Machine.aluBody
  extract_lets x1 _
  exact .ite h.illegal (h.issueTh (fun _ hx3 => hx3.result))

theorem State.sound.immBody {t : Tid} {f : IFields} {op : Word → Word × Option Bool × Option Bool} (h : s.sound) :
    (immBody t f op s).sound := by
  unfold Machine.immBody
  extract_lets _
  exact h.issueTh (fun _ hx2 => hx2.result)

/-! ### Control instructions and waits -/

theorem State.sound.execB {i : Issue} {f : BFields} (h : s.sound) : outSound (execB i f s) := by
  unfold Machine.execB
  refine h.issue (fun _ h2 => ?_)
  extract_lets x3
  split
  · exact h2.illegal
  · exact h2.issueTh (fun _ hx5 => hx5.keep rfl)
  · exact h2.issueTh (fun _ hx7 => hx7.advance)

theorem State.sound.execCall {i : Issue} {f : BFields} (h : s.sound) : outSound (execCall i f s) := by
  refine h.issue fun s h => ?_
  dsimp only
  refine .ite h.illegal ?_
  split
  · exact h
  · next hfull =>
    obtain ⟨hmem, -, hposted⟩ := h.th (t := i.thread)
    refine h.setTh ⟨hmem, ?_, hposted⟩
    rw [List.length_cons]
    omega

theorem State.sound.execRet {i : Issue} {f : AFields} (h : s.sound) : outSound (execRet i f s) := by
  refine h.issue fun s h => ?_
  dsimp only
  refine .ite h.illegal (.ite (.ite h.illegal ?_) (.ite h.illegal (.ite h (h.issueTh fun _ hx => hx.keep rfl))))
  split
  · exact h
  · next a rest hstack =>
    obtain ⟨hmem, hrstack, hposted⟩ := h.th (t := i.thread)
    rw [hstack, List.length_cons] at hrstack
    exact h.setTh ⟨hmem, Nat.le_of_succ_le hrstack, hposted⟩

theorem State.sound.execTbr {i : Issue} {f : AFields} (h : s.sound) : outSound (execTbr i f s) :=
  h.issue (fun _ h6 => .ite h6.illegal (h6.issueTh (fun _ hx8 => hx8.setRg.setRg.advance)))

theorem State.sound.execSleepu {i : Issue} {f : IFields} (h : s.sound) : outSound (execSleepu i f s) := by
  unfold Machine.execSleepu
  refine h.issue (fun _ h2 => ?_)
  extract_lets _
  exact .ite h2.illegal (.ite (h2.issueTh (fun _ hx4 => hx4.advance)) trivial)

theorem State.sound.evwBody {t : Tid} {f : AFields} (h : s.sound) : (evwBody t f s).sound := by
  unfold Machine.evwBody
  extract_lets x1 _
  exact .ite h.illegal (.ite trivial (h.issueTh (fun _ hx3 => (hx3.keep (by rfl)).setRg.advance)))

theorem State.sound.execEvs {i : Issue} {f : AFields} (h : s.sound) : outSound (execEvs i f s) := by
  unfold Machine.execEvs
  refine h.issue (fun _ h2 => ?_)
  extract_lets x3 _ s4
  have h4 : s4.sound := .ite (h2.forThreads (fun _ _ h8 => h8.setEvents)) h2.setEvents
  exact .ite h2.illegal (h4.issueTh (fun _ hx6 => hx6.advance))

theorem Thread.sound.timedOut {ins : Instr} (hx : x.sound) : (timedOut ins x).sound := by
  unfold Machine.timedOut
  split
  · extract_lets x1
    have hx1 : x1.sound := hx.setRg
    exact hx1.keep rfl
  · extract_lets x2
    have hx2 : x2.sound := hx.setRg
    exact hx2.keep rfl
  · exact hx

theorem State.sound.timeUp (h : s.sound) {t : Tid} {ins : Instr} {d : Nat} : (s.timeUp t ins d).sound :=
  h.advanceTo.modTh (fun _ hx4 => hx4.resume.timedOut.advance)

theorem State.sound.expireWait (h : s.sound) {t : Tid} {code : BitVec 4} {body : Instr → State → IssueRes}
    (hbody : ∀ y0 y1, y1.sound → (body y0 y1).sound) : (s.expireWait t code body).sound := by
  unfold State.expireWait
  extract_lets x1
  split
  · exact .ite h (.ite (h.retry (fun _ h3 => hbody _ _ h3)) h.timeUp)
  · exact h

theorem State.sound.execEvwTimeout {t : Tid} (h : s.sound) : outSound (execEvwTimeout t s) := by
  refine h.expireWait fun ins s h => ?_
  split
  · exact h.evwBody
  · exact h.illegal

theorem State.sound.semRead (h : s.sound) {k : Fin 32} : (s.semRead k).2.sound := h.setReg

theorem State.sound.semWrite (h : s.sound) {k : Fin 32} {v : Word} : (s.semWrite k v).sound := h.setReg

theorem State.sound.execSemaphoreRead {k : Fin 32} (h : s.sound) : outSound (execSemaphoreRead k s) := by
  unfold Machine.execSemaphoreRead
  split
  next _ s1 e =>
    have h1 : s1.sound := h.semRead.of_snd e
    exact h1.keep rfl

/-! ### Memory, ticket and ring instructions -/

theorem State.sound.loadTo (h : s.sound) {t : Tid} {rd : BitVec 4} {w : Word} : (loadTo s t rd w).sound :=
  h.issueTh (fun _ hx4 => hx4.setRg.advance)

theorem State.sound.loadParity (h : s.sound) {t : Tid} {a : Word} : (loadParity s t a).sound := h.fault

theorem State.sound.ldBody {t : Tid} {bad : Bool} {f : IFields} (h : s.sound) : (ldBody t bad f s).sound := by
  unfold Machine.ldBody
  extract_lets x1 _
  refine .ite h (.ite (.ite h.loadParity h.loadTo)
      (.ite (.ite trivial h.loadTo) (.ite (.ite h.loadParity h.loadTo) (.ite ?_ h))))
  split
  · exact h
  · exact .ite h.dropLine h.touchLine.loadTo

theorem State.sound.stBody {t : Tid} {f : IFields} (h : s.sound) : (stBody t f s).sound := by
  refine .ite h (.ite (h.issueTh fun x hx => ?_) (.ite ?_ h))
  · obtain ⟨hmem, hrest⟩ := hx
    exact ⟨Memory.wf_setWord hmem _ _, hrest⟩
  · obtain ⟨-, hsmem, -⟩ := id h
    exact State.sound.issueTh (h.withShared (Memory.wf_setWord hsmem _ _)) fun _ hx => hx.advance

theorem Thread.sound.freeSlot (hx : x.sound) {k : BitVec 4} : (x.freeSlot k).sound := hx.keep rfl

theorem State.sound.waitkBody {t : Tid} {f : IFields} (h : s.sound) : (waitkBody t f s).sound := by
  unfold Machine.waitkBody
  extract_lets _
  refine .ite h.illegal ?_
  split
  · exact h
  · exact h.issueTh (fun _ hx2 => hx2.freeSlot.setRg.advance)
  · exact trivial
  · exact trivial

theorem State.sound.execTestk {i : Issue} {f : IFields} (h : s.sound) : outSound (execTestk i f s) := by
  unfold Machine.execTestk
  refine h.issue (fun _ h2 => ?_)
  extract_lets _
  refine .ite h2.illegal ?_
  split
  · refine h2.issueTh (fun _ hx4 => ?_)
    extract_lets x5
    have hx5 : x5.sound := hx4.freeSlot.setRg.advance
    exact hx5.keep rfl
  · refine h2.issueTh (fun _ hx7 => ?_)
    extract_lets x8
    have hx8 : x8.sound := hx7.advance
    exact hx8.keep rfl
  · refine h2.issueTh (fun _ hx10 => ?_)
    extract_lets x11
    have hx11 : x11.sound := hx10.advance
    exact hx11.keep rfl
  · refine h2.issueTh (fun _ hx13 => ?_)
    extract_lets x14
    have hx14 : x14.sound := hx13.advance
    exact hx14.keep rfl

theorem State.sound.waitanyBody {t : Tid} {f : IFields} (h : s.sound) : (waitanyBody t f s).sound := by
  unfold Machine.waitanyBody
  extract_lets x1 _
  refine .ite h.illegal (.ite h ?_)
  split
  · exact h.issueTh (fun _ hx3 => (hx3.keep (by rfl)).setRg.advance)
  · exact trivial

theorem State.sound.execWaitanyTimeout {t : Tid} (h : s.sound) : outSound (execWaitanyTimeout t s) := by
  refine h.expireWait fun ins s h => ?_
  split
  · exact h.waitanyBody
  · exact h.illegal

theorem State.sound.execCanck {i : Issue} {f : IFields} (h : s.sound) : outSound (execCanck i f s) := by
  unfold Machine.execCanck
  refine h.issue (fun _ h2 => .ite h2.illegal ?_)
  split
  · refine h2.cancelOp.issueTh (fun _ hx4 => ?_)
    extract_lets x5
    have hx5 : x5.sound := hx4.advance
    exact hx5.keep rfl
  · refine h2.cancelOp.issueTh (fun _ hx7 => ?_)
    extract_lets x8
    have hx8 : x8.sound := hx7.advance
    exact hx8.keep rfl
  · refine h2.issueTh (fun _ hx10 => ?_)
    extract_lets x11
    have hx11 : x11.sound := hx10.advance
    exact hx11.keep rfl
  · refine h2.issueTh (fun _ hx13 => ?_)
    extract_lets x14
    have hx14 : x14.sound := hx13.advance
    exact hx14.keep rfl

theorem State.sound.pushBody {t : Tid} {f : AFields} (h : s.sound) : (pushBody t f s).sound := by
  unfold Machine.pushBody
  extract_lets _ _
  exact .ite h.illegal (.ite h (.ite trivial (h.ringPut.issueTh (fun _ hx2 => hx2.advance))))

theorem Thread.sound.popped (hx : x.sound) {rd : BitVec 4} {w : RWord} : (x.popped rd w).sound := by
  unfold Thread.popped
  extract_lets x1
  have hx1 : x1.sound := hx.setRg.setRg.advance
  exact hx1.keep rfl

theorem State.sound.popBody {t : Tid} {bad : Bool} {f : AFields} (h : s.sound) : (popBody t bad f s).sound := by
  unfold Machine.popBody
  extract_lets _
  refine .ite h.illegal (.ite h ?_)
  split
  · next _ s1 e =>
      have h1 : s1.sound := h.ringTake e
      exact h1.issueTh (fun _ hx3 => hx3.popped)
  · exact .ite trivial (.ite (h.setFlag.issueTh (fun _ hx5 => hx5.popped)) (h.issueTh (fun _ hx7 => hx7.popped)))

/-! ### Check values -/

theorem State.sound.ccFeed (h : s.sound) {c : Nat} {w : Word} {n : Nat} : (s.ccFeed c w n).sound := h.setReg

theorem State.sound.ccInit (h : s.sound) {c : Nat} : (s.ccInit c).sound := h.setReg

theorem State.sound.ccCheck (h : s.sound) {c : Nat} : (s.ccCheck c).sound := by
  unfold State.ccCheck
  extract_lets _ _ s1 s2
  have h1 : s1.sound := h.countFld
  have h2 : s2.sound := h1.setFlag.countFld
  exact .ite h1 (.ite h2.hwEvent h2)

theorem State.sound.modXf (h : s.sound) {y : Fin 4} {f : Xfer → Xfer} : (s.modXf y f).sound := h.keep rfl

theorem State.sound.writeXfCfg (h : s.sound) {y : Fin 4} {v : Word} : (s.writeXfCfg y v).sound := by
  unfold State.writeXfCfg
  extract_lets _ s1
  have h1 : s1.sound := h.setReg
  exact .ite (.ite h1 h1.modXf) h1.modXf

theorem State.sound.xfRequest (h : s.sound) {y : Fin 4} : (s.xfRequest y).sound := by
  unfold State.xfRequest
  extract_lets _
  exact .ite h (.ite (.ite h.countFld h.modXf) (.ite h.countFld h.modXf))

theorem State.sound.feedWord (h : s.sound) {c : Nat} {d : DWord} : (s.feedWord c d).sound := h.ccFeed.ccFeed

theorem State.sound.xfWords (h : s.sound) {x : Fin 4} {bad : List Bool} {k : Nat} : (s.xfWords x bad k).1.sound := by
  induction k generalizing s bad with
  | zero => exact h
  | succ k ih =>
    rw [State.xfWords]
    refine .ite_fst h ?_
    split
    · exact h
    · next w s1 e =>
      extract_lets s2 s3
      have h1 : s1.sound := h.ringTake e
      have h2 : s2.sound := .ite h1.feedWord h1
      have h3 : s3.sound := .ite h2.ringPut h2
      exact .ite_fst h3 (ih h3)

theorem State.sound.xfEnd (h : s.sound) {y : Fin 4} {check : Bool} : (s.xfEnd y check).sound := by
  unfold State.xfEnd
  extract_lets _ _ s1 s2
  have h1 : s1.sound := .ite h.ccCheck h
  have h2 : s2.sound := h1.modXf
  exact .ite h2.xfRequest h2

theorem State.sound.xfMove (h : s.sound) {y : Fin 4} {bad : List Bool} : (s.xfMove y bad).sound := by
  unfold State.xfMove
  extract_lets _ _ _ s1 s2
  have h1 : s1.sound := .ite h.ccInit h
  have h2 : s2.sound := h1.modXf
  refine .ite h (.ite h.xfEnd (.ite h (.ite h (.ite h ?_))))
  split
  next s3 _ e =>
    have h3 : s3.sound := h2.xfWords.of_fst e
    exact .ite h3.xfEnd h3

theorem State.sound.crcwBody {t : Tid} {f : AFields} (h : s.sound) : (crcwBody t f s).sound := by
  unfold Machine.crcwBody
  extract_lets _ _
  exact .ite h.illegal (.ite h (h.ccFeed.issueTh (fun _ hx2 => hx2.advance)))

theorem State.sound.crcfBody {t : Tid} {f : AFields} (h : s.sound) : (crcfBody t f s).sound := by
  unfold Machine.crcfBody
  extract_lets _ _ _ s1 s2
  have h1 : s1.sound := h.ccCheck
  have h2 : s2.sound := .ite h1.ccInit h1
  refine .ite h.illegal (.ite h (h2.issueTh (fun _ hx4 => ?_)))
  extract_lets x5
  have hx5 : x5.sound := hx4.setRg.advance
  exact hx5.keep rfl

theorem State.sound.writeCcCtrl (h : s.sound) {c : Nat} {v : Word} : (s.writeCcCtrl c v).sound := by
  unfold State.writeCcCtrl
  extract_lets s1
  have h1 : s1.sound := .ite h.ccCheck h
  exact .ite h1.ccInit h1

theorem State.sound.writeCcState (h : s.sound) {c : Nat} {v : Word} : (s.writeCcState c v).sound := .ite h.setFlag h.setReg

/-! ### Timers -/

theorem State.sound.modTu (h : s.sound) {u : Fin 8} {f : TuSt → TuSt} : (s.modTu u f).sound := h.keep rfl

theorem State.sound.syncCount (h : s.sound) {u : Fin 8} : (s.syncCount u).sound := by
  unfold State.syncCount
  extract_lets _
  exact h.setReg.modTu

theorem State.sound.syncTimers (h : s.sound) : s.syncTimers.sound := .foldl (fun _ _ h4 => h4.syncCount) h

theorem State.sound.setLimp (h : s.sound) {limp : Bool} : (s.setLimp limp).sound := by
  unfold State.setLimp
  extract_lets _ s1 _ _
  have h1 : s1.sound := h.syncTimers
  exact h1.keep rfl

theorem State.sound.setRun (h : s.sound) {u : Fin 8} {on : Bool} : (s.setRun u on).sound := by
  unfold State.setRun
  extract_lets s1
  have h1 : s1.sound := h.syncCount
  exact h1.setFld

theorem State.sound.capture (h : s.sound) {u : Fin 8} {k : Fin 2} {rising : Bool} : (s.capture u k rising).sound := by
  unfold State.capture
  extract_lets _ _ s1 s2 s3 _ _ s4
  have h1 : s1.sound := .ite h.setFlag h
  have h2 : s2.sound := h1.setFlag
  have h3 : s3.sound := h2.setReg
  have h4 : s4.sound := h3.setReg
  exact .ite h2.setReg.modTu (.ite h4.setFlag h4)

theorem State.sound.hkTrigger (h : s.sound) : s.hkTrigger.sound := .ite (h.keep rfl) (h.keep rfl)

theorem State.sound.tuAction (h : s.sound) {u : Fin 8} {a : Nat} : (s.tuAction u a).sound := by
  unfold State.tuAction
  split
  · exact h.setRun
  · exact .ite h.capture h
  · exact .ite h.capture h
  · exact h.setRun

theorem State.sound.routeOne (h : s.sound) {w : Word} : (s.routeOne w).1.sound := by
  unfold State.routeOne
  extract_lets _
  split
  · exact h.hkTrigger
  · split
    · exact h.xfRequest
    · exact h
  · split
    · split
      · exact h
      · exact h.tuAction
    · exact h
  · exact h.hwEvent
  · exact h

theorem State.sound.routeAll (h : s.sound) {ws : List Word} : (s.routeAll ws).1.sound := by
  refine State.sound.foldl_fst (r := (s, [])) (fun r w h => ?_) h
  exact h.routeOne

theorem State.sound.matchAll (h : s.sound) {u : Fin 8} : (s.matchAll u).1.sound :=
  .foldl_fst (fun _ _ h => .ite_fst h.setFlag h) h

theorem State.sound.wrapUnit (h : s.sound) {u : Fin 8} : (s.wrapUnit u).1.sound := by
  unfold State.wrapUnit
  extract_lets s1 s2 s3
  have h1 : s1.sound := h.setReg.setFlag
  have h2 : s2.sound := .ite h1.setFlag h1
  have h3 : s3.sound := h2.modTu
  split
  next s4 _ e =>
    have h4 : s4.sound := h3.matchAll.of_fst e
    exact h4

theorem State.sound.countUnit (h : s.sound) {u : Fin 8} : (s.countUnit u).1.sound := by
  unfold State.countUnit
  extract_lets _
  split
  · exact h.wrapUnit
  · exact h.setReg.matchAll

theorem State.sound.runTimers (h : s.sound) {k : Nat} {l : List TuWork} : (s.runTimers k l).sound := by
  induction k generalizing s l with
  | zero => exact h
  | succ k ih =>
    cases l with
    | nil => exact h
    | cons w rest =>
      cases w with
      | event u ev =>
        rw [State.runTimers]
        exact ih h.routeAll
      | count u =>
        rw [State.runTimers]
        exact .ite (ih h.countUnit) (ih h)

theorem State.sound.execTimerWrap {u : Fin 8} (h : s.sound) : outSound (execTimerWrap u s) := by
  unfold Machine.execTimerWrap
  extract_lets _ s1
  have h1 : s1.sound := h.advanceTo.modTu
  refine .ite ?_ h
  split
  next s2 _ e =>
    have h2 : s2.sound := h1.wrapUnit.of_fst e
    exact h2.runTimers

theorem State.sound.execCompareMatch {u : Fin 8} {k : Fin 4} (h : s.sound) : outSound (execCompareMatch u k s) := by
  unfold Machine.execCompareMatch
  extract_lets _ _ s1
  have h1 : s1.sound := h.advanceTo.setFlag.modTu
  exact .ite h1.runTimers h

theorem State.sound.swcap (h : s.sound) {u : Fin 8} {k : Fin 2} : (s.swcap u k).sound := .ite h.capture.runTimers h

theorem State.sound.writeTuCtrl (h : s.sound) {u : Fin 8} {v : Word} : (s.writeTuCtrl u v).sound := by
  unfold State.writeTuCtrl
  extract_lets s1 s2 s3 s4
  have h1 : s1.sound := h.syncCount
  have h2 : s2.sound := h1.setReg
  have h3 : s3.sound := .ite h2.setReg.modTu h2
  have h4 : s4.sound := .ite h3.swcap h3
  exact .ite h4.swcap h4

theorem State.sound.writeReload (h : s.sound) {u : Fin 8} {v : Word} : (s.writeReload u v).sound := by
  unfold State.writeReload
  extract_lets s1
  have h1 : s1.sound := h.syncCount
  exact h1.setReg.modTu

theorem State.sound.writeCmp (h : s.sound) {u : Fin 8} {k : Fin 4} {v : Word} : (s.writeCmp u k v).sound := h.setReg.modTu

theorem State.sound.armTb (h : s.sound) : s.armTb.sound := .ite h.setFlag h.setFlag

theorem State.sound.applyOfs (h : s.sound) : s.applyOfs.sound := .ite (h.keep (by rfl)).setFld.setFlag h

end Sys2Proof.Machine

end

section
/-! PROOF. The HF port keeps the state sound. -/

open Sys2Proof Sys2Proof.Machine

namespace Sys2Proof.Machine

variable {s : State} {x : Thread}

/-! ### HF frames -/

theorem State.sound.hfSend (h : s.sound) {op : Op} {c : AirCmd} {close : Nat} : (s.hfSend op c close).sound := by
  unfold State.hfSend
  extract_lets _ _ _
  exact h.modOp

theorem State.sound.hfHoldOff (h : s.sound) {op : Op} {t : Nat} : (s.hfHoldOff op t).sound :=
  .foldl (fun _ _ h4 => h4.modHp) h

/-! ### HF operations -/

theorem State.sound.beginOp (h : s.sound) {o : OpId} {e : Engine} : (s.beginOp o e).sound := h.modOp

theorem State.sound.execHField {o : OpId} (h : s.sound) : outSound (execHField o s) := by
  unfold Machine.execHField
  split
  · exact h
  · extract_lets s1 s2 s3
    have h1 : s1.sound := .foldl (fun _ _ h9 => h9.hfTurnOn) h
    have h2 : s2.sound := .foldl (fun _ _ h7 => h7.modHp) h1
    have h3 : s3.sound := .foldl (fun _ _ h5 => h5.hfTurnOff) h
    exact .ite h2.beginOp.modOp h3.beginOp.advance.endOp

theorem State.sound.hfTake (h : s.sound) {op : Op} : (s.hfTake op).sound := by
  unfold State.hfTake
  extract_lets _ _ s1
  have h1 : s1.sound := .foldl (fun _ _ h3 => h3.hfTurnOn) h
  exact h1.modOp

theorem State.sound.execHWatch {o : OpId} (h : s.sound) : outSound (execHWatch o s) := by
  unfold Machine.execHWatch
  split
  · exact h
  · extract_lets s1
    have h1 : s1.sound := .foldl (fun _ _ h3 => h3.hfTurnOff.modHp) h
    exact h1.beginOp.modOp

theorem State.sound.actEnd (h : s.sound) {o : OpId} {a : ActSt} : (s.actEnd o a).sound := by
  unfold State.actEnd
  split
  · exact h
  · exact h.setEng.endOp

theorem State.sound.actGo (h : s.sound) {o : OpId} {a : ActSt} : (s.actGo o a).sound := by
  unfold State.actGo
  split
  · exact h
  · extract_lets _ s1 s2 _
    have h1 : s1.sound := h.setEng
    have h2 : s2.sound := h1.hfSend
    exact .ite h.actEnd (.ite h.setEng (.ite (.ite h2.advanceTo.actEnd h2.hfHoldOff.hfSend) h1.hfSend))

theorem State.sound.actNext (h : s.sound) {o : OpId} {op : Op} {a : ActSt} : (s.actNext o op a).sound := by
  unfold State.actNext
  split
  · exact h.actGo
  · exact h.actEnd

theorem State.sound.actFail (h : s.sound) {op : Op} {a : ActSt} {got : List Byte} : (s.actFail op a got).sound := by
  unfold State.actFail
  extract_lets _ _
  split
  · exact h.actGo
  · exact h.actNext
  · exact State.sound.actNext (.ite h.emit h)

theorem State.sound.actCard (h : s.sound) {op : Op} {a : ActSt} {uid : List Byte} {last : Byte} :
    (s.actCard op a uid last).sound := h.emit

theorem State.sound.actTypeA (h : s.sound) {op : Op} {a : ActSt} {r : HfReply} : (s.actTypeA op a r).sound := by
  unfold State.actTypeA
  extract_lets _ _
  split
  split
  · split
    · exact .ite h.actGo h.actFail
    · exact .ite h.actGo h.actFail
  · exact .ite h.actFail (.ite h.actGo h.actCard.actNext)
  · exact .ite h.actGo h.actFail

theorem State.sound.actTypeB (h : s.sound) {op : Op} {a : ActSt} {r : HfReply} {got : List Byte} :
    (s.actTypeB op a r got).sound := by
  unfold State.actTypeB
  extract_lets _ _
  split
  · exact .ite h.actNext h.actFail
  · exact .ite h.actCard.actNext h.actFail
  · exact .ite h.actNext (.ite (.ite h.actGo h.actCard.actGo) h.actFail)

theorem State.sound.actTypeV (h : s.sound) {op : Op} {a : ActSt} {r : HfReply} {got : List Byte} :
    (s.actTypeV op a r got).sound := by
  unfold State.actTypeV
  extract_lets _ _
  split
  · exact .ite h.actCard.actNext h.actFail
  · exact .ite h.actNext (.ite (.ite h.actGo h.actCard.actNext) h.actFail)

theorem State.sound.actReply (h : s.sound) {op : Op} {a : ActSt} {r : HfReply} {got : List Byte} {cut : Bool} :
    (s.actReply op a r got cut).sound := by
  unfold State.actReply
  extract_lets _
  refine .ite h.actFail ?_
  split
  · exact h.actTypeA
  · exact h.actTypeB
  · exact h.actTypeV

theorem State.sound.actSilence (h : s.sound) {op : Op} {a : ActSt} : (s.actSilence op a).sound := by
  unfold State.actSilence
  split
  · exact h.actEnd
  · exact h.actNext
  · exact h.actNext
  · exact h.actFail

theorem State.sound.execHActivate {o : OpId} (h : s.sound) : outSound (execHActivate o s) := by
  unfold Machine.execHActivate
  split
  · exact h
  · extract_lets _ s1
    have h1 : s1.sound := h.hfTake.beginOp.modOp
    exact .ite h1.actGo h1

theorem State.sound.execHFrame {o : OpId} {parityErr : Bool} (h : s.sound) : outSound (execHFrame o parityErr s) := by
  unfold Machine.execHFrame
  split
  · exact h
  · extract_lets _ s1
    have h1 : s1.sound := h.hfTake.beginOp.modOp
    exact .ite h.fault.endOp (.ite h1.hfSend h1)

theorem State.sound.frameReply (h : s.sound) {op : Op} {r : HfReply} {bs : List Byte} {cut : Bool} :
    (s.frameReply op r bs cut).sound := by
  unfold State.frameReply
  split
  extract_lets _ _ _ s1
  have h1 : s1.sound := h.emit
  exact h1.endOp

theorem State.sound.frameSilence (h : s.sound) {op : Op} : (s.frameSilence op).sound := by
  unfold State.frameSilence
  extract_lets s1
  have h1 : s1.sound := .ite h.emit h
  exact h1.endOp

theorem State.sound.execHfFieldSettled {o : OpId} (h : s.sound) : outSound (execHfFieldSettled o s) := by
  unfold Machine.execHfFieldSettled
  split
  · exact h
  · split
    · exact h.advanceTo.endOp
    · exact h.advanceTo.modOp.actGo
    · exact h.advanceTo.modOp.hfSend
    · exact h

theorem State.sound.execHfReplyReceived {o : OpId} {dt : Nat} {r : HfReply} (h : s.sound) :
    outSound (execHfReplyReceived o dt r s) := by
  unfold Machine.execHfReplyReceived
  split
  · exact h
  · extract_lets s1 _
    have h1 : s1.sound := h.advance
    refine .ite h1 ?_
    split
    · exact h1
    · split
      · exact h1.hfHoldOff.modOp.actReply
      · exact h1.hfHoldOff.modOp.frameReply
      · exact h1.hfHoldOff.modOp

theorem State.sound.execHfReplyWindowClose {o : OpId} (h : s.sound) : outSound (execHfReplyWindowClose o s) := by
  unfold Machine.execHfReplyWindowClose
  split
  · exact h
  · extract_lets s1
    have h1 : s1.sound := h.advanceTo.modOp
    refine .ite h ?_
    split
    · exact h1.actSilence
    · exact h1.frameSilence
    · exact h1

theorem State.sound.setBase (h : s.sound) {p : HPortNo} {i q : Int} : (s.setBase p i q).sound := h.setReg

theorem State.sound.watchStep (h : s.sound) {p : HPortNo} {y : WatchSample} {m : Nat} : (s.watchStep p y m).1.sound := by
  unfold State.watchStep
  extract_lets _ _ _ _ _ _ _ _ s1
  have h1 : s1.sound := h.setReg
  split
  · split
    · exact h1.modHp
    · split
      · exact h1.setBase.countFld.modHp
      · exact h1.modHp
  · split
    · split
      next _ s2 e =>
        have h2 : s2.sound := h1.freeW.of_snd e
        exact h2.setBase.modHp
    · split
      · exact h1.countFld.modHp
      · exact h1.modHp

theorem State.sound.watchPort (h : s.sound) {p : HPortNo} {y : WatchSample} : (s.watchPort p y).1.sound := by
  unfold State.watchPort
  extract_lets _ _ _
  split
  · exact h.countFld
  · split
    · exact h.setBase.modHp
    · split
      next s1 _ e =>
        have h1 : s1.sound := h.watchStep.of_fst e
        exact h1

theorem State.sound.watchScan (h : s.sound) {o : OpId} {k n : Nat} {l : List (HPortNo × WatchSample)} :
    (s.watchScan o k n l).1.sound := by
  induction l generalizing s k n with
  | nil => exact h
  | cons c rest ih =>
    obtain ⟨p, x⟩ := c
    rw [State.watchScan]
    split
    · next s1 e =>
      exact ih (h.watchPort.of_fst e)
    · next s1 m e =>
      have h1 : s1.sound := h.watchPort.of_fst e
      exact ih h1.emit.raiseRouted

theorem State.sound.execHfWatchScan {o : OpId} {xs : List WatchSample} (h : s.sound) :
    outSound (execHfWatchScan o xs s) := by
  unfold Machine.execHfWatchScan
  split
  · exact h
  · refine .ite h ?_
    split
    · extract_lets s1
      have h1 : s1.sound := h.advanceTo
      split
      next s2 _ e =>
        have h2 : s2.sound := h1.watchScan.of_fst e
        exact .ite h2.setEng.endOp h2.setEng
    · exact h

theorem State.sound.writeWatchCfg (h : s.sound) {v : Word} : (s.writeWatchCfg v).sound := by
  unfold State.writeWatchCfg
  extract_lets s1
  have h1 : s1.sound := h.writeFields
  exact .ite (.foldl (fun _ _ h3 => h3.modHp) h1) h1

theorem State.sound.hfMark (h : s.sound) {p : HPortNo} {kind : Nat} : (s.hfMark p kind).sound := by
  unfold State.hfMark
  extract_lets s1
  have h1 : s1.sound := h.setFld.countFld
  exact h1.setFlag.modHp.fault

theorem State.sound.hfFault (h : s.sound) {p : HPortNo} {kind : Nat} : (s.hfFault p kind).sound := by
  unfold State.hfFault
  extract_lets s1 s2
  have h1 : s1.sound := h.hfMark
  have h2 : s2.sound := .ite h.hfTurnOff h.hfRemove
  refine .ite ?_ h2.killAll.hfMark
  split
  · exact .ite h1.countFld.endOp h1
  · exact h1

theorem State.sound.execHfPortFault {p : HPortNo} {m : HfSense} (h : s.sound) : outSound (execHfPortFault p m s) := by
  unfold Machine.execHfPortFault
  refine .ite ?_ h
  split
  · exact .ite h h.hfFault
  · exact h

theorem State.sound.hfClear (h : s.sound) {p : HPortNo} : (s.hfClear p).sound := h.modHp

theorem State.sound.execHfFaultProbe {p : HPortNo} {pass : Bool} (h : s.sound) : outSound (execHfFaultProbe p pass s) := by
  unfold Machine.execHfFaultProbe
  extract_lets _
  exact .ite (.ite h.modHp (.ite h.hfClear h.modHp)) h

theorem State.sound.writeHpFault (h : s.sound) {p : HPortNo} {v : Word} : (s.writeHpFault p v).sound := by
  unfold State.writeHpFault
  extract_lets s1
  have h1 : s1.sound := h.writeFields
  exact .ite h1.hfClear h1

theorem State.sound.writeHpCtrl (h : s.sound) {p : HPortNo} {v : Word} : (s.writeHpCtrl p v).sound := by
  unfold State.writeHpCtrl
  extract_lets _ s1
  have h1 : s1.sound := h.writeFields
  exact .ite h1.hfFault h1

end Sys2Proof.Machine

end

section
/-! PROOF. The UHF ports and the operations of the air engine keep the state sound. -/

open Sys2Proof Sys2Proof.Machine

namespace Sys2Proof.Machine

variable {s : State} {x : Thread}

/-! ### UHF carriers -/

theorem State.sound.latchPort (h : s.sound) {p : UPortNo} : (s.latchPort p).sound := h.modUp

theorem State.sound.latchBeam (h : s.sound) {p : UPortNo} : (s.latchBeam p).sound := h.modUp

theorem State.sound.dpdCheck (h : s.sound) {op : Op} {p : UPortNo} : (s.dpdCheck op p).sound := by
  unfold State.dpdCheck
  extract_lets _ _ _ s1
  have h1 : s1.sound := h.modUp
  exact .ite h1.setFlag h1

theorem State.sound.listenSettle (h : s.sound) {o : OpId} : (s.listenSettle o).sound := by
  unfold State.listenSettle
  split
  · exact h
  · split
    · extract_lets _ _ _
      exact .ite h.countFld.endOp (.ite h.countFld.endOp (.ite h.endOp h))
    · exact h

theorem State.sound.settleListens (h : s.sound) : s.settleListens.sound := .foldl (fun _ _ h4 => h4.listenSettle) h

theorem State.sound.dropReceptions (h : s.sound) {p : Recep → Bool} : (s.dropReceptions p).sound :=
  (h.keep (by rfl)).settleListens

theorem State.sound.startTrims (h : s.sound) {p : UPortNo} : (s.startTrims p).sound := by
  unfold State.startTrims
  extract_lets _
  exact .ite h h.setFld.setFld

theorem State.sound.rampDown (h : s.sound) {p : UPortNo} : (s.rampDown p).sound := h.modUp

theorem State.sound.carrierUp (h : s.sound) {op : Op} {freq at_ : Nat} {p : UPortNo} :
    (s.carrierUp op freq at_ p).sound := by
  unfold State.carrierUp
  extract_lets x on
  refine .ite h.carrierOff ?_
  split
  next lv cl e =>
    have h1 : (if cl then s.setFlag (UP_FLAGS p) 1 else s).sound := .ite h.setFlag h
    exact State.sound.relevel (.modUp (.modUp (.ite h1.dropReceptions h1.dropReceptions.startTrims)))

theorem State.sound.beamOff (h : s.sound) {op : Op} : (s.beamOff op).sound := .foldl (fun _ _ h4 => h4.carrierOff) h

theorem State.sound.uhfRemoveAll (h : s.sound) : s.uhfRemoveAll.sound := .foldl (fun _ _ h4 => h4.carrierOff) h

theorem State.sound.loMute (h : s.sound) {n : LoNo} : (s.loMute n).sound := by
  unfold State.loMute
  refine .foldl (fun _ _ h2 => ?_) h
  split
  · exact .ite h2.carrierOff h2
  · exact h2

theorem State.sound.countClips (h : s.sound) {p : UPortNo} {n : Nat} : (s.countClips p n).sound := h.countFld

theorem State.sound.execAgcStepDown {p : UPortNo} {clips : Nat} (h : s.sound) : outSound (execAgcStepDown p clips s) := by
  unfold Machine.execAgcStepDown
  extract_lets _ s1
  have h1 : s1.sound := h.countClips
  exact .ite h1.modUp h1

theorem State.sound.execAgcOverloadStep {p : UPortNo} {clips : Nat} (h : s.sound) :
    outSound (execAgcOverloadStep p clips s) := by
  unfold Machine.execAgcOverloadStep
  extract_lets _ s1 s2
  have h1 : s1.sound := h.countClips
  have h2 : s2.sound := h1.modUp.setFlag
  exact .ite (h2.keep rfl) h1

theorem State.sound.execCancellerTrimStep {p : UPortNo} {di dq : Int} {resid : Byte} (h : s.sound) :
    outSound (execCancellerTrimStep p di dq resid s) := by
  unfold Machine.execCancellerTrimStep
  extract_lets _ _ s1
  have h1 : s1.sound := .ite h h.setFld.setFld
  exact .ite h1.setFld.modUp h

theorem State.sound.uhfMark (h : s.sound) {p : UPortNo} {kind : Nat} : (s.uhfMark p kind).sound := by
  unfold State.uhfMark
  extract_lets s1
  have h1 : s1.sound := h.setFld.countFld
  exact h1.setFlag.modUp.fault

theorem State.sound.uhfFault (h : s.sound) {p : UPortNo} {kind : Nat} : (s.uhfFault p kind).sound := by
  unfold State.uhfFault
  extract_lets s1 s2
  have h1 : s1.sound := h.modUp.uhfMark
  have h2 : s2.sound := h.killAll
  refine .ite ?_ h2.carrierOff.uhfMark
  split
  · exact .ite h1.countFld.endOp h1
  · exact h1

theorem State.sound.execUhfPortFault {p : UPortNo} {m : UhfSense} (h : s.sound) : outSound (execUhfPortFault p m s) := by
  unfold Machine.execUhfPortFault
  refine .ite ?_ h
  split
  · exact .ite h h.uhfFault
  · exact h

theorem State.sound.uhfClear (h : s.sound) {p : UPortNo} : (s.uhfClear p).sound := h.modUp

theorem State.sound.execUhfFaultProbe {p : UPortNo} {pass : Bool} (h : s.sound) : outSound (execUhfFaultProbe p pass s) := by
  unfold Machine.execUhfFaultProbe
  extract_lets _
  exact .ite (.ite h.modUp (.ite h.uhfClear h.modUp)) h

theorem State.sound.writeUpFault (h : s.sound) {p : UPortNo} {v : Word} : (s.writeUpFault p v).sound := by
  unfold State.writeUpFault
  extract_lets s1
  have h1 : s1.sound := h.writeFields
  exact .ite h1.uhfClear h1

theorem State.sound.writeUpCtrl (h : s.sound) {p : UPortNo} {v : Word} : (s.writeUpCtrl p v).sound := by
  unfold State.writeUpCtrl
  extract_lets _ s1
  have h1 : s1.sound := h.writeFields
  exact .ite (.ite (.ite h1.carrierOff h1) h1.uhfFault) h1

/-! ### Synthesizers -/

theorem State.sound.modLo (h : s.sound) {n : LoNo} {f : Lo → Lo} : (s.modLo n f).sound := h.keep rfl

theorem State.sound.dropHoldovers (h : s.sound) {n : LoNo} {f : Nat} : (s.dropHoldovers n f).sound := by
  unfold State.dropHoldovers
  refine .foldl (fun _ _ h2 => ?_) h
  split
  · exact .ite h2.carrierOff h2
  · exact h2

theorem State.sound.loLoad (h : s.sound) {n : LoNo} : (s.loLoad n).sound := h.modLo

theorem State.sound.moveCarriers (h : s.sound) {n : LoNo} {f : Nat} : (s.moveCarriers n f).sound :=
  .foldl (fun _ _ h4 => h4.modUp) h

theorem State.sound.loSlew (h : s.sound) {n : LoNo} {f : Nat} : (s.loSlew n f).sound := h.modLo.loLoad.moveCarriers

theorem State.sound.loAlign (h : s.sound) {n : LoNo} {errs : List Int} : (s.loAlign n errs).sound := by
  unfold State.loAlign
  extract_lets _
  exact h.modLo

theorem State.sound.loRelock (h : s.sound) {n : LoNo} : (s.loRelock n).sound := by
  unfold State.loRelock
  extract_lets _ s1
  have h1 : s1.sound := h.modLo
  split <;> exact h1.modLo

theorem State.sound.loSearched (h : s.sound) {n : LoNo} {band : BitVec 7} : (s.loSearched n band).sound :=
  .ite h.setFlag.modLo h

theorem State.sound.loMove (h : s.sound) {n : LoNo} {f : Nat} : (s.loMove n f).sound := by
  unfold State.loMove
  extract_lets _ s1
  have h1 : s1.sound := h.dropHoldovers
  exact .ite h1 (.ite h1.loSlew h1.modLo.loRelock)

theorem State.sound.loGoto (h : s.sound) {n : LoNo} {f : Nat} : (s.loGoto n f).sound := .ite h.modLo h.loMove

theorem State.sound.loNext (h : s.sound) {n : LoNo} : (s.loNext n).sound := by
  unfold State.loNext
  split
  · exact h.modLo.loMove
  · exact h

theorem State.sound.loTune (h : s.sound) {n : LoNo} {v : Byte} : (s.loTune n v).sound := by
  unfold State.loTune
  extract_lets s1
  have h1 : s1.sound := h.modLo
  exact .ite h1.setFlag h1

theorem State.sound.startBeam (h : s.sound) {o : OpId} : (s.startBeam o).sound := by
  unfold State.startBeam
  split
  · exact h
  · extract_lets _ s1 _ s2
    have h1 : s1.sound := .foldl (fun _ _ h4 => .ite h4.modUp (.ite h4.rampDown h4.carrierOff)) h
    have h2 : s2.sound := h1.loGoto
    exact h2.modOp

theorem State.sound.beamSettled (h : s.sound) {o : OpId} : (s.beamSettled o).sound := by
  unfold State.beamSettled
  split
  · exact h
  · extract_lets _ s1 _
    have h1 : s1.sound := .foldl (fun _ _ h3 => h3.carrierUp) h
    exact h1.modOp

theorem State.sound.countDeferred (h : s.sound) {t : Tid} : (s.countDeferred t).sound := h.countFld

/-! ### The air link -/

theorem State.sound.sendCmd (h : s.sound) {o : OpId} {c : AirCmd} {e : Expect} {start : Nat} :
    (s.sendCmd o c e start).sound := h.modOp

/-! ### Rounds -/

theorem State.sound.regionTest (h : s.sound) {o : OpId} {hop : Bool} : (s.regionTest o hop).2.sound := by
  unfold State.regionTest
  split
  · exact h
  · extract_lets _ _
    split
    · split
      · exact h.modOp
      · exact h.modOp
    · exact h

theorem State.sound.slotItem (h : s.sound) {op : Op} {status slot : Nat} {tb est : Word} {ports : BitVec 16} :
    (s.slotItem op status slot tb est ports).sound := h.emit

theorem State.sound.tableTag (h : s.sound) {t : TagReply} {p : Option Nat} : (s.tableTag t p).2.sound := by
  unfold State.tableTag
  extract_lets _ _
  exact (h.keep (by rfl)).setReg

theorem State.sound.roundEnd (h : s.sound) {o : OpId} : (s.roundEnd o).sound := by
  unfold State.roundEnd
  split
  · exact h
  · exact h.endOp

theorem State.sound.roundHop (h : s.sound) {op : Op} {r : RoundSt} : (s.roundHop op r).sound := by
  unfold State.roundHop
  extract_lets s1
  have h1 : s1.sound := .foldl (fun _ _ h3 => h3.latchBeam) h.beamOff
  exact h1.setEng.startBeam

theorem State.sound.roundPause (h : s.sound) {o : OpId} : (s.roundPause o).sound := by
  unfold State.roundPause
  split
  · exact h
  · split
    · exact h
    · extract_lets s1
      have h1 : s1.sound := .ite h.slotItem h
      exact .ite h.roundEnd (.ite h1.roundEnd h.setEng)

theorem State.sound.roundSlot (h : s.sound) {op : Op} {r : RoundSt} {c : AirCmd} {start : Nat} :
    (s.roundSlot op r c start).sound := by
  unfold State.roundSlot
  extract_lets s1
  have h1 : s1.sound := h.sendCmd
  split
  · exact h1
  · exact h1.setEng

theorem State.sound.roundOpen (h : s.sound) {o : OpId} {start : Nat} : (s.roundOpen o start).sound := by
  unfold State.roundOpen
  split
  · exact h
  · split
    · exact h
    · extract_lets _
      refine .ite h.roundEnd (.ite h.setEng (.ite h.beamOff.countDeferred.setEng.modOp ?_))
      split
      next _ s1 e =>
        have h1 : s1.sound := h.regionTest.of_snd e
        refine .ite h1.endOp ?_
        split
        · exact h1
        · exact .ite h1.roundSlot h1.roundPause

theorem State.sound.roundNext (h : s.sound) {o : OpId} {start : Nat} : (s.roundNext o start).sound := by
  unfold State.roundNext
  split
  · exact h
  · split
    · exact h
    · extract_lets _ s1
      have h1 : s1.sound := h.setEng
      refine .ite h1.roundEnd (.ite h1 ?_)
      split
      extract_lets _
      exact .ite h1.roundSlot h1.setEng.roundPause

theorem State.sound.roundStart (h : s.sound) {o : OpId} {start : Nat} : (s.roundStart o start).sound := by
  unfold State.roundStart
  split
  · exact h
  · split
    · exact h
    · extract_lets _
      exact h.setEng.roundOpen

theorem State.sound.roundOutcome (h : s.sound) {o : OpId} {k : SlotOutcome} {est : Word} {ports : BitVec 16} :
    (s.roundOutcome o k est ports).sound := by
  unfold State.roundOutcome
  split
  · exact h
  · split
    · exact h
    · extract_lets s1 s2 _ _
      have h1 : s1.sound := h.modOp
      have h2 : s2.sound := by
        unfold s2
        split
        · exact .ite h1.slotItem h1
        · exact .ite h1.slotItem h1
        · exact h1
      exact h2.setEng

theorem State.sound.roundRn (h : s.sound) {op : Op} {r : RoundSt} {rn : BitVec 16} {capture : Bool} :
    (s.roundRn op r rn capture).sound := by
  unfold State.roundRn
  extract_lets _ s1 s2 s3 _ _
  have h1 : s1.sound := .ite h.countFld h
  have h2 : s2.sound := h1.modOp
  have h3 : s3.sound := h2.setEng
  exact .ite h3.roundEnd (.ite h3.sendCmd.setEng h3.roundPause)

theorem State.sound.roundNak (h : s.sound) {o : OpId} {start : Nat} : (s.roundNak o start).sound := by
  unfold State.roundNak
  split
  · exact h
  · extract_lets s1
    have h1 : s1.sound := h.sendCmd
    refine .ite h.roundEnd (.ite ?_ h.roundPause)
    split
    · exact h1
    · exact h1.roundNext

theorem State.sound.roundEpc (h : s.sound) {op : Op} {r : RoundSt} {d : ReplyData} : (s.roundEpc op r d).sound := by
  unfold State.roundEpc
  extract_lets _ _ _ s1 s2 s3
  have h1 : s1.sound := h.emit
  have h2 : s2.sound := .ite h.emit h
  have h3 : s3.sound := h2.roundOutcome
  refine .ite h1.roundOutcome.roundNext (.ite ?_ (.ite h3.roundNak h3.roundNext))
  split
  next _ s4 e =>
    have h4 : s4.sound := h.tableTag.of_snd e
    extract_lets s5 s6
    have h5 : s5.sound := h4.emit
    have h6 : s6.sound := h5.setEng
    exact h6.roundOutcome.roundNext

theorem State.sound.toCollision (h : s.sound) {op : Op} {start : Word} : (s.toCollision op start).sound := h.advance

theorem State.sound.roundCollision (h : s.sound) {op : Op} {est : Word} {ports : BitVec 16} :
    (s.roundCollision op est ports).sound := h.roundOutcome.roundNext

theorem State.sound.roundReply (h : s.sound) {op : Op} {r : RoundSt} {d : ReplyData} : (s.roundReply op r d).sound := by
  unfold State.roundReply
  split
  · exact .ite h.roundRn h.toCollision.roundCollision
  · exact h.roundEpc
  · exact h

theorem State.sound.roundSilence (h : s.sound) {op : Op} {r : RoundSt} : (s.roundSilence op r).sound := by
  unfold State.roundSilence
  split
  · exact h.roundOutcome.roundNext
  · exact h.countFld.roundOutcome.roundNext
  · exact h

/-! ### Accesses -/

theorem State.sound.selectSend (h : s.sound) {o : OpId} {start : Nat} : (s.selectSend o start).sound := by
  unfold State.selectSend
  split
  · exact h
  · extract_lets _ s1 _ s2
    have h1 : s1.sound := h.sendCmd
    have h2 : s2.sound := .ite (.foldl (fun _ _ h4 => h4.modUp) h1) h1
    refine .ite h.endOp (.ite ?_ h.endOp)
    split
    · exact h2
    · exact h2.advanceTo.endOp

theorem State.sound.accDone (h : s.sound) {op : Op} {status code : Nat} {body : List RWord} :
    (s.accDone op status code body).sound := by
  unfold State.accDone
  extract_lets _
  exact h.emit.endOp

theorem State.sound.accFail (h : s.sound) {op : Op} {a : AccessSt} {status : Nat} {raw : List RWord} :
    (s.accFail op a status raw).sound := by
  unfold State.accFail
  extract_lets _
  exact .ite h.accDone (.ite h.endOp h.accDone)

theorem State.sound.accSend (h : s.sound) {o : OpId} {a : AccessSt} {c : AirCmd} {e : Expect} {start : Nat} :
    (s.accSend o a c e start).sound := by
  unfold State.accSend
  split
  · exact h
  · exact .ite h.endOp (.ite h.sendCmd.setEng h.endOp)

theorem State.sound.accQuery (h : s.sound) {o : OpId} {step : AccStep} {start : Nat} : (s.accQuery o step start).sound := by
  unfold State.accQuery
  split
  next _ s1 e =>
    have h1 : s1.sound := h.regionTest.of_snd e
    refine .ite h1.endOp ?_
    split
    · exact h1
    · extract_lets _
      exact h1.accSend

theorem State.sound.accBegin (h : s.sound) {o : OpId} {start : Nat} : (s.accBegin o start).sound := by
  unfold State.accBegin
  split
  · exact h
  · split
    · exact h
    · extract_lets s1
      have h1 : s1.sound := h.accSend
      split
      · exact h1
      · exact .ite h1 h1.accQuery

theorem State.sound.accReqRn (h : s.sound) {o : OpId} {a : AccessSt} {step : AccStep} {rn : BitVec 16} {start : Nat} :
    (s.accReqRn o a step rn start).sound := h.accSend

theorem State.sound.accCommand (h : s.sound) {o : OpId} {a : AccessSt} {start : Nat} : (s.accCommand o a start).sound := by
  unfold State.accCommand
  split
  · exact h
  · extract_lets _ _ _ _
    refine .ite h.endOp ?_
    split
    · exact h.accSend
    · exact h.accReqRn
    · exact h.accSend
    · exact h.accSend
    · exact h.accReqRn
    · exact h.accDone

theorem State.sound.accCovered (h : s.sound) {op : Op} {a : AccessSt} {rn : BitVec 16} {start : Nat} :
    (s.accCovered op a rn start).sound := by
  unfold State.accCovered
  extract_lets _
  split
  · exact h.accSend
  · exact h.accSend
  · exact .ite h.accSend h.accSend
  · exact h.accSend
  · exact h

theorem State.sound.accAnswer (h : s.sound) {op : Op} {a : AccessSt} {d : ReplyData} {start : Nat} :
    (s.accAnswer op a d start).sound := by
  unfold State.accAnswer
  extract_lets _ _ _ _
  exact .ite (.ite h.accDone h.accDone) (.ite (.ite h.accDone h.accReqRn)
      (.ite h.accDone (.ite (.ite h.accDone (.ite h.accDone h.accReqRn)) h.accDone)))

theorem State.sound.accReply (h : s.sound) {op : Op} {a : AccessSt} {d : ReplyData} : (s.accReply op a d).sound := by
  unfold State.accReply
  extract_lets _ s1 _ _ _ _ _
  have h1 : s1.sound := h.modOp
  split
  · exact .ite h1.toCollision.accQuery h1.accSend
  · exact .ite h1.toCollision.accFail h1.accSend
  · exact .ite h1.accFail (.ite h1.accReqRn (.ite h1.endOp (.ite h1.sendCmd.accFail h1.endOp)))
  · exact .ite h1.accFail (.ite h1.accReqRn h1.accCommand)
  · exact .ite h1.accFail h1.accCovered
  · exact .ite h1.accFail h1.accCovered
  · exact .ite h1.accFail h1.accCovered
  · exact .ite h1.accDone (.ite h1.accFail h1.accCovered)
  · exact .ite h1.accFail h1.accReqRn
  · exact .ite h1.accFail h1.accCommand
  · exact .ite h1.accFail h1.accAnswer
  · exact .ite h1.accFail h1.accAnswer
  · exact h1
  · exact h1

theorem State.sound.accSilence (h : s.sound) {op : Op} {a : AccessSt} {start : Nat} : (s.accSilence op a start).sound := by
  unfold State.accSilence
  extract_lets s1
  have h1 : s1.sound := h.modOp
  split
  · exact h1.accQuery
  · exact h1.accFail

theorem State.sound.rawSend (h : s.sound) {o : OpId} {start : Nat} : (s.rawSend o start).sound := by
  unfold State.rawSend
  split
  · exact h
  · extract_lets s1
    have h1 : s1.sound := h.sendCmd
    refine .ite h.endOp (.ite ?_ h.endOp)
    split
    · exact h1
    · exact .ite h1.advanceTo.endOp h1

theorem State.sound.rawReply (h : s.sound) {op : Op} {d : ReplyData} : (s.rawReply op d).sound := by
  unfold State.rawReply
  extract_lets _ _ _ _ _ s1 s2
  have h1 : s1.sound := h.emit
  have h2 : s2.sound := h1.modOp
  exact h2.endOp

theorem State.sound.rawSilence (h : s.sound) {op : Op} : (s.rawSilence op).sound := by
  unfold State.rawSilence
  extract_lets s1 s2
  have h1 : s1.sound := h.modOp
  have h2 : s2.sound := .ite h1.emit h1
  exact h2.endOp

/-! ### Fixes -/

theorem State.sound.fixFail (h : s.sound) {op : Op} {f : FixSt} : (s.fixFail op f).sound := by
  unfold State.fixFail
  extract_lets s1 s2
  have h1 : s1.sound := h.countFld
  have h2 : s2.sound := .ite h1.emit h1
  exact h2.endOp

theorem State.sound.fixSolve (h : s.sound) {op : Op} {f : FixSt} : (s.fixSolve op f).sound := by
  unfold State.fixSolve
  extract_lets s1 s2
  have h1 : s1.sound := .foldl (fun _ _ h4 => h4.releaseUp) h
  have h2 : s2.sound := h1.setEng
  exact .ite h.fixFail (.ite (h2.keep rfl) (h2.keep rfl))

theorem State.sound.fixStage (h : s.sound) {o : OpId} {f : FixSt} : (s.fixStage o f).sound := h.setEng

theorem State.sound.fixMove (h : s.sound) {o : OpId} : (s.fixMove o).sound := by
  unfold State.fixMove
  split
  · exact h
  · split
    · exact h
    · extract_lets _ _ _ s1 s2 s3
      have h1 : s1.sound := h.fixStage.loSlew
      have h2 : s2.sound := .foldl (fun _ _ h5 => h5.modUp) h1
      have h3 : s3.sound := h.beamOff.fixStage
      exact .ite h2.modOp h3.startBeam

theorem State.sound.fixNext (h : s.sound) {o : OpId} : (s.fixNext o).sound := by
  unfold State.fixNext
  split
  · exact h
  · split
    · exact h
    · extract_lets s1 s2
      have h1 : s1.sound := h.modOp
      have h2 : s2.sound := .foldl (fun _ _ h5 => h5.latchBeam) h1
      refine .ite h2.endOp (.ite h2.fixSolve ?_)
      split
      next _ s3 e =>
        have h3 : s3.sound := h2.regionTest.of_snd e
        exact .ite h3.endOp h3.fixMove

theorem State.sound.fixPause (h : s.sound) {op : Op} {f : FixSt} : (s.fixPause op f).sound :=
  h.beamOff.countDeferred.fixStage.modOp

theorem State.sound.fixAsk (h : s.sound) {o : OpId} {f : FixSt} {st : FixStage} {target : Bool} {start : Nat} :
    (s.fixAsk o f st target start).sound := by
  unfold State.fixAsk
  split
  next _ s1 e =>
    have h1 : s1.sound := h.regionTest.of_snd e
    refine .ite h1.endOp ?_
    split
    · exact h1
    · extract_lets _
      exact .ite h1.fixPause (.ite h1.sendCmd.fixStage h1.fixNext)

theorem State.sound.fixStart (h : s.sound) {o : OpId} {start : Nat} : (s.fixStart o start).sound := by
  unfold State.fixStart
  split
  · exact h
  · split
    · exact h
    · refine .ite h.endOp (.ite ?_ h.fixAsk)
      split
      · exact h
      · extract_lets _ s1
        have h1 : s1.sound := h.sendCmd
        refine .ite ?_ h.fixNext
        split
        · exact h1
        · exact h1.fixAsk

theorem State.sound.fixSlewed (h : s.sound) {o : OpId} : (s.fixSlewed o).sound := by
  unfold State.fixSlewed
  split
  · exact h
  · split
    · exact h
    · extract_lets _
      exact .ite h (.ite h.sendCmd.fixStage h.fixNext)

theorem State.sound.fixRn (h : s.sound) {op : Op} {f : FixSt} : (s.fixRn op f).sound := by
  unfold State.fixRn
  extract_lets _ _ _
  exact h.fixStage.fixNext

theorem State.sound.fixSilence (h : s.sound) {op : Op} {f : FixSt} {start : Nat} : (s.fixSilence op f start).sound := by
  unfold State.fixSilence
  extract_lets _ s1
  have h1 : s1.sound := h.modOp
  refine .ite h1.endOp ?_
  split
  · exact h1.fixAsk
  · exact h1.fixAsk
  · exact h1.fixAsk
  · exact h1.fixNext

theorem State.sound.execSolveComplete {o : OpId} {poison : Bool} (h : s.sound) :
    outSound (execSolveComplete o poison s) := by
  unfold Machine.execSolveComplete
  split
  · exact h
  · split
    · extract_lets _ _ s1 s2 s3
      have h1 : s1.sound := h.keep rfl
      have h2 : s2.sound := h1.emit
      have h3 : s3.sound := .ite h2.countFld h2.countFld
      exact .ite h3.leaveSolve.endOp h
    · exact h

theorem State.sound.execSFix {o : OpId} (h : s.sound) : outSound (execSFix o s) := by
  unfold Machine.execSFix
  split
  · exact h
  · extract_lets _ s1
    have h1 : s1.sound := h.beginOp
    exact .ite h1.fixStart h1

/-! ### UHF exchanges -/

theorem State.sound.uFirst (h : s.sound) {o : OpId} {start : Nat} : (s.uFirst o start).sound := by
  unfold State.uFirst
  split
  · exact h
  · split
    · exact h.selectSend
    · exact h.roundStart
    · exact h.accBegin
    · exact h.rawSend
    · exact h.fixStart
    · exact h

theorem State.sound.beamGo (h : s.sound) {o : OpId} : (s.beamGo o).sound := by
  unfold State.beamGo
  split
  · exact h
  · exact .ite h.beamSettled.uFirst h

theorem State.sound.uBegin (h : s.sound) {op : Op} {e : Engine} : (s.uBegin op e).sound := by
  unfold State.uBegin
  extract_lets s1
  have h1 : s1.sound := h.beginOp
  exact .ite h1.uFirst h1

theorem State.sound.execUSelect {o : OpId} (h : s.sound) : outSound (execUSelect o s) := by
  unfold Machine.execUSelect
  split
  · exact h
  · exact h.uBegin

theorem State.sound.execURound {o : OpId} (h : s.sound) : outSound (execURound o s) := by
  unfold Machine.execURound
  split
  · exact h
  · exact h.uBegin

theorem State.sound.execUAccess {o : OpId} (h : s.sound) : outSound (execUAccess o s) := by
  unfold Machine.execUAccess
  split
  · exact h
  · exact h.uBegin

theorem State.sound.execURaw {o : OpId} (h : s.sound) : outSound (execURaw o s) := by
  unfold Machine.execURaw
  split
  · exact h
  · exact h.uBegin

theorem State.sound.execCarrierSettled {o : OpId} {dt : Nat} (h : s.sound) : outSound (execCarrierSettled o dt s) := by
  unfold Machine.execCarrierSettled
  split
  · exact h
  · extract_lets s1 s2
    have h1 : s1.sound := h.advance
    have h2 : s2.sound := h1.beamSettled
    exact .ite (.ite h2.uFirst h2) h1

theorem State.sound.moveOn (h : s.sound) {o : OpId} {k : Nat} : (s.moveOn o k).sound := by
  induction k generalizing s with
  | zero => exact h.modOp
  | succ k ih =>
    rw [State.moveOn]
    split
    · exact h
    · exact .ite h.modOp (.ite h.modOp.startBeam.beamGo (ih h.modOp))

theorem State.sound.execLbtListenEnd {o : OpId} {levels : List Int} (h : s.sound) :
    outSound (execLbtListenEnd o levels s) := by
  unfold Machine.execLbtListenEnd
  split
  · exact h
  · extract_lets _ _
    exact .ite (.ite h.modOp (.ite h.moveOn (.ite h.modOp.fixNext h.endOp))) h

theorem State.sound.execDwellBoundary {o : OpId} {dt : Nat} (h : s.sound) : outSound (execDwellBoundary o dt s) := by
  unfold Machine.execDwellBoundary
  split
  · exact h
  · extract_lets s1 _ _ _ s2
    have h1 : s1.sound := h.advance
    have h2 : s2.sound := h1.modOp
    refine .ite ?_ h1
    split
    next _ s3 e =>
      have h3 : s3.sound := h2.regionTest.of_snd e
      split
      · exact h3
      · refine .ite h3.endOp ?_
        split
        · exact .ite h3 (.ite h3.modOp h3.roundHop.beamGo)
        · exact .ite h3 (((State.sound.foldl (fun _ _ h5 => h5.latchBeam) h3).startBeam).beamGo)

theorem State.sound.execMeterResume {o : OpId} (h : s.sound) : outSound (execMeterResume o s) := by
  unfold Machine.execMeterResume
  split
  · exact h
  · refine .ite ?_ h
    split
    · exact h.setEng.startBeam.beamGo
    · exact h.setEng.startBeam.beamGo
    · exact h

theorem State.sound.execReplyPreambleDetected {o : OpId} {dt : Nat} {d : PreambleData} (h : s.sound) :
    outSound (execReplyPreambleDetected o dt d s) := by
  unfold Machine.execReplyPreambleDetected
  split
  · exact h
  · extract_lets s1
    have h1 : s1.sound := h.advance
    split
    · exact .ite h1.modOp h1
    · exact h1

theorem State.sound.silence (h : s.sound) {op : Op} : (s.silence op).sound := by
  unfold State.silence
  split
  · exact h.roundSilence
  · exact h.accSilence
  · exact h.rawSilence
  · exact h.fixSilence
  · exact h

theorem State.sound.execNoReplyDecision {o : OpId} {energy : List Int} (h : s.sound) :
    outSound (execNoReplyDecision o energy s) := by
  unfold Machine.execNoReplyDecision
  split
  · exact h
  · exact .ite h.advanceTo.silence h

theorem State.sound.execCollisionDecision {o : OpId} {onset : Nat} {energy : List Int} (h : s.sound) :
    outSound (execCollisionDecision o onset energy s) := by
  unfold Machine.execCollisionDecision
  split
  · exact h
  · split
    · extract_lets _ s1
      have h1 : s1.sound := h.advance
      refine .ite ?_ h
      split
      · exact h1.roundCollision
      · exact h1.accSilence
      · exact h1.fixSilence
      · exact h1
    · exact h

theorem State.sound.execReplyEnd {o : OpId} {dt : Nat} {r : ReplyData} (h : s.sound) : outSound (execReplyEnd o dt r s) := by
  unfold Machine.execReplyEnd
  split
  · exact h
  · extract_lets s1
    have h1 : s1.sound := h.advance
    refine .ite (.ite h1.advanceTo.silence ?_) h1
    split
    · exact h1.roundReply
    · exact h1.accReply
    · exact h1.rawReply
    · exact .ite h1.fixRn h1.toCollision.fixSilence
    · exact h1

theorem State.sound.execReplyCap {o : OpId} (h : s.sound) : outSound (execReplyCap o s) := by
  unfold Machine.execReplyCap
  split
  · exact h
  · extract_lets _
    exact .ite h.endOp h

theorem State.sound.execHeldItemWritten {o : OpId} (h : s.sound) : outSound (execHeldItemWritten o s) := by
  unfold Machine.execHeldItemWritten
  split
  · exact h
  · refine .ite h ?_
    split
    next s1 _ e =>
      have h1 : s1.sound := h.drainItem.of_fst e
      extract_lets s2
      have h2 : s2.sound := h1.modOp
      split
      · exact h2
      · refine .ite h2 ?_
        split
        · exact h2.finishOp
        · split
          · exact .ite h2.modOp.roundHop.beamGo (.ite h2.roundOpen (.ite h2.roundNext h2))
          · exact .ite h2.actGo h2
          · exact h2

/-! ### The scheduler -/

theorem State.sound.trapRingWaits (h : s.sound) {n : RingNo} : (s.trapRingWaits n).sound := by
  unfold State.trapRingWaits
  refine h.forThreads (fun _ _ h2 => ?_)
  extract_lets x3
  exact .ite h2.takeTrap h2

theorem State.sound.uncountParts (h : s.sound) {n : RingNo} : (s.uncountParts n).sound := h.keep rfl

theorem State.sound.cfgRing (h : s.sound) {n : RingNo} {v : Word} : (s.cfgRing n v).sound := by
  unfold State.cfgRing
  extract_lets _ s1
  have h1 : s1.sound := h.writeRingCfg
  exact .ite h1.uncountParts.trapRingWaits h1

theorem State.sound.writeRingCtrl (h : s.sound) {n : RingNo} {v : Word} : (s.writeRingCtrl n v).sound := .ite h.flushRing h

theorem State.sound.egTake (h : s.sound) {n : RingNo} {w : RWord} : (s.egTake n w).sound := by
  unfold State.egTake
  extract_lets s1 s2 _
  have h1 : s1.sound := .ite (h.keep rfl) h
  have h2 : s2.sound := .ite h1.modRing h1
  exact h2.keep rfl

theorem State.sound.egMove (h : s.sound) {n : RingNo} {bad : List Bool} {k : Nat} : (s.egMove n bad k).sound := by
  induction k generalizing s bad with
  | zero => exact h
  | succ k ih =>
    rw [State.egMove]
    refine .ite h ?_
    split
    · exact h
    · next w s1 e =>
      have h1 : s1.sound := h.ringTake e
      exact .ite (h1.egTake.keep rfl) (ih h1.egTake)

theorem State.sound.egSend (h : s.sound) {n : RingNo} {bad : List Bool} : (s.egSend n bad).sound := (h.keep (by rfl)).egMove

theorem State.sound.egRotate (h : s.sound) {c : Nat} {bad : List Bool} {k : Nat} : (s.egRotate c bad k).sound := by
  induction k generalizing s c with
  | zero => exact h
  | succ k ih =>
    rw [State.egRotate]
    extract_lets s1 _ s2 _ s3
    have h1 : s1.sound := .ite h h.modRing
    have h2 : s2.sound := h1.modRing
    have h3 : s3.sound := h1.modRing
    exact .ite (ih h.modRing) (.ite (ih h) (.ite (State.sound.egSend (h2.keep (by rfl))) (ih (h3.keep (by rfl)))))

theorem State.sound.egDecide (h : s.sound) {bad : List Bool} : (s.egDecide bad).sound := by
  unfold State.egDecide
  split
  · exact h.egSend
  · exact h.egRotate

theorem State.sound.execEgressDecision {bad : List Bool} (h : s.sound) : outSound (execEgressDecision bad s) := by
  unfold Machine.execEgressDecision
  refine .ite h ?_
  split
  · exact h.egDecide
  · extract_lets _
    exact .ite (h.keep (by rfl)).egDecide h.egMove

theorem State.sound.replenish (h : s.sound) : s.replenish.sound := by
  unfold State.replenish
  exact h.keep rfl

theorem State.sound.setMeter (h : s.sound) {t : Tid} {m : Meter} : (s.setMeter t m).sound := h.keep rfl

theorem State.sound.setIMeter (h : s.sound) {i : Fin 16} {m : Meter} : (s.setIMeter i m).sound := h.keep rfl

theorem State.sound.charge (h : s.sound) {t : Tid} {n : Nat} : (s.charge t n).sound := by
  unfold State.charge
  extract_lets _ _ s1
  have h1 : s1.sound := .ite h.setMeter h
  exact .ite (h1.keep rfl) h1

theorem State.sound.meterRefill (h : s.sound) {t : Tid} : (s.meterRefill t).sound := by
  unfold State.meterRefill
  extract_lets _ _ _
  exact .ite h.setMeter h

theorem State.sound.meterUs (h : s.sound) {t : Tid} : (s.meterUs t).sound := .foldl (fun _ _ h4 => h4.charge) h.meterRefill

theorem State.sound.meterEach (h : s.sound) {t : Tid} {k : Nat} : (s.meterEach t k).sound := by
  induction k generalizing s with
  | zero => exact h
  | succ k ih => exact ih h.meterUs

theorem State.sound.meterRun (h : s.sound) {t : Tid} {n : Nat} : (s.meterRun t n).sound := by
  unfold State.meterRun
  extract_lets s1
  have h1 : s1.sound := .ite h.meterEach h
  exact h1.keep rfl

theorem State.sound.meterFill (h : s.sound) {t : Tid} : (s.meterFill t).sound := by
  unfold State.meterFill
  extract_lets _ _
  exact h.setMeter

theorem State.sound.writeAmCtl (h : s.sound) {t : Tid} {v : Word} : (s.writeAmCtl t v).sound := by
  unfold State.writeAmCtl
  extract_lets s1
  have h1 : s1.sound := h.writeFields
  exact .ite h1.meterFill h1

theorem State.sound.writeImCtl (h : s.sound) {i : Fin 16} {v : Word} : (s.writeImCtl i v).sound := by
  unfold State.writeImCtl
  extract_lets s1 _
  have h1 : s1.sound := h.writeFields
  exact .ite h (.ite h1.setIMeter h1)

theorem State.sound.imRefill (h : s.sound) {i : Fin 16} : (s.imRefill i).sound := by
  unfold State.imRefill
  extract_lets _ _ _ _
  exact h.setIMeter

theorem State.sound.imVerdict (h : s.sound) {i : Fin 16} {k : Nat} : (s.imVerdict i k).2.sound := by
  unfold State.imVerdict
  extract_lets s1 _ _
  have h1 : s1.sound := h.imRefill
  split
  · exact h
  · split
    · exact h1
    · split
      · exact h1.setIMeter
      · exact h1.setIMeter

theorem State.sound.latOne (h : s.sound) {n : RingNo} : (s.latOne n).sound := by
  unfold State.latOne
  extract_lets _
  exact .ite h h.modRing

theorem State.sound.writeLatCfg (h : s.sound) {v : Word} : (s.writeLatCfg v).sound := by
  unfold State.writeLatCfg
  extract_lets s1 s2
  have h1 : s1.sound := h.writeFields
  have h2 : s2.sound := .ite (.foldl (fun _ _ h6 => .foldl (fun _ _ h8 => .ite h8 h8.setReg) h6) h1) h1
  exact .ite (.foldl (fun _ _ h4 => h4.modRing) h2) h2

end Sys2Proof.Machine

end

section
/-! PROOF. The chirp port, the dispatch of operations, calibration, clocks,
serial ports and the enclave keep the state sound. -/

open Sys2Proof Sys2Proof.Machine

namespace Sys2Proof.Machine

variable {s : State} {x : Thread}

/-! ### The chirp port -/

theorem State.sound.execCSend {o : OpId} {parityErr : Bool} (h : s.sound) : outSound (execCSend o parityErr s) := by
  unfold Machine.execCSend
  split
  · exact h
  · extract_lets s1 _ _ _ s2
    have h1 : s1.sound := h.advance
    have h2 : s2.sound := by
      unfold s2
      refine .foldl (fun _ _ h4 => ?_) h1
      extract_lets _ s5
      have h5 : s5.sound := h4.carrierUp.modUp
      exact h5.countFld.dropReceptions
    exact .ite h1 (.ite h1.fault.endOp (.ite h1.endOp h2.beginOp.modOp))

theorem State.sound.execCSendFrameEnd {o : OpId} (h : s.sound) : outSound (execCSendFrameEnd o s) := by
  unfold Machine.execCSendFrameEnd
  split
  · exact h
  · split
    · extract_lets s1 s2 _
      have h1 : s1.sound := h.advanceTo.meterRun
      have h2 : s2.sound := h1.dutyFrame.setEng
      exact h2.emit.endOp.settleListens
    · exact h

theorem State.sound.openListen (h : s.sound) {o : OpId} : (s.openListen o).sound := h.modOp

theorem State.sound.execCListen {o : OpId} (h : s.sound) : outSound (execCListen o s) := by
  unfold Machine.execCListen
  split
  · exact h
  · extract_lets s1
    have h1 : s1.sound := h.beginOp
    exact .ite h1.openListen h1

theorem State.sound.execListenWindowClose {o : OpId} (h : s.sound) : outSound (execListenWindowClose o s) := by
  unfold Machine.execListenWindowClose
  split
  · exact h
  · split
    · extract_lets s1
      have h1 : s1.sound := h.advanceTo
      exact .ite h1.setEng.listenSettle h
    · exact h

theorem State.sound.setDec (h : s.sound) {d : Fin 16} {r : Option Recep} : (s.setDec d r).sound := h.keep rfl

theorem State.sound.deliver (h : s.sound) {op : Op} {status : Nat} {body : List RWord} :
    (s.deliver op status body).sound := by
  unfold State.deliver
  extract_lets _ s1 s2
  have h1 : s1.sound := h.emit
  have h2 : s2.sound := .ite h1.countFld (.ite h1.countFld h1)
  exact .ite h (.ite h1 (.ite h2.modOp h2))

theorem State.sound.preempt (h : s.sound) {r : Recep} : (s.preempt r).sound := .foldl (fun _ _ h4 => h4.deliver) h.countFld

theorem State.sound.newcomer (h : s.sound) {d : Fin 16} {r new : Recep} {tracked : Int} :
    (s.newcomer d r new tracked).sound :=
      .ite (.ite h.countFld.setDec.settleListens h) (.ite h.preempt.setDec.settleListens h.countFld)

theorem State.sound.execChirpDetection {p : UPortNo} {chan : Fin 16} {so : Fin 7} {dt : Nat} {level tracked : Int}
    (h : s.sound) : outSound (execChirpDetection p chan so dt level tracked s) := by
  unfold Machine.execChirpDetection
  extract_lets s1
  have h1 : s1.sound := h.advance
  refine .ite h1 ?_
  split
  · exact h1
  · refine .ite h1 ?_
    split
    · exact h1.newcomer
    · split
      · exact h1.setDec
      · exact h1.countFld

theorem State.sound.beside (h : s.sound) {d : Fin 16} {dt : Nat} {level tracked : Int} {header : Bool} :
    (s.beside d dt level tracked header).sound := by
  unfold State.beside
  extract_lets s1
  have h1 : s1.sound := h.advance
  split
  · exact h1
  · refine .ite h1 ?_
    split
    · exact h1
    · exact .ite h1.newcomer h1

theorem State.sound.dropDec (h : s.sound) {d : Fin 16} : (s.dropDec d).sound := h.setDec.settleListens

theorem State.sound.execIdentifierEnd {d : Fin 16} {dt : Nat} {netid : BitVec 12} {rssi snr : BitVec 16} {offset : Word}
    (h : s.sound) : outSound (execIdentifierEnd d dt netid rssi snr offset s) := by
  unfold Machine.execIdentifierEnd
  extract_lets s1
  have h1 : s1.sound := h.advance
  split
  · exact h1
  · exact .ite h1 (.ite h1.countFld.dropDec h1.setDec)

theorem State.sound.execHeaderVerdict {d : Fin 16} {hdr : BitVec 24} (h : s.sound) :
    outSound (execHeaderVerdict d hdr s) := by
  unfold Machine.execHeaderVerdict
  split
  · exact h
  · exact .ite h (.ite h.countFld.dropDec (.ite h.countFld.dropDec h.setDec))

theorem State.sound.execPayloadVerdict {d : Fin 16} {dt : Nat} {bytes : List Byte} {poison : Bool} (h : s.sound) :
    outSound (execPayloadVerdict d dt bytes poison s) := by
  unfold Machine.execPayloadVerdict
  extract_lets s1
  have h1 : s1.sound := h.advance
  split
  · exact h1
  · exact .ite h1 (State.sound.settleListens (.foldl (fun _ _ h => h.deliver) (.ite h1.setDec.countFld h1.setDec)))

/-! ### Descriptor copies -/

theorem State.sound.refreshDue (h : s.sound) : s.refreshDue.sound := h.keep rfl

theorem State.sound.rebaseStarts (h : s.sound) : s.rebaseStarts.sound := h.keep rfl

theorem State.sound.issueOp (h : s.sound) {op : Op} {bad : Bool} : (s.issueOp op bad).sound := by
  unfold State.issueOp
  extract_lets _ s1 s2
  have h1 : s1.sound := h.setSlot
  have h2 : s2.sound := h1.keep rfl
  exact .ite h2.endPending h2

theorem State.sound.airBody {t : Tid} {bad contended : Bool} {f : IFields} (h : s.sound) :
    (airBody t bad contended f s).sound := by
  unfold Machine.airBody
  extract_lets x1 _ _ s2
  have h2 : s2.sound := .ite h.fault h
  refine .ite h (.ite h (.ite h (.ite trivial (.ite ?_ (h2.issueOp.issueTh (fun _ hx6 => hx6.advance))))))
  split
  · exact trivial
  · exact h.issueOp.issueTh (fun _ hx4 => hx4.advance)

/-! ### Dispatch -/

theorem State.sound.latchOp (h : s.sound) {op : Op} : (s.latchOp op).1.sound := by
  unfold State.latchOp
  extract_lets s1 _ _ _ _
  have h1 : s1.sound := .ite (.foldl (fun _ _ h3 => h3.latchPort) h) h
  exact h1

theorem State.sound.startCal (h : s.sound) {op : Op} : (s.startCal op).sound := by
  unfold State.startCal
  extract_lets _ s1 _ s2 _
  have h1 : s1.sound := by
    unfold s1
    split
    · exact h.keep rfl
    · exact h
  have h2 : s2.sound := .ite ((State.sound.foldl (fun _ _ h4 => .ite h4 (.ite h4.rampDown h4.carrierOff)) h1).loGoto) h1
  exact h2.modOp

theorem State.sound.activate (h : s.sound) {op : Op} : (s.activate op).sound := by
  unfold State.activate
  extract_lets _ _ s1 s2 s3 s4 s5 s6
  have h1 : s1.sound := h.modOp.setSlot
  have h2 : s2.sound := .foldl (fun _ _ h10 => h10.dpdCheck) h1
  have h3 : s3.sound := .ite h2.modOp h2
  have h4 : s4.sound := h3.startBeam
  have h5 : s5.sound := h1.keep rfl
  have h6 : s6.sound := .foldl (fun _ _ h8 => h8.rampDown) h1
  refine .ite h1.fixFail (.ite ?_ (.ite h5.loGoto.modOp (.ite h6.loGoto.modOp (.ite h1.startCal h1))))
  split
  · exact .ite h4.beamSettled h4
  · exact h4

theorem State.sound.dispatch (h : s.sound) {op : Op} : (s.dispatch op).sound := by
  unfold State.dispatch
  split
  next s1 _ e =>
    have h1 : s1.sound := h.latchOp.of_fst e
    split
    · exact h.endPending
    · exact h1.activate

theorem State.sound.claimFirst (h : s.sound) {op : Op} {k : Nat} : (s.claimFirst op k).sound := by
  induction k generalizing s with
  | zero => exact h
  | succ k ih =>
    rw [State.claimFirst]
    split
    · exact ih h.dispatch
    · exact h

theorem State.sound.noteColour (h : s.sound) {op : Op} : (s.noteColour op).sound := by
  unfold State.noteColour
  extract_lets _ s1
  have h1 : s1.sound := .ite h.countDeferred h
  exact h1.modOp

theorem State.sound.countSerial (h : s.sound) {op : Op} : (s.countSerial op).sound := by
  unfold State.countSerial
  split
  extract_lets s1 s2
  have h1 : s1.sound := .ite h.countFld h
  have h2 : s2.sound := .ite h1.countFld h1
  exact h2.modOp

theorem State.sound.testOp (h : s.sound) {op : Op} : (s.testOp op).sound := by
  unfold State.testOp
  extract_lets s1
  have h1 : s1.sound := h.noteColour
  split
  · exact h1
  · split
    extract_lets s3
    have h3 : s3.sound := h1.countSerial
    exact .ite h1.endPending (.ite h1 (.ite (.ite h3.endPending h3) (.ite h1 h1.dispatch)))

theorem State.sound.tryDispatch (h : s.sound) {o : OpId} : (s.tryDispatch o).sound := by
  unfold State.tryDispatch
  extract_lets s1
  have h1 : s1.sound := h.refreshDue
  split
  · exact h1
  · exact .ite h1.testOp h1

theorem State.sound.retestAll (h : s.sound) {p : Op → Bool} : (s.retestAll p).sound :=
  .foldl (fun _ _ h4 => h4.tryDispatch) h

theorem State.sound.execMeterColourChange {t : Tid} {us : Nat} (h : s.sound) : outSound (execMeterColourChange t us s) := by
  unfold Machine.execMeterColourChange
  extract_lets s1
  have h1 : s1.sound := h.meterRun
  exact .ite h1 h1.retestAll

theorem State.sound.execStartTimeReached {o : OpId} (h : s.sound) : outSound (execStartTimeReached o s) := by
  unfold Machine.execStartTimeReached
  split
  · exact h
  · exact .ite ((State.sound.ite h.advance h).tryDispatch) h

theorem State.sound.execCSendClaim {o : OpId} (h : s.sound) : outSound (execCSendClaim o s) := by
  unfold Machine.execCSendClaim
  split
  · exact h
  · extract_lets _ _ s1
    have h1 : s1.sound := .ite h h.advance
    exact .ite h1.testOp h

theorem State.sound.execOperationExpiry {o : OpId} (h : s.sound) : outSound (execOperationExpiry o s) := by
  unfold Machine.execOperationExpiry
  extract_lets s1
  have h1 : s1.sound := h.refreshDue
  split
  · exact h1
  · split
    · exact h1
    · exact .ite h1.advanceTo.endPending (.ite h1.advanceTo.endOp h1)

theorem State.sound.writeAirCtrl (h : s.sound) {v : Word} : (s.writeAirCtrl v).sound := by
  unfold State.writeAirCtrl
  extract_lets s1
  have h1 : s1.sound := h.writeFields
  exact .ite h1.cancelAll h1

/-! ### Calibration -/

theorem State.sound.setTrim (h : s.sound) {r : TrimRef} {v : Int} : (s.setTrim r v).sound := by
  unfold State.setTrim
  split
  · exact h.setFld
  · exact h.keep rfl

theorem State.sound.bringIn (h : s.sound) {code port : Nat} {o : Option OpId} {vs : List Int} :
    (s.bringIn code port o vs).sound := by
  unfold State.bringIn
  extract_lets s1
  have h1 : s1.sound := h.keep rfl
  refine .foldl (fun _ _ h3 => ?_) h1
  split
  · exact h3
  · extract_lets _ _ _
    exact .ite (.ite (h3.keep rfl) (h3.keep rfl)) h3.setTrim

theorem State.sound.markValid (h : s.sound) {code port : Nat} {k : Fin 5} : (s.markValid code port k).sound := by
  unfold State.markValid
  split
  · exact h.setFlag
  · exact h.setFlag
  · exact h.setFlag
  · exact h.setFlag
  · exact h.setFlag
  · exact h.setFlag
  · exact h.setFlag
  · exact h.setFlag
  · exact h

theorem State.sound.putSet (h : s.sound) {y : CalSet} : (s.putSet y).sound := by
  unfold State.putSet
  extract_lets _
  exact (h.keep (by rfl)).markValid

theorem State.sound.calBegin (h : s.sound) {o : OpId} {code : Nat} : (s.calBegin o code).sound := by
  unfold State.calBegin
  split
  · exact h
  · extract_lets _ s1
    have h1 : s1.sound := h.beginOp
    refine .ite h (.ite (.foldl (fun _ _ h3 => h3.dpdCheck.carrierUp) h1)
        (.ite h1.modLo (.ite (.foldl (fun _ _ h5 => ?_) h1) h1)))
    extract_lets _
    exact h5.hfTurnOn.modHp

theorem State.sound.execKCalDpd {o : OpId} (h : s.sound) : outSound (execKCalDpd o s) := by
  unfold Machine.execKCalDpd
  split
  · exact .ite h h.calBegin
  · exact h

theorem State.sound.execCalPreconditionsEnd {o : OpId} {c : CalChecks} (h : s.sound) :
    outSound (execCalPreconditionsEnd o c s) := by
  unfold Machine.execCalPreconditionsEnd
  split
  · exact h
  · split
    · exact h
    · extract_lets s1 _
      have h1 : s1.sound := h.advanceTo
      exact .ite h (.ite h1.countFld.endOp h1.setEng)

theorem State.sound.toSpare (h : s.sound) {op : Op} : (s.toSpare op).sound := by
  unfold State.toSpare
  extract_lets s1
  have h1 : s1.sound := .foldl (fun _ _ h7 => h7.modHp) h
  refine .foldl (fun _ _ h3 => ?_) h1
  extract_lets _ _ s4 s5
  have h4 : s4.sound := h3.modUp
  have h5 : s5.sound := h4.setFld.setFld
  exact .ite h5.carrierUp h5.relevel

theorem State.sound.backFromSpare (h : s.sound) {op : Op} : (s.backFromSpare op).sound :=
  (State.sound.ite (.foldl (fun _ _ h4 => h4.carrierOff) h) h).releaseSpares

theorem State.sound.calEnd (h : s.sound) {o : OpId} {c : CalSt} : (s.calEnd o c).sound := by
  unfold State.calEnd
  split
  · exact h
  · extract_lets s1
    have h1 : s1.sound := .ite h h.countFld
    exact h1.emit.endOp

theorem State.sound.calApplied (h : s.sound) {o : OpId} : (s.calApplied o).sound := by
  unfold State.calApplied
  split
  · exact h
  · split
    · exact h
    · exact .ite (h.keep (by rfl)).setEng h.calEnd

theorem State.sound.fillBands (h : s.sound) {n : LoNo} {k : Fin 5} {codes : List Int} : (s.fillBands n k codes).sound := by
  unfold State.fillBands
  refine .foldl (fun _ _ h2 => ?_) h
  extract_lets _
  exact h2.setFld

theorem State.sound.calApply (h : s.sound) {op : Op} {c : CalSt} : (s.calApply op c).sound := by
  unfold State.calApply
  extract_lets _ s1 s2 s3 s4
  have h1 : s1.sound := h.setEng
  have h2 : s2.sound := h1.putSet
  have h3 : s3.sound := .ite h2.setFlag h2
  have h4 : s4.sound := h3.bringIn
  exact .ite h1.fillBands.calApplied (.ite h4 h4.calApplied)

theorem State.sound.execSpareSwitch {o : OpId} (h : s.sound) : outSound (execSpareSwitch o s) := by
  unfold Machine.execSpareSwitch
  split
  · exact h
  · split
    · exact h
    · extract_lets _ s1 s2 _
      have h1 : s1.sound := h.advance
      have h2 : s2.sound := h.advance.backFromSpare
      exact .ite h (.ite h1.toSpare.setEng (.ite (.ite h2.calApply h2.setEng.calEnd) h))

theorem State.sound.execCalMeasurementEnd {o : OpId} {r : CalResult} (h : s.sound) :
    outSound (execCalMeasurementEnd o r s) := by
  unfold Machine.execCalMeasurementEnd
  split
  · exact h
  · split
    · exact h
    · extract_lets s1 _ _ s2 _
      have h1 : s1.sound := h.advanceTo
      have h2 : s2.sound := .ite h1.muteBeam h1
      exact .ite h (.ite (.foldl (fun _ _ h4 => h4.uhfFault) h2)
          (.ite (.foldl (fun _ _ h6 => h6.hfFault) h2)
              (.ite h2.countFld.endOp (.ite h2.setEng (.ite h2.calApply h2.calEnd)))))

theorem State.sound.trimStep (h : s.sound) : s.trimStep.sound := by
  unfold State.trimStep
  extract_lets _ s1 _
  have h1 : s1.sound := .foldl (fun _ _ h3 => h3.setTrim) h
  exact h1.keep rfl

theorem State.sound.execTrimApplyStep (h : s.sound) : outSound (execTrimApplyStep s) := by
  unfold Machine.execTrimApplyStep
  extract_lets _ s1
  have h1 : s1.sound := h.advanceTo.trimStep
  exact .foldl (fun _ _ h3 => h3.calApplied) h1

theorem State.sound.execCalNvWriteDone {o : OpId} (h : s.sound) : outSound (execCalNvWriteDone o s) := by
  unfold Machine.execCalNvWriteDone
  split
  · exact h
  · split
    · exact h
    · exact .ite h (State.sound.calEnd (.ite (h.keep (by rfl)) (h.keep (by rfl))))

theorem State.sound.retemp (h : s.sound) : s.retemp.sound := by
  unfold State.retemp
  refine .foldl (fun _ _ h2 => ?_) (h.keep rfl)
  extract_lets _
  exact h2.setReg

theorem State.sound.recalc (h : s.sound) {code port : Nat} : (s.recalc code port).sound := by
  unfold State.recalc
  extract_lets _ s1
  have h1 : s1.sound := .ite h.setFld h
  exact .ite h1 h1.bringIn

theorem State.sound.calTemper (h : s.sound) : s.calTemper.sound := by
  unfold State.calTemper
  refine .foldl (fun _ _ h2 => ?_) h
  split
  · exact .ite h2.countFld.endOp h2
  · exact h2

theorem State.sound.execTemperatureRecompute (h : s.sound) : outSound (execTemperatureRecompute s) := by
  unfold Machine.execTemperatureRecompute
  extract_lets s1 s2
  have h1 : s1.sound := h.advanceTo
  have h2 : s2.sound := (h1.keep (by rfl)).retemp
  exact (State.sound.foldl (fun _ _ h4 => h4.recalc) h2).calTemper

theorem State.sound.loadCal (h : s.sound) : s.loadCal.sound := by
  unfold State.loadCal
  extract_lets s1
  have h1 : s1.sound := .foldl (fun _ _ h5 => h5.putSet) h
  exact .foldl (fun _ _ h3 => h3.setReg) h1

/-! ### Clocks -/

theorem State.sound.execMpllUnlock (h : s.sound) : outSound (execMpllUnlock s) := by
  unfold Machine.execMpllUnlock
  extract_lets s1 s2 _ s3
  have h1 : s1.sound := h.uhfRemoveAll.hfRemoveAll
  have h2 : s2.sound := h1.setLimp
  have h3 : s3.sound := by
    clear_value s2
    exact h2.keep rfl
  exact .ite h3.killAll.setFlag.countFld.fault h

theorem State.sound.execMpllSettleDone (h : s.sound) : outSound (execMpllSettleDone s) := by
  unfold Machine.execMpllSettleDone
  extract_lets s1 _
  have h1 : s1.sound := h.setLimp
  exact .ite (h1.keep rfl) h

theorem State.sound.execLoUnlock {n : LoNo} (h : s.sound) : outSound (execLoUnlock n s) := by
  unfold Machine.execLoUnlock
  extract_lets s1 s2 s3
  have h1 : s1.sound := h.loMute
  have h2 : s2.sound := h1.killAll
  have h3 : s3.sound := h2.setFlag.countFld.fault
  exact .ite h3.modLo.loRelock h

theorem State.sound.loReached (h : s.sound) {n : LoNo} : (s.loReached n).sound := by
  unfold State.loReached
  extract_lets _
  refine .foldl (fun _ _ h2 => ?_) h
  split
  · exact .ite h2.openListen h2
  · exact .ite h2.fixSlewed h2
  · exact .ite h2.countFld.endOp h2
  · exact h2

theorem State.sound.loLocked (h : s.sound) {n : LoNo} {band : BitVec 7} {vtune : Byte} : (s.loLocked n band vtune).sound :=
  .ite h h.loSearched.modLo.loLoad.loTune

theorem State.sound.execLoRelockEnd {n : LoNo} {dt : Nat} {band : BitVec 7} {vtune : Byte} {errs : Option (List Int)}
    (h : s.sound) : outSound (execLoRelockEnd n dt band vtune errs s) := by
  unfold Machine.execLoRelockEnd
  extract_lets s1
  have h1 : s1.sound := h.advance.loLocked
  refine .ite ?_ h
  split
  · exact h1.loReached
  · extract_lets s2
    have h2 : s2.sound := h1.countFld.loAlign.modLo
    exact h2.loNext.loReached

theorem State.sound.execLoStepEnd {n : LoNo} {dt : Nat} {errs : List Int} (h : s.sound) :
    outSound (execLoStepEnd n dt errs s) := by
  unfold Machine.execLoStepEnd
  extract_lets s1
  have h1 : s1.sound := h.advance.loAlign.modLo
  exact .ite h1.loNext.loReached h

theorem State.sound.latchEpoch (h : s.sound) : s.latchEpoch.sound := h.setReg.setReg

theorem State.sound.adjustTb (h : s.sound) : s.adjustTb.sound := .ite h.applyOfs.rebaseStarts h

theorem State.sound.alignTb (h : s.sound) : s.alignTb.sound := by
  unfold State.alignTb
  extract_lets _
  exact .ite h.adjustTb (h.keep (by rfl)).setFlag.rebaseStarts

theorem State.sound.setDivider (h : s.sound) : s.setDivider.sound := by
  unfold State.setDivider
  extract_lets _ s1 _
  have h1 : s1.sound := (h.keep (by rfl)).alignTb.latchEpoch
  exact h1.keep rfl

theorem State.sound.execEpochiEdge {dt : Nat} (h : s.sound) : outSound (execEpochiEdge dt s) := by
  unfold Machine.execEpochiEdge
  extract_lets s1 s2 _
  have h1 : s1.sound := h.advance
  have h2 : s2.sound := h1.advance
  exact .ite (.ite h2.setDivider (.ite (h2.keep rfl) h2.setFlag.fault)) h

theorem State.sound.execEpochlost (h : s.sound) : outSound (execEpochlost s) :=
  .ite (State.sound.fault (.setFlag (h.advanceTo.keep (by rfl)))) h

theorem State.sound.writeEpoch (h : s.sound) {v : Word} : (s.writeEpoch v).sound := by
  unfold State.writeEpoch
  extract_lets _ s1 _ s2 _
  have h1 : s1.sound := h.writeFields
  have h2 : s2.sound := .ite (.ite h1 (h1.keep rfl)) (h1.keep rfl)
  exact .ite (h2.keep rfl) h2

theorem State.sound.writeClkout (h : s.sound) {k : Fin 4} {v : Word} : (s.writeClkout k v).sound :=
  .ite h.writeFields h.setFlag

/-! ### Serial ports -/

theorem State.sound.cacheLine (h : s.sound) {line : Nat} {ws : List Word} : (s.cacheLine line ws).sound := by
  unfold State.cacheLine
  extract_lets _ _ _
  exact h.keep rfl

theorem State.sound.retryLine (h : s.sound) {line : Nat} {t : Tid} : (s.retryLine line t).sound := by
  unfold State.retryLine
  extract_lets x1
  refine .ite ?_ h
  split
  · exact h.retry (fun _ h3 => h3.ldBody)
  · exact h.modTh (fun _ hx5 => hx5.resume)

theorem State.sound.execXipLineFill {line : BitVec 19} {flash : List Word} (h : s.sound) :
    outSound (execXipLineFill line flash s) := by
  unfold Machine.execXipLineFill
  refine .ite ?_ h
  split
  extract_lets _ s1 s2
  have h1 : s1.sound := (h.keep (by rfl)).countFld
  have h2 : s2.sound := .ite h1.setFlag h1
  exact h2.cacheLine.forThreads (fun _ _ h4 => h4.retryLine)

theorem State.sound.writeMsCtrl (h : s.sound) {v : Word} : (s.writeMsCtrl v).sound := .ite (h.keep rfl) h

theorem State.sound.writeDcmd (h : s.sound) {v : Word} : (s.writeDcmd v).sound := by
  unfold State.writeDcmd
  extract_lets _ s1 s2 _
  have h1 : s1.sound := h.writeFields
  have h2 : s2.sound := h1.setFlag
  exact .ite (h2.keep rfl) h1

theorem State.sound.execDirectCommandDone {rx : DWord} (h : s.sound) : outSound (execDirectCommandDone rx s) := by
  unfold Machine.execDirectCommandDone
  extract_lets _ _ _
  exact .ite h.setReg.setReg.setFld h

theorem State.sound.pspBegin (h : s.sound) {e : Word} {rest : List Word} : (s.pspBegin e rest).sound := by
  unfold State.pspBegin
  extract_lets _ _ s1 s2
  have h1 : s1.sound := h.keep rfl
  have h2 : s2.sound := .ite h1.setFlag h1
  exact .ite h2.raiseRouted h2

theorem State.sound.pspGo (h : s.sound) : s.pspGo.sound := by
  unfold State.pspGo
  split
  · exact .ite h.pspBegin h
  · exact h

theorem State.sound.writeQent (h : s.sound) {v : Word} : (s.writeQent v).sound :=
  .ite h.setFlag (.ite h.setFlag (h.keep (by rfl)).pspGo)

theorem State.sound.execPspWordDone {rx : BitVec 24} (h : s.sound) : outSound (execPspWordDone rx s) := by
  unfold Machine.execPspWordDone
  split
  · exact h
  · extract_lets _ _ _
    exact (h.keep (by rfl)).pspGo

theorem State.sound.readPsRx (h : s.sound) : s.readPsRx.2.sound := by
  unfold State.readPsRx
  split
  · exact h
  · extract_lets _
    exact (h.keep (by rfl)).pspGo

theorem State.sound.execPsRxRead (h : s.sound) : outSound (execPsRxRead s) := by
  unfold Machine.execPsRxRead
  split
  next _ s1 e =>
    have h1 : s1.sound := h.readPsRx.of_snd e
    exact h1.keep rfl

theorem State.sound.writePsCtrl (h : s.sound) {v : Word} : (s.writePsCtrl v).sound := by
  unfold State.writePsCtrl
  extract_lets s1 _ _ s2 s3
  have h1 : s1.sound := h.writeFields
  have h2 : s2.sound := h1.keep rfl
  have h3 : s3.sound := .ite (.ite h2 h2.raiseRouted) h1
  exact h3.pspGo

/-! ### The enclave -/

theorem State.sound.sfSubmit (h : s.sound) {by_ : Agent} {req : List Word} : (s.sfSubmit by_ req).sound := h.keep rfl

theorem State.sound.sfFree (h : s.sound) : s.sfFree.sound := h.keep rfl

theorem State.sound.writeSfCtrl (h : s.sound) {by_ : Agent} {v : Word} : (s.writeSfCtrl by_ v).sound := by
  unfold State.writeSfCtrl
  extract_lets s1
  have h1 : s1.sound := .ite h.sfFree h
  exact .ite h1 (.ite h1.setFlag h1.sfSubmit)

theorem State.sound.writeSfReq (h : s.sound) {a : Nat} {v : Word} : (s.writeSfReq a v).sound := .ite h h.setReg

theorem State.sound.sfAnswer (h : s.sound) {result bytes : Nat} {data : List Word} : (s.sfAnswer result bytes data).sound :=
  h.keep rfl

theorem State.sound.execMailboxResponseReady (h : s.sound) : outSound (execMailboxResponseReady s) := by
  unfold Machine.execMailboxResponseReady
  extract_lets _ s1 _
  have h1 : s1.sound := .ite h h.sfAnswer
  exact .ite (.ite h1 (h1.keep (by rfl)).raiseRouted) h

theorem State.sound.execGetCert (h : s.sound) : outSound (execGetCert s) := by
  unfold Machine.execGetCert
  extract_lets _
  exact .ite (.ite h.sfAnswer h.sfAnswer) h

theorem State.sound.sfSign (h : s.sound) {bytes : List Byte} : (s.sfSign bytes).2.sound := h.keep rfl

theorem State.sound.execSign (h : s.sound) : outSound (execSign s) := by
  unfold Machine.execSign
  refine .ite ?_ h
  split
  · exact h.sfAnswer
  · extract_lets _ s1 _
    have h1 : s1.sound := h.keep rfl
    split
    next _ s2 e =>
      have h2 : s2.sound := h1.sfSign.of_snd e
      exact h2.sfAnswer

theorem State.sound.execGetProfile (h : s.sound) : outSound (execGetProfile s) := by
  unfold Machine.execGetProfile
  extract_lets _
  exact .ite (.ite h.sfAnswer h.sfAnswer) h

theorem State.sound.execImageSig (h : s.sound) : outSound (execImageSig s) := by
  unfold Machine.execImageSig
  extract_lets _ _
  exact .ite (.ite h.sfAnswer (.ite h.sfAnswer (h.keep (by rfl)).sfAnswer)) h

theorem State.sound.sfReceipt (h : s.sound) {result : Nat} : (s.sfReceipt result).sound := by
  unfold State.sfReceipt
  extract_lets _
  split
  next _ s1 e =>
    have h1 : s1.sound := h.sfSign.of_snd e
    extract_lets _
    exact (h1.keep (by rfl)).sfAnswer

theorem State.sound.execChange {nvFail : Bool} (h : s.sound) : outSound (execChange nvFail s) := by
  unfold Machine.execChange
  refine .ite ?_ h
  split
  · exact h.sfReceipt
  · extract_lets _
    exact .ite h.sfReceipt (.ite h.fault.sfReceipt (h.keep rfl))

theorem State.sound.loadAtlas (h : s.sound) : s.loadAtlas.sound := by
  unfold State.loadAtlas
  extract_lets _
  exact h.keep rfl

theorem State.sound.commitProfile (h : s.sound) {p : Profile} : (s.commitProfile p).sound := by
  unfold State.commitProfile
  extract_lets _ _ _ _ s1 s2 _ s3
  have h1 : s1.sound := h.keep rfl
  have h2 : s2.sound := .ite h1.loadAtlas h1
  have h3 : s3.sound := .ite (h2.keep rfl) h2
  exact .ite (h3.keep rfl) h3

theorem State.sound.storeGood (h : s.sound) {item : Nat} : (s.storeGood item).sound := h.keep rfl

theorem State.sound.execProfileCommit (h : s.sound) : outSound (execProfileCommit s) := by
  unfold Machine.execProfileCommit
  split
  · exact h
  · extract_lets s1 s2
    have h1 : s1.sound := h.commitProfile.storeGood
    have h2 : s2.sound := .ite h1.storeGood h1
    exact .ite h h2.sfReceipt

theorem State.sound.abandonCommit (h : s.sound) : s.abandonCommit.sound := .ite h.sfReceipt h

end Sys2Proof.Machine

end

section
/-! PROOF. The mains link keeps the state sound. -/

open Sys2Proof Sys2Proof.Machine

namespace Sys2Proof.Machine

variable {s : State} {x : Thread}

/-! ### Mains frames -/

theorem State.sound.modMl (h : s.sound) {f : Mlink → Mlink} : (s.modMl f).sound := h.keep rfl

theorem State.sound.modPeer (h : s.sound) {id : BitVec 7} {f : MlPeer → MlPeer} : (s.modPeer id f).sound := h.modMl

theorem State.sound.mline (h : s.sound) {detail : Nat} : (s.mline detail).sound := h.fault

theorem State.sound.zcReport (h : s.sound) {was : Bool} : (s.zcReport was).sound := .ite h.setFlag.mline h

theorem State.sound.execZcEdge {dt : Nat} (h : s.sound) : outSound (execZcEdge dt s) := by
  unfold Machine.execZcEdge
  extract_lets s1 _ _
  have h1 : s1.sound := h.advance
  exact h1.modMl.zcReport

theorem State.sound.setTxLink (h : s.sound) {y : MlTxLink} : (s.setTxLink y).sound := h.modMl

theorem State.sound.mlQueue (h : s.sound) {dst : BitVec 7} {mtype : Byte} {content : List Byte} :
    (s.mlQueue dst mtype content).sound := h.modMl

theorem State.sound.sendBeacon (h : s.sound) : s.sendBeacon.sound := by
  unfold State.sendBeacon
  extract_lets _ _ _ _ _
  exact h.setTxLink.modMl

theorem State.sound.rekey (h : s.sound) : s.rekey.sound := by
  unfold State.rekey
  extract_lets _ s1
  have h1 : s1.sound := h.modMl
  exact .foldl (fun _ _ h3 => h3.mlQueue) h1

theorem State.sound.headCycle (h : s.sound) : s.headCycle.sound := by
  unfold State.headCycle
  extract_lets _ s1 s2 s3
  have h1 : s1.sound := .ite h.rekey.setTxLink h
  have h2 : s2.sound := h1.modMl
  have h3 : s3.sound := h2.modMl
  exact .ite h3 h3.sendBeacon

theorem State.sound.askAlloc (h : s.sound) : s.askAlloc.sound := by
  unfold State.askAlloc
  extract_lets _
  exact .ite h h.modMl.mlQueue

theorem State.sound.execCycleStart (h : s.sound) : outSound (execCycleStart s) := by
  unfold Machine.execCycleStart
  extract_lets _ s1 s2
  have h1 : s1.sound := h.advanceTo
  have h2 : s2.sound := h1.modMl
  exact .ite (.ite h2.headCycle h2.askAlloc) h

theorem State.sound.askAssoc (h : s.sound) : s.askAssoc.sound := by
  unfold State.askAssoc
  extract_lets _
  exact h.modMl.mlQueue

theorem State.sound.askPair (h : s.sound) {dst : BitVec 7} : (s.askPair dst).sound := by
  unfold State.askPair
  extract_lets _ _
  exact .ite h h.modMl.mlQueue

theorem State.sound.takeBeacon (h : s.sound) {b : MlBeacon} {start : Nat} : (s.takeBeacon b start).sound := by
  unfold State.takeBeacon
  extract_lets s1
  have h1 : s1.sound := h.modMl
  exact .ite h1 h1.setReg.modMl

theorem State.sound.signOf (h : s.sound) {id : BitVec 7} {negated : Bool} : (s.signOf id negated).sound := by
  unfold State.signOf
  extract_lets s1 _ _ _ s2
  have h1 : s1.sound := h.modPeer
  have h2 : s2.sound := h1.modMl
  exact .ite h2.setFlag.mline h2

theorem State.sound.hearPeer (h : s.sound) {id : BitVec 7} {hfon : Bool} : (s.hearPeer id hfon).sound := .ite h.modPeer h

theorem State.sound.heard (h : s.sound) {f : MlFrame} : (s.heard f).sound := by
  unfold State.heard
  extract_lets _ s1 _
  have h1 : s1.sound := .ite h h.signOf.hearPeer
  exact h1.modMl

theorem State.sound.rxFrame (h : s.sound) {ftype : BitVec 4} {dt : Nat} {f : MlFrame} {k : State → State}
    (hk : ∀ y0, y0.sound → (k y0).sound) : (s.rxFrame ftype dt f k).sound := by
  unfold State.rxFrame
  extract_lets s1
  have h1 : s1.sound := h.advance
  exact .ite (hk _ h1.heard) h1

theorem State.sound.rxLink (h : s.sound) {fc : BitVec 96} {link : BitVec 4} : (s.rxLink fc link).2.sound := by
  unfold State.rxLink
  extract_lets _ _
  split
  · exact h
  · split
    · exact h
    · split
      · split
        next _ s1 e =>
          have h1 : s1.sound := h.freeW.of_snd e
          exact h1
      · exact h

theorem State.sound.setRxLink (h : s.sound) {y : MlRxLink} : (s.setRxLink y).sound := .ite h h.modMl

theorem State.sound.oweSack (h : s.sound) {f : MlFrame} {b : BitVec 37} : (s.oweSack f b).sound := .ite h h.modMl

theorem State.sound.execBeacon {dt : Nat} {f : MlFrame} (h : s.sound) : outSound (execBeacon dt f s) := by
  unfold Machine.execBeacon
  refine h.rxFrame (fun _ h2 => ?_)
  extract_lets _ _
  refine .ite h2 ?_
  split
  next _ s3 e =>
    have h3 : s3.sound := h2.rxLink.of_snd e
    extract_lets _ _ s4
    have h4 : s4.sound := h3.setRxLink.takeBeacon
    exact .ite h3.countFld (.ite h3 (.ite h4.askAssoc h4))

theorem State.sound.execBeaconMissed (h : s.sound) : outSound (execBeaconMissed s) := by
  unfold Machine.execBeaconMissed
  extract_lets _
  exact .ite h.modMl h

theorem State.sound.mlItem (h : s.sound) {n : RingNo} {ws : List RWord} : (s.mlItem n ws).sound :=
  .ite h.ringPutAll h.dropWords

theorem State.sound.mgmtItem (h : s.sound) {type : Nat} {id : BitVec 7} {body : List DWord} :
    (s.mgmtItem type id body).sound := by
  unfold State.mgmtItem
  split
  · exact h
  · extract_lets _
    exact h.mlItem

theorem State.sound.peerItem (h : s.sound) {id : BitVec 7} {up : Bool} {reason : Byte} : (s.peerItem id up reason).sound :=
  h.mgmtItem

theorem State.sound.dropPeer (h : s.sound) {id : BitVec 7} : (s.dropPeer id).sound := h.modMl

theorem State.sound.peersDown (h : s.sound) {reason : Byte} : (s.peersDown reason).sound :=
  .foldl (fun _ _ h4 => h4.dropPeer.peerItem) h

theorem State.sound.sendMap (h : s.sound) {id : BitVec 7} {m : MlMap} : (s.sendMap id m).sound := h.modPeer.mlQueue

theorem State.sound.reviewMap (h : s.sound) {id : BitVec 7} {index : Nat} : (s.reviewMap id index).sound := by
  unfold State.reviewMap
  split
  · exact h
  · split
    · exact h
    · split
      · exact h.sendMap
      · exact .ite h.sendMap h

theorem State.sound.sendMaps (h : s.sound) {id : BitVec 7} : (s.sendMaps id).sound := by
  unfold State.sendMaps
  refine .foldl (fun _ _ h2 => ?_) h
  split
  · exact h2.sendMap
  · exact h2

theorem State.sound.askSounding (h : s.sound) {id : BitVec 7} : (s.askSounding id).sound := by
  unfold State.askSounding
  split
  · exact h
  · extract_lets _
    exact .ite h h.modPeer.mlQueue

theorem State.sound.hearLevel (h : s.sound) {f : MlFrame} : (s.hearLevel f).sound := by
  unfold State.hearLevel
  extract_lets _
  split
  · exact h
  · extract_lets _
    exact .ite h h.modPeer.reviewMap.reviewMap

theorem State.sound.takeWords (h : s.sound) {n : RingNo} {bad : List Nat} {i k : Nat} : (s.takeWords n bad i k).1.sound := by
  induction k generalizing s i with
  | zero => exact h
  | succ k ih =>
    rw [State.takeWords]
    split
    · exact h
    · next w s1 e => exact ih (h.ringTake e)

theorem State.sound.newSegs (h : s.sound) {n : RingNo} {key : BitVec 128 × Byte} {bad : List Nat} {i : Nat} {x : MlTxLink}
    {k : Nat} :
    (s.newSegs n key bad i x k).1.sound := by
  induction k generalizing s i x with
  | zero => exact h
  | succ k ih =>
    rw [State.newSegs]
    exact .ite_fst h (ih h.takeWords)

theorem State.sound.sendFrame (h : s.sound) {y : MlTxLink} {ftype : BitVec 4} {l : MlLoad} {notch : Bool} {n : Nat} :
    (s.sendFrame y ftype l notch n).sound := by
  unfold State.sendFrame
  extract_lets _ _ _ _ _ _
  exact h.setTxLink.modMl

theorem State.sound.sendData (h : s.sound) {k : Fin 16} {bad : List Nat} {pos slotEnd : Nat} {t : State}
    (e : s.sendData k bad pos slotEnd = some t) : t.sound := by
  unfold State.sendData at e
  dsimp only at e
  split at e
  · cases e
  · split at e
    · cases e
    · split at e
      · cases e
      · cases e
        exact h.newSegs.sendFrame

theorem State.sound.formMsg (h : s.sound) {dst : BitVec 7} {mtype : Byte} {content : List Byte} :
    (s.formMsg dst mtype content).sound := by
  unfold State.formMsg
  extract_lets _ _ _ _
  exact .ite h h.setTxLink

theorem State.sound.loadMsg (h : s.sound) : s.loadMsg.sound := by
  unfold State.loadMsg
  refine .ite h ?_
  split
  · exact h
  · exact h.modMl.formMsg

theorem State.sound.sendMsg (h : s.sound) {pos slotEnd : Nat} {t : State} (e : s.sendMsg pos slotEnd = some t) :
    t.sound := by
  unfold State.sendMsg at e
  dsimp only at e
  split at e
  · cases e
  · obtain ⟨l, -, rfl⟩ := Option.map_eq_some_iff.mp e
    exact h.loadMsg.sendFrame

theorem State.sound.sendSounding (h : s.sound) {pos slotEnd : Nat} {t : State} (e : s.sendSounding pos slotEnd = some t) :
    t.sound := by
  unfold State.sendSounding at e
  split at e
  split at e
  · cases e
  · dsimp only at e
    split at e
    · cases e
      exact h.modPeer.modMl
    · cases e

theorem State.sound.sendSack (h : s.sound) {t : State} (e : s.sendSack = some t) : t.sound := by
  unfold State.sendSack at e
  split at e
  · cases e
  · cases e
    exact State.sound.modMl (.ite h.advanceTo.modPeer h.advanceTo)

theorem State.sound.sendKind (h : s.sound) {kind : MlTxKind} {bad : List Nat} {t : State} (e : s.sendKind kind bad = some t)
    :
    t.sound := by
  unfold State.sendKind at e
  split at e
  · exact h.sendSack e
  · split at e
    · cases e
    · split at e
      · cases e
      · split at e
        · cases e
        · split at e
          · cases e
          · split at e
            · split at e
              · exact h.sendData e
              · cases e
            · exact h.sendMsg e
            · exact h.sendSounding e
            · cases e

theorem State.sound.askLink (h : s.sound) {k : Fin 16} : (s.askLink k).sound := by
  unfold State.askLink
  extract_lets _ _ _
  exact .ite h (.ite h.askAssoc h.askPair)

theorem State.sound.execMlFrameTransmit {dt : Nat} {y : MlTx} (h : s.sound) : outSound (execMlFrameTransmit dt y s) := by
  unfold Machine.execMlFrameTransmit
  extract_lets s1 s2
  have h1 : s1.sound := h.advance
  have h2 : s2.sound := by
    unfold s2
    split
    · exact h1.askLink
    · exact h1
  refine .ite ?_ h1
  split
  · exact h2
  · next s3 e =>
      have h3 : s3.sound := h2.sendKind e
      exact h3.modMl

theorem State.sound.countFrame (h : s.sound) {id : BitVec 7} {sent failed : Nat} : (s.countFrame id sent failed).sound :=
  h.modPeer

theorem State.sound.settleFrame (h : s.sound) {dst : BitVec 7} {link : BitVec 4} {acked : Byte → Bool} :
    (s.settleFrame dst link acked).sound := by
  unfold State.settleFrame
  extract_lets _ _ _ s1
  have h1 : s1.sound := h.setTxLink
  exact h1.countFld

theorem State.sound.seenBy (h : s.sound) {id : BitVec 7} {negated : Bool} : (s.seenBy id negated).sound := by
  unfold State.seenBy
  extract_lets s1 _ _ s2
  have h1 : s1.sound := h.modPeer
  have h2 : s2.sound := h1.modMl
  exact .ite h2.setFlag.mline h2

theorem State.sound.execSack {dt : Nat} {f : MlFrame} (h : s.sound) : outSound (execSack dt f s) := by
  unfold Machine.execSack
  refine h.rxFrame (fun _ h2 => ?_)
  split
  · exact h2
  · extract_lets _ s3 s4 s5
    have h3 : s3.sound := h2.seenBy.modMl
    have h4 : s4.sound := h3.settleFrame
    have h5 : s5.sound := .ite h4 h4.countFrame
    exact .ite h2 (.ite h5.sendMaps h5)

theorem State.sound.execSackMissing (h : s.sound) : outSound (execSackMissing s) := by
  unfold Machine.execSackMissing
  split
  · exact h
  · extract_lets s1 s2
    have h1 : s1.sound := h.advanceTo.modMl
    have h2 : s2.sound := h1.settleFrame
    exact .ite (.ite h2 h2.countFrame) h

theorem State.sound.lostItem (h : s.sound) : s.lostItem.sound := h.countFld

theorem State.sound.rxItem (h : s.sound) {y : MlRxLink} {w : RWord} : (s.rxItem y w).1.sound := by
  unfold State.rxItem
  extract_lets _ _ _
  split
  · exact h
  · exact h.mlItem

theorem State.sound.rxWord1 (h : s.sound) {y : MlRxLink} {isFirst : Bool} {w : RWord} : (s.rxWord1 y isFirst w).1.sound := by
  unfold State.rxWord1
  split
  · extract_lets s1
    have h1 : s1.sound := .ite h h.lostItem
    split
    · exact h1.rxItem
    · split
      · exact h.lostItem
      · exact h
  · exact h.rxItem

theorem State.sound.rxWords (h : s.sound) {x : MlRxLink} {first i : Nat} {l : List RWord} :
    (s.rxWords x first i l).1.sound := by
  induction l generalizing s x i with
  | nil => exact h
  | cons w ws ih => exact ih h.rxWord1

theorem State.sound.rxNext (h : s.sound) {x y : MlRxLink} {t : State} (e : s.rxNext x = some (t, y)) : t.sound := by
  unfold State.rxNext at e
  split at e
  · cases e
  · exact State.sound.of_fst (.ite_fst h h.rxWords) (Option.some.inj e)

theorem State.sound.rxFollow (h : s.sound) {x : MlRxLink} {k : Nat} : (s.rxFollow x k).1.sound := by
  induction k generalizing s x with
  | zero => exact h
  | succ k ih =>
    rw [State.rxFollow]
    split
    · exact h
    · next s1 x1 e => exact ih (h.rxNext e)

theorem State.sound.rxLose (h : s.sound) {y : MlRxLink} : (s.rxLose y).1.sound := by
  unfold State.rxLose
  extract_lets _ _
  split
  · exact h
  · split
    · exact h
    · exact h
    · exact h.lostItem

theorem State.sound.rxGiveUp (h : s.sound) {x : MlRxLink} {stop k : Nat} : (s.rxGiveUp x stop k).1.sound := by
  induction k generalizing s x with
  | zero => exact h
  | succ k ih =>
    rw [State.rxGiveUp]
    refine .ite_fst h (ih ?_)
    cases e : s.rxNext x with
    | none => exact h.rxLose
    | some p => exact h.rxNext e

theorem State.sound.rxSeg (h : s.sound) {y : MlRxLink} {dst : BitVec 7} {seg : List Word} : (s.rxSeg y dst seg).1.sound := by
  unfold State.rxSeg
  extract_lets _
  split
  · exact h
  · split
    · exact h.countFld
    · extract_lets _
      split
      · exact h
      · exact h.rxFollow

theorem State.sound.rxSegs (h : s.sound) {x : MlRxLink} {dst : BitVec 7} {l : List (List Word)} :
    (s.rxSegs x dst l).1.sound := by
  induction l generalizing s x with
  | nil => exact h
  | cons g gs ih => exact ih h.rxSeg

theorem State.sound.execDataFrame {dt : Nat} {f : MlFrame} (h : s.sound) : outSound (execDataFrame dt f s) := by
  unfold Machine.execDataFrame
  refine h.rxFrame (fun _ h2 => ?_)
  extract_lets _ _ s3 s4
  have h3 : s3.sound := h2.hearLevel
  have h4 : s4.sound := .ite h3.askSounding h3
  refine .ite h2 (.ite h2.countFld.oweSack (.ite h2 ?_))
  split
  next _ s5 e =>
    have h5 : s5.sound := h4.rxLink.of_snd e
    extract_lets _
    split
    next s6 _ e =>
      have h6 : s6.sound := h5.rxGiveUp.of_fst e
      split
      next s7 _ e =>
        have h7 : s7.sound := h6.rxSegs.of_fst e
        exact h7.setRxLink.oweSack

theorem State.sound.execSegmentGiveUp {src : BitVec 7} {link : BitVec 4} {broadcast : Bool} (h : s.sound) :
    outSound (execSegmentGiveUp src link broadcast s) := by
  unfold Machine.execSegmentGiveUp
  split
  · exact h
  · extract_lets s1
    have h1 : s1.sound := h.advanceTo
    refine .ite ?_ h
    split
    next s2 _ e =>
      have h2 : s2.sound := h1.rxLose.of_fst e
      split
      next s3 _ e =>
        have h3 : s3.sound := h2.rxFollow.of_fst e
        exact h3.setRxLink

theorem State.sound.execSilentWindow {noise : List Nat} (h : s.sound) : outSound (execSilentWindow noise s) := by
  unfold Machine.execSilentWindow
  split
  · exact h
  · extract_lets s1 _ s2 s3
    have h1 : s1.sound := h.advanceTo
    have h2 : s2.sound := h1.modMl
    have h3 : s3.sound := .foldl (fun _ _ h5 => h5.reviewMap.reviewMap) h2
    exact .ite (h3.keep rfl) h

theorem State.sound.writeMlCfg (h : s.sound) {v : Word} : (s.writeMlCfg v).sound := by
  unfold State.writeMlCfg
  extract_lets _ _ s1 _ _
  have h1 : s1.sound := h.writeFields
  exact .ite h1.zcReport (h1.keep rfl)

/-! ### Mains messages -/

theorem State.sound.cancelEvery (h : s.sound) : s.cancelEvery.sound := .foldl (fun _ _ h4 => .ite h4.endOp h4.endPending) h

theorem State.sound.muteAll (h : s.sound) : s.muteAll.sound := h.uhfRemoveAll.hfRemoveAll.cancelEvery

theorem State.sound.stopAll (h : s.sound) {src : BitVec 3} {mask : Word} {mute hold : Bool} :
    (s.stopAll src mask mute hold).sound := by
  unfold State.stopAll
  extract_lets s1 s2
  have h1 : s1.sound := h.forThreads (fun _ _ h4 => .ite h4.haltTh h4)
  have h2 : s2.sound := .ite h1.muteAll h1
  exact .ite h2.setFld h2

theorem State.sound.execControlFrame {dt : Nat} {f : MlFrame} (h : s.sound) : outSound (execControlFrame dt f s) := by
  unfold Machine.execControlFrame
  refine h.rxFrame (fun _ h2 => ?_)
  extract_lets _ _
  refine .ite h2 ?_
  split
  next _ s3 e =>
    have h3 : s3.sound := h2.rxLink.of_snd e
    extract_lets _
    split
    · exact h3.countFld
    · refine .ite h3 ?_
      split
      next s4 _ e =>
        have h4 : s4.sound := h3.rxFollow.of_fst e
        extract_lets _
        exact h4.setRxLink.stopAll

theorem State.sound.msgRxSeg (h : s.sound) {y : MlRxLink} {clear : Bool} {dst : BitVec 7} {seg : List Word} :
    (s.msgRxSeg y clear dst seg).1.sound := by
  unfold State.msgRxSeg
  extract_lets _
  split
  · exact h
  · split
    · exact h.countFld
    · exact h

theorem State.sound.msgRxSegs (h : s.sound) {x : MlRxLink} {clear : Bool} {dst : BitVec 7} {l : List (List Word)} :
    (s.msgRxSegs x clear dst l).1.sound := by
  induction l generalizing s x with
  | nil => exact h
  | cons g gs ih => exact ih h.msgRxSeg

theorem State.sound.mgmtTake (h : s.sound) {clear : Bool} {f : MlFrame} : (s.mgmtTake clear f).1.sound := by
  unfold State.mgmtTake
  extract_lets s1 _ s2 s3 _
  have h1 : s1.2.sound := h.rxLink
  have h2 : s2.1.sound := h1.rxGiveUp
  have h3 : s3.1.sound := h2.msgRxSegs
  exact h3.setRxLink.oweSack

theorem State.sound.takenAs {mtype : Byte} {k : State → List Byte → State} (hk : ∀ s c, s.sound → (k s c).sound)
    {r : State × Option (Byte × List Byte)} (hr : r.1.sound) : (takenAs mtype k r).sound := by
  obtain ⟨s, c⟩ := r
  cases c with
  | none => exact hr
  | some c => exact .ite (hk _ _ hr) hr

theorem State.sound.mgmtFrame (h : s.sound) {mtype : Byte} {dt : Nat} {f : MlFrame}
    {k : State → BitVec 7 → List Byte → State} (hk : ∀ y0 y1 y2, y0.sound → (k y0 y1 y2).sound) :
        (s.mgmtFrame mtype dt f k).sound :=
          h.rxFrame (fun _ h6 => .ite (State.sound.takenAs (fun _ _ h8 => hk _ _ _ h8) h6.mgmtTake) h6)

theorem State.sound.assocFail (h : s.sound) : s.assocFail.sound := h.setFlag.countFld

theorem State.sound.dropPend (h : s.sound) {p : MlPend} : (s.dropPend p).sound := h.modMl

theorem State.sound.setPend (h : s.sound) {p : MlPend} : (s.setPend p).sound := h.modMl

theorem State.sound.askProgram (h : s.sound) {mtype : Byte} {pair asked : Bool} {own : Nat} {id : BitVec 7} {a : MlAssoc} :
    (s.askProgram mtype pair asked own id a).sound := by
  unfold State.askProgram
  split
  · exact h
  · extract_lets s1 _
    have h1 : s1.sound := h.assocFail
    exact .ite (.ite h1.modMl h1) h.modMl.mgmtItem

theorem State.sound.execAssocReq {dt : Nat} {f : MlFrame} (h : s.sound) : outSound (execAssocReq dt f s) := by
  unfold Machine.execAssocReq
  refine h.mgmtFrame (fun _ _ _ h2 => ?_)
  extract_lets _ _
  exact .ite h2.modMl.askProgram h2

theorem State.sound.execAssocRsp {dt : Nat} {f : MlFrame} (h : s.sound) : outSound (execAssocRsp dt f s) := by
  unfold Machine.execAssocRsp
  refine h.mgmtFrame (fun _ _ _ h2 => ?_)
  extract_lets _
  exact .ite h2.askProgram h2

theorem State.sound.mlSign (h : s.sound) {p : MlPend} : (s.mlSign p).2.sound := h.keep rfl

theorem State.sound.sendRsp (h : s.sound) {p : MlPend} {mtype : Byte} : (s.sendRsp p mtype).sound := by
  unfold State.sendRsp
  split
  next _ s1 e =>
    have h1 : s1.sound := h.mlSign.of_snd e
    exact h1.mlQueue

theorem State.sound.sendConf (h : s.sound) {p : MlPend} {dst : BitVec 7} {mtype : Byte} :
    (s.sendConf p dst mtype).sound := by
  unfold State.sendConf
  split
  next _ s1 e =>
    have h1 : s1.sound := h.mlSign.of_snd e
    exact h1.mlQueue

theorem State.sound.keyLink (h : s.sound) {id : BitVec 7} {p : MlPend} : (s.keyLink id p).sound := by
  unfold State.keyLink
  extract_lets _ _
  exact h.modMl.countFld.modPeer

theorem State.sound.linkUp (h : s.sound) {id : BitVec 7} {p : MlPend} : (s.linkUp id p).sound := by
  unfold State.linkUp
  extract_lets s1 s2
  have h1 : s1.sound := .foldl (fun _ _ h4 => h4.dropPeer) h
  have h2 : s2.sound := .ite h1.modMl h1
  exact h2.modPeer.peerItem.askSounding

theorem State.sound.acceptAsked (h : s.sound) {p : MlPend} : (s.acceptAsked p).sound := by
  unfold State.acceptAsked
  split
  · exact h.dropPend.assocFail
  · extract_lets _ s1
    have h1 : s1.sound := .ite h h.modMl
    exact h1.setPend.sendRsp

theorem State.sound.acceptAsker (h : s.sound) {p : MlPend} : (s.acceptAsker p).sound := by
  unfold State.acceptAsker
  extract_lets s1
  have h1 : s1.sound := h.keyLink.sendConf.modMl
  exact .ite h.dropPend.assocFail.peerItem (.ite h.sendConf.dropPend.keyLink.linkUp h1.setPend)

theorem State.sound.writeAdmit (h : s.sound) {v : Word} : (s.writeAdmit v).sound := by
  unfold State.writeAdmit
  split
  · exact h
  · exact .ite h.dropPend.assocFail (.ite h.acceptAsker h.acceptAsked)

theorem State.sound.takeConf (h : s.sound) {pair : Bool} {a : MlAssoc} {t : State} (e : s.takeConf pair a = some t) :
    t.sound := by
  unfold State.takeConf at e
  split at e
  · cases e
  · split at e
    · cases e
      exact h.dropPend.keyLink.linkUp
    · cases e
      exact h.dropPend.assocFail.peerItem

theorem State.sound.execAssocConf {dt : Nat} {f : MlFrame} (h : s.sound) : outSound (execAssocConf dt f s) := by
  unfold Machine.execAssocConf
  refine h.mgmtFrame (fun _ _ _ h2 => .ite ?_ h2)
  split
  · exact h2
  · next s3 e =>
      have h3 : s3.sound := h2.takeConf e
      exact .ite h3.mlQueue h3

theorem State.sound.execKey {dt : Nat} {f : MlFrame} (h : s.sound) : outSound (execKey dt f s) := by
  unfold Machine.execKey
  refine h.mgmtFrame (fun _ _ _ h2 => ?_)
  extract_lets _ _
  refine .ite ?_ h2
  split
  · exact h2.dropPend.modMl.linkUp
  · exact .ite h2.modMl h2

theorem State.sound.execPairReq {dt : Nat} {f : MlFrame} (h : s.sound) : outSound (execPairReq dt f s) := by
  unfold Machine.execPairReq
  refine h.mgmtFrame (fun _ _ _ h2 => .ite ?_ h2)
  extract_lets _
  exact h2.modMl.askProgram

theorem State.sound.execPairRsp {dt : Nat} {f : MlFrame} (h : s.sound) : outSound (execPairRsp dt f s) := by
  unfold Machine.execPairRsp
  refine h.mgmtFrame (fun _ _ _ h2 => .ite ?_ h2)
  split
  · exact h2
  · exact h2.dropPend.askProgram

theorem State.sound.execPairConf {dt : Nat} {f : MlFrame} (h : s.sound) : outSound (execPairConf dt f s) := by
  refine h.mgmtFrame fun s src c h => .ite ?_ h
  cases e : s.takeConf true (assocOf 0x0A src c) with
  | none => exact h
  | some t => exact h.takeConf e

theorem State.sound.execLeave {dt : Nat} {f : MlFrame} (h : s.sound) : outSound (execLeave dt f s) := by
  unfold Machine.execLeave
  refine h.mgmtFrame (fun _ _ _ h2 => .ite ?_ h2)
  extract_lets s3
  have h3 : s3.sound := h2.dropPeer.peerItem
  exact .ite h3.rekey (.ite h3.modMl h3)

theorem State.sound.execAssociationTimeout {idx : BitVec 3} (h : s.sound) : outSound (execAssociationTimeout idx s) := by
  unfold Machine.execAssociationTimeout
  split
  · exact .ite h.advanceTo.modMl.assocFail h
  · exact h.advanceTo.dropPend.assocFail

theorem State.sound.execTmapPeriodExpiry {src : BitVec 7} (h : s.sound) : outSound (execTmapPeriodExpiry src s) := by
  unfold Machine.execTmapPeriodExpiry
  split
  · exact h
  · extract_lets s1
    have h1 : s1.sound := h.advanceTo
    exact .ite h1.modPeer.sendMaps.askSounding h

theorem State.sound.execTmap {dt : Nat} {f : MlFrame} (h : s.sound) : outSound (execTmap dt f s) := by
  unfold Machine.execTmap
  refine h.mgmtFrame (fun _ _ _ h2 => ?_)
  extract_lets _
  exact .ite h2.modPeer h2

end Sys2Proof.Machine

end

section
/-! PROOF. Power, security, the register bus and the host port keep the state sound; so does every step. -/

open Sys2Proof Sys2Proof.Machine

namespace Sys2Proof.Machine

variable {s : State} {x : Thread}

/-! ### Power states -/

theorem State.sound.cleared (h : s.sound) : s.cleared.sound := by
  obtain ⟨hregs, -, -, hsnap, -⟩ := h
  obtain ⟨-, hsmem, hpstore, -, hth⟩ := State.sound_reset
  exact ⟨Sparse.wf_filter hregs _, hsmem, hpstore, hsnap, hth⟩

theorem State.sound.doReset (h : s.sound) {cause : Nat} : (s.doReset cause).sound := h.cleared.setReg

theorem State.sound.execPoweron (h : s.sound) : outSound (execPoweron s) := by
  obtain ⟨-, hrest⟩ := h
  exact State.sound.doReset (s := { s with regs := [] }) ⟨⟨List.Pairwise.nil, nofun⟩, hrest⟩

theorem State.sound.writeRst (h : s.sound) {v : Word} : (s.writeRst v).sound := .ite h.doReset h

theorem State.sound.storeBad (h : s.sound) {item : Nat} : (s.storeBad item).sound := (h.keep (by rfl)).fault

theorem State.sound.loadStore (h : s.sound) {bad : StoreFaults} : (s.loadStore bad).sound := by
  unfold State.loadStore
  extract_lets anySet src nv badSnap src' s1 badAtlas s2 s3 s4 s5
  have h1 : s1.sound := State.sound.loadAtlas (.loadCal (h.keep (by rfl)))
  have h2 : s2.sound := h1.keep rfl
  have h3 : s3.sound := .ite h2.storeBad h2
  have h4 : s4.sound := .ite h3.storeBad h3
  have h5 : s5.sound := .ite h4.storeBad h4
  exact .ite h5.storeBad h5

theorem State.sound.startT0 (h : s.sound) : s.startT0.sound := by
  unfold State.startT0
  extract_lets _ s1
  have h1 : s1.sound := h.keep rfl
  exact .ite (h1.modTh (fun _ hx3 => hx3.keep rfl)) h1

theorem State.sound.bootFail (h : s.sound) {host : Bool} : (s.bootFail host).sound := by
  unfold State.bootFail
  extract_lets _ s1 _
  have h1 : s1.sound := h.keep rfl
  exact .ite (h1.keep rfl) h1

theorem State.sound.xipBootRegion (h : s.sound) : s.xipBootRegion.sound := by
  unfold State.xipBootRegion
  split
  · exact .ite h h.setReg
  · exact h

theorem State.sound.bootHost (h : s.sound) : s.bootHost.sound := by
  refine .ite (State.sound.bootFail (h.keep (by rfl))) ?_
  split
  · exact State.sound.startT0 (h.keep (by rfl))
  · obtain ⟨hregs, hsmem, hpstore, hrest⟩ := h
    exact State.sound.startT0 ⟨hregs, hsmem, Sparse.wf_filter hpstore _, hrest⟩

theorem State.sound.execBootImageReady {image : List Word} (h : s.sound) : outSound (execBootImageReady image s) := by
  refine .ite h (.ite h.bootHost ?_)
  extract_lets s1 image'
  have h1 : s1.sound := .ite h.xipBootRegion h
  exact .ite (State.sound.startT0 ((h1.withStore (Memory.wf_setWords Memory.wf_nil _ _)).keep (by rfl)))
      (.ite (h1.keep rfl) h1.bootFail)

theorem State.sound.powerDown (h : s.sound) {p : PState} : (s.powerDown p).sound := by
  obtain ⟨-, hrest⟩ := h.cleared
  obtain ⟨hregs, -⟩ := h
  exact ⟨Sparse.wf_filter hregs _, hrest⟩

theorem State.sound.writePwrCtl (h : s.sound) {v : Word} : (s.writePwrCtl v).sound := by
  unfold State.writePwrCtl
  extract_lets ask
  have hask (p : PState) : (ask s p).sound := h.writeFields.keep rfl
  split
  · exact .ite h.writeFields (hask _)
  · exact .ite (hask _) h
  · exact .ite (hask _) h
  · exact .ite (hask _) h
  · exact h.writeFields.keep rfl

theorem State.sound.execPowerStateEntry (h : s.sound) : outSound (execPowerStateEntry s) := by
  unfold Machine.execPowerStateEntry
  have h1 : s.uhfRemoveAll.hfRemoveAll.sound := h.uhfRemoveAll.hfRemoveAll
  generalize s.uhfRemoveAll.hfRemoveAll = s1 at h1 ⊢
  split
  · exact h
  · exact .ite h (.ite (h1.keep rfl) h1.powerDown)

theorem State.sound.watchPorts (h : s.sound) {l : List (HPortNo × WatchSample)} : (s.watchPorts l).1.sound := by
  induction l generalizing s with
  | nil => exact h
  | cons c rest ih => exact ih h.watchPort

theorem State.sound.execWatchStateScan {xs : List WatchSample} (h : s.sound) : outSound (execWatchStateScan xs s) := by
  unfold Machine.execWatchStateScan
  extract_lets _ _
  refine .ite ?_ h
  split
  next s1 _ e =>
    have h1 : s1.sound := (h.keep (by rfl)).watchPorts.of_fst e
    split
    · exact h1
    · exact h1.doReset.setReg

theorem State.sound.thermal (h : s.sound) {c : Nat} : (s.thermal c).sound := by
  unfold State.thermal
  extract_lets _ _ _
  exact .ite (h.keep (by rfl)).fault (.ite (h.keep (by rfl)).fault h)

theorem State.sound.execHkAdcSequence {xs : List (BitVec 16)} (h : s.sound) : outSound (execHkAdcSequence xs s) := by
  unfold Machine.execHkAdcSequence
  extract_lets s1 s2 _ s3
  have h1 : s1.sound := .foldl (fun _ _ h => .ite h.setReg.setReg h.setReg) h
  have h2 : s2.sound := h1.setFld
  have h3 : s3.sound := by
    clear_value s2
    exact h2.keep rfl
  exact .ite (.foldl (fun _ _ h => h.thermal) h3) h

/-- The bytes of a word list are a canonical memory. -/
theorem Memory.wf_wordsMem (ws : List Word) : Memory.wf (wordsMem ws) := by
  have hsorted : ∀ (bs : List Byte) k, (bs.zipIdx k).Pairwise fun a b => a.2 < b.2 := fun bs => by
    induction bs with
    | nil => exact fun _ => List.Pairwise.nil
    | cons b bs ih =>
      refine fun k => List.pairwise_cons.mpr ⟨fun e he => ?_, ih (k + 1)⟩
      exact List.le_snd_of_mem_zipIdx he
  refine ⟨List.pairwise_map.mpr ((hsorted _ 0).filter _), fun e he => ?_⟩
  obtain ⟨c, hc, rfl⟩ := List.mem_map.mp he
  simpa [Memory.blank] using (List.mem_filter.mp hc).2

theorem State.sound.writeSnapshot (h : s.sound) {cause : Nat} : (s.writeSnapshot cause).sound := by
  obtain ⟨hregs, hsmem, hpstore, -, hth⟩ := h
  exact ⟨hregs, hsmem, hpstore, Memory.wf_wordsMem _, hth⟩

theorem State.sound.writeSnap (h : s.sound) {v : Word} : (s.writeSnap v).sound := .ite (h.keep rfl) h

theorem State.sound.shedOps (h : s.sound) {p : Op → Bool} : (s.shedOps p).sound := h.killAll

theorem State.sound.capDrivers (h : s.sound) : s.capDrivers.sound := by
  unfold State.capDrivers
  refine .foldl (fun _ _ h2 => ?_) h
  extract_lets _ s3
  have h3 : s3.sound := .ite h2.setFlag h2
  exact h3.modUp.relevel

theorem Thread.sound.shed (hx : x.sound) : x.shed.sound := by
  unfold Thread.shed
  split
  · extract_lets x1
    have hx1 : x1.sound := hx.halt
    exact hx1.keep rfl
  · extract_lets x2
    have hx2 : x2.sound := hx.halt
    exact hx2.keep rfl
  · extract_lets x3
    have hx3 : x3.sound := hx.halt
    exact hx3.keep rfl
  · exact hx

theorem State.sound.dropSegments (h : s.sound) : s.dropSegments.sound := by
  unfold State.dropSegments
  extract_lets _
  exact h.modMl.countFld

theorem State.sound.enterLevel (h : s.sound) {k : Nat} : (s.enterLevel k).sound := by
  unfold State.enterLevel
  extract_lets _ s1
  have h1 : s1.sound := h.keep rfl
  split
  · exact h1.capDrivers
  · exact h1.hfRemoveAll.shedOps
  · exact h1.uhfRemoveAll.shedOps
  · exact h1.shedOps
  · refine State.sound.writeSnapshot (.dropSegments (.abandonCommit (.shedOps (.forThreads (fun _ _ h => ?_) h1.setFld))))
    exact h.modTh fun _ hx => hx.shed
  · exact h1.powerDown
  · exact h1

theorem State.sound.raiseTo (h : s.sound) {k : Nat} : (s.raiseTo k).sound := .foldl (fun _ _ h4 => .ite h4.enterLevel h4) h

theorem State.sound.execReady {bad : StoreFaults} (h : s.sound) : outSound (execReady bad s) := by
  unfold Machine.execReady
  extract_lets s1 _ _ s2 s3
  have h1 : s1.sound := h.loadStore
  have h2 : s2.sound := h1.keep rfl
  have h3 : s3.sound := .ite h2.setFlag h2
  exact .ite h3.raiseTo h

theorem State.sound.execRailWarning {rail : Fin 7} {below : Bool} (h : s.sound) :
    outSound (execRailWarning rail below s) := by
  unfold Machine.execRailWarning
  extract_lets _ _ s1
  have h1 : s1.sound := (h.keep (by rfl)).fault
  exact .ite (.ite (.ite h1.raiseTo h1) (.ite (h.keep rfl) h)) h

theorem State.sound.execAcokLossConfirmed (h : s.sound) : outSound (execAcokLossConfirmed s) := by
  unfold Machine.execAcokLossConfirmed
  extract_lets _ s1
  have h1 : s1.sound := (h.keep (by rfl)).fault
  exact .ite (.ite h1.raiseTo h1) h

theorem State.sound.execShedLevelEntry (h : s.sound) : outSound (execShedLevelEntry s) := by
  unfold Machine.execShedLevelEntry
  extract_lets _ s1 _
  have h1 : s1.sound := h.advanceTo
  exact .ite (h1.keep (by rfl)).raiseTo h

theorem State.sound.leaveFive (h : s.sound) : s.leaveFive.sound := h.setFld.forThreads (fun _ _ h4 => .ite h4.startTh h4)

theorem State.sound.execShedRestore (h : s.sound) : outSound (execShedRestore s) := by
  unfold Machine.execShedRestore
  extract_lets _ s1 _ s2
  have h1 : s1.sound := h.advanceTo
  have h2 : s2.sound := h1.keep rfl
  exact .ite (.ite h2.leaveFive h2) h

/-! ### Residues -/

theorem State.sound.writeLine (h : s.sound) {line : Nat} {data : List Word} : (s.writeLine line data).sound := by
  obtain ⟨hregs, hsmem, hpstore, hrest⟩ := h
  exact ⟨hregs, hsmem, Memory.wf_setWords hpstore _ _, hrest⟩

theorem State.sound.wakeRefetch (h : s.sound) {line : Nat} : (s.wakeRefetch line).sound :=
  h.forThreads (fun _ _ h6 => h6.modTh (fun _ hx8 => .ite (hx8.keep rfl) hx8))

theorem State.sound.lineGood (h : s.sound) {line : Nat} {data : List Word} : (s.lineGood line data).sound := by
  unfold State.lineGood
  extract_lets s1 _ _ s2
  have h1 : s1.sound := h.writeLine
  have h2 : s2.sound := h1.keep rfl
  exact h2.wakeRefetch

theorem State.sound.rewriteLine (h : s.sound) {line : Nat} {data : List Word} {failed : Bool} :
    (s.rewriteLine line data failed).sound := .ite h.lineGood (.ite (h.keep (by rfl)).fault.lineGood (h.keep (by rfl)).fault)

theorem State.sound.execRefetchLineRewritten {line : BitVec 13} {data : List Word} {failed : Bool} (h : s.sound) :
    outSound (execRefetchLineRewritten line data failed s) := by
  unfold Machine.execRefetchLineRewritten
  split
  · exact .ite h.rewriteLine h
  · exact h

theorem State.sound.gapPort (h : s.sound) {p : UPortNo} : (s.gapPort p).sound := h.keep rfl

theorem State.sound.gapRn (h : s.sound) {n : Nat} : (s.gapRn n).sound := h.keep rfl

theorem State.sound.rejectCals (h : s.sound) : s.rejectCals.sound := by
  unfold State.rejectCals
  extract_lets _
  exact .foldl (fun _ _ h2 => h2.countFld.endOp) h

theorem State.sound.execResidueMismatch {source : Fin 32} (h : s.sound) : outSound (execResidueMismatch source s) := by
  unfold Machine.execResidueMismatch
  extract_lets _ s1
  have h1 : s1.sound := (h.keep (by rfl)).noteFault
  exact .dite (fun _ => h1.gapPort) (fun _ => .ite h1.gapRn (.ite h1.rejectCals h1))

theorem State.sound.execRecomputationDone {source : Fin 32} {again : Bool} (h : s.sound) :
    outSound (execRecomputationDone source again s) := by
  unfold Machine.execRecomputationDone
  split
  · exact h
  · extract_lets _
    exact (h.keep (by rfl)).logFault

theorem State.sound.execIopad {source : BitVec 6} {persists : Bool} (h : s.sound) :
    outSound (execIopad source persists s) := by
  unfold Machine.execIopad
  extract_lets _ _
  exact .ite h (.ite (h.keep (by rfl)).fault (h.keep rfl))

/-! ### The register bus -/

theorem State.sound.freeField (h : s.sound) {w mask : Word} : (s.freeField w mask).2.sound := by
  unfold State.freeField
  split
  next _ s1 e =>
    have h1 : s1.sound := h.freeW.of_snd e
    exact h1

theorem State.sound.readUhf (h : s.sound) {a : Nat} : (s.readUhf a).2.sound := by
  unfold State.readUhf
  split
  · exact h
  · exact h.freeField
  · split
    · exact h.freeField
    · exact h
  · exact h
  · split
    · exact h
    · exact h
    · exact h.freeField
    · exact h

theorem State.sound.readHc (h : s.sound) {a : Nat} : (s.readHc a).2.sound := by
  unfold State.readHc
  split
  · exact h
  · split
    · exact h.freeField
    · exact h
  · split <;> exact h
  · split
    · exact h
    · split
      · exact h
      · split
        · exact h
        · exact h

theorem State.sound.readThread (h : s.sound) {a : Nat} : (s.readThread a).2.sound := by
  generalize hf : State.readThread = f
  delta State.readThread at hf
  rw [← congrFun (congrFun hf s) a]
  generalize instOf 32 (TH_SEM 0) 4 a = k
  cases k with
  | some k => exact h.semRead
  | none => exact .ite_snd h (.dite_snd (fun _ => h) fun _ => h)

theorem State.sound.readSerial (h : s.sound) {a : Nat} : (s.readSerial a).2.sound :=
  .ite_snd h (.ite_snd h (.ite_snd h.readPsRx h))

theorem State.sound.readFault (h : s.sound) {a : Nat} : (s.readFault a).2.sound := by
  unfold State.readFault
  split
  · exact h
  · split
    · extract_lets _
      exact h.keep rfl
    · exact h

theorem State.sound.readNv (h : s.sound) {a : Nat} : (s.readNv a).2.sound := by
  unfold State.readNv
  extract_lets _
  split
  · exact h
  · split
    · exact h
    · exact h.freeW

theorem State.sound.busRead (h : s.sound) {a : Nat} : (s.busRead a).2.sound := by
  unfold State.busRead
  split
  · exact h
  · exact h
  · exact h.readUhf
  · exact h.readUhf
  · exact h.readHc
  · exact h
  · exact h
  · exact h
  · exact h.readThread
  · exact h
  · exact h
  · exact h.readSerial
  · exact h
  · exact h
  · exact h
  · exact h
  · exact h
  · exact h.readFault
  · exact h.readNv
  · exact h

theorem State.sound.busSys (h : s.sound) {a : Nat} {v : Word} : (s.busSys a v).sound :=
  .ite h.writeRst (.ite h.writePwrCtl (.ite h.writeSnap h.writeFields))

theorem State.sound.busClk (h : s.sound) {a : Nat} {v : Word} : (s.busClk a v).sound := by
  unfold State.busClk
  refine .ite h.writeEpoch ?_
  split
  · exact h.writeClkout
  · exact h.writeFields

theorem State.sound.busUhf (h : s.sound) {a : Nat} {v : Word} : (s.busUhf a v).sound := by
  unfold State.busUhf
  split
  · exact h.writeUpCtrl
  · exact h.writeUpFault
  · exact h.writeFields

theorem State.sound.busHc (h : s.sound) {a : Nat} {v : Word} : (s.busHc a v).sound := by
  unfold State.busHc
  split
  · exact h.writeHpCtrl
  · exact h.writeHpFault
  · exact .ite h.writeWatchCfg h.writeFields

theorem State.sound.busThPage (h : s.sound) {t : Tid} {o : Nat} {v : Word} : (s.busThPage t o v).sound := by
  unfold State.busThPage
  extract_lets x1
  split
  · exact h.writeThCtrl
  · exact .ite (h.modTh (fun _ hx3 => hx3.keep rfl)) h
  · exact h.modTh (fun _ hx5 => hx5.keep rfl)
  · exact h.modTh (fun _ hx7 => hx7.keep rfl)
  · exact h.setEvents
  · exact h

theorem State.sound.busThread (h : s.sound) {a : Nat} {v : Word} : (s.busThread a v).sound := by
  generalize hf : State.busThread = f
  delta State.busThread at hf
  rw [← congrFun (congrFun (congrFun hf s) a) v]
  generalize instOf 32 (TH_SEM 0) 4 a = k
  cases k with
  | some k => exact h.semWrite
  | none => exact .dite (fun _ => h.busThPage) (fun _ => h)

theorem State.sound.busRing (h : s.sound) {a : Nat} {v : Word} : (s.busRing a v).sound := by
  generalize hf : State.busRing = f
  delta State.busRing at hf
  rw [← congrFun (congrFun (congrFun hf s) a) v]
  generalize instOf 32 (RG_CFG 0) 0x20 a = cfg
  generalize instOf 32 (RG_CTRL 0) 0x20 a = ctrl
  generalize instOf 4 (RG_XFCFG 0) 0x10 a = xf
  split
  · exact h.cfgRing
  · exact h.writeRingCtrl
  · exact h.writeXfCfg
  · exact h.writeFields

theorem State.sound.busSched (h : s.sound) {a : Nat} {v : Word} : (s.busSched a v).sound := by
  unfold State.busSched
  refine .ite h.writeLatCfg ?_
  split
  · exact h.writeAmCtl
  · exact h.writeImCtl
  · exact h.imRefill.writeFields
  · exact h.writeFields

theorem State.sound.busSerial (h : s.sound) {a : Nat} {v : Word} : (s.busSerial a v).sound :=
  .ite h.writeMsCtrl (.ite h.writeDcmd (.ite h.writeQent (.ite h.writePsCtrl h.writeFields)))

theorem State.sound.busMlink (h : s.sound) {a : Nat} {v : Word} : (s.busMlink a v).sound :=
  .ite h.writeMlCfg (.ite h.writeAdmit h.writeFields)

theorem State.sound.busTimer (h : s.sound) {a : Nat} {v : Word} : (s.busTimer a v).sound := by
  unfold State.busTimer
  refine .ite (.ite h.armTb h) ?_
  split
  · exact h.writeTuCtrl
  · exact h.writeReload
  · split
    · exact h.writeCmp
    · exact h.writeFields

theorem State.sound.busCrc (h : s.sound) {a : Nat} {v : Word} : (s.busCrc a v).sound := by
  unfold State.busCrc
  extract_lets _
  split
  · exact .ite h.writeCcState h
  · exact .ite h.writeCcCtrl h
  · exact .ite h.setFlag h.writeFields
  · exact .ite h.setFlag h.writeFields
  · exact .ite h.setFlag h.writeFields
  · exact .ite h.setFlag h.writeFields
  · exact h.writeFields

theorem State.sound.busSaffron (h : s.sound) {by_ : Agent} {a : Nat} {v : Word} : (s.busSaffron by_ a v).sound :=
  .ite h.writeSfCtrl (.ite h.writeSfReq h.writeFields)

theorem State.sound.busWrite (h : s.sound) {by_ : Agent} {a : Nat} {v : Word} : (s.busWrite by_ a v).sound := by
  unfold State.busWrite
  split
  · exact h.busSys
  · exact h.busClk
  · exact h.busUhf
  · exact h.busUhf
  · exact h.busHc
  · exact .ite h.writeAirCtrl h.writeFields
  · exact h.busThread
  · exact h.busRing
  · exact h.busSched
  · exact h.busSerial
  · exact h.busMlink
  · exact h.busTimer
  · exact h.busCrc
  · exact h.busSaffron
  · exact h.writeFields

/-! ### The host port -/

theorem State.sound.countVerdict (h : s.sound) {v : Byte} : (s.countVerdict v).sound := by
  unfold State.countVerdict
  split
  · exact h.countFld
  · exact h.countFld
  · exact h.countFld
  · exact h.countFld
  · exact h.countFld
  · exact h

theorem State.sound.badVerdict (h : s.sound) {v : Byte} : (s.badVerdict v).sound := by
  unfold State.badVerdict
  extract_lets _ s1
  have h1 : s1.sound := h.keep rfl
  exact .ite (.ite h1.fault h1) (h.keep rfl)

theorem State.sound.answered (h : s.sound) {a : Answer} {keep : Bool} : (s.answered a keep).sound := by
  unfold State.answered
  extract_lets _ s1 _ s2
  have h1 : s1.sound := h.keep rfl
  have h2 : s2.sound := .ite (h1.keep rfl) h1
  exact h2.countVerdict.badVerdict

theorem State.sound.selectZeros (h : s.sound) : s.selectZeros.sound := by
  unfold State.selectZeros
  extract_lets _ s1
  have h1 : s1.sound := h.keep rfl
  exact .ite h1.countFld h1

theorem State.sound.selectBegin (h : s.sound) : s.selectBegin.sound := .ite h (h.keep rfl)

theorem State.sound.replySent (h : s.sound) : s.replySent.sound := h.keep rfl

theorem State.sound.select (h : s.sound) {sel : SelectInfo} {f : State → State} (hf : ∀ y0, y0.sound → (f y0).sound) :
    (s.select sel f).sound := by
  unfold State.select
  extract_lets _ s1
  have h1 : s1.sound := hf _ h.selectBegin
  exact .ite h1.replySent h1

theorem State.sound.execOk (h : s.sound) {data : List Word} : (Exec.ok s data).state.sound := h

theorem State.sound.execRefused (h : s.sound) : (Exec.refused s).state.sound := h

theorem State.sound.readAll (h : s.sound) {l : List Nat} : (s.readAll l).2.sound := by
  induction l generalizing s with
  | nil => exact h
  | cons a as ih => exact ih h.busRead

theorem State.sound.writeAll (h : s.sound) {l : List (Nat × Word)} : (s.writeAll l).sound := by
  induction l generalizing s with
  | nil => exact h
  | cons c r ih => exact ih h.busWrite

theorem State.sound.doRegrd (h : s.sound) {f : HostFrame} : (s.doRegrd f).state.sound := by
  unfold State.doRegrd
  split
  · exact h.execRefused
  · split
    next _ s1 e =>
      have h1 : s1.sound := h.readAll.of_snd e
      exact h1.execOk

theorem State.sound.doRegwr (h : s.sound) {f : HostFrame} : (s.doRegwr f).state.sound := by
  unfold State.doRegwr
  split
  · exact h.execRefused
  · exact h.writeAll.execOk

theorem State.sound.hostPut (h : s.sound) {n : RingNo} {i : Fin 16} {ws : List DWord} : (s.hostPut n i ws).sound := by
  unfold State.hostPut
  split
  next _ s1 e =>
    have h1 : s1.sound := h.imVerdict.of_snd e
    extract_lets _
    exact .ite h1.ringPutAll h1.countFld

theorem State.sound.doRingwr (h : s.sound) {f : HostFrame} : (s.doRingwr f).state.sound := by
  unfold State.doRingwr
  extract_lets _ _
  split
  · exact h.execRefused
  · split
    · exact h.execRefused
    · split
      · exact h.execRefused
      · split
        · exact h
        · exact (State.sound.foldl (fun _ _ h2 => h2.hostPut) h).execOk

theorem State.sound.doRingrd (h : s.sound) {f : HostFrame} : (s.doRingrd f).state.sound := by
  unfold State.doRingrd
  split
  · extract_lets _ _
    split
    · exact h.execRefused
    · exact (h.keep (by rfl)).execOk
  · exact h.execRefused

theorem State.sound.doStop (h : s.sound) {f : HostFrame} : (s.doStop f).state.sound := by
  unfold State.doStop
  split
  · split
    · exact h.execRefused
    · exact h.countFld.stopAll.execOk
  · exact h.execRefused

theorem State.sound.putRequest (h : s.sound) {ws : List Word} : (s.putRequest ws).sound := .foldl (fun _ _ h4 => h4.setReg) h

theorem State.sound.doEnclave (h : s.sound) {f : HostFrame} : (s.doEnclave f).state.sound := by
  unfold State.doEnclave
  split
  · exact h.execRefused
  · split
    · split
      · exact h.sfFree.execOk
      · exact h.execRefused
    · split
      · exact h.setFlag
      · exact h.putRequest.sfSubmit.execOk

theorem State.sound.doLoad (h : s.sound) {f : HostFrame} : (s.doLoad f).state.sound := by
  unfold State.doLoad
  split
  · exact h.execRefused
  · refine .ite_state h.execRefused (.ite_state ?_ (.ite_state h.execRefused ?_))
    · split
      · exact h.execRefused
      · exact .ite_state h.rewriteLine.execOk h.execRefused
    · obtain ⟨-, -, hpstore, -⟩ := id h
      exact (h.withStore (Memory.wf_setWords hpstore _ _)).keep rfl

theorem State.sound.execFrame (h : s.sound) {ftype : Nat} {f : HostFrame} : (s.execFrame ftype f).state.sound := by
  unfold State.execFrame
  split
  · exact h.doRegrd
  · exact h.doRegwr
  · exact h.doRingwr
  · exact h.doRingrd
  · exact h.doStop
  · exact h.doEnclave
  · exact h.doLoad

theorem State.sound.newExpect (h : s.sound) {alive : Byte} {ok : Bool} : (s.newExpect alive ok).sound :=
  .ite (h.keep rfl) (.ite (h.keep rfl) h)

theorem State.sound.goodFrame (h : s.sound) : s.goodFrame.sound := h.keep rfl

theorem State.sound.doResend (h : s.sound) {f : HostFrame} : (s.doResend f).sound := by
  unfold State.doResend
  extract_lets named
  clear_value named
  cases named with
  | some a => exact State.sound.newExpect (h.keep (by rfl))
  | none => exact h.newExpect.answered

theorem State.sound.takeFrame (h : s.sound) {ftype : Nat} {f : HostFrame} : (s.takeFrame ftype f).sound := by
  unfold State.takeFrame
  extract_lets _ _ s1 s2 s3
  have h1 : s1.sound := h.keep rfl
  have h2 : s2.sound := h1.goodFrame
  have h3 : s3.state.sound := h2.execFrame
  exact .ite h1.answered (.ite h2.doResend (.ite h2.answered (.ite h3 h3.newExpect.answered)))

theorem State.sound.stopUnready (h : s.sound) {ftype : Nat} {f : HostFrame} : (s.stopUnready ftype f).sound := by
  unfold State.stopUnready
  extract_lets s1
  have h1 : s1.state.sound := h.goodFrame.doStop
  exact .ite h1.newExpect h

theorem State.sound.hostFrame (h : s.sound) {ftype : Nat} {f : HostFrame} : (s.hostFrame ftype f).sound :=
  .ite (h.select (fun _ h4 => h4.takeFrame)) h.selectZeros.stopUnready

theorem State.sound.truncate (h : s.sound) {hdr : Word} : (s.truncate hdr).sound := by
  unfold State.truncate
  extract_lets _ _
  exact (h.keep (by rfl)).answered

theorem State.sound.execTruncated {hdr : Word} {sel : SelectInfo} (h : s.sound) : outSound (execTruncated hdr sel s) := by
  unfold Machine.execTruncated
  extract_lets _ _ _ _
  exact .ite (h.select (fun _ h2 => .ite (h2.keep rfl) h2.truncate)) h.selectZeros

theorem State.sound.execHostSilentTimeout (h : s.sound) : outSound (execHostSilentTimeout s) := by
  unfold Machine.execHostSilentTimeout
  extract_lets _ s1
  have h1 : s1.sound := (h.keep (by rfl)).fault
  exact .ite (.ite h1.stopAll h1) h

/-! ### LDIO, STIO and posted writes -/

theorem State.sound.drainPosted (h : s.sound) {t : Tid} : (s.drainPosted t).sound := by
  refine .foldl (fun _ _ h => h.busWrite) (h.modTh fun x hx => ?_)
  obtain ⟨hmem, hrstack, -⟩ := hx
  exact ⟨hmem, hrstack, Nat.zero_le _⟩

theorem State.sound.ioTrap (h : s.sound) {a : Word} {r : Unit → IssueRes} (hr : ∀ y0, (r y0).sound) : (ioTrap s a r).sound :=
  .ite h (.ite h (hr _))

theorem State.sound.busInOrder (h : s.sound) {t : Tid} {k : State → IssueRes} (hk : ∀ y0, y0.sound → (k y0).sound) :
    (s.busInOrder t k).sound := by
  unfold State.busInOrder
  extract_lets s1
  have h1 : s1.sound := h.drainPosted
  exact .ite (hk _ h1) h1

theorem State.sound.ldioBody {t : Tid} {contended : Bool} {f : IFields} (h : s.sound) :
    (ldioBody t contended f s).sound := by
  unfold Machine.ldioBody
  extract_lets _
  refine h.ioTrap (fun _ => .ite trivial (h.busInOrder (fun _ h3 => ?_)))
  split
  next _ s4 e =>
    have h4 : s4.sound := h3.busRead.of_snd e
    exact h4.issueTh (fun _ hx6 => hx6.setRg.advance)

theorem State.sound.stioBody {t : Tid} {contended : Bool} {f : IFields} (h : s.sound) :
    (stioBody t contended f s).sound := by
  unfold Machine.stioBody
  refine State.sound.ioTrap h fun _ => ?_
  dsimp only
  refine .ite (State.sound.busWrite (.drainPosted (h.modTh fun _ hx => hx.advance))) ?_
  split
  · trivial
  · next hroom =>
    obtain ⟨hmem, hrstack, -⟩ := h.th (t := t)
    refine h.setTh ⟨hmem, hrstack, ?_⟩
    rw [List.length_append, List.length_singleton]
    omega

theorem State.sound.waitBody {t : Tid} {bad : Bool} {ins : Instr} {body : State → IssueRes} (h : s.sound)
    (e : waitBody t bad ins = some body) : (body s).sound := by
  unfold Machine.waitBody at e
  split at e
  · obtain rfl := Option.some.inj e
    exact h.waitkBody
  · obtain rfl := Option.some.inj e
    exact h.waitanyBody
  · obtain rfl := Option.some.inj e
    exact h.popBody
  · obtain rfl := Option.some.inj e
    exact h.pushBody
  · obtain rfl := Option.some.inj e
    exact h.evwBody
  · obtain rfl := Option.some.inj e
    exact h.ldioBody
  · obtain rfl := Option.some.inj e
    exact h.stioBody
  · obtain rfl := Option.some.inj e
    exact h.ldBody
  · obtain rfl := Option.some.inj e
    exact h.airBody
  · cases e

theorem State.sound.meetWait (h : s.sound) {t : Tid} {bad : Bool} : (s.meetWait t bad).sound := by
  unfold State.meetWait
  extract_lets s1 x
  have h1 : s1.sound := h.drainPosted
  refine .ite h1 ?_
  split
  · next ins _ =>
    have hretry : ∀ body, Machine.waitBody t bad ins = some body → (s1.retry t body).sound := fun body hbody =>
      h1.retry fun _ h => h.waitBody hbody
    generalize Machine.waitBody t bad ins = o at hretry ⊢
    split
    · exact h1.timeUp
    · exact hretry _ rfl
    · exact h1
  · split
    · exact .ite (h1.modTh fun _ hx => hx.resume) h1
    · exact h1

theorem State.sound.execRegisterWrite {by_ : Agent} {addr v : Word} (h : s.sound) :
    outSound (execRegisterWrite by_ addr v s) := by
  unfold Machine.execRegisterWrite
  extract_lets _ _
  split
  · exact trivial
  · exact .ite h.busWrite h

/-! ### Every command -/

/-- Every command that answers leaves a sound state sound. -/
theorem outSound_exec (c : Instr) (h : s.sound) : outSound (exec c s) := by
  cases c with
  | add _ _ => exact h.issue (fun _ h4 => h4.aluBody)
  | sub _ _ => exact h.issue (fun _ h4 => h4.aluBody)
  | and _ _ => exact h.issue (fun _ h4 => h4.aluBody)
  | or _ _ => exact h.issue (fun _ h4 => h4.aluBody)
  | xor _ _ => exact h.issue (fun _ h4 => h4.aluBody)
  | shl _ _ => exact h.issue (fun _ h4 => h4.aluBody)
  | shr _ _ => exact h.issue (fun _ h4 => h4.aluBody)
  | sar _ _ => exact h.issue (fun _ h4 => h4.aluBody)
  | mul _ _ => exact h.issue (fun _ h4 => h4.aluBody)
  | min _ _ => exact h.issue (fun _ h4 => h4.aluBody)
  | max _ _ => exact h.issue (fun _ h4 => h4.aluBody)
  | cmp _ _ => exact h.issue (fun _ h4 => .ite h4.illegal h4.aluBody)
  | addi _ _ => exact h.issue (fun _ h4 => h4.immBody)
  | andi _ _ => exact h.issue (fun _ h4 => h4.immBody)
  | ori _ _ => exact h.issue (fun _ h4 => h4.immBody)
  | lui _ _ => exact h.issue (fun _ h6 => .ite h6.illegal (h6.issueTh (fun _ hx8 => hx8.setRg.advance)))
  | ld _ _ => exact h.issue (fun _ h4 => h4.ldBody)
  | st _ _ => exact h.issue (fun _ h4 => h4.stBody)
  | ldio _ _ => exact h.issue (fun _ h4 => h4.ldioBody)
  | stio _ _ => exact h.issue (fun _ h4 => h4.stioBody)
  | b _ _ => exact h.execB
  | call _ _ => exact h.execCall
  | ret _ _ => exact h.execRet
  | air _ _ => exact h.issue (fun _ h4 => h4.airBody)
  | waitk _ _ => exact h.issue (fun _ h4 => h4.waitkBody)
  | testk _ _ => exact h.execTestk
  | waitany _ _ => exact h.issue (fun _ h4 => h4.waitanyBody)
  | canck _ _ => exact h.execCanck
  | push _ _ => exact h.issue (fun _ h4 => h4.pushBody)
  | pop _ _ => exact h.issue (fun _ h4 => h4.popBody)
  | crcw _ _ => exact h.issue (fun _ h6 => h6.busInOrder (fun _ h8 => h8.crcwBody))
  | crcf _ _ => exact h.issue (fun _ h6 => h6.busInOrder (fun _ h8 => h8.crcfBody))
  | tbr _ _ => exact h.execTbr
  | sleepu _ _ => exact h.execSleepu
  | evw _ _ => exact h.issue (fun _ h4 => h4.evwBody)
  | evs _ _ => exact h.execEvs
  | halt _ _ => exact h.issue (fun _ h6 => .ite h6.illegal (h6.issueTh (fun _ hx8 => hx8.advance.halt)))
  | trap _ _ => exact h.issue (fun _ h6 => .ite h6.illegal (h6.modTh (fun _ hx8 => hx8.advance)))
  | nop _ _ => exact h.issue (fun _ h6 => h6.issueTh (fun _ hx8 => hx8.advance))
  | waitConditionMet _ _ => exact h.meetWait
  | sleepuExpiry _ => exact h.expireWait (fun _ _ h4 => h4.illegal)
  | waitanyTimeout _ => exact h.execWaitanyTimeout
  | evwTimeout _ => exact h.execEvwTimeout
  | threadReset _ _ => exact h.writeThCtrl
  | threadHalt _ _ => exact h.writeThCtrl
  | threadStart _ _ => exact h.writeThCtrl
  | evsetWrite _ _ => exact h.setEvents
  | semaphoreRead _ => exact h.execSemaphoreRead
  | semaphoreRelease _ => exact h.semWrite
  | registerWrite _ _ _ => exact h.execRegisterWrite
  | refetchLineRewritten _ _ _ => exact h.execRefetchLineRewritten
  | startTimeReached _ => exact h.execStartTimeReached
  | operationDispatch _ => exact h.tryDispatch
  | operationExpiry _ => exact h.execOperationExpiry
  | cancelall _ => exact h.writeAirCtrl
  | heldItemWritten _ => exact h.execHeldItemWritten
  | uSelect _ => exact h.execUSelect
  | uRound _ => exact h.execURound
  | uAccess _ => exact h.execUAccess
  | uRaw _ => exact h.execURaw
  | hField _ => exact h.execHField
  | hActivate _ => exact h.execHActivate
  | hFrame _ _ => exact h.execHFrame
  | hWatch _ => exact h.execHWatch
  | cListen _ => exact h.execCListen
  | cSend _ _ => exact h.execCSend
  | sFix _ => exact h.execSFix
  | kCalCnc _ => exact h.calBegin
  | kCalIqr _ => exact h.calBegin
  | kCalDpd _ => exact h.execKCalDpd
  | kCalPph _ => exact h.calBegin
  | kCalLbt _ => exact h.calBegin
  | kCalHdi _ => exact h.calBegin
  | kCalHro _ => exact h.calBegin
  | kCalMag _ => exact h.calBegin
  | kCalTsn _ => exact h.calBegin
  | calPreconditionsEnd _ _ => exact h.execCalPreconditionsEnd
  | spareSwitch _ => exact h.execSpareSwitch
  | calMeasurementEnd _ _ => exact h.execCalMeasurementEnd
  | trimApplyStep => exact h.execTrimApplyStep
  | calNvWriteDone _ => exact h.execCalNvWriteDone
  | temperatureRecompute => exact h.execTemperatureRecompute
  | carrierSettled _ _ => exact h.execCarrierSettled
  | holdoverExpiry _ => exact .ite h.carrierOff h
  | lbtListenEnd _ _ => exact h.execLbtListenEnd
  | replyPreambleDetected _ _ _ => exact h.execReplyPreambleDetected
  | noReplyDecision _ _ => exact h.execNoReplyDecision
  | collisionDecision _ _ _ => exact h.execCollisionDecision
  | replyEnd _ _ _ => exact h.execReplyEnd
  | dwellBoundary _ _ => exact h.execDwellBoundary
  | meterResume _ => exact h.execMeterResume
  | solveComplete _ _ => exact h.execSolveComplete
  | uhfPortFault _ _ => exact h.execUhfPortFault
  | uhfFaultProbe _ _ => exact h.execUhfFaultProbe
  | uhfFaultClear _ _ => exact h.writeUpFault
  | uhfPortDisable _ _ => exact h.writeUpCtrl
  | cancellerTrimStep _ _ _ _ => exact h.execCancellerTrimStep
  | agcStepDown _ _ => exact h.execAgcStepDown
  | agcStepUp _ _ _ _ => exact .ite h.modUp h
  | agcOverloadStep _ _ => exact h.execAgcOverloadStep
  | agcUnfreeze _ => exact .ite h h.modUp
  | hfReplyReceived _ _ _ => exact h.execHfReplyReceived
  | hfReplyWindowClose _ => exact h.execHfReplyWindowClose
  | hfFieldSettled _ => exact h.execHfFieldSettled
  | hfWatchScan _ _ => exact h.execHfWatchScan
  | watchStateScan _ => exact h.execWatchStateScan
  | rebase _ => exact h.writeWatchCfg
  | hfPortFault _ _ => exact h.execHfPortFault
  | hfFaultProbe _ _ => exact h.execHfFaultProbe
  | hfFaultClear _ _ => exact h.writeHpFault
  | chirpDetection _ _ _ _ _ _ => exact h.execChirpDetection
  | reanchor _ _ _ => exact h.beside
  | headerVerdict _ _ => exact h.execHeaderVerdict
  | preempted _ _ _ _ => exact h.beside
  | payloadVerdict _ _ _ _ => exact h.execPayloadVerdict
  | listenWindowClose _ => exact h.execListenWindowClose
  | cSendClaim _ => exact h.execCSendClaim
  | cSendFrameEnd _ => exact h.execCSendFrameEnd
  | dutyBucketRoll => exact h.keep rfl
  | ringEnable _ _ => exact h.cfgRing
  | ringDisable _ _ => exact h.cfgRing
  | flush _ _ => exact h.writeRingCtrl
  | ringPointerReset _ => exact h.discardRing.setFlag.fault
  | transferRequest _ => exact h.xfRequest
  | transferMove _ _ => exact h.xfMove
  | egressDecision _ => exact h.execEgressDecision
  | shaperRefill => exact h.keep rfl
  | deficitReplenish => exact h.replenish.retestAll
  | meterColourChange _ _ => exact h.execMeterColourChange
  | meterEnable _ _ => exact h.writeAmCtl
  | ingressMeterEnable _ _ => exact h.writeImCtl
  | latencySample => exact .foldl (fun _ _ h4 => h4.latOne) h
  | snap _ => exact h.writeLatCfg
  | clear _ => exact h.writeLatCfg
  | regrd _ => exact h.hostFrame
  | regwr _ => exact h.hostFrame
  | ringwr _ => exact h.hostFrame
  | ringrd _ => exact h.hostFrame
  | resend _ => exact h.hostFrame
  | stop _ => exact h.hostFrame
  | enclave _ => exact h.hostFrame
  | enclaveFetch _ => exact h.hostFrame
  | load _ => exact h.hostFrame
  | loadRepair _ => exact h.hostFrame
  | noframe _ => exact .ite (h.select (fun _ h4 => .ite h4 (h4.keep rfl))) h.selectZeros
  | truncated _ _ => exact h.execTruncated
  | splitFrameTimeout => exact .ite h.truncate h
  | hostSilentTimeout => exact h.execHostSilentTimeout
  | xipLineFill _ _ => exact h.execXipLineFill
  | inval _ => exact h.writeMsCtrl
  | msDcmdGo _ => exact h.writeDcmd
  | directCommandDone _ => exact h.execDirectCommandDone
  | psQentWrite _ => exact h.writeQent
  | pspWordDone _ => exact h.execPspWordDone
  | contbrk => exact .ite (h.keep (by rfl)).setFlag h
  | psRxRead => exact h.execPsRxRead
  | psFlush _ => exact h.writePsCtrl
  | zcEdge _ => exact h.execZcEdge
  | zcLost => exact .ite h.advanceTo.modMl.setFlag.mline h
  | cycleStart => exact h.execCycleStart
  | backoffExpiry _ => exact .ite h.advanceTo.modMl h
  | mlFrameTransmit _ _ => exact h.execMlFrameTransmit
  | beacon _ _ => exact h.execBeacon
  | dataFrame _ _ => exact h.execDataFrame
  | sack _ _ => exact h.execSack
  | sackMissing => exact h.execSackMissing
  | sounding _ _ => exact h.rxFrame (fun _ h4 => .ite h4.hearLevel h4)
  | segmentGiveUp _ _ _ => exact h.execSegmentGiveUp
  | assocReq _ _ => exact h.execAssocReq
  | assocRsp _ _ => exact h.execAssocRsp
  | assocConf _ _ => exact h.execAssocConf
  | tmap _ _ => exact h.execTmap
  | soundReq _ _ => exact h.mgmtFrame (fun _ _ _ h4 => .ite h4.modPeer h4)
  | allocReq _ _ => exact h.mgmtFrame (fun _ _ _ h4 => .ite h4.modPeer h4)
  | key _ _ => exact h.execKey
  | pairReq _ _ => exact h.execPairReq
  | pairRsp _ _ => exact h.execPairRsp
  | pairConf _ _ => exact h.execPairConf
  | leave _ _ => exact h.execLeave
  | mlAdmitWrite _ => exact h.writeAdmit
  | associationTimeout _ => exact h.execAssociationTimeout
  | tmapPeriodExpiry _ => exact h.execTmapPeriodExpiry
  | controlFrame _ _ => exact h.execControlFrame
  | beaconMissed => exact h.execBeaconMissed
  | beaconLoss10s => exact .ite h.advanceTo.peersDown.modMl h
  | lineShort => exact .ite h.modMl.mline h
  | lineOpen => exact .ite h.modMl.mline h
  | referenceQualified _ => exact .ite (h.keep rfl) h
  | refloss => exact .ite h.doReset h
  | mpllLocked => exact .ite (h.keep rfl) h
  | mpllUnlock => exact h.execMpllUnlock
  | mpllSettleDone => exact h.execMpllSettleDone
  | relockslow => exact .ite h.setFlag.fault h
  | loUnlock _ => exact h.execLoUnlock
  | loRelockEnd _ _ _ _ _ => exact h.execLoRelockEnd
  | loStepEnd _ _ _ => exact h.execLoStepEnd
  | epochTick => exact .ite h.advance.adjustTb.latchEpoch h
  | epochiEdge _ => exact h.execEpochiEdge
  | epochlost => exact h.execEpochlost
  | realign _ => exact h.writeEpoch
  | clkoutConfig _ _ => exact h.writeClkout
  | arm _ => exact .ite h.armTb h
  | timerWrap _ => exact h.execTimerWrap
  | compareMatch _ _ => exact h.execCompareMatch
  | captureEdge _ _ _ _ => exact .ite h.advance.capture.runTimers h
  | swcap _ _ => exact h.swcap
  | timerClr _ _ => exact h.writeTuCtrl
  | check _ _ => exact h.writeCcCtrl
  | initnow _ _ => exact h.writeCcCtrl
  | ccStateRestore _ _ => exact h.writeCcState
  | poweron => exact h.execPoweron
  | resetn => exact h.doReset
  | brownout => exact h.doReset
  | softwareReset _ => exact h.writeRst
  | debugReset => exact .ite h.doReset h
  | debugHalt _ => exact .ite h.haltTh h
  | bootImageReady _ => exact h.execBootImageReady
  | ready _ => exact h.execReady
  | powerReqRun => exact h.writePwrCtl
  | powerReqIdle => exact h.writePwrCtl
  | powerReqWatch => exact h.writePwrCtl
  | powerReqHibernate => exact h.writePwrCtl
  | powerReqHibernateClocked => exact h.writePwrCtl
  | powerStateEntry => exact h.execPowerStateEntry
  | wake => exact .ite h.doReset h
  | acokWake => exact .ite h.doReset h
  | wakeCounterExpiry => exact .ite h.doReset h
  | hkAdcSequence _ => exact h.execHkAdcSequence
  | railWarning _ _ => exact h.execRailWarning
  | acokLossConfirmed => exact h.execAcokLossConfirmed
  | acokRestoreConfirmed => exact .ite (h.keep rfl) h
  | shedLevelEntry => exact h.execShedLevelEntry
  | shedRestore => exact h.execShedRestore
  | discard _ => exact h.writeSnap
  | go _ _ => exact h.writeSfCtrl
  | done _ _ => exact h.writeSfCtrl
  | getCert => exact h.execGetCert
  | sign => exact h.execSign
  | getProfile => exact h.execGetProfile
  | change _ => exact h.execChange
  | imageSig => exact h.execImageSig
  | mailboxResponseReady => exact h.execMailboxResponseReady
  | mailboxResponseDiscard => exact .ite h.advanceTo.sfFree h
  | profileCommit => exact h.execProfileCommit
  | residueMismatch _ => exact h.execResidueMismatch
  | recomputationDone _ _ => exact h.execRecomputationDone
  | iopad _ _ => exact h.execIopad
  | resetRelease _ => exact .ite (h.keep rfl) h
  | identifierEnd _ _ _ _ _ _ => exact h.execIdentifierEnd
  | tunewarn _ _ => exact .ite h.loTune h
  | silentWindow _ => exact h.execSilentWindow
  | replyCap _ => exact h.execReplyCap

/-- So does the step, which runs the command at the front of the queue. -/
theorem State.sound.step {t : State} (h : s.sound) (hstep : Machine.step s = .next t) : t.sound := by
  unfold Machine.step at hstep
  split at hstep
  · cases hstep
    exact h
  next c rest _ =>
    have hc : outSound (exec c { s with pending := rest }) := outSound_exec c (h.keep rfl)
    rwa [hstep] at hc

end Sys2Proof.Machine

/-- Settles O60: each command alone keeps the canonical forms and the bounds, so each step does. -/
theorem everyStepKeepsTheStateSound : Obligations.EveryStepKeepsTheStateSound := by
  unfold Obligations.EveryStepKeepsTheStateSound
  exact fun s t h hstep => h.step hstep

end

section
/-! PROOF. Ports, operations and register fields written: what each of them reads as afterwards. -/

open Sys2Proof Sys2Proof.Machine

namespace Sys2Proof.Machine

/-! ### Ports, synthesizers and operations -/

@[simp] theorem State.up_modUp_same (s : State) (p : UPortNo) (f : UPort → UPort) : (s.modUp p f).up p = f (s.up p) :=
  vset_get_same s.uports p _

theorem State.up_modUp_other (s : State) {p q : UPortNo} (f : UPort → UPort) (h : q ≠ p) : (s.modUp p f).up q = s.up q :=
  vset_get_other s.uports _ h

@[simp] theorem State.hp_modHp_same (s : State) (p : HPortNo) (f : HPort → HPort) : (s.modHp p f).hp p = f (s.hp p) :=
  vset_get_same s.hports p _

theorem State.hp_modHp_other (s : State) {p q : HPortNo} (f : HPort → HPort) (h : q ≠ p) : (s.modHp p f).hp q = s.hp q :=
  vset_get_other s.hports _ h

@[simp] theorem State.lo_modLo_same (s : State) (n : LoNo) (f : Lo → Lo) : (s.modLo n f).lo n = f (s.lo n) :=
  vset_get_same s.los n _

theorem State.lo_modLo_other (s : State) {n m : LoNo} (f : Lo → Lo) (h : m ≠ n) : (s.modLo n f).lo m = s.lo m :=
  vset_get_other s.los _ h

/-- The operation of a ticket after a change that keeps its ticket. -/
theorem State.op?_modOp {s : State} {o : OpId} {op : Op} (h : s.op? o = some op) {f : Op → Op} (hid : ∀ x, (f x).id = x.id) :
    (s.modOp o f).op? o = some (f op) := by
  have hsame : ((fun x : Op => x.id == o) ∘ fun x => if x.id == o then f x else x) = fun x => x.id == o := by
    funext x
    dsimp only [Function.comp]
    split <;> simp [hid]
  have hop : (op.id == o) = true := by rw [State.op?_id h, beq_self_eq_true]
  unfold State.op? at h ⊢
  rw [State.modOp, List.find?_map, hsame, h, Option.map_some, if_pos hop]

/-! ### Fields and flags of a register -/

theorem bits_whole (w : Word) : bits w 0 32 = w.toNat := by
  rw [bits_low]
  exact Nat.mod_eq_of_lt w.isLt

theorem getLsbD_flagW_same {i : Nat} (hi : i < 32) : (flagW i true).getLsbD i = true := by
  rw [flagW, if_pos rfl, BitVec.getLsbD_ofNat, Nat.testBit_two_pow_self]
  simp [hi]

section
variable {s : State} {a : Nat}

theorem State.fld_congr {t : State} (h : t.reg a = s.reg a) (lo n : Nat) : t.fld a lo n = s.fld a lo n := by
  rw [State.fld, h, State.fld]

/-- A flag that is set reads 1. -/
theorem State.setFlag_bit (h : s.regsWf) (a : Nat) {i : Nat} (hi : i < 32) : ((s.setFlag a i).reg a).getLsbD i = true := by
  rw [State.reg_setFlag_same h, BitVec.getLsbD_or, getLsbD_flagW_same hi, Bool.or_true]

/-- A field that is written reads back. -/
theorem State.fld_setFld_same (h : s.regsWf) (a : Nat) {lo n v : Nat} (hn : lo + n ≤ 32) (hv : v < 2 ^ n) :
    (s.setFld a lo n v).fld a lo n = v := by
  rw [State.fld, State.reg_setFld_same h, bits_withBits_same _ hn hv]

/-- A field above or below the one written keeps. -/
theorem State.fld_setFld_apart (h : s.regsWf) (a : Nat) {lo n v k m : Nat} (hd : k + m ≤ lo ∨ lo + n ≤ k) (hk : k + m ≤ 32) :
    (s.setFld a lo n v).fld a k m = s.fld a k m := by
  rw [State.fld, State.reg_setFld_same h, bits_withBits_other _ hd hk, State.fld]

end

end Sys2Proof.Machine

end

section
/-! PROOF. The AGC and the canceller of a UHF port (R84, R85, R88, R89). -/

open Sys2Proof Sys2Proof.Machine

namespace Sys2Proof.Machine

variable {s : State}

/-! ### Clips -/

/-- Clips are counted up to the greatest value of the register (R88). -/
theorem State.clips_countClips (h : s.regsWf) (p : UPortNo) (n : Nat) :
    ((s.countClips p n).reg (UP_CLIPCNT p)).toNat = min ((s.reg (UP_CLIPCNT p)).toNat + n) 0xFFFFFFFF := by
  have := State.fld_countFld_same h (UP_CLIPCNT p) (lo := 0) (n := 32) (by omega) n
  rwa [State.fld, State.fld, bits_whole, bits_whole] at this

theorem State.countClips_reg_other {p : UPortNo} {a : Nat} (h : a ≠ UP_CLIPCNT p) (n : Nat) :
    (s.countClips p n).reg a = s.reg a := State.reg_countFld_other s h

/-- Counting clips leaves CLIPTHR alone. -/
theorem State.clipThr_countClips (p : UPortNo) (n : Nat) :
    (s.countClips p n).clipThr p = max 1 (bits (s.reg (UP_AGC_CTRL p)) 8 8) := by
  rw [State.clipThr, State.fld, State.countClips_reg_other (by simp [UP_AGC_CTRL, UP_CLIPCNT])]

/-! ### The overload step -/

/-- The one step down of a freeze, flagged (R88). -/
def State.overloadStep (s : State) (p : UPortNo) (n : Nat) : State :=
  ((s.countClips p n).modUp p fun x => { x with step := x.step - 1, agc := .stepped }).setFlag (UP_FLAGS p) 3

/-- The chirp receptions of a port are marked as having met an overload step (R89). -/
def markSteps (p : UPortNo) (d : Option Recep) : Option Recep :=
  d.map fun r => if r.port = p then { r with step := true } else r

theorem State.overloadStep_only (s : State) (p : UPortNo) (n : Nat) : s.overloadStep p n =
    { s with regs := (s.overloadStep p n).regs, uports := (s.overloadStep p n).uports } := rfl

theorem State.overloadStep_port (h : s.regsWf) (p : UPortNo) (n : Nat) :
    ((s.overloadStep p n).reg (UP_CLIPCNT p)).toNat = min ((s.reg (UP_CLIPCNT p)).toNat + n) 0xFFFFFFFF ∧
    (s.overloadStep p n).up p = { s.up p with step := (s.up p).step - 1, agc := .stepped } ∧
    ((s.overloadStep p n).reg (UP_FLAGS p)).getLsbD 3 = true := by
  refine ⟨?_, ?_, State.setFlag_bit (State.regsWf_countFld h _ _ _ _) _ (by omega)⟩
  · rw [State.overloadStep, State.reg_setFlag_other _ (by simp [UP_FLAGS, UP_CLIPCNT]), State.modUp_reg_acc]
    exact State.clips_countClips h p n
  · rw [State.overloadStep, State.setFlag_up_acc, State.up_modUp_same]
    rfl

/-! ### The canceller -/

/-- The register of the canceller that serves a port (R95). -/
theorem State.cncReg_eq (s : State) (p : UPortNo) :
    s.cncReg p = if (s.up p).spare then 0x20000 + 0x10000 * (p.val / 8) + 0x901C else UP_CNC p := by
  unfold State.cncReg
  split
  · omega
  · rfl

/-- A value within the signed 8 bits of a trim survives its code. -/
theorem signed_unsigned {v : Int} (hlo : -128 ≤ v) (hhi : v ≤ 127) : signed 8 (unsigned 8 v) = v := by
  have hcode : (unsigned 8 v : Int) = v % 256 := Int.toNat_of_nonneg (Int.emod_nonneg _ (by decide))
  unfold signed
  split <;> omega

theorem unsigned_lt (v : Int) : unsigned 8 v < 2 ^ 8 := by
  have := Int.emod_lt_of_pos v (b := 256) (by decide)
  have := Int.emod_nonneg v (b := 256) (by decide)
  unfold unsigned
  omega

theorem signed_trimMove (old d : Int) : signed 8 (unsigned 8 (trimMove old d)) = trimMove old d :=
  signed_unsigned (by unfold trimMove; omega) (by unfold trimMove; omega)

/-- The trims of a canceller, each moved by at most 1 LSB. -/
def State.movedTrims (s : State) (a : Nat) (di dq : Int) : State :=
  (s.setFld a 24 8 (unsigned 8 (trimMove (signed 8 (s.fld a 24 8)) di))).setFld
    a 16 8 (unsigned 8 (trimMove (signed 8 (s.fld a 16 8)) dq))

theorem State.movedTrims_trims (h : s.regsWf) (a : Nat) (di dq : Int) :
    signed 8 ((s.movedTrims a di dq).fld a 24 8) = trimMove (signed 8 (s.fld a 24 8)) di ∧
    signed 8 ((s.movedTrims a di dq).fld a 16 8) = trimMove (signed 8 (s.fld a 16 8)) dq := by
  have h1 := State.regsWf_setFld h a 24 8 (unsigned 8 (trimMove (signed 8 (s.fld a 24 8)) di))
  unfold State.movedTrims
  constructor
  · rw [State.fld_setFld_apart h1 a (by omega) (by omega), State.fld_setFld_same h a (by omega) (unsigned_lt _), signed_trimMove]
  · rw [State.fld_setFld_same h1 a (by omega) (unsigned_lt _), signed_trimMove]

theorem State.regsWf_movedTrims (h : s.regsWf) (a : Nat) (di dq : Int) : (s.movedTrims a di dq).regsWf :=
  State.regsWf_setFld (State.regsWf_setFld h _ _ _ _) _ _ _ _

/-- The trims after a step of the canceller: held, or moved. -/
def State.stepTrims (s : State) (p : UPortNo) (di dq : Int) : State :=
  if s.replyWin p || bit (s.reg (s.cncReg p)) 1 || s.cncApplying p then s else s.movedTrims (s.cncReg p) di dq

/-- A trim step writes registers alone, and of them the canceller's. -/
theorem State.stepTrims_only (s : State) (p : UPortNo) (di dq : Int) :
    s.stepTrims p di dq = { s with regs := (s.stepTrims p di dq).regs } := by
  unfold State.stepTrims
  split <;> rfl

theorem State.stepTrims_reg_other {p : UPortNo} {a : Nat} (h : a ≠ s.cncReg p) (di dq : Int) :
    (s.stepTrims p di dq).reg a = s.reg a := by
  unfold State.stepTrims
  split
  · rfl
  · rw [State.movedTrims, State.reg_setFld_other _ h, State.reg_setFld_other _ h]

theorem State.regsWf_stepTrims (h : s.regsWf) (p : UPortNo) (di dq : Int) : (s.stepTrims p di dq).regsWf := by
  unfold State.stepTrims
  split
  · exact h
  · exact State.regsWf_movedTrims h _ _ _

/-- A step of the canceller: its trims, RESID and CNCLOCK. -/
def State.cancellerStep (s : State) (p : UPortNo) (di dq : Int) (resid : Byte) : State :=
  ((s.stepTrims p di dq).setFld (s.cncReg p) 8 8 resid.toNat).modUp p fun x => { x with cncLock := decide (140 < resid.toNat) }

theorem exec_cancellerTrimStep {p : UPortNo} (h : (s.up p).carrier ≠ none) (di dq : Int) (resid : Byte) :
    exec (.cancellerTrimStep p di dq resid) s = .next (s.cancellerStep p di dq resid) :=
  congrArg Host.Outcome.next (if_pos (Option.isSome_iff_ne_none.mpr h))

theorem State.cancellerStep_only (s : State) (p : UPortNo) (di dq : Int) (resid : Byte) : s.cancellerStep p di dq resid =
    { s with regs := (s.cancellerStep p di dq resid).regs, uports := (s.cancellerStep p di dq resid).uports } :=
  congrArg (fun u : State => { u with regs := (s.cancellerStep p di dq resid).regs, uports := (s.cancellerStep p di dq resid).uports })
    (State.stepTrims_only s p di dq)

theorem State.cancellerStep_up (s : State) (p : UPortNo) (di dq : Int) (resid : Byte) :
    (s.cancellerStep p di dq resid).up p = { s.up p with cncLock := decide (140 < resid.toNat) } := by
  rw [State.cancellerStep, State.up_modUp_same, State.setFld_up_acc, State.stepTrims_only]
  rfl

/-- A step writes RESID, and keeps of the trims' half what `State.stepTrims` gave it. -/
theorem State.cancellerStep_cnc (h : s.regsWf) (p : UPortNo) (di dq : Int) (resid : Byte) :
    (s.cancellerStep p di dq resid).fld (s.cncReg p) 8 8 = resid.toNat ∧
    ∀ lo n, 16 ≤ lo → lo + n ≤ 32 →
      (s.cancellerStep p di dq resid).fld (s.cncReg p) lo n = (s.stepTrims p di dq).fld (s.cncReg p) lo n :=
  have hw := State.regsWf_stepTrims h p di dq
  ⟨State.fld_setFld_same hw _ (by omega) resid.isLt, fun _ _ hlo hn => State.fld_setFld_apart hw _ (by omega) hn⟩

end Sys2Proof.Machine

/-- Settles O26: each command is one branch over the state before it, and counting clips touches no other register. The
6 dB of a gain step in the test for a step up is assumption 66. -/
theorem gainStepsAndCancellerTrims : Obligations.GainStepsAndCancellerTrims := by
  unfold Obligations.GainStepsAndCancellerTrims
  intro s p hs thr target counted
  refine ⟨fun n => ?down, fun peak resid us => ?up, fun n hfr hagc hstep hn => ?overload, fun hfr => ?unfreeze,
    fun di dq resid hcar => ?trim⟩
  case down =>
    have hexec : exec (.agcStepDown p n) s = .next (if s.frozen p = false ∧ thr ≤ n then
        (s.countClips p n).modUp p fun x => { x with step := x.step - 1 } else s.countClips p n) := by
      simp [exec, execAgcStepDown, State.clipThr_countClips, thr]
    by_cases hgo : s.frozen p = false ∧ thr ≤ n
    · rw [if_pos hgo] at hexec
      refine ⟨_, hexec, rfl, State.clips_countClips hs p n, ?_, fun q hq => State.up_modUp_other _ _ hq,
        fun a ha => State.countClips_reg_other ha n⟩
      rw [State.up_modUp_same, if_pos hgo]
      rfl
    · rw [if_neg hgo] at hexec
      refine ⟨_, hexec, rfl, State.clips_countClips hs p n, ?_, fun q hq => rfl, fun a ha => State.countClips_reg_other ha n⟩
      rw [if_neg hgo]
      rfl
  case up =>
    have hexec : exec (.agcStepUp p peak resid us) s = .next (if !s.frozen p && decide (20 ≤ us ∧ peak < target - 32 ∧
        resid + 24 ≤ target) then s.modUp p fun x => { x with step := min 7 (x.step + 1) } else s) := rfl
    intro ok
    have hok : (!s.frozen p && decide (20 ≤ us ∧ peak < target - 32 ∧ resid + 24 ≤ target)) = true ↔ ok := by simp [ok]
    exact ⟨fun h => by rw [hexec, if_pos (hok.mpr h)], fun h => by rw [hexec, if_neg (mt hok.mp h)]⟩
  case overload =>
    have hthr : (s.countClips p n).clipThr p ≤ n := (State.clipThr_countClips p n).le.trans hn
    have hexec : exec (.agcOverloadStep p n) s = .next { s.overloadStep p n with decoders := s.decoders.map (markSteps p) } :=
      congrArg Host.Outcome.next (if_pos (by simp [hfr, hagc, hstep, hthr]))
    obtain ⟨hclips, hup, hflag⟩ := State.overloadStep_port hs p n
    refine ⟨_, hexec, ?_, hclips, hup, hflag, fun d r hr => ?_⟩
    · exact congrArg (fun u : State => { u with decoders := s.decoders.map (markSteps p) }) (State.overloadStep_only s p n)
    · have hmark : (if r.port = p then { r with step := true } else r : Recep) =
          { r with step := r.step || decide (r.port = p) } := by
        by_cases hp : r.port = p <;> simp [hp]
      have hd : s.decoders[d.val] = some r := hr
      simp [markSteps, hd, hmark]
  case unfreeze =>
    exact congrArg Host.Outcome.next (if_neg (by simp [hfr]))
  case trim =>
    intro cnc
    obtain ⟨hresid, htrims⟩ := State.cancellerStep_cnc hs p di dq resid
    have hcnc : s.cncReg p = cnc := State.cncReg_eq s p
    rw [← hcnc]
    refine ⟨_, exec_cancellerTrimStep hcar di dq resid, State.cancellerStep_only s p di dq resid, hresid,
      State.cancellerStep_up s p di dq resid,
      fun a ha => (State.reg_setFld_other _ ha).trans (State.stepTrims_reg_other ha di dq), ?_⟩
    rw [htrims 16 16 (by omega) (by omega), htrims 24 8 (by omega) (by omega), htrims 16 8 (by omega) (by omega)]
    unfold State.stepTrims
    split
    · rfl
    · exact State.movedTrims_trims hs _ di dq
end

section
/-! PROOF. Faults of the UHF and HF ports (R92 to R94, R156 to R158, R322). -/

open Sys2Proof Sys2Proof.Machine

namespace Sys2Proof.Machine

variable {s : State}

/-! ### The fault record (R327) -/

theorem State.logFault_only (s : State) (cls source detail : Nat) (tb : Word) : s.logFault cls source detail tb =
    { s with regs := (s.logFault cls source detail tb).regs, faults := (s.logFault cls source detail tb).faults } := by
  unfold State.logFault
  dsimp only
  split <;> rfl

/-- A fault changes registers, the record of what is unread, and the thread its event wakes. -/
theorem State.fault_only (s : State) (cls source detail : Nat) : s.fault cls source detail =
    { s with regs := (s.fault cls source detail).regs, threads := (s.fault cls source detail).threads
             faults := (s.fault cls source detail).faults } := by
  have hnote (t : State) : t.noteFault cls =
      { t with regs := (t.noteFault cls).regs, threads := (t.noteFault cls).threads } := by
    have hraise (u : State) (w : Word) : u.raiseRouted w =
        { u with regs := (u.raiseRouted w).regs, threads := (u.raiseRouted w).threads } := by
      unfold State.raiseRouted
      split <;> rfl
    exact hraise ((t.setFlag FLT_STATUS cls).countFld (FLT_CNT cls) 0 16 1) _
  have hlog := State.logFault_only s cls source detail s.tbLo
  rw [State.fault, State.noteFault_faults]
  refine (hnote _).trans ?_
  exact congrArg (fun t : State => { t with
    regs := ((s.logFault cls source detail s.tbLo).noteFault cls).regs
    threads := ((s.logFault cls source detail s.tbLo).noteFault cls).threads }) hlog

/-- A record of the log as a number. -/
theorem faultRecord_eq {cls source detail seq : Nat} (hc : cls < 256) (hs : source < 256) (hd : detail < 256)
    (hq : seq < 256) : fieldW 24 8 cls ||| fieldW 16 8 source ||| fieldW 8 8 detail ||| fieldW 0 8 seq =
      BitVec.ofNat 32 (16777216 * cls + 65536 * source + 256 * detail + seq) := by
  have hjoin {a b n : Nat} (hb : b < 2 ^ n) : a * 2 ^ n ||| b = a * 2 ^ n + b := by
    rw [← Nat.shiftLeft_eq, Nat.shiftLeft_add_eq_or_of_lt hb]
  have h1 := hjoin (a := detail) (b := seq) (n := 8) (by omega)
  have h2 := hjoin (a := source) (b := detail * 2 ^ 8 + seq) (n := 16) (by omega)
  have h3 := hjoin (a := cls) (b := source * 2 ^ 16 + (detail * 2 ^ 8 + seq)) (n := 24) (by omega)
  apply BitVec.eq_of_toNat_eq
  rw [BitVec.toNat_or, BitVec.toNat_or, BitVec.toNat_or, fieldW_toNat hc (by omega), fieldW_toNat hs (by omega),
    fieldW_toNat hd (by omega), fieldW_toNat hq (by omega), Nat.or_assoc, Nat.or_assoc, Nat.pow_zero, Nat.mul_one, h1, h2, h3,
    BitVec.toNat_ofNat]
  omega

/-- A fault writes no register below the FAULT block. -/
theorem State.fault_reg_below {a : Nat} (h : a < 0x110000) (cls source detail : Nat) :
    (s.fault cls source detail).reg a = s.reg a := by
  have hlog : (s.logFault cls source detail s.tbLo).reg a = s.reg a := by
    unfold State.logFault FLT_LOGHEAD
    dsimp only
    rw [State.reg_setFld_other _ (by omega), State.reg_setFld_other _ (by omega),
      State.reg_setReg_other _ (by unfold FLT_LOGB; omega), State.reg_setReg_other _ (by unfold FLT_LOGA; omega)]
    split
    · exact State.reg_countFld_other s (by omega)
    · rfl
  unfold State.fault State.noteFault
  dsimp only
  rw [State.raiseRouted_reg_acc, State.reg_countFld_other _ (by unfold FLT_CNT; omega),
    State.reg_setFlag_other _ (by unfold FLT_STATUS; omega), hlog]

/-- The record of a fault, at the head of the log: class, source, detail and sequence number, and TB at its detection. -/
theorem State.fault_record (h : s.regsWf) {cls : Nat} (hc : cls < 18) (source detail : Nat) :
    (s.fault cls source detail).reg (FLT_LOGA (s.fld FLT_LOGHEAD 0 4)) =
      (fieldW 24 8 cls ||| fieldW 16 8 source ||| fieldW 8 8 detail ||| fieldW 0 8 (s.fld FLT_LOGHEAD 8 8)) ∧
    (s.fault cls source detail).reg (FLT_LOGB (s.fld FLT_LOGHEAD 0 4)) = s.tbLo := by
  have hnote {a : Nat} (ha : 0x110200 ≤ a) (t : State) : (t.noteFault cls).reg a = t.reg a := by
    unfold State.noteFault
    dsimp only
    rw [State.raiseRouted_reg_acc, State.reg_countFld_other _ (by unfold FLT_CNT; omega),
      State.reg_setFlag_other _ (by unfold FLT_STATUS; omega)]
  have hkept : (if s.fld FLT_LOGHEAD 0 4 ∈ s.faults.unread then s.countFld FLT_LOGHEAD 16 16 1 else s).regsWf := by
    split
    · exact State.regsWf_countFld h _ _ _ _
    · exact h
  constructor
  · rw [State.fault, hnote (by unfold FLT_LOGA; omega)]
    unfold State.logFault
    dsimp only
    rw [State.reg_setFld_other _ (by unfold FLT_LOGA FLT_LOGHEAD; omega),
      State.reg_setFld_other _ (by unfold FLT_LOGA FLT_LOGHEAD; omega),
      State.reg_setReg_other _ (by unfold FLT_LOGA FLT_LOGB; omega)]
    exact State.reg_setReg_same hkept _ _
  · rw [State.fault, hnote (by unfold FLT_LOGB; omega)]
    unfold State.logFault
    dsimp only
    rw [State.reg_setFld_other _ (by unfold FLT_LOGB FLT_LOGHEAD; omega),
      State.reg_setFld_other _ (by unfold FLT_LOGB FLT_LOGHEAD; omega)]
    exact State.reg_setReg_same (State.regsWf_setReg hkept _ _) _ _

/-! ### Writes of the fault and control registers (R4) -/

theorem State.writeFields_only (s : State) (a : Nat) (v : Word) :
    s.writeFields a v = { s with regs := (s.writeFields a v).regs } := by
  unfold State.writeFields
  split <;> rfl

theorem State.writeFields_reg_other {a c : Nat} (h : c ≠ a) (v : Word) : (s.writeFields a v).reg c = s.reg c := by
  unfold State.writeFields
  split
  · rfl
  · exact State.reg_setReg_other _ h

/-- A bit of a written register that is RW, and one that is RO. -/
theorem getLsbD_storedWrite (r : RegRow) (old v : Word) {k : Nat} (hk : k < 32) (hc : r.w1c.getLsbD k = false)
    (hs : r.w1s.getLsbD k = false) :
    (storedWrite r old v).getLsbD k = if r.rw.getLsbD k then v.getLsbD k else old.getLsbD k := by
  have h := getElem_storedWrite r old v ⟨k, hk⟩
  simp only [Fin.getElem_fin, ← BitVec.getLsbD_eq_getElem] at h
  rw [h, hc, hs]
  cases r.rw.getLsbD k <;> simp

theorem bits_congr {v w : Word} {lo n : Nat} (h : ∀ k < n, v.getLsbD (lo + k) = w.getLsbD (lo + k)) : bits v lo n = bits w lo n := by
  refine Nat.eq_of_testBit_eq fun j => ?_
  rw [bits, bits, Nat.testBit_mod_two_pow, Nat.testBit_shiftRight, Nat.testBit_mod_two_pow, Nat.testBit_shiftRight]
  by_cases hj : j < n
  · have := h j hj
    simp only [BitVec.getLsbD] at this
    rw [this]
  · simp [hj]

/-- UPn_CTRL: bits 0 to 4 are RW. -/
theorem regRow_UP_CTRL (p : UPortNo) :
    regRow (UP_CTRL p) = some ⟨0x21000, [(0x10000, 2), (0x1000, 8)], 0x1F, 0, 0, 0, 0x10⟩ := by
  revert p
  decide

/-- UPn_FAULT: FAULTCNT, bits 16 to 23, is RW. -/
theorem regRow_UP_FAULT (p : UPortNo) :
    regRow (UP_FAULT p) = some ⟨0x2102C, [(0x10000, 2), (0x1000, 8)], 0xFF0000, 0, 0, 1, 0⟩ := by
  revert p
  decide

/-! ### Fault kinds of a UHF port (R92) -/

section
variable {p : UPortNo} {m : UhfSense}

/-- The return loss of a port with its carrier on lies below the threshold, held for 20 µs. -/
def State.reflects (s : State) (p : UPortNo) (m : UhfSense) : Bool :=
  (s.up p).carrier.isSome && decide (m.rl < 4 * s.fld (UP_FBCFG p) 0 8 ∧ 20 ≤ m.us)

theorem State.reflects_iff :
    s.reflects p m = true ↔ (s.up p).carrier ≠ none ∧ m.rl < 4 * s.fld (UP_FBCFG p) 0 8 ∧ 20 ≤ m.us := by
  rw [State.reflects, Bool.and_eq_true, decide_eq_true_eq, Option.isSome_iff_ne_none]

theorem State.uhfDetects_open : s.uhfDetects p m 1 = (s.reflects p m && decide (m.phase.toNat ≤ 256 ∨ 768 ≤ m.phase.toNat)) := rfl

theorem State.uhfDetects_short : s.uhfDetects p m 2 = (s.reflects p m && decide (256 ≤ m.phase.toNat ∧ m.phase.toNat ≤ 768)) := rfl

theorem State.uhfKind_reflects (h : s.reflects p m = true) :
    s.uhfKind p m = some (if m.phase.toNat ≤ 256 ∨ 768 ≤ m.phase.toNat then 1 else 2) := by
  by_cases hnear : m.phase.toNat ≤ 256 ∨ 768 ≤ m.phase.toNat
  · rw [State.uhfKind, List.find?_cons_of_pos (by simp [State.uhfDetects_open, h, hnear]), if_pos hnear]
  · have hfar : 256 ≤ m.phase.toNat ∧ m.phase.toNat ≤ 768 := by omega
    rw [State.uhfKind, List.find?_cons_of_neg (by simp [State.uhfDetects_open, hnear]),
      List.find?_cons_of_pos (by simp [State.uhfDetects_short, h, hfar]), if_neg hnear]

/-- Without a reflection the first kind looked for is 3. -/
theorem State.uhfKind_matched (h : ¬ s.reflects p m = true) :
    s.uhfKind p m = ([3, 4, 6, 5, 7, 8] : List Nat).find? fun k => s.uhfDetects p m k := by
  rw [State.uhfKind, List.find?_cons_of_neg (by simp [State.uhfDetects_open, h]),
    List.find?_cons_of_neg (by simp [State.uhfDetects_short, h])]

theorem State.uhfKind_le {kind : Nat} (h : s.uhfKind p m = some kind) : kind ≤ 8 :=
  (by decide : ∀ k ∈ ([1, 2, 3, 4, 6, 5, 7, 8] : List Nat), k ≤ 8) kind (List.mem_of_find?_eq_some h)

end

/-! ### The mark of a fault (R93, R157) -/

/-- An event that reaches no operation ends none. -/
theorem State.killAll_none {q : Op → Bool} (hops : ∀ x ∈ s.ops, (x.active && q x) = false) (hend : s.endedNow = []) (status : Nat) :
    s.killAll q status = s := by
  have hreach : (s.reached fun op => op.active && q op) = [] := by
    rw [State.reached, hend, List.append_nil, List.map_eq_nil_iff, List.filter_eq_nil_iff]
    exact fun x hx => by simp [hops x hx]
  rw [State.killAll, hreach, List.foldl_nil]

/-- The kind of a fault written and counted, the count staying at its greatest value. -/
def State.faultCounted (s : State) (a kind : Nat) : State := (s.setFld a 8 4 kind).countFld a 16 8 1

theorem State.regsWf_faultCounted (h : s.regsWf) (a kind : Nat) : (s.faultCounted a kind).regsWf :=
  State.regsWf_countFld (State.regsWf_setFld h _ _ _ _) _ _ _ _

theorem State.faultCounted_fld (h : s.regsWf) (a : Nat) {kind : Nat} (hk : kind < 16) :
    (s.faultCounted a kind).fld a 8 4 = kind ∧ (s.faultCounted a kind).fld a 16 8 = min (s.fld a 16 8 + 1) 255 := by
  have h1 := State.regsWf_setFld h a 8 4 kind
  constructor
  · rw [State.faultCounted, State.fld_countFld_other h1 a (by omega) (by omega), State.fld_setFld_same h a (by omega) hk]
  · rw [State.faultCounted, State.fld_countFld_same h1 a (by omega), State.fld_setFld_apart h a (by omega) (by omega)]
    rfl

theorem State.faultCounted_reg_other {a c : Nat} (h : c ≠ a) (kind : Nat) : (s.faultCounted a kind).reg c = s.reg c := by
  rw [State.faultCounted, State.reg_countFld_other _ h, State.reg_setFld_other _ h]

/-- A port's registers as a fault leaves them, before its record. -/
def State.faultFlagged (s : State) (fault flags kind : Nat) : State := (s.faultCounted fault kind).setFlag flags 0

theorem State.faultFlagged_up (s : State) (fault flags kind : Nat) (q : UPortNo) :
    (s.faultFlagged fault flags kind).up q = s.up q := by simp [State.faultFlagged, State.faultCounted]

theorem State.faultFlagged_hp (s : State) (fault flags kind : Nat) (q : HPortNo) :
    (s.faultFlagged fault flags kind).hp q = s.hp q := by simp [State.faultFlagged, State.faultCounted]

theorem State.faultFlagged_regs (h : s.regsWf) {fault flags kind : Nat} (hne : fault ≠ flags) (hk : kind < 16) :
    (s.faultFlagged fault flags kind).fld fault 8 4 = kind ∧
    (s.faultFlagged fault flags kind).fld fault 16 8 = min (s.fld fault 16 8 + 1) 255 ∧
    ((s.faultFlagged fault flags kind).reg flags).getLsbD 0 = true ∧
    (s.faultFlagged fault flags kind).regsWf ∧
    ∀ a, a ≠ fault → a ≠ flags → (s.faultFlagged fault flags kind).reg a = s.reg a := by
  obtain ⟨hkind, hcount⟩ := State.faultCounted_fld h fault hk
  have hw := State.regsWf_faultCounted h fault kind
  have hkept := State.reg_setFlag_other (s.faultCounted fault kind) (i := 0) hne
  refine ⟨?_, ?_, State.setFlag_bit hw flags (by omega), State.regsWf_setFlag hw _ _, fun a hf hg => ?_⟩
  · exact (State.fld_congr hkept 8 4).trans hkind
  · exact (State.fld_congr hkept 16 8).trans hcount
  · rw [State.faultFlagged, State.reg_setFlag_other _ hg, State.faultCounted_reg_other hf]

/-- A port as a fault leaves it, before its record (R93, R157). -/
def State.uhfFaulted (s : State) (p : UPortNo) (kind : Nat) : State :=
  (s.faultFlagged (UP_FAULT p) (UP_FLAGS p) kind).modUp p fun x => { x with faulted := true, probes := 0 }

theorem State.uhfMark_eq (s : State) (p : UPortNo) (kind : Nat) : s.uhfMark p kind = (s.uhfFaulted p kind).fault 0 p.val kind :=
  rfl

theorem State.uhfFaulted_only (s : State) (p : UPortNo) (kind : Nat) : s.uhfFaulted p kind =
    { s with regs := (s.faultFlagged (UP_FAULT p) (UP_FLAGS p) kind).regs, uports := (s.uhfFaulted p kind).uports } := by
  simp [State.uhfFaulted, State.faultFlagged, State.faultCounted, State.modUp]

theorem State.uhfFaulted_up (s : State) (p : UPortNo) (kind : Nat) :
    (s.uhfFaulted p kind).up p = { s.up p with faulted := true, probes := 0 } ∧
    ∀ q, q ≠ p → (s.uhfFaulted p kind).up q = s.up q := by
  refine ⟨?_, fun q hq => ?_⟩
  · rw [State.uhfFaulted, State.up_modUp_same, State.faultFlagged_up]
  · rw [State.uhfFaulted, State.up_modUp_other _ _ hq, State.faultFlagged_up]

@[simp] theorem State.uhfFaulted_reg (s : State) (p : UPortNo) (kind a : Nat) :
    (s.uhfFaulted p kind).reg a = (s.faultFlagged (UP_FAULT p) (UP_FLAGS p) kind).reg a := by
  rw [State.uhfFaulted, State.modUp_reg_acc]

theorem State.regsWf_uhfFaulted (h : s.regsWf) (p : UPortNo) (kind : Nat) : (s.uhfFaulted p kind).regsWf := by
  rw [State.regsWf, State.uhfFaulted_only]
  exact State.regsWf_setFlag (State.regsWf_faultCounted h _ _) _ _

/-- A port as a fault leaves it, before its record (R93, R157). -/
def State.hfFaulted (s : State) (p : HPortNo) (kind : Nat) : State :=
  (s.faultFlagged (HP_FAULT p) (HP_FLAGS p) kind).modHp p fun x => { x with faulted := true, probes := 0 }

theorem State.hfMark_eq (s : State) (p : HPortNo) (kind : Nat) : s.hfMark p kind = (s.hfFaulted p kind).fault 1 p.val kind :=
  rfl

theorem State.hfFaulted_only (s : State) (p : HPortNo) (kind : Nat) : s.hfFaulted p kind =
    { s with regs := (s.faultFlagged (HP_FAULT p) (HP_FLAGS p) kind).regs, hports := (s.hfFaulted p kind).hports } := by
  simp [State.hfFaulted, State.faultFlagged, State.faultCounted, State.modHp]

theorem State.hfFaulted_hp (s : State) (p : HPortNo) (kind : Nat) :
    (s.hfFaulted p kind).hp p = { s.hp p with faulted := true, probes := 0 } ∧
    ∀ q, q ≠ p → (s.hfFaulted p kind).hp q = s.hp q := by
  refine ⟨?_, fun q hq => ?_⟩
  · rw [State.hfFaulted, State.hp_modHp_same, State.faultFlagged_hp]
  · rw [State.hfFaulted, State.hp_modHp_other _ _ hq, State.faultFlagged_hp]

@[simp] theorem State.hfFaulted_reg (s : State) (p : HPortNo) (kind a : Nat) :
    (s.hfFaulted p kind).reg a = (s.faultFlagged (HP_FAULT p) (HP_FLAGS p) kind).reg a := by
  rw [State.hfFaulted, State.modHp_reg_acc]

theorem State.regsWf_hfFaulted (h : s.regsWf) (p : HPortNo) (kind : Nat) : (s.hfFaulted p kind).regsWf := by
  rw [State.regsWf, State.hfFaulted_only]
  exact State.regsWf_setFlag (State.regsWf_faultCounted h _ _) _ _

theorem upBase_lt (p : UPortNo) : upBase p < 0x3A000 := by
  unfold upBase
  split <;> omega

theorem hpBase_lt (p : HPortNo) : hpBase p < 0x4A000 := by
  unfold hpBase
  omega

/-- The mark of a UHF fault changes its port, registers, the record, and the thread that the event wakes. -/
theorem State.uhfMark_only (s : State) (p : UPortNo) (kind : Nat) : s.uhfMark p kind =
    { s with regs := (s.uhfMark p kind).regs, threads := (s.uhfMark p kind).threads, uports := (s.uhfMark p kind).uports
             faults := (s.uhfMark p kind).faults } := by
  rw [State.uhfMark_eq, State.fault_uports]
  refine (State.fault_only _ 0 p.val kind).trans ?_
  exact congrArg (fun t : State => { t with
    regs := ((s.uhfFaulted p kind).fault 0 p.val kind).regs
    threads := ((s.uhfFaulted p kind).fault 0 p.val kind).threads
    faults := ((s.uhfFaulted p kind).fault 0 p.val kind).faults }) (State.uhfFaulted_only s p kind)

theorem State.hfMark_only (s : State) (p : HPortNo) (kind : Nat) : s.hfMark p kind =
    { s with regs := (s.hfMark p kind).regs, threads := (s.hfMark p kind).threads, hports := (s.hfMark p kind).hports
             faults := (s.hfMark p kind).faults } := by
  rw [State.hfMark_eq, State.fault_hports]
  refine (State.fault_only _ 1 p.val kind).trans ?_
  exact congrArg (fun t : State => { t with
    regs := ((s.hfFaulted p kind).fault 1 p.val kind).regs
    threads := ((s.hfFaulted p kind).fault 1 p.val kind).threads
    faults := ((s.hfFaulted p kind).fault 1 p.val kind).faults }) (State.hfFaulted_only s p kind)

theorem State.uhfMark_up (s : State) (p : UPortNo) (kind : Nat) :
    (s.uhfMark p kind).up p = { s.up p with faulted := true, probes := 0 } ∧
    ∀ q, q ≠ p → (s.uhfMark p kind).up q = s.up q := by
  obtain ⟨hsame, hother⟩ := State.uhfFaulted_up s p kind
  exact ⟨by rw [State.uhfMark_eq, State.fault_up_acc, hsame],
    fun q hq => by rw [State.uhfMark_eq, State.fault_up_acc, hother q hq]⟩

theorem State.hfMark_hp (s : State) (p : HPortNo) (kind : Nat) :
    (s.hfMark p kind).hp p = { s.hp p with faulted := true, probes := 0 } ∧
    ∀ q, q ≠ p → (s.hfMark p kind).hp q = s.hp q := by
  obtain ⟨hsame, hother⟩ := State.hfFaulted_hp s p kind
  exact ⟨by rw [State.hfMark_eq, State.fault_hp_acc, hsame],
    fun q hq => by rw [State.hfMark_eq, State.fault_hp_acc, hother q hq]⟩

/-- The registers of a UHF port after the mark of a fault: its kind and count, and the flag. -/
theorem State.uhfMark_regs (h : s.regsWf) (p : UPortNo) {kind : Nat} (hk : kind < 16) :
    (s.uhfMark p kind).fld (UP_FAULT p) 8 4 = kind ∧
    (s.uhfMark p kind).fld (UP_FAULT p) 16 8 = min (s.fld (UP_FAULT p) 16 8 + 1) 255 ∧
    ((s.uhfMark p kind).reg (UP_FLAGS p)).getLsbD 0 = true ∧ ((s.uhfMark p kind).reg FLT_STATUS).getLsbD 0 = true := by
  have hp := upBase_lt p
  obtain ⟨hkind, hcount, hflag, hw, -⟩ :=
    State.faultFlagged_regs h (fault := UP_FAULT p) (flags := UP_FLAGS p) (by simp [UP_FAULT, UP_FLAGS]) hk
  have hfault : (s.uhfMark p kind).reg (UP_FAULT p) = (s.faultFlagged (UP_FAULT p) (UP_FLAGS p) kind).reg (UP_FAULT p) := by
    rw [State.uhfMark_eq, State.fault_reg_below (by unfold UP_FAULT; omega), State.uhfFaulted_reg]
  refine ⟨(State.fld_congr hfault 8 4).trans hkind, (State.fld_congr hfault 16 8).trans hcount, ?_,
    ?_⟩
  · rw [State.uhfMark_eq, State.fault_reg_below (by unfold UP_FLAGS; omega), State.uhfFaulted_reg, hflag]
  · rw [State.uhfMark_eq]
    exact State.fault_bit (State.regsWf_uhfFaulted h p kind) (by omega) p.val kind

/-- The record of a UHF fault (R327). -/
theorem State.uhfMark_record (h : s.regsWf) (p : UPortNo) {kind : Nat} (hk : kind < 16) :
    (s.uhfMark p kind).reg (FLT_LOGA (s.fld FLT_LOGHEAD 0 4)) =
      BitVec.ofNat 32 (65536 * p.val + 256 * kind + s.fld FLT_LOGHEAD 8 8) ∧
    (s.uhfMark p kind).reg (FLT_LOGB (s.fld FLT_LOGHEAD 0 4)) = s.tbLo := by
  have hp := upBase_lt p
  obtain ⟨-, -, -, -, hkeep⟩ :=
    State.faultFlagged_regs h (fault := UP_FAULT p) (flags := UP_FLAGS p) (by simp [UP_FAULT, UP_FLAGS]) hk
  have hhead : (s.uhfFaulted p kind).reg FLT_LOGHEAD = s.reg FLT_LOGHEAD := by
    rw [State.uhfFaulted_reg, hkeep _ (by unfold FLT_LOGHEAD UP_FAULT; omega) (by unfold FLT_LOGHEAD UP_FLAGS; omega)]
  have htb : (s.uhfFaulted p kind).tbLo = s.tbLo := by
    rw [State.uhfFaulted_only]
    rfl
  have hseq : s.fld FLT_LOGHEAD 8 8 < 256 := bits_lt _ _ _
  have hrec := State.fault_record (State.regsWf_uhfFaulted h p kind) (cls := 0) (by omega) p.val kind
  rw [State.fld_congr hhead, State.fld_congr hhead, faultRecord_eq (by omega) (by omega) (by omega) hseq, htb, Nat.mul_zero,
    Nat.zero_add] at hrec
  exact hrec

/-- The registers of an HF port after the mark of a fault. -/
theorem State.hfMark_regs (h : s.regsWf) (p : HPortNo) {kind : Nat} (hk : kind < 16) :
    (s.hfMark p kind).fld (HP_FAULT p) 8 4 = kind ∧ ((s.hfMark p kind).reg (HP_FLAGS p)).getLsbD 0 = true ∧
    ((s.hfMark p kind).reg FLT_STATUS).getLsbD 1 = true := by
  have hp := hpBase_lt p
  obtain ⟨hkind, -, hflag, hw, -⟩ :=
    State.faultFlagged_regs h (fault := HP_FAULT p) (flags := HP_FLAGS p) (by simp [HP_FAULT, HP_FLAGS]) hk
  have hfault : (s.hfMark p kind).reg (HP_FAULT p) = (s.faultFlagged (HP_FAULT p) (HP_FLAGS p) kind).reg (HP_FAULT p) := by
    rw [State.hfMark_eq, State.fault_reg_below (by unfold HP_FAULT; omega), State.hfFaulted_reg]
  refine ⟨(State.fld_congr hfault 8 4).trans hkind, ?_, ?_⟩
  · rw [State.hfMark_eq, State.fault_reg_below (by unfold HP_FLAGS; omega), State.hfFaulted_reg, hflag]
  · rw [State.hfMark_eq]
    exact State.fault_bit (State.regsWf_hfFaulted h p kind) (by omega) p.val kind

/-- A flag of an HF port that was set stays set. -/
theorem State.hfMark_flag {p : HPortNo} {i : Nat} (h : s.regsWf) (hi : (s.reg (HP_FLAGS p)).getLsbD i = true) (kind : Nat) :
    ((s.hfMark p kind).reg (HP_FLAGS p)).getLsbD i = true := by
  have hp := hpBase_lt p
  rw [State.hfMark_eq, State.fault_reg_below (by unfold HP_FLAGS; omega), State.hfFaulted_reg, State.faultFlagged,
    State.reg_setFlag_same (State.regsWf_faultCounted h _ _), State.faultCounted_reg_other (by simp [HP_FAULT, HP_FLAGS]),
    BitVec.getLsbD_or, hi, Bool.true_or]

/-! ### The faults (R93, R157) -/

/-- A fault of a UHF port that no operation holds removes its carrier and is marked. -/
theorem State.uhfFault_free {p : UPortNo} {kind : Nat} (hk : kind ≠ 6) (hport : s.onPort p = []) (hend : s.endedNow = []) :
    s.uhfFault p kind = (s.carrierOff p).uhfMark p kind := by
  have hheld : ∀ x ∈ s.ops, (x.holds && decide (p ∈ x.uports)) = false := fun x hx => by
    simpa using (List.filter_eq_nil_iff.mp hport) x hx
  rw [State.uhfFault, if_neg hk, State.killAll_none (fun x hx => by rw [hheld x hx, Bool.and_false]) hend]

/-- A field that no operation holds is removed, which FIELDLOST shows (R140). -/
theorem State.hfRemove_free {p : HPortNo} (h : s.ops = []) : s.hfRemove p =
    (if (s.hp p).field then s.setFlag (HP_FLAGS p) 2 else s).hfTurnOff p := by
  have hnone : s.hholder p = none := by rw [State.hholder, h, List.find?_nil]
  simp [State.hfRemove, hnone]

/-- A fault of an HF port, with no operation in flight, removes its field and is marked. -/
theorem State.hfFault_free {p : HPortNo} {kind : Nat} (hk : kind ≠ 6) (hops : s.ops = []) (hend : s.endedNow = []) :
    s.hfFault p kind = (s.hfRemove p).hfMark p kind := by
  have hnone : s.hholder p = none := by rw [State.hholder, hops, List.find?_nil]
  have hrem : (s.hfRemove p).ops = s.ops ∧ (s.hfRemove p).endedNow = s.endedNow := by
    rw [State.hfRemove_free hops]
    split <;> exact ⟨rfl, rfl⟩
  rw [State.hfFault, if_neg hk, hnone]
  dsimp only
  rw [if_neg (by decide), State.killAll_none (by simp [hrem.1, hops]) (hrem.2.trans hend)]

/-- The field a fault finds: off afterwards, and of the port's registers FLAGS alone changes. -/
theorem State.hfRemove_hp (hops : s.ops = []) (h : s.regsWf) (p : HPortNo) :
    s.hfRemove p = { s with regs := (s.hfRemove p).regs, hports := (s.hfRemove p).hports } ∧
    (s.hfRemove p).hp p = { s.hp p with field := false, level := 0, leftBy := none } ∧
    (∀ q, q ≠ p → (s.hfRemove p).hp q = s.hp q) ∧ (s.hfRemove p).regsWf ∧
    ((s.hp p).field = true → ((s.hfRemove p).reg (HP_FLAGS p)).getLsbD 2 = true) := by
  rw [State.hfRemove_free hops]
  by_cases hf : (s.hp p).field = true
  · rw [if_pos hf]
    refine ⟨rfl, State.hp_modHp_same _ p _, fun q hq => State.hp_modHp_other _ _ hq, State.regsWf_setFlag h _ _, fun _ => ?_⟩
    exact State.setFlag_bit h _ (by omega)
  · rw [if_neg hf]
    exact ⟨rfl, State.hp_modHp_same _ p _, fun q hq => State.hp_modHp_other _ _ hq, h, fun hf' => absurd hf' hf⟩

/-- What a fault of a UHF port does when no operation holds it: the carrier goes, and the port, the flags, the counter and
the log say so (R93, R327). -/
theorem State.uhfFault_free_effects {p : UPortNo} {kind : Nat} (h : s.regsWf) (h6 : kind ≠ 6) (hk : kind < 16)
    (hport : s.onPort p = []) (hend : s.endedNow = []) :
    let t := s.uhfFault p kind
    t = { s with regs := t.regs, threads := t.threads, uports := t.uports, faults := t.faults } ∧
    (t.up p).faulted = true ∧ (t.up p).probes = 0 ∧ (t.up p).carrier = none ∧ (t.up p).pa = false ∧
    (∀ q, q ≠ p → t.up q = s.up q) ∧ t.fld (UP_FAULT p) 8 4 = kind ∧
    t.fld (UP_FAULT p) 16 8 = min (s.fld (UP_FAULT p) 16 8 + 1) 255 ∧ (t.reg (UP_FLAGS p)).getLsbD 0 = true ∧
    (t.reg FLT_STATUS).getLsbD 0 = true ∧
    t.reg (FLT_LOGA (s.fld FLT_LOGHEAD 0 4)) = BitVec.ofNat 32 (65536 * p.val + 256 * kind + s.fld FLT_LOGHEAD 8 8) ∧
    t.reg (FLT_LOGB (s.fld FLT_LOGHEAD 0 4)) = s.tbLo := by
  have hoff : s.carrierOff p = { s with uports := (s.carrierOff p).uports } := rfl
  have hw : (s.carrierOff p).regsWf := h
  obtain ⟨hsame, hother⟩ := State.uhfMark_up (s.carrierOff p) p kind
  obtain ⟨hfld, hcnt, hflag, hstat⟩ := State.uhfMark_regs hw p hk
  obtain ⟨hloga, hlogb⟩ := State.uhfMark_record hw p hk
  rw [State.carrierOff, State.up_modUp_same, ← State.carrierOff] at hsame
  rw [State.uhfFault_free h6 hport hend]
  refine ⟨(State.uhfMark_only _ p kind).trans ?_, by rw [hsame], by rw [hsame], by rw [hsame]; rfl, by rw [hsame]; rfl,
    fun q hq => (hother q hq).trans (State.up_modUp_other s _ hq), hfld, hcnt, hflag, hstat, hloga, hlogb⟩
  exact congrArg (fun t : State => { t with
    regs := ((s.carrierOff p).uhfMark p kind).regs, threads := ((s.carrierOff p).uhfMark p kind).threads
    uports := ((s.carrierOff p).uhfMark p kind).uports, faults := ((s.carrierOff p).uhfMark p kind).faults }) hoff

/-- What a fault of an HF port does with no operation in flight: the field goes, and the port and its flags say so (R157). -/
theorem State.hfFault_free_effects {p : HPortNo} {kind : Nat} (h : s.regsWf) (h6 : kind ≠ 6) (hk : kind < 16)
    (hops : s.ops = []) (hend : s.endedNow = []) :
    let t := s.hfFault p kind
    t = { s with regs := t.regs, threads := t.threads, hports := t.hports, faults := t.faults } ∧
    (t.hp p).faulted = true ∧ (t.hp p).field = false ∧ (t.hp p).level = 0 ∧ (∀ q, q ≠ p → t.hp q = s.hp q) ∧
    t.fld (HP_FAULT p) 8 4 = kind ∧ ((s.hp p).field = true → (t.reg (HP_FLAGS p)).getLsbD 2 = true) ∧
    (t.reg (HP_FLAGS p)).getLsbD 0 = true ∧ (t.reg FLT_STATUS).getLsbD 1 = true := by
  obtain ⟨honly, hport, hothers, hw, hlost⟩ := State.hfRemove_hp hops h p
  obtain ⟨hsame, hother⟩ := State.hfMark_hp (s.hfRemove p) p kind
  obtain ⟨hfld, hflag, hstat⟩ := State.hfMark_regs hw p hk
  rw [hport] at hsame
  rw [State.hfFault_free h6 hops hend]
  refine ⟨(State.hfMark_only _ p kind).trans ?_, by rw [hsame], by rw [hsame], by rw [hsame],
    fun q hq => (hother q hq).trans (hothers q hq), hfld, fun hf => State.hfMark_flag hw (hlost hf) kind, hflag, hstat⟩
  exact congrArg (fun t : State => { t with
    regs := ((s.hfRemove p).hfMark p kind).regs, threads := ((s.hfRemove p).hfMark p kind).threads
    hports := ((s.hfRemove p).hfMark p kind).hports, faults := ((s.hfRemove p).hfMark p kind).faults }) honly

/-! ### The commands -/

/-- Monitors that show nothing new leave the device alone. -/
theorem exec_uhfPortFault_none {p : UPortNo} {m : UhfSense} (h : bit (s.reg (UP_CTRL p)) 0 = false ∨ s.uhfKind p m = none ∨
    ((s.up p).faulted = true ∧ s.uhfKind p m = some (s.fld (UP_FAULT p) 8 4))) : exec (.uhfPortFault p m) s = .next s := by
  refine congrArg Host.Outcome.next ?_
  rcases h with h | h | ⟨hf, h⟩
  · rw [if_neg (by simp [h])]
  · simp [h]
  · simp [h, hf]

theorem exec_uhfPortFault_kind {p : UPortNo} {m : UhfSense} {kind : Nat} (hen : bit (s.reg (UP_CTRL p)) 0 = true)
    (hkind : s.uhfKind p m = some kind) (hnew : (s.up p).faulted = false ∨ s.fld (UP_FAULT p) 8 4 ≠ kind) :
    exec (.uhfPortFault p m) s = .next (s.uhfFault p kind) := by
  have hnot : ¬ ((s.up p).faulted && s.fld (UP_FAULT p) 8 4 == kind) = true := by
    rcases hnew with h | h <;> simp [h]
  refine congrArg Host.Outcome.next ?_
  rw [if_pos hen, hkind]
  exact if_neg hnot

theorem exec_hfPortFault_none {p : HPortNo} {m : HfSense} (h : bit (s.reg (HP_CTRL p)) 0 = false ∨
    (([1, 2, 3, 4, 5] : List Nat).find? fun k => s.hfDetects p m k) = none ∨ ((s.hp p).faulted = true ∧
    (([1, 2, 3, 4, 5] : List Nat).find? fun k => s.hfDetects p m k) = some (s.fld (HP_FAULT p) 8 4))) :
    exec (.hfPortFault p m) s = .next s := by
  refine congrArg Host.Outcome.next ?_
  rcases h with h | h | ⟨hf, h⟩
  · rw [if_neg (by simp [h])]
  · rw [h]
    exact ite_self s
  · rw [h]
    simp [hf]

theorem exec_hfPortFault_kind {p : HPortNo} {m : HfSense} {kind : Nat} (hen : bit (s.reg (HP_CTRL p)) 0 = true)
    (hkind : (([1, 2, 3, 4, 5] : List Nat).find? fun k => s.hfDetects p m k) = some kind)
    (hnew : (s.hp p).faulted = false ∨ s.fld (HP_FAULT p) 8 4 ≠ kind) :
    exec (.hfPortFault p m) s = .next (s.hfFault p kind) := by
  have hnot : ¬ ((s.hp p).faulted && s.fld (HP_FAULT p) 8 4 == kind) = true := by
    rcases hnew with h | h <;> simp [h]
  refine congrArg Host.Outcome.next ?_
  rw [if_pos hen, hkind]
  exact if_neg hnot

/-- A probe of a faulted UHF port under AUTOCLR, for a kind that probes end (R94). -/
theorem exec_uhfFaultProbe {p : UPortNo} (hf : (s.up p).faulted = true) (hauto : bit (s.reg (UP_CTRL p)) 4 = true)
    (hlo : 1 ≤ s.fld (UP_FAULT p) 8 4) (hhi : s.fld (UP_FAULT p) 8 4 ≤ 5) (pass : Bool) :
    exec (.uhfFaultProbe p pass) s = .next (if !pass then s.modUp p fun x => { x with probes := 0 }
      else if 1 ≤ (s.up p).probes then s.uhfClear p else s.modUp p fun x => { x with probes := x.probes + 1 }) :=
  congrArg Host.Outcome.next (if_pos (by simp [hf, hauto, hlo, hhi]))

theorem exec_hfFaultProbe {p : HPortNo} (hf : (s.hp p).faulted = true) (hauto : bit (s.reg (HP_CTRL p)) 1 = true)
    (hlo : 1 ≤ s.fld (HP_FAULT p) 8 4) (hhi : s.fld (HP_FAULT p) 8 4 ≤ 5) (pass : Bool) :
    exec (.hfFaultProbe p pass) s = .next (if !pass then s.modHp p fun x => { x with probes := 0 }
      else if 1 ≤ (s.hp p).probes then s.hfClear p else s.modHp p fun x => { x with probes := x.probes + 1 }) :=
  congrArg Host.Outcome.next (if_pos (by simp [hf, hauto, hlo, hhi]))

/-- Two changes of a port that agree on it are one. -/
theorem State.modUp_congr {p : UPortNo} {f g : UPort → UPort} (h : f (s.up p) = g (s.up p)) : s.modUp p f = s.modUp p g := by
  rw [State.modUp, h, State.modUp]

theorem State.modHp_congr {p : HPortNo} {f g : HPort → HPort} (h : f (s.hp p) = g (s.hp p)) : s.modHp p f = s.modHp p g := by
  rw [State.modHp, h, State.modHp]

/-- The end of the faulted state of an HF port that is faulted (R158). -/
theorem State.hfClear_faulted {p : HPortNo} (hf : (s.hp p).faulted = true) :
    s.hfClear p = s.modHp p fun x => { x with faulted := false, probes := 0, needBase := true } :=
  State.modHp_congr (if_pos hf)

theorem bit_or_one (v : Word) : bit (v ||| 1) 0 = true := by simp [bit]

theorem exec_uhfFaultClear (p : UPortNo) (v : Word) :
    exec (.uhfFaultClear p v) s = .next ((s.writeFields (UP_FAULT p) (v ||| 1)).uhfClear p) :=
  congrArg Host.Outcome.next (if_pos (bit_or_one v))

theorem exec_hfFaultClear (p : HPortNo) (v : Word) :
    exec (.hfFaultClear p v) s = .next ((s.writeFields (HP_FAULT p) (v ||| 1)).hfClear p) :=
  congrArg Host.Outcome.next (if_pos (bit_or_one v))

/-- The fields of UPn_FAULT after a write: FAULTCNT takes the value, the kind keeps. -/
theorem State.writeFields_UP_FAULT (h : s.regsWf) (p : UPortNo) (v : Word) :
    (s.writeFields (UP_FAULT p) (v ||| 1)).fld (UP_FAULT p) 16 8 = bits v 16 8 ∧
    (s.writeFields (UP_FAULT p) (v ||| 1)).fld (UP_FAULT p) 8 4 = s.fld (UP_FAULT p) 8 4 := by
  have hone : ∀ k < 8, (1 : Word).getLsbD (16 + k) = false := by decide
  have hrw : ∀ k < 8, (0xFF0000 : Word).getLsbD (16 + k) = true := by decide
  have hro : ∀ k < 4, (0xFF0000 : Word).getLsbD (8 + k) = false := by decide
  rw [State.writeFields_of_some (regRow_UP_FAULT p), State.fld, State.fld, State.reg_setReg_same h]
  constructor
  · refine bits_congr fun k hk => ?_
    rw [getLsbD_storedWrite _ _ _ (by omega) (by simp) (by simp), if_pos (hrw k hk), BitVec.getLsbD_or, hone k hk, Bool.or_false]
  · refine bits_congr fun k hk => ?_
    rw [getLsbD_storedWrite _ _ _ (by omega) (by simp) (by simp), if_neg (by rw [hro k hk]; decide)]

/-- UPn_CTRL written with ENABLE 0. -/
def State.disableWrite (s : State) (p : UPortNo) (v : Word) : State := s.writeFields (UP_CTRL p) (v &&& 0xFFFFFFFE)

theorem enable_cleared (v : Word) : bit (v &&& 0xFFFFFFFE) 0 = false := by
  rw [bit, BitVec.getLsbD_and, (by decide : (0xFFFFFFFE : Word).getLsbD 0 = false), Bool.and_false]

theorem State.disableWrite_only (s : State) (p : UPortNo) (v : Word) :
    s.disableWrite p v = { s with regs := (s.disableWrite p v).regs } := State.writeFields_only s _ _

theorem State.disableWrite_up (s : State) (p : UPortNo) (v : Word) (q : UPortNo) : (s.disableWrite p v).up q = s.up q := by
  rw [State.disableWrite_only]
  rfl

/-- ENABLE reads 0 after a write that clears it. -/
theorem State.disableWrite_enable (h : s.regsWf) (p : UPortNo) (v : Word) :
    ((s.disableWrite p v).reg (UP_CTRL p)).getLsbD 0 = false := by
  rw [State.disableWrite, State.writeFields_of_some (regRow_UP_CTRL p), State.reg_setReg_same h,
    getLsbD_storedWrite _ _ _ (by omega) (by simp) (by simp), if_pos (by decide)]
  exact enable_cleared v

/-- A write of UPn_CTRL with ENABLE 0, while no operation holds the port, ends its holdover carrier (R80). -/
theorem exec_uhfPortDisable {p : UPortNo} (h : s.onPort p = []) (v : Word) : exec (.uhfPortDisable p v) s =
    .next (if bit (s.reg (UP_CTRL p)) 0 = true ∧ (s.up p).holdover ≠ none then (s.disableWrite p v).carrierOff p
      else s.disableWrite p v) := by
  have hport : ((s.disableWrite p v).onPort p).isEmpty = true := by
    have hops : (s.disableWrite p v).onPort p = s.onPort p := by
      rw [State.disableWrite_only]
      rfl
    rw [hops, h, List.isEmpty_nil]
  have hctrl : exec (.uhfPortDisable p v) s =
      .next (if bit (s.reg (UP_CTRL p)) 0 && !bit (v &&& 0xFFFFFFFE) 0 then
        if ((s.disableWrite p v).onPort p).isEmpty then
          (if ((s.disableWrite p v).up p).holdover.isSome then (s.disableWrite p v).carrierOff p else s.disableWrite p v)
        else (s.disableWrite p v).uhfFault p 9
      else s.disableWrite p v) := rfl
  rw [hctrl, hport, State.disableWrite_up, enable_cleared, if_pos rfl]
  refine congrArg Host.Outcome.next ?_
  by_cases hen : bit (s.reg (UP_CTRL p)) 0 = true <;> by_cases hhold : (s.up p).holdover = none <;>
    simp [hen, hhold, Option.isSome_iff_ne_none]

end Sys2Proof.Machine

/-- Settles O25, one command at a time: a fault without an operation on the port is the carrier or field removed and the
mark of R93, whose record goes to the FAULT block alone. The order in which the kinds are looked for is assumption 66. -/
theorem portFaultsRemoveCarriersUntilCleared : Obligations.PortFaultsRemoveCarriersUntilCleared := by
  unfold Obligations.PortFaultsRemoveCarriersUntilCleared
  refine ⟨?uhf, ?hf, ?uhfEnd, ?hfEnd, ?disable⟩
  case uhf =>
    intro s p m hs open_ near hot off
    have hopen : s.reflects p m = true ↔ open_ := State.reflects_iff
    refine ⟨fun h => ?_, fun h => ⟨fun hhot => ?_, fun hhot hoff => ?_⟩, exec_uhfPortFault_none,
      fun kind hen hkind h6 hnew hport hend => ?_⟩
    · rw [State.uhfKind_reflects (hopen.mpr h)]
      simp [near]
    · rw [State.uhfKind_matched (mt hopen.mp h), List.find?_cons_of_pos (by simpa [State.uhfDetects] using hhot)]
    · have hhot' : ¬ s.uhfDetects p m 3 = true := fun hd => hhot (of_decide_eq_true hd)
      have hoff' : s.uhfDetects p m 4 = true := decide_eq_true hoff
      rw [State.uhfKind_matched (mt hopen.mp h), List.find?_cons_of_neg hhot', List.find?_cons_of_pos hoff']
    · have hk : kind < 16 := by have := State.uhfKind_le hkind; omega
      exact ⟨_, exec_uhfPortFault_kind hen hkind hnew, State.uhfFault_free_effects hs h6 hk hport hend⟩
  case hf =>
    intro s p m hs found
    refine ⟨fun hcur hcyc => List.find?_cons_of_pos (decide_eq_true ⟨hcur, hcyc⟩), exec_hfPortFault_none,
      fun kind hen hkind hnew hops hend => ?_⟩
    have hk : kind ≤ 5 :=
      (by decide : ∀ k ∈ ([1, 2, 3, 4, 5] : List Nat), k ≤ 5) kind (List.mem_of_find?_eq_some hkind)
    exact ⟨_, exec_hfPortFault_kind hen hkind hnew, State.hfFault_free_effects hs (by omega) (by omega) hops hend⟩
  case uhfEnd =>
    intro s p hs hf
    refine ⟨fun hauto hlo hhi => ?_, fun v => ?_⟩
    · have hexec := exec_uhfFaultProbe hf hauto hlo hhi
      refine ⟨hexec false, fun hp => ?_, fun hp => ?_⟩
      · rw [hexec true, if_neg (by decide), if_neg (by omega)]
        exact congrArg Host.Outcome.next (State.modUp_congr (by rw [hp]))
      · rw [hexec true, if_neg (by decide), if_pos hp]
        rfl
    · have honly := State.writeFields_only s (UP_FAULT p) (v ||| 1)
      obtain ⟨hcnt, hkind⟩ := State.writeFields_UP_FAULT hs p v
      have hup (q : UPortNo) : (s.writeFields (UP_FAULT p) (v ||| 1)).up q = s.up q := by rw [honly]; rfl
      refine ⟨_, exec_uhfFaultClear p v, ?_, ?_, fun q hq => ?_, hcnt, hkind⟩
      · exact congrArg (fun t : State => { t with uports := ((s.writeFields (UP_FAULT p) (v ||| 1)).uhfClear p).uports }) honly
      · rw [State.uhfClear, State.up_modUp_same, hup]
      · rw [State.uhfClear, State.up_modUp_other _ _ hq, hup]
  case hfEnd =>
    intro s p hs hf
    refine ⟨fun hauto hlo hhi => ?_, fun v => ?_⟩
    · have hexec := exec_hfFaultProbe hf hauto hlo hhi
      refine ⟨hexec false, fun hp => ?_, fun hp => ?_⟩
      · rw [hexec true, if_neg (by decide), if_neg (by omega)]
        exact congrArg Host.Outcome.next (State.modHp_congr (by rw [hp]))
      · rw [hexec true, if_neg (by decide), if_pos hp, State.hfClear_faulted hf]
    · have honly := State.writeFields_only s (HP_FAULT p) (v ||| 1)
      have hhp (q : HPortNo) : (s.writeFields (HP_FAULT p) (v ||| 1)).hp q = s.hp q := by rw [honly]; rfl
      have hclear := State.hfClear_faulted (s := s.writeFields (HP_FAULT p) (v ||| 1)) (p := p) (by rw [hhp, hf])
      refine ⟨_, (exec_hfFaultClear p v).trans (by rw [hclear]), ?_, ?_, fun q hq => ?_⟩
      · exact congrArg (fun t : State => { t with hports := ((s.writeFields (HP_FAULT p) (v ||| 1)).modHp p
          fun x => { x with faulted := false, probes := 0, needBase := true }).hports }) honly
      · rw [State.hp_modHp_same, hhp]
      · rw [State.hp_modHp_other _ _ hq, hhp]
  case disable =>
    intro s p v hs hport
    have honly := State.disableWrite_only s p v
    have hkept (a : Nat) (ha : a ≠ UP_CTRL p) : (s.disableWrite p v).reg a = s.reg a := State.writeFields_reg_other ha _
    have hexec := exec_uhfPortDisable hport v
    by_cases hhold : bit (s.reg (UP_CTRL p)) 0 = true ∧ (s.up p).holdover ≠ none
    · rw [if_pos hhold] at hexec
      refine ⟨_, hexec, ?_, State.disableWrite_enable hs p v, hkept, fun _ _ => ?_, fun q hq => ?_⟩
      · exact congrArg (fun t : State => { t with uports := ((s.disableWrite p v).carrierOff p).uports }) honly
      · rw [State.carrierOff, State.up_modUp_same]
        rfl
      · rw [State.carrierOff, State.up_modUp_other _ _ hq, State.disableWrite_up]
    · rw [if_neg hhold] at hexec
      refine ⟨_, hexec, ?_, State.disableWrite_enable hs p v, hkept, fun hen hold => absurd ⟨hen, hold⟩ hhold,
        fun q _ => State.disableWrite_up s p v q⟩
      exact congrArg (fun t : State => { t with uports := (s.disableWrite p v).uports }) honly
end

section
/-! PROOF. What a carrier of a UHF port changes (R77, R79, R81, R83, R91), and the K.CAL runs that begin (R270, R272). -/

open Sys2Proof Sys2Proof.Machine

namespace Sys2Proof.Machine

variable {s t u : State}

/-! ### What the air engine changes -/

/-- Two changes of the air engine are one. -/
theorem State.airFrame.trans (h : s.airFrame t) (h' : t.airFrame u) : s.airFrame u :=
  Eq.trans h' (congrArg (fun v : State => { v with
    ticks := u.ticks, tb := u.tb, regs := u.regs, threads := u.threads, ops := u.ops, ended := u.ended, endedAt := u.endedAt
    uports := u.uports, hports := u.hports, spares := u.spares, los := u.los, decoders := u.decoders, units := u.units
    solving := u.solving, solveQ := u.solveQ, applying := u.applying }) h)

/-- What every step of a fold over distinct things keeps in relation to a state, and what one step does to the thing it is
about and to no other, the fold does. -/
theorem foldl_visits {ι α : Type} {f : State → ι → State} {R : State → Prop} {view : State → ι → α}
    (hstep : ∀ u, R u → ∀ q, R (f u q) ∧ ∀ r, r ≠ q → view (f u q) r = view u r) :
    ∀ (l : List ι) (t : State), l.Nodup → R t →
      R (l.foldl f t) ∧ (∀ p, p ∉ l → view (l.foldl f t) p = view t p) ∧
      ∀ p ∈ l, ∃ u, R u ∧ view u p = view t p ∧ view (l.foldl f t) p = view (f u p) p
  | [], t, _, ht => ⟨ht, fun _ _ => rfl, fun _ hp => absurd hp List.not_mem_nil⟩
  | q :: l, t, hl, ht => by
    obtain ⟨hq, hl'⟩ := List.nodup_cons.mp hl
    obtain ⟨hR, hother⟩ := hstep t ht q
    obtain ⟨hend, hout, hin⟩ := foldl_visits hstep l (f t q) hl' hR
    refine ⟨hend, fun p hp => ?_, fun p hp => ?_⟩
    · obtain ⟨hpq, hpl⟩ := List.ne_and_not_mem_of_not_mem_cons hp
      exact (hout p hpl).trans (hother p hpq)
    · by_cases hpq : p = q
      · subst hpq
        exact ⟨t, ht, rfl, hout p hq⟩
      · obtain ⟨u, hu, hview, hres⟩ := hin p (List.mem_of_ne_of_mem hpq hp)
        exact ⟨u, hu, hview.trans (hother p hpq), hres⟩

theorem nodup_setBits (m : Nat) : (setBits m).Nodup := (List.nodup_finRange 16).filter _

theorem Op.nodup_uports (op : Op) : op.uports.Nodup := by
  unfold Op.uports
  split
  · exact nodup_setBits _
  · exact List.nodup_nil

theorem Op.nodup_hports (op : Op) : op.hports.Nodup := by
  unfold Op.hports
  split
  · exact (List.nodup_finRange 8).filter _
  · exact List.nodup_nil

/-! ### Registers that a carrier leaves alone -/

theorem upBase_mod (n : Nat) : upBase n % 4096 = 0 := by
  unfold upBase
  split <;> omega

/-- The offset of a register in its block page is neither that of FLAGS nor that of CNC, the two registers of a port that its
carrier writes. -/
def besideCarrier (a : Nat) : Prop := a % 4096 ≠ 0x8 ∧ a % 4096 ≠ 0x1C

theorem besideCarrier.ne_flags {a : Nat} (h : besideCarrier a) (p : Nat) : a ≠ UP_FLAGS p := by
  have := upBase_mod p
  unfold UP_FLAGS
  unfold besideCarrier at h
  omega

theorem besideCarrier.ne_cnc {a : Nat} (h : besideCarrier a) (s : State) (p : UPortNo) : a ≠ s.cncReg p := by
  have := upBase_mod p
  unfold besideCarrier at h
  unfold State.cncReg UP_CNC
  split <;> omega

theorem besideCarrier_UP_CTRL (p : Nat) : besideCarrier (UP_CTRL p) := by
  have := upBase_mod p
  unfold besideCarrier UP_CTRL
  omega

theorem besideCarrier_UP_TXCFG (p : Nat) : besideCarrier (UP_TXCFG p) := by
  have := upBase_mod p
  unfold besideCarrier UP_TXCFG
  omega

theorem besideCarrier_UP_DPDCTRL (p : Nat) : besideCarrier (UP_DPDCTRL p) := by
  have := upBase_mod p
  unfold besideCarrier UP_DPDCTRL
  omega

theorem besideCarrier_CAL_UHF : besideCarrier CAL_UHF := by
  unfold besideCarrier CAL_UHF
  omega

/-- `t` is `s` but for carriers: the ports, FLAGS and CNC, and the chirp receptions too near a carrier. -/
structure State.Carriers (s t : State) : Prop where
  only : t = { s with regs := t.regs, uports := t.uports, decoders := t.decoders }
  regs : ∀ a, besideCarrier a → t.reg a = s.reg a

theorem State.Carriers.refl (s : State) : s.Carriers s := ⟨rfl, fun _ _ => rfl⟩

theorem State.Carriers.trans (h : s.Carriers t) (h' : t.Carriers u) : s.Carriers u :=
  ⟨h'.only.trans (congrArg (fun v : State => { v with regs := u.regs, uports := u.uports, decoders := u.decoders }) h.only),
    fun a ha => (h'.regs a ha).trans (h.regs a ha)⟩

theorem State.Carriers.ite {c : Prop} [Decidable c] {v : State} (hu : s.Carriers u) (hv : s.Carriers v) :
    s.Carriers (if c then u else v) := by
  split
  · exact hu
  · exact hv

theorem State.Carriers.modUp (h : s.Carriers t) (p : UPortNo) (f : UPort → UPort) : s.Carriers (t.modUp p f) :=
  h.trans ⟨rfl, fun _ _ => rfl⟩

theorem State.Carriers.setFlags (h : s.Carriers t) (p i : Nat) : s.Carriers (t.setFlag (UP_FLAGS p) i) :=
  h.trans ⟨rfl, fun _ ha => State.reg_setFlag_other t (ha.ne_flags p)⟩

theorem State.Carriers.setCnc (h : s.Carriers t) (p : UPortNo) (lo n v : Nat) : s.Carriers (t.setFld (t.cncReg p) lo n v) :=
  h.trans ⟨rfl, fun _ ha => State.reg_setFld_other t (ha.ne_cnc t p)⟩

theorem State.Carriers.ops (h : s.Carriers t) : t.ops = s.ops := by rw [h.only]

theorem State.Carriers.threads (h : s.Carriers t) : t.threads = s.threads := by rw [h.only]

theorem State.Carriers.power (h : s.Carriers t) : t.power = s.power := by rw [h.only]

theorem State.Carriers.airFrame (h : s.Carriers t) : s.airFrame t := by
  rw [h.only]
  rfl

/-- The level an operation asks of a port does not depend on carriers. -/
theorem State.Carriers.txpwr (h : s.Carriers t) (op : Op) : t.txpwr op = s.txpwr op := by
  unfold State.txpwr
  rw [State.fld_congr (h.regs CAL_UHF besideCarrier_CAL_UHF)]

/-! ### A carrier that comes up -/

/-- No C.LISTEN is in flight. -/
def State.listenless (s : State) : Prop := ∀ x ∈ s.ops, x.isListen = false

theorem State.listenless.settleListens (h : s.listenless) : s.settleListens = s := by
  have hnone : s.ops.filter (·.isListen) = [] := List.filter_eq_nil_iff.mpr fun x hx => by simp [h x hx]
  rw [State.settleListens, hnone, List.map_nil, List.foldl_nil]

theorem State.Carriers.listenless (h : s.Carriers t) (hs : s.listenless) : t.listenless := by
  unfold State.listenless
  rw [h.ops]
  exact hs

/-- Receptions that are dropped leave no C.LISTEN to settle. -/
theorem State.listenless.dropReceptions (h : s.listenless) (q : Recep → Bool) :
    s.dropReceptions q = { s with decoders := (s.dropReceptions q).decoders } := by
  have hdrop : s.dropReceptions q = { s with decoders := s.decoders.map fun d =>
      match d with
      | some r => if q r then none else some r
      | none => none } := State.listenless.settleListens h
  rw [hdrop]

theorem State.startTrims_carriers (s : State) (p : UPortNo) : s.Carriers (s.startTrims p) := by
  unfold State.startTrims
  split
  · exact .refl s
  · exact ((State.Carriers.refl s).setCnc p _ _ _).setCnc p _ _ _

theorem State.Carriers.dropReceptions (h : s.Carriers t) (hs : s.listenless) (q : Recep → Bool) :
    s.Carriers (t.dropReceptions q) ∧ (t.dropReceptions q).uports = t.uports := by
  rw [(h.listenless hs).dropReceptions q]
  exact ⟨h.trans ⟨rfl, fun _ _ => rfl⟩, rfl⟩

/-- What is done before a port's carrier comes up: CLAMPED, the receptions too near it, and its trims (R77, R91, R79). -/
def State.clearWay (s : State) (op : Op) (freq : Nat) (p : UPortNo) : State :=
  let s1 := (if ((s.up p).driver (s.txpwr op)).2 then s.setFlag (UP_FLAGS p) 1 else s).dropReceptions
    fun r => decide (r.port = p) && nearCarrier freq r.freq r.bw
  if (s.up p).carrier == some (op.lo, freq) then s1 else s1.startTrims p

theorem State.startTrims_uports (s : State) (p : UPortNo) : (s.startTrims p).uports = s.uports := by
  unfold State.startTrims
  split <;> rfl

theorem State.clearWay_carriers (h : s.listenless) (op : Op) (freq : Nat) (p : UPortNo) :
    s.Carriers (s.clearWay op freq p) ∧ (s.clearWay op freq p).uports = s.uports := by
  have hclamp : s.Carriers (if ((s.up p).driver (s.txpwr op)).2 then s.setFlag (UP_FLAGS p) 1 else s) :=
    .ite ((State.Carriers.refl s).setFlags p 1) (.refl s)
  have hports : (if ((s.up p).driver (s.txpwr op)).2 then s.setFlag (UP_FLAGS p) 1 else s).uports = s.uports := by
    split <;> rfl
  obtain ⟨hdrop, hkept⟩ := hclamp.dropReceptions h fun r => decide (r.port = p) && nearCarrier freq r.freq r.bw
  refine ⟨.ite hdrop (hdrop.trans (State.startTrims_carriers _ p)), ?_⟩
  unfold State.clearWay
  dsimp only
  split
  · exact hkept.trans hports
  · exact (State.startTrims_uports _ p).trans (hkept.trans hports)

/-- A port as its carrier starts, before UPAn and BACKOFF (R77, R81). -/
def State.litAs (s : State) (op : Op) (freq at_ : Nat) (p : UPortNo) (x : UPort) : UPort :=
  let on := (s.up p).carrier == some (op.lo, freq)
  let lv := ((s.up p).driver (s.txpwr op)).1
  { x with
    carrier := some (op.lo, freq), upTick := if on then x.upTick else at_, level := lv, full := lv
    capped := decide (1 ≤ s.power.level) || ((s.up p).capped && on), holdover := none }

theorem State.carrierUp_eq (op : Op) (freq at_ : Nat) {p : UPortNo} (ht : (s.up p).transmits = true) :
    let t := (s.clearWay op freq p).modUp p (s.litAs op freq at_ p)
    s.carrierUp op freq at_ p = (t.modUp p fun x => { x with pa := t.paOk p }).relevel p := by
  exact if_neg (show ¬ (!(s.up p).transmits) = true by rw [ht]; exact Bool.false_ne_true)

theorem State.carrierUp_silent (op : Op) (freq at_ : Nat) {p : UPortNo} (ht : (s.up p).transmits = false) :
    s.carrierUp op freq at_ p = s.carrierOff p := by
  exact if_pos (show (!(s.up p).transmits) = true by rw [ht]; rfl)

/-- A carrier takes its level in force; no other port is touched (R81, R95). -/
theorem State.relevel_carriers (s : State) (p : UPortNo) : s.Carriers (s.relevel p) ∧
    (∀ q, q ≠ p → (s.relevel p).up q = s.up q) ∧
    ((s.up p).carrier ≠ none →
      (s.relevel p).up p = { s.up p with level := (s.up p).cut (s.fld (UP_TXCFG p) 0 8) }) := by
  have hflag : s.Carriers (if (s.up p).cut (s.fld (UP_TXCFG p) 0 8) < (s.up p).level then s.setFlag (UP_FLAGS p) 1 else s) :=
    .ite ((State.Carriers.refl s).setFlags p 1) (.refl s)
  have hup (q : UPortNo) :
      (if (s.up p).cut (s.fld (UP_TXCFG p) 0 8) < (s.up p).level then s.setFlag (UP_FLAGS p) 1 else s).up q = s.up q := by
    split <;> rfl
  unfold State.relevel
  dsimp only
  split
  next hnone => exact ⟨.refl s, fun _ _ => rfl, fun h => absurd (Option.isNone_iff_eq_none.mp hnone) h⟩
  · refine ⟨hflag.modUp p _, fun q hq => ?_, fun _ => ?_⟩
    · rw [State.up_modUp_other _ _ hq, hup]
    · rw [State.up_modUp_same, hup]

/-- A port with an operation's carrier up at its level (R77, R79, R81, R95). -/
def State.litPort (s : State) (op : Op) (freq at_ : Nat) (p : UPortNo) : UPort :=
  let x := s.litAs op freq at_ p (s.up p)
  { x with
    pa := x.paMode && bit (s.reg (UP_CTRL p)) 0 && !x.faulted && !x.capped
    level := x.cut (s.fld (UP_TXCFG p) 0 8) }

/-- A carrier that comes up on a port that transmits: that port carries it, no other is touched. -/
theorem State.carrierUp_carriers (h : s.listenless) (op : Op) (freq at_ : Nat) (p : UPortNo) :
    s.Carriers (s.carrierUp op freq at_ p) ∧ (∀ q, q ≠ p → (s.carrierUp op freq at_ p).up q = s.up q) ∧
    ((s.up p).transmits = true → (s.carrierUp op freq at_ p).up p = s.litPort op freq at_ p) := by
  cases ht : (s.up p).transmits with
  | false =>
    rw [State.carrierUp_silent op freq at_ ht]
    exact ⟨(State.Carriers.refl s).modUp p _, fun q hq => State.up_modUp_other s _ hq, fun h => absurd h (by decide)⟩
  | true =>
    obtain ⟨hway, hports⟩ := State.clearWay_carriers h op freq p
    have hup (q : UPortNo) : (s.clearWay op freq p).up q = s.up q := congrArg (fun v => v[q]) hports
    have hlit := State.carrierUp_eq op freq at_ ht
    generalize ht' : (s.clearWay op freq p).modUp p (s.litAs op freq at_ p) = t at hlit
    have hc : s.Carriers t := ht' ▸ hway.modUp p _
    have htp : t.up p = s.litAs op freq at_ p (s.up p) := by rw [← ht', State.up_modUp_same, hup]
    have htq (q : UPortNo) (hq : q ≠ p) : t.up q = s.up q := by rw [← ht', State.up_modUp_other _ _ hq, hup]
    obtain ⟨hlevel, hothers, hsame⟩ := State.relevel_carriers (t.modUp p fun x => { x with pa := t.paOk p }) p
    dsimp only at hlit
    rw [hlit]
    refine ⟨(hc.modUp p _).trans hlevel, fun q hq => ?_, fun _ => ?_⟩
    · rw [hothers q hq, State.up_modUp_other _ _ hq, htq q hq]
    · rw [State.up_modUp_same, htp] at hsame
      rw [hsame (Option.some_ne_none _), State.modUp_fld_acc, State.fld_congr (hc.regs _ (besideCarrier_UP_TXCFG p)), State.paOk,
        hc.regs _ (besideCarrier_UP_CTRL p), htp]
      rfl

/-- What a carrier's port becomes depends on that port, shedding, the level asked and the port's registers alone. -/
theorem State.Carriers.litPort (h : s.Carriers t) {p : UPortNo} (hup : t.up p = s.up p) (op : Op) (freq at_ : Nat) :
    t.litPort op freq at_ p = s.litPort op freq at_ p := by
  unfold State.litPort State.litAs
  rw [hup, h.power, h.txpwr, h.regs _ (besideCarrier_UP_CTRL p), State.fld_congr (h.regs _ (besideCarrier_UP_TXCFG p))]

/-! ### A K.CAL run begins -/

/-- An operation that begins is Active, not begun, of the class and code asked for, and stands in its thread's ticket. -/
theorem State.begins_spec {o : OpId} {cls code : Nat} {op : Op} (h : s.begins o cls code = some op) :
    s.op? o = some op ∧ op.active = true ∧ op.started = false ∧ op.cls = cls ∧ op.code = code ∧ op.ending = none := by
  unfold State.begins at h
  split at h
  next op' hop =>
    split at h
    next hc =>
      obtain rfl := Option.some.inj h
      simp only [Bool.and_eq_true, Bool.not_eq_true', beq_iff_eq, Option.isNone_iff_eq_none] at hc
      obtain ⟨⟨⟨⟨hact, hst⟩, hcls⟩, hcode⟩, hend⟩ := hc
      exact ⟨hop, hact, hst, hcls, hcode, hend⟩
    · cases h
  · cases h

/-- The driver level a port is asked for passes FITLVL + 0.5 dB with DPDRANGE enabled (R83). -/
def State.aboveFit (s : State) (op : Op) (p : UPortNo) : Bool :=
  bit (s.up p).ctrl 3 && bit (s.reg (UP_DPDCTRL p)) 0 &&
    decide (signed 8 (s.fld (UP_DPDCTRL p) 24 8) + 2 < ((s.up p).driver (s.txpwr op)).1)

theorem State.Carriers.aboveFit (h : s.Carriers t) {p : UPortNo} (hup : t.up p = s.up p) (op : Op) :
    t.aboveFit op p = s.aboveFit op p := by
  unfold State.aboveFit
  rw [hup, h.txpwr, h.regs _ (besideCarrier_UP_DPDCTRL p), State.fld_congr (h.regs _ (besideCarrier_UP_DPDCTRL p))]

theorem State.dpdCheck_carriers (s : State) (op : Op) (p : UPortNo) : s.Carriers (s.dpdCheck op p) ∧
    (∀ q, q ≠ p → (s.dpdCheck op p).up q = s.up q) ∧
    (s.dpdCheck op p).up p = { s.up p with dpdOff := s.aboveFit op p } := by
  have hmod : s.Carriers (s.modUp p fun x => { x with dpdOff := s.aboveFit op p }) := (State.Carriers.refl s).modUp p _
  have hcheck : s.dpdCheck op p = if s.aboveFit op p then
      (s.modUp p fun x => { x with dpdOff := s.aboveFit op p }).setFlag (UP_FLAGS p) 2
    else s.modUp p fun x => { x with dpdOff := s.aboveFit op p } := rfl
  have hup (q : UPortNo) : (s.dpdCheck op p).up q = (s.modUp p fun x => { x with dpdOff := s.aboveFit op p }).up q := by
    rw [hcheck]
    split <;> rfl
  refine ⟨hcheck ▸ .ite (hmod.setFlags p 2) hmod, fun q hq => ?_, ?_⟩
  · rw [hup, State.up_modUp_other _ _ hq]
  · rw [hup, State.up_modUp_same]

/-- One port of a K.CAL DPD: checked against the fitted level, then its carrier up (R83, R270). -/
theorem State.dpdUp_carriers (h : s.listenless) (op : Op) (p : UPortNo) :
    s.Carriers ((s.dpdCheck op p).carrierUp op op.freq s.ticks p) ∧
    (∀ q, q ≠ p → ((s.dpdCheck op p).carrierUp op op.freq s.ticks p).up q = s.up q) ∧
    ((s.up p).transmits = true →
      (((s.dpdCheck op p).carrierUp op op.freq s.ticks p).up p).carrier = some (op.lo, op.freq) ∧
      (((s.dpdCheck op p).carrierUp op op.freq s.ticks p).up p).dpdOff = s.aboveFit op p) := by
  obtain ⟨hchecked, hothers, hsame⟩ := s.dpdCheck_carriers op p
  obtain ⟨hup, hquiet, hlit⟩ := State.carrierUp_carriers (hchecked.listenless h) op op.freq s.ticks p
  refine ⟨hchecked.trans hup, fun q hq => (hquiet q hq).trans (hothers q hq), fun ht => ?_⟩
  rw [hlit (by rw [hsame]; exact ht)]
  exact ⟨rfl, congrArg UPort.dpdOff hsame⟩

/-- The carriers of a K.CAL DPD, on every port that transmits (R83, R270). -/
theorem State.dpdUp_all (h : s.listenless) (op : Op) :
    s.Carriers (op.uports.foldl (fun t p => (t.dpdCheck op p).carrierUp op op.freq t.ticks p) s) ∧
    ∀ p ∈ op.uports, (s.up p).transmits = true →
      ((op.uports.foldl (fun t p => (t.dpdCheck op p).carrierUp op op.freq t.ticks p) s).up p).carrier =
        some (op.lo, op.freq) ∧
      ((op.uports.foldl (fun t p => (t.dpdCheck op p).carrierUp op op.freq t.ticks p) s).up p).dpdOff =
        s.aboveFit op p := by
  obtain ⟨hall, -, hin⟩ := foldl_visits (R := s.Carriers) (view := State.up)
    (f := fun t p => (t.dpdCheck op p).carrierUp op op.freq t.ticks p)
    (fun u hu q => by
      obtain ⟨hc, hothers, -⟩ := State.dpdUp_carriers (hu.listenless h) op q
      exact ⟨hu.trans hc, hothers⟩)
    op.uports s op.nodup_uports (.refl s)
  refine ⟨hall, fun p hp ht => ?_⟩
  obtain ⟨u, hu, hview, hres⟩ := hin p hp
  obtain ⟨-, -, hlit⟩ := State.dpdUp_carriers (hu.listenless h) op p
  rw [hres, ← hu.aboveFit hview op]
  exact hlit (by rw [hview]; exact ht)

/-- One port of a K.CAL HDI: its field on at 100 mW, and what it was kept (R270, R272). -/
def State.hdiUp (s : State) (op : Op) (p : HPortNo) : State :=
  (s.hfTurnOn op p).modHp p fun x => { x with saved := if (s.hp p).field then some (s.hp p).level else none }

theorem State.hdiUp_hp {op : Op} (hcal : op.isCal = true) (p : HPortNo) :
    s.hdiUp op p = { s with hports := (s.hdiUp op p).hports } ∧ (∀ q, q ≠ p → (s.hdiUp op p).hp q = s.hp q) ∧
    ((s.hdiUp op p).hp p).field = true ∧ ((s.hdiUp op p).hp p).level = 10 ∧
    ((s.hdiUp op p).hp p).saved = if (s.hp p).field then some (s.hp p).level else none := by
  have hlevel : s.hfLevel op p = 10 := if_pos hcal
  have hon : s.hfTurnOn op p = s.modHp p fun x => { x with
      field := true, level := 10
      phase := if !(s.hp p).field || (s.hp p).level != 10 then (s.reg (HP_FIELD p)).extractLsb' 0 7 else x.phase } := by
    simp [State.hfTurnOn, hcal, hlevel]
  rw [State.hdiUp, hon]
  refine ⟨rfl, fun q hq => ?_, ?_, ?_, ?_⟩
  · rw [State.hp_modHp_other _ _ hq, State.hp_modHp_other _ _ hq]
  all_goals simp only [State.hp_modHp_same]

/-- The fields of a K.CAL HDI, on every port. -/
theorem State.hdiUp_all (s : State) {op : Op} (hcal : op.isCal = true) :
    let t := op.hports.foldl (fun t p => t.hdiUp op p) s
    t = { s with hports := t.hports } ∧ ∀ p ∈ op.hports, (t.hp p).field = true ∧ (t.hp p).level = 10 ∧
      (t.hp p).saved = if (s.hp p).field then some (s.hp p).level else none := by
  obtain ⟨hall, -, hin⟩ := foldl_visits (R := fun t => t = { s with hports := t.hports }) (view := State.hp)
    (f := fun t p => t.hdiUp op p)
    (fun u hu q => by
      obtain ⟨honly, hothers, -⟩ := State.hdiUp_hp (s := u) hcal q
      exact ⟨honly.trans (congrArg (fun v : State => { v with hports := (u.hdiUp op q).hports }) hu), hothers⟩)
    op.hports s op.nodup_hports rfl
  refine ⟨hall, fun p hp => ?_⟩
  obtain ⟨u, -, hview, hres⟩ := hin p hp
  obtain ⟨-, -, hfield⟩ := State.hdiUp_hp (s := u) hcal p
  rw [hres, ← hview]
  exact hfield

theorem State.ops_hports_only (hu : u = { s with ops := u.ops }) (ht : t = { u with hports := t.hports }) :
    t.ops = u.ops ∧ t = { s with ops := t.ops, hports := t.hports } := by
  have hops : t.ops = u.ops := by rw [ht]
  refine ⟨hops, ?_⟩
  rw [hops]
  exact ht.trans (congrArg (fun v : State => { v with hports := t.hports }) hu)

/-- The state a K.CAL leaves that begins, before what its code does on the air (R273, R276). -/
def State.calBegun (s : State) (o : OpId) (op : Op) (radiates : Bool) : State :=
  s.beginOp o (.cal { set := setOf (s.dieTemp (calBlock op.calCode op.calPort))
                      temp := BitVec.ofInt 16 (s.dieTemp (calBlock op.calCode op.calPort)), radiates, since := s.ticks })

section
variable {o : OpId} {op : Op} (hb : s.begins o 4 1 = some op)
include hb

/-- A K.CAL begins: what its code does on the air, from the state it leaves as it begins. -/
theorem State.calBegin_eq {code : Nat} (hcode : op.calCode = code) : s.calBegin o code =
    if code = 3 then
      op.uports.foldl (fun t p => (t.dpdCheck op p).carrierUp op op.freq t.ticks p) (s.calBegun o op (decide (code = 3)))
    else if code = 5 then
      (s.calBegun o op (decide (code = 3))).modLo op.lo fun l => { l with lock := false, aligned := false, next := none }
    else if code = 6 then op.hports.foldl (fun t p => t.hdiUp op p) (s.calBegun o op (decide (code = 3)))
    else s.calBegun o op (decide (code = 3)) := by
  subst hcode
  unfold State.calBegin
  rw [hb]
  exact if_neg (not_not_intro rfl)

/-- A K.CAL whose code has nothing on the air only begins. -/
theorem State.calBegin_plain {code : Nat} (hcode : op.calCode = code) (h3 : code ≠ 3) (h5 : code ≠ 5) (h6 : code ≠ 6) :
    s.calBegin o code = s.calBegun o op false := by
  rw [State.calBegin_eq hb hcode, if_neg h3, if_neg h5, if_neg h6, decide_eq_false h3]

/-- A K.CAL DPD begins when its listen, if any, is over and its LO is there. -/
theorem execKCalDpd_eq (hcode : op.calCode = 3) (hwait : op.lbtWait = false) (hlo : (s.lo op.lo).at op.freq = true) :
    exec (.kCalDpd o) s = .next (op.uports.foldl (fun t p => (t.dpdCheck op p).carrierUp op op.freq t.ticks p)
      (s.calBegun o op true)) := by
  have hready : ¬ (op.lbtWait || !(s.lo op.lo).at op.freq) = true := by rw [hwait, hlo]; decide
  obtain ⟨hop, -⟩ := State.begins_spec hb
  have hbegin : execKCalDpd o s = .next (s.calBegin o 3) := by
    unfold execKCalDpd
    rw [hop]
    exact congrArg Host.Outcome.next (if_neg hready)
  exact hbegin.trans (congrArg _ ((State.calBegin_eq hb hcode).trans (if_pos rfl)))

end

/-- What a change of one operation that keeps its kind leaves of the absence of C.LISTENs. -/
theorem State.listenless.modOp (h : s.listenless) (o : OpId) {f : Op → Op} (hf : ∀ x, (f x).isListen = x.isListen) :
    (s.modOp o f).listenless := by
  intro x hx
  obtain ⟨y, hy, rfl⟩ := List.mem_map.mp hx
  split
  · rw [hf, h y hy]
  · exact h y hy

end Sys2Proof.Machine

open Sys2Proof Sys2Proof.Machine

/-- Settles O31: the state in which a K.CAL begins, then the fold of each code over its ports. -/
theorem calibrationRunsClaimAndBegin : Obligations.CalibrationRunsClaimAndBegin := by
  unfold Obligations.CalibrationRunsClaimAndBegin
  intro s o op hb run begun ua
  obtain ⟨-, -, -, hcls, -, -⟩ := State.begins_spec hb
  have plain {code block : Nat} (hcode : op.calCode = code) (h3 : code ≠ 3) (h5 : code ≠ 5) (h6 : code ≠ 6)
      (hblock : calBlock code op.calPort = block) :
      s.calBegin o code = s.modOp o fun x => { x with started := true, eng := .cal (run block false) } := by
    rw [State.calBegin_plain hb hcode h3 h5 h6, State.calBegun, hcode, hblock]
    rfl
  refine ⟨fun h => congrArg _ (plain h (by decide) (by decide) (by decide) rfl),
    fun h => congrArg _ (plain h (by decide) (by decide) (by decide) rfl),
    fun h => congrArg _ (plain h (by decide) (by decide) (by decide) rfl),
    fun h => congrArg _ (plain h (by decide) (by decide) (by decide) rfl),
    fun h => congrArg _ (plain h (by decide) (by decide) (by decide) rfl),
    fun h => congrArg _ (plain h (by decide) (by decide) (by decide) rfl), fun h3 hwait hlo hlisten => ?_, fun h5 => ?_,
    fun h6 => ?_⟩
  · have hexec := execKCalDpd_eq hb h3 hwait hlo
    rw [State.calBegun, h3] at hexec
    obtain ⟨hall, hports⟩ := State.dpdUp_all
      (State.listenless.modOp hlisten o (f := fun x => { x with started := true, eng := .cal (run ua true) }) fun _ => rfl) op
    have hbegun : s.airFrame (s.modOp o fun x => { x with started := true, eng := .cal (run ua true) }) := rfl
    exact ⟨_, hexec, hbegun.trans hall.airFrame, hall.threads, hall.ops, hports⟩
  · have hbegin := (State.calBegin_eq hb h5).trans ((if_neg (by decide)).trans (if_pos rfl))
    rw [State.calBegun, h5] at hbegin
    refine ⟨_, congrArg Host.Outcome.next hbegin, rfl, rfl, ?_, ?_, fun n hn => State.lo_modLo_other _ _ hn⟩
    all_goals rw [State.lo_modLo_same]
  · have hbegin := (State.calBegin_eq hb h6).trans ((if_neg (by decide)).trans ((if_neg (by decide)).trans (if_pos rfl)))
    rw [State.calBegun, h6] at hbegin
    have hcal : op.isCal = true := by rw [Op.isCal, hcls]; rfl
    obtain ⟨honly, hfields⟩ := State.hdiUp_all (s.beginOp o (.cal (run 2 false))) hcal
    obtain ⟨hops, hframe⟩ := State.ops_hports_only (s := s) rfl honly
    exact ⟨_, congrArg Host.Outcome.next hbegin, hframe, hops, hfields⟩

end

section
/-! PROOF. An operation that ends in one step: its resources, its completion word and its ticket slot (R38, R64, R66, R72). -/

open Sys2Proof Sys2Proof.Machine

namespace Sys2Proof.Machine

variable {s t u : State}

/-! ### What a release changes -/

theorem State.airFrame.ite {c : Prop} [Decidable c] (ht : s.airFrame t) (hu : s.airFrame u) :
    s.airFrame (if c then t else u) := by
  split
  · exact ht
  · exact hu

/-- A fold changes no more than its steps do. -/
theorem State.airFrame.foldl {α : Type} {f : State → α → State} (hf : ∀ (v : State) (a : α), v.airFrame (f v a)) (l : List α)
    (h : s.airFrame t) : s.airFrame (l.foldl f t) := by
  induction l generalizing t with
  | nil => exact h
  | cons a l ih => exact ih (h.trans (hf t a))

theorem State.modUp_airFrame (s : State) (p : UPortNo) (f : UPort → UPort) : s.airFrame (s.modUp p f) := rfl

theorem State.modHp_airFrame (s : State) (p : HPortNo) (f : HPort → HPort) : s.airFrame (s.modHp p f) := rfl

theorem State.relevel_airFrame (s : State) (p : UPortNo) : s.airFrame (s.relevel p) := (s.relevel_carriers p).1.airFrame

theorem State.releaseUp_airFrame (s : State) (o : OpId) (p : UPortNo) : s.airFrame (s.releaseUp o p) := .ite rfl rfl

/-- Only the end of a C.SEND counts a duty cycle; any other keeps to the air engine. -/
theorem State.releaseCarriers_airFrame {op : Op} (hsend : op.isSend = false) : s.airFrame (s.releaseCarriers op) := by
  have hmute : s.airFrame (s.muteBeam op) := .foldl (fun v p => v.modUp_airFrame p UPort.off) _ rfl
  unfold State.releaseCarriers
  rw [hsend, Bool.false_and, if_neg Bool.false_ne_true]
  exact .ite (.foldl (fun v p => v.releaseUp_airFrame op.id p) _ rfl) (.ite hmute rfl)

theorem State.releaseFields_airFrame (s : State) (op : Op) : s.airFrame (s.releaseFields op) :=
  .ite (.foldl (fun v p => v.modHp_airFrame p _) _ rfl) rfl

theorem State.releaseSpares_airFrame (s : State) (op : Op) : s.airFrame (s.releaseSpares op) := by
  refine .ite (.foldl (fun v p => v.modHp_airFrame p _) _ (.foldl (fun v p => ?_) _ rfl)) rfl
  exact (v.modUp_airFrame p _).trans (State.relevel_airFrame _ p)

theorem State.releaseDecoders_airFrame (s : State) (op : Op) : s.airFrame (s.releaseDecoders op) := .ite rfl rfl

/-- The release of an operation that is no C.SEND stays within the air engine. -/
theorem State.release_airFrame {op : Op} (hsend : op.isSend = false) : s.airFrame (s.release op) := by
  rw [State.release_eq]
  have hheld : s.airFrame ((((s.releaseCarriers op).releaseFields op).releaseSpares op).releaseDecoders op) :=
    (((State.releaseCarriers_airFrame hsend).trans (State.releaseFields_airFrame _ op)).trans
      (State.releaseSpares_airFrame _ op)).trans (State.releaseDecoders_airFrame _ op)
  exact hheld.trans rfl

theorem State.takenOut_airFrame {op : Op} (hsend : op.isSend = false) (status : Nat) :
    s.airFrame (s.takenOut op status) := by
  have hrel : s.airFrame (if op.released then s else s.release op) := .ite rfl (State.release_airFrame hsend)
  exact hrel.trans rfl

theorem State.takenOut_threads (s : State) (op : Op) (status : Nat) : (s.takenOut op status).threads = s.threads := by
  have hrel : (if op.released then s else s.release op).tickets = s.tickets := by
    split
    · rfl
    · exact State.release_tickets s op
  exact congrArg Prod.fst hrel

/-! ### The completion -/

/-- The completion word of R38, by its fields. -/
theorem completion_fields (op : Op) {status : Nat} (hs : status < 256) :
    op.completion status = BitVec.ofNat 32 (65536 * min op.words 65535 + 256 * op.code + status) := by
  have hcode : op.code < 256 := bits_lt _ _ _
  have hwords : min op.words 65535 < 2 ^ 16 := by omega
  apply BitVec.eq_of_toNat_eq
  have hlow : op.code * 2 ^ 8 ||| status = op.code * 2 ^ 8 + status := by
    rw [← Nat.shiftLeft_eq, Nat.shiftLeft_add_eq_or_of_lt hs]
  have hhigh : min op.words 65535 * 2 ^ 16 ||| (op.code * 2 ^ 8 + status) =
      min op.words 65535 * 2 ^ 16 + (op.code * 2 ^ 8 + status) := by
    rw [← Nat.shiftLeft_eq (min op.words 65535), Nat.shiftLeft_add_eq_or_of_lt (by omega)]
  rw [Op.completion, BitVec.toNat_or, BitVec.toNat_or, fieldW_toNat hwords (by decide), fieldW_toNat hcode (by decide),
    fieldW_toNat hs (by decide), Nat.pow_zero, Nat.mul_one, Nat.or_assoc, hlow, hhigh, BitVec.toNat_ofNat]
  omega

/-- With nothing held and no end item an operation ends in one step. -/
theorem State.endOp_plain {o : OpId} {op : Op} (hop : s.op? o = some op) (hp : op.plain) (status : Nat) :
    s.endOp o status = s.finishOp op status := by
  obtain ⟨hheld, hitem, hend⟩ := hp
  simp [State.endOp, hop, hend, hitem, hheld]

/-- A ticket slot written, among the threads. -/
theorem State.setSlot_threads (s : State) (o : OpId) (k : Slot) : ∃ m, (s.setSlot o k).threads = vset s.threads o.thread
    { s.th o.thread with slots := vset (s.th o.thread).slots o.slot k, met := m } := by
  obtain ⟨m, hm⟩ := Thread.noteMet_only s.ticks { s.th o.thread with slots := vset (s.th o.thread).slots o.slot k }
  exact ⟨m, congrArg (vset s.threads o.thread) hm⟩

/-- An operation that ends in one step: over, its slot Done with its word, no other slot touched. -/
theorem State.finishOp_done {o : OpId} {op : Op} (hid : op.id = o) (hsend : op.isSend = false)
    (hd : (s.slot o).discard = false) {status : Nat} (hs : status < 256) :
    (s.finishOp op status).doneAs o op.words op.code status ∧ s.onlySlot (s.finishOp op status) o ∧
      s.airFrame (s.finishOp op status) := by
  subst hid
  have hth := State.takenOut_threads s op status
  have hslot : (s.takenOut op status).slot op.id = s.slot op.id := congrArg (fun v => v[op.id.thread].slots[op.id.slot]) hth
  have hfin : s.finishOp op status =
      (s.takenOut op status).setSlot op.id { st := .done, word := op.completion status } := by
    rw [State.finishOp_eq, hslot, hd]
    rfl
  obtain ⟨m, hm⟩ := State.setSlot_threads (s.takenOut op status) op.id { st := .done, word := op.completion status }
  rw [State.th, hth] at hm
  have hdone : (s.finishOp op status).slot op.id = { st := .done, word := op.completion status } := by
    rw [hfin, State.slot, State.th, hm, vset_get_same]
    exact vset_get_same _ _ _
  refine ⟨⟨?_, ?_⟩, ⟨m, ?_⟩, ?_⟩
  · obtain ⟨-, hops⟩ := State.finishOp_tickets rfl hd status
    rw [State.op?, hops]
    exact List.find?_eq_none.mpr fun x hx => by simpa using (List.mem_filter.mp hx).2
  · rw [hdone, completion_fields op hs]
  · rw [hdone, hfin]
    exact hm
  · rw [hfin]
    exact (State.takenOut_airFrame hsend status).trans rfl

end Sys2Proof.Machine
end

section
/-! PROOF. The events that move a beam on (R79, R80, R103, R117 to R120). -/

open Sys2Proof Sys2Proof.Machine

namespace Sys2Proof.Machine

variable {s t u : State}

/-! ### A beam that settles (R79, R81) -/

theorem State.advance_airFrame (s : State) (dt : Nat) : s.airFrame (s.advance dt) := by
  unfold State.advance
  split <;> rfl

theorem State.mem_txPorts {op : Op} {p : UPortNo} (h : p ∈ s.txPorts op) : p ∈ op.uports ∧ (s.up p).transmits = true := by
  have hsub : p ∈ op.uports.filter fun q => (s.up q).transmits := by
    unfold State.txPorts at h
    split at h
    · exact List.mem_of_mem_take h
    · exact h
  exact List.mem_filter.mp hsub

theorem State.nodup_txPorts (s : State) (op : Op) : (s.txPorts op).Nodup := by
  have hsub : (op.uports.filter fun q => (s.up q).transmits).Nodup := op.nodup_uports.filter _
  unfold State.txPorts
  split
  · exact hsub.take
  · exact hsub

/-- The carriers of a beam up on every port that transmits for it (R79). -/
def State.beamLit (s : State) (op : Op) (freq at_ : Nat) : State :=
  (s.txPorts op).foldl (fun t p => t.carrierUp op freq at_ p) s

/-- They come up on those ports, and on no other. -/
theorem State.beamLit_carriers (h : s.listenless) (op : Op) (freq at_ : Nat) :
    s.Carriers (s.beamLit op freq at_) ∧
    (∀ p ∈ s.txPorts op, (s.beamLit op freq at_).up p = s.litPort op freq at_ p) ∧
    ∀ p, p ∉ s.txPorts op → (s.beamLit op freq at_).up p = s.up p := by
  obtain ⟨hall, hout, hin⟩ := foldl_visits (R := s.Carriers) (view := State.up)
    (f := fun t p => t.carrierUp op freq at_ p)
    (fun u hu q => by
      obtain ⟨hc, hothers, -⟩ := State.carrierUp_carriers (hu.listenless h) op freq at_ q
      exact ⟨hu.trans hc, hothers⟩)
    (s.txPorts op) s (s.nodup_txPorts op) (.refl s)
  refine ⟨hall, fun p hp => ?_, hout⟩
  obtain ⟨u, hu, hview, hres⟩ := hin p hp
  obtain ⟨-, -, hlit⟩ := State.carrierUp_carriers (hu.listenless h) op freq at_ p
  rw [State.beamLit, hres, hlit (by rw [hview]; exact (State.mem_txPorts hp).2), hu.litPort hview]

/-- A port lit with no shedding and no spare carries the whole level it is asked for, its UPAn in PA mode (R77, R81, R95). -/
theorem State.litPort_full {op : Op} {freq at_ : Nat} {p : UPortNo} (hpow : s.power.level = 0) (hcap : (s.up p).capped = false)
    (hspare : (s.up p).spare = false) :
    (s.litPort op freq at_ p).level = ((s.up p).driver (s.txpwr op)).1 ∧
    (s.litPort op freq at_ p).pa = ((s.up p).paMode && bit (s.reg (UP_CTRL p)) 0 && !(s.up p).faulted) := by
  have hshed : (s.litAs op freq at_ p (s.up p)).capped = false := by simp [State.litAs, hpow, hcap]
  have hown : (s.litAs op freq at_ p (s.up p)).spare = false := hspare
  refine ⟨?_, ?_⟩
  · show (s.litAs op freq at_ p (s.up p)).cut _ = _
    unfold UPort.cut
    rw [hshed, hown]
    rfl
  · show ((s.up p).paMode && bit (s.reg (UP_CTRL p)) 0 && !(s.up p).faulted && !(s.litAs op freq at_ p (s.up p)).capped) = _
    rw [hshed, Bool.not_false, Bool.and_true]

/-- A beam that settles: its carriers up, the operation settled with the close of its dwell. -/
theorem State.beamSettled_eq {o : OpId} {op : Op} (hop : s.op? o = some op) :
    s.beamSettled o = (s.beamLit op op.freq (s.ticks - s.settleTicks op)).modOp o fun x => { x with
      settled := true
      dwellEnd := some ((s.beamLit op op.freq (s.ticks - s.settleTicks op)).dwellClose op) } := by
  unfold State.beamSettled
  rw [hop]
  rfl

/-- CARRIER_SETTLED of an operation not begun that waits for its carrier. -/
theorem execCarrierSettled_eq {o : OpId} {op : Op} {dt : Nat} (hop : s.op? o = some op) (hact : op.active = true)
    (hbeam : op.isBeam = true) (hholds : op.holds = true) (hend : op.ending = none) (hset : op.settled = false)
    (hwait : op.lbtWait = false) (hstart : op.started = false) (hmet : op.metered = false)
    (hlo : (s.lo op.lo).at op.freq = true) :
    exec (.carrierSettled o dt) s = .next ((s.advance dt).beamSettled o) := by
  show execCarrierSettled o dt s = _
  simp [execCarrierSettled, hop, hact, hbeam, hholds, hend, hset, hwait, hstart, hmet, hlo]

/-! ### A listen that ends (R119) -/

/-- The listen finds every port of the beam that has its carrier still to start below the threshold. -/
theorem State.lbtBusy_eq_false {op : Op} {levels : List Int} : s.lbtBusy op levels = false ↔
    ∀ p ∈ s.txPorts op, (s.up p).carrier = some (op.lo, op.freq) ∨
      levels.getD p.val (-32768) < signed 16 ((s.regionW 2).toNat % 65536) := by
  unfold State.lbtBusy
  rw [List.any_eq_false, bits_low]
  refine forall₂_congr fun p _ => ?_
  rw [Bool.and_eq_true, bne_iff_ne, decide_eq_true_iff, not_and_or, not_ne_iff, Int.not_le]
  rfl

/-- LBT_LISTEN_END of an operation that does not hop. -/
theorem execLbtListenEnd_eq {o : OpId} {op : Op} {levels : List Int} (hop : s.op? o = some op) (hact : op.active = true)
    (hhop : op.hop = false) (hwait : op.lbtWait = true) (hend : op.ending = none) (hlo : (s.lo op.lo).at op.freq = true) :
    exec (.lbtListenEnd o levels) s = .next (
      if s.lbtBusy op levels = false then s.modOp o fun x => { x with lbtWait := false }
      else if op.fix?.isSome then (s.modOp o fun x => { x with lbtWait := false }).fixNext o
      else s.endOp o 0x0E) := by
  show execLbtListenEnd o levels s = _
  simp [execLbtListenEnd, hop, hact, hhop, hwait, hend, hlo]

/-! ### A beam taken to its channel (R79, R80, R118) -/

/-- `t` is `s` but for carriers removed or moved with their LO: no carrier comes up, and what decides whether a port
transmits is as it was. -/
structure State.BeamMoved (s t : State) : Prop where
  only : t = { s with uports := t.uports, los := t.los }
  beam : ∀ q, (t.up q).beam = (s.up q).beam
  ctrl : ∀ q, (t.up q).ctrl = (s.up q).ctrl
  silent : ∀ q, (s.up q).carrier = none → (t.up q).carrier = none

theorem State.BeamMoved.refl (s : State) : s.BeamMoved s := ⟨rfl, fun _ => rfl, fun _ => rfl, fun _ h => h⟩

theorem State.BeamMoved.trans (h : s.BeamMoved t) (h' : t.BeamMoved u) : s.BeamMoved u :=
  ⟨h'.only.trans (congrArg (fun v : State => { v with uports := u.uports, los := u.los }) h.only),
    fun q => (h'.beam q).trans (h.beam q), fun q => (h'.ctrl q).trans (h.ctrl q), fun q hq => h'.silent q (h.silent q hq)⟩

theorem State.BeamMoved.ite {c : Prop} [Decidable c] (ht : s.BeamMoved t) (hu : s.BeamMoved u) :
    s.BeamMoved (if c then t else u) := by
  split
  · exact ht
  · exact hu

theorem State.BeamMoved.foldl {α : Type} {f : State → α → State} (hf : ∀ (v : State) (a : α), v.BeamMoved (f v a))
    (l : List α) (h : s.BeamMoved t) : s.BeamMoved (l.foldl f t) := by
  induction l generalizing t with
  | nil => exact h
  | cons a l ih => exact ih (h.trans (hf t a))

theorem State.BeamMoved.modLo (h : s.BeamMoved t) (n : LoNo) (f : Lo → Lo) : s.BeamMoved (t.modLo n f) :=
  h.trans ⟨rfl, fun _ => rfl, fun _ => rfl, fun _ hq => hq⟩

/-- A port changed in nothing that decides whether it transmits, and given no carrier. -/
theorem State.modUp_moved (s : State) (p : UPortNo) {f : UPort → UPort} (hbeam : ∀ x, (f x).beam = x.beam)
    (hctrl : ∀ x, (f x).ctrl = x.ctrl) (hsilent : ∀ x, x.carrier = none → (f x).carrier = none) :
    s.BeamMoved (s.modUp p f) := by
  refine ⟨rfl, fun q => ?_, fun q => ?_, fun q hq => ?_⟩
  all_goals by_cases hqp : q = p
  · rw [hqp, State.up_modUp_same, hbeam]
  · rw [State.up_modUp_other s f hqp]
  · rw [hqp, State.up_modUp_same, hctrl]
  · rw [State.up_modUp_other s f hqp]
  · rw [hqp, State.up_modUp_same, hsilent _ (hqp ▸ hq)]
  · rw [State.up_modUp_other s f hqp, hq]

theorem State.carrierOff_moved (s : State) (p : UPortNo) : s.BeamMoved (s.carrierOff p) :=
  s.modUp_moved p (fun _ => rfl) (fun _ => rfl) fun _ _ => rfl

theorem State.rampDown_moved (s : State) (p : UPortNo) : s.BeamMoved (s.rampDown p) :=
  s.modUp_moved p (fun _ => rfl) (fun _ => rfl) fun _ _ => rfl

theorem State.BeamMoved.ops (h : s.BeamMoved t) : t.ops = s.ops := by rw [h.only]

theorem State.BeamMoved.threads (h : s.BeamMoved t) : t.threads = s.threads := by rw [h.only]

theorem State.BeamMoved.airFrame (h : s.BeamMoved t) : s.airFrame t := by
  rw [h.only]
  rfl

theorem State.BeamMoved.txPorts (h : s.BeamMoved t) (op : Op) : t.txPorts op = s.txPorts op := by
  have htx (p : UPortNo) : (t.up p).transmits = (s.up p).transmits := by
    unfold UPort.transmits
    rw [h.beam, h.ctrl]
  unfold State.txPorts
  simp only [htx]

theorem State.dropHoldovers_moved (s : State) (n : LoNo) (f : Nat) : s.BeamMoved (s.dropHoldovers n f) := by
  refine .foldl (fun v p => ?_) _ (.refl s)
  split
  · exact .ite (v.carrierOff_moved p) (.refl v)
  · exact .refl v

theorem State.moveCarriers_moved (s : State) (n : LoNo) (f : Nat) : s.BeamMoved (s.moveCarriers n f) := by
  refine .foldl (fun v p => v.modUp_moved p ?_ ?_ ?_) _ (.refl s)
  · exact fun _ => rfl
  · exact fun _ => rfl
  · exact fun x hx => by rw [hx]; rfl

theorem State.loRelock_moved (s : State) (n : LoNo) : s.BeamMoved (s.loRelock n) := by
  unfold State.loRelock
  dsimp only
  split
  · exact ((State.BeamMoved.refl s).modLo n _).modLo n _
  · exact ((State.BeamMoved.refl s).modLo n _).modLo n _

/-- An LO that is set to a frequency moves or ends carriers, and starts none. -/
theorem State.loGoto_moved (s : State) (n : LoNo) (f : Nat) : s.BeamMoved (s.loGoto n f) := by
  have hdrop := s.dropHoldovers_moved n f
  have hslew : s.BeamMoved ((s.dropHoldovers n f).loSlew n f) :=
    ((hdrop.modLo n _).modLo n _).trans (State.moveCarriers_moved _ n f)
  have hrelock : s.BeamMoved (((s.dropHoldovers n f).modLo n fun l => { l with freq := f, m := loWord f }).loRelock n) :=
    (hdrop.modLo n _).trans (State.loRelock_moved _ n)
  exact .ite ((State.BeamMoved.refl s).modLo n _) (.ite hdrop (.ite hslew hrelock))

/-- One port of a beam that is taken to a channel: a carrier already there stays, any other ramps down (R79, R80). -/
def State.beamPort (s : State) (op : Op) (f : Nat) (p : UPortNo) : State :=
  if decide (p ∈ s.txPorts op) && (s.up p).carrier == some (op.lo, f)
  then s.modUp p fun x => { x with holdover := none }
  else if p ∈ s.txPorts op then s.rampDown p else s.carrierOff p

theorem State.beamPort_moved (s : State) (op : Op) (f : Nat) (p : UPortNo) : s.BeamMoved (s.beamPort op f p) :=
  .ite (s.modUp_moved p (fun _ => rfl) (fun _ => rfl) fun _ h => h) (.ite (s.rampDown_moved p) (s.carrierOff_moved p))

theorem State.beamPort_other (s : State) (op : Op) (f : Nat) {p q : UPortNo} (h : q ≠ p) :
    (s.beamPort op f p).up q = s.up q := by
  unfold State.beamPort
  split
  · exact State.up_modUp_other s _ h
  · split
    · exact State.up_modUp_other s _ h
    · exact State.up_modUp_other s _ h

theorem State.beamPort_away (op : Op) {f : Nat} {p : UPortNo} (h : (s.up p).carrier ≠ some (op.lo, f)) :
    ((s.beamPort op f p).up p).carrier = none := by
  have hno : ¬ (decide (p ∈ s.txPorts op) && (s.up p).carrier == some (op.lo, f)) = true := by simp [h]
  unfold State.beamPort
  rw [if_neg hno]
  split
  · rw [State.rampDown, State.up_modUp_same]
    rfl
  · rw [State.carrierOff, State.up_modUp_same]
    rfl

theorem State.carried_eq_false {op : Op} {f : Nat} :
    s.carried op f = false ↔ ∃ p ∈ s.txPorts op, (s.up p).carrier ≠ some (op.lo, f) := by
  simp [State.carried]

/-- A beam that was not on its channel is not there once its ports have been taken there (R79). -/
theorem State.beamPorts_moved (s : State) (op : Op) (f : Nat) : s.BeamMoved (op.uports.foldl (fun t p => t.beamPort op f p) s) ∧
    (s.carried op f = false → (op.uports.foldl (fun t p => t.beamPort op f p) s).carried op f = false) := by
  obtain ⟨hall, -, hin⟩ := foldl_visits (R := s.BeamMoved) (view := State.up) (f := fun t p => t.beamPort op f p)
    (fun u hu q => ⟨hu.trans (u.beamPort_moved op f q), fun r hr => u.beamPort_other op f hr⟩)
    op.uports s op.nodup_uports (.refl s)
  refine ⟨hall, fun hc => ?_⟩
  obtain ⟨p, hp, hcar⟩ := State.carried_eq_false.mp hc
  obtain ⟨u, hu, hview, hres⟩ := hin p (State.mem_txPorts hp).1
  have hoff := State.beamPort_away (s := u) op (f := f) (p := p) (by rw [hview]; exact hcar)
  refine State.carried_eq_false.mpr ⟨p, by rw [hall.txPorts]; exact hp, ?_⟩
  rw [hres, hoff]
  exact fun h => Option.some_ne_none _ h.symm

/-- A beam not on its channel is taken there: its carriers are down, and it is not settled (R79, R80, R118). -/
theorem State.startBeam_spec {o : OpId} {op : Op} (hop : s.op? o = some op) (hc : s.carried op (s.opFreq op) = false) :
    ∃ (m : State) (w : Bool), s.BeamMoved m ∧
      s.startBeam o = m.modOp o fun x => { x with freq := s.opFreq op, settled := false, lbtWait := w } := by
  obtain ⟨hports, hdown⟩ := s.beamPorts_moved op (s.opFreq op)
  let p := op.uports.foldl (fun t p => t.beamPort op (s.opFreq op) p) s
  let up := p.carried op (s.opFreq op) && (p.lo op.lo).at (s.opFreq op)
  have hup : up = false := by rw [show up = (_ && _) from rfl, hdown hc, Bool.false_and]
  refine ⟨p.loGoto op.lo (s.opFreq op), (p.loGoto op.lo (s.opFreq op)).lbt && !up, hports.trans (State.loGoto_moved _ _ _), ?_⟩
  have hstart : s.startBeam o = (p.loGoto op.lo (s.opFreq op)).modOp o fun x =>
      { x with freq := s.opFreq op, settled := up, lbtWait := (p.loGoto op.lo (s.opFreq op)).lbt && !up } := by
    unfold State.startBeam
    rw [hop]
    rfl
  rw [hstart, hup]

/-- An operation whose beam is not settled does not go on. -/
theorem State.beamGo_unsettled {o : OpId} {op : Op} (hop : s.op? o = some op) (h : op.settled = false) : s.beamGo o = s := by
  unfold State.beamGo
  rw [hop]
  exact if_neg (by rw [h, Bool.false_and]; exact Bool.false_ne_true)

/-- The carriers of a beam ramped down (R118). -/
theorem State.beamOff_moved (s : State) (op : Op) : s.BeamMoved (s.beamOff op) ∧
    ∀ q ∈ op.uports, ((s.beamOff op).up q).carrier = none := by
  obtain ⟨hall, -, hin⟩ := foldl_visits (R := s.BeamMoved) (view := State.up) (f := fun t p => t.carrierOff p)
    (fun u hu q => ⟨hu.trans (u.carrierOff_moved q), fun r hr => u.up_modUp_other _ hr⟩)
    op.uports s op.nodup_uports (.refl s)
  refine ⟨hall, fun q hq => ?_⟩
  obtain ⟨u, -, -, hres⟩ := hin q hq
  rw [State.beamOff, hres, State.carrierOff, State.up_modUp_same]
  rfl

/-- BEAMW latched on every port of a beam (R78). -/
theorem State.latchBeams_only (s : State) (op : Op) :
    let t := op.uports.foldl (fun t p => t.latchBeam p) s
    t = { s with uports := t.uports } ∧ ∀ q ∈ op.uports, t.up q = { s.up q with beam := s.reg (UP_BEAMW q) } := by
  obtain ⟨hall, -, hin⟩ := foldl_visits (R := fun t => t = { s with uports := t.uports }) (view := State.up)
    (f := fun t p => t.latchBeam p)
    (fun u hu q => ⟨congrArg (fun v : State => { v with uports := (u.latchBeam q).uports }) hu,
      fun r hr => u.up_modUp_other _ hr⟩)
    op.uports s op.nodup_uports rfl
  refine ⟨hall, fun q hq => ?_⟩
  obtain ⟨u, hu, hview, hres⟩ := hin q hq
  have hreg : u.reg (UP_BEAMW q) = s.reg (UP_BEAMW q) := by rw [hu]; rfl
  rw [hres, State.latchBeam, State.up_modUp_same, hview, hreg]

/-- A hop of a round: its carriers down, BEAMW latched (R78, R118). -/
def State.hopPorts (s : State) (op : Op) : State := op.uports.foldl (fun t p => t.latchBeam p) (s.beamOff op)

theorem State.hopPorts_only (s : State) (op : Op) :
    s.hopPorts op = { s with uports := (s.hopPorts op).uports, los := (s.hopPorts op).los } ∧
    ∀ q ∈ op.uports, ((s.hopPorts op).up q).carrier = none ∧ ((s.hopPorts op).up q).beam = s.reg (UP_BEAMW q) ∧
      ((s.hopPorts op).up q).ctrl = (s.up q).ctrl := by
  obtain ⟨hoff, hnone⟩ := s.beamOff_moved op
  obtain ⟨hlatch, hup⟩ := (s.beamOff op).latchBeams_only op
  have hlos : (s.hopPorts op).los = (s.beamOff op).los := by rw [State.hopPorts, hlatch]
  refine ⟨?_, fun q hq => ?_⟩
  · rw [hlos]
    exact hlatch.trans (congrArg (fun v : State => { v with uports := (s.hopPorts op).uports }) hoff.only)
  · rw [State.hopPorts, hup q hq]
    exact ⟨hnone q hq, by rw [hoff.only]; rfl, hoff.ctrl q⟩

/-- An operation whose beam is not on its channel goes there and waits: no carrier comes up (R79, R80, R118). -/
theorem State.startBeam_waits {o : OpId} {op : Op} (hop : s.op? o = some op) (hc : s.carried op (s.opFreq op) = false) :
    s.airFrame ((s.startBeam o).beamGo o) ∧ ((s.startBeam o).beamGo o).threads = s.threads ∧
    (∃ w, ((s.startBeam o).beamGo o).op? o =
      some { op with freq := s.opFreq op, settled := false, lbtWait := w }) ∧
    ∀ q, (((s.startBeam o).beamGo o).up q).beam = (s.up q).beam ∧
      ((s.up q).carrier = none → (((s.startBeam o).beamGo o).up q).carrier = none) := by
  obtain ⟨m, w, hmoved, hstart⟩ := State.startBeam_spec hop hc
  have hopm : m.op? o = some op := by rw [State.op?, hmoved.ops]; exact hop
  have hopt : (s.startBeam o).op? o = some { op with freq := s.opFreq op, settled := false, lbtWait := w } := by
    rw [hstart]
    exact State.op?_modOp hopm fun _ => rfl
  rw [State.beamGo_unsettled hopt rfl]
  refine ⟨?_, ?_, ⟨w, hopt⟩, fun q => ?_⟩
  all_goals rw [hstart]
  · exact hmoved.airFrame.trans rfl
  · exact hmoved.threads
  · exact ⟨hmoved.beam q, hmoved.silent q⟩

/-- A U.ROUND that hops, from ports of which one will transmit (R78, R118). -/
theorem State.roundHop_waits {op : Op} (r : RoundSt) (hop : s.op? op.id = some op) (hcls : op.cls ≠ 3)
    (htx : ∃ q ∈ op.uports, 0 < bits (s.reg (UP_BEAMW q)) 0 8 ∧ bit (s.up q).ctrl 1 = false) :
    let t := (s.roundHop op r).beamGo op.id
    s.airFrame t ∧ t.threads = s.threads ∧
    (∃ w, t.op? op.id = some { op with
      eng := .round { r with st := .start }, freq := s.opFreq op, settled := false, lbtWait := w }) ∧
    ∀ q ∈ op.uports, (t.up q).carrier = none ∧ (t.up q).beam = s.reg (UP_BEAMW q) := by
  obtain ⟨honly, hports⟩ := s.hopPorts_only op
  let v := (s.hopPorts op).setEng op.id (.round { r with st := .start })
  let op' : Op := { op with eng := .round { r with st := .start } }
  have hv : v = { s with uports := (s.hopPorts op).uports, los := (s.hopPorts op).los, ops := v.ops } :=
    congrArg (fun w : State => { w with ops := v.ops }) honly
  have hopv : v.op? op.id = some op' :=
    State.op?_modOp (s := s.hopPorts op) (by rw [honly]; exact hop) fun _ => rfl
  have hfreq : v.opFreq op' = s.opFreq op := by rw [hv]; rfl
  have hcarried : v.carried op' (v.opFreq op') = false := by
    obtain ⟨q, hq, hamp, hrx⟩ := htx
    obtain ⟨hnone, hbeam, hctrl⟩ := hports q hq
    have hsends : (v.up q).transmits = true := by
      show (decide (0 < bits ((s.hopPorts op).up q).beam 0 8) && !bit ((s.hopPorts op).up q).ctrl 1) = true
      rw [hbeam, hctrl, hrx, decide_eq_true hamp]
      rfl
    refine State.carried_eq_false.mpr ⟨q, ?_, ?_⟩
    · rw [State.txPorts, if_neg (show op'.cls ≠ 3 from hcls)]
      exact List.mem_filter.mpr ⟨hq, hsends⟩
    · exact fun h => Option.some_ne_none _ (h.symm.trans hnone)
  obtain ⟨hframe, hthreads, hmove, hquiet⟩ := State.startBeam_waits hopv hcarried
  rw [hfreq] at hmove
  have hvframe : s.airFrame v := by rw [hv]; rfl
  have hvthreads : v.threads = s.threads := by rw [hv]
  refine ⟨hvframe.trans hframe, hthreads.trans hvthreads, hmove, fun q hq => ?_⟩
  obtain ⟨hnone, hbeam, -⟩ := hports q hq
  obtain ⟨hkept, hsilent⟩ := hquiet q
  exact ⟨hsilent hnone, hkept.trans hbeam⟩

/-! ### A dwell that ends (R117, R118, R187) -/

/-- An operation in the dwell after its own: at the next position of the hop sequence. -/
def Op.nextDwell (len close : Nat) (x : Op) : Op :=
  { x with pos := (x.pos + 1) % max 1 len, moved := 0, dwellEnd := some close, settled := x.settled && x.round?.isNone }

/-- The state at a dwell boundary, the operation in its next dwell. -/
def State.inNextDwell (s : State) (o : OpId) (dt : Nat) : State :=
  (s.advance dt).modOp o fun x => { x with
    pos := (x.pos + 1) % max 1 s.hopLen, moved := 0, dwellEnd := some (s.advance dt).nextBoundary
    settled := x.settled && x.round?.isNone }

theorem State.op?_inNextDwell {o : OpId} {op : Op} (hop : s.op? o = some op) (dt : Nat) :
    (s.inNextDwell o dt).op? o = some (op.nextDwell s.hopLen (s.advance dt).nextBoundary) :=
  State.op?_modOp ((State.advance_op_acc s dt o).trans hop) fun _ => rfl

theorem State.inNextDwell_airFrame (s : State) (o : OpId) (dt : Nat) : s.airFrame (s.inNextDwell o dt) :=
  (s.advance_airFrame dt).trans rfl

theorem State.regionTest_skipped {o : OpId} {op : Op} (hop : s.op? o = some op) (h : op.retest = false) (atHop : Bool) :
    s.regionTest o atHop = (true, s) := by
  simp [State.regionTest, hop, h]

/-- DWELL_BOUNDARY of a U.ROUND on the air whose dwell is over: it hops, or hops once its item is written. -/
theorem execDwellBoundary_round {o : OpId} {op : Op} {dt d : Nat} {r : RoundSt} (hop : s.op? o = some op)
    (hact : op.active = true) (hend : op.ending = none) (hhop : op.hop = true) (htest : op.retest = false)
    (heng : op.eng = .round r) (hst : r.st ≠ .metered) (hd : op.dwellEnd = some d) (hle : d ≤ (s.advance dt).ticks) :
    exec (.dwellBoundary o dt) s = .next (
      if !op.held.isEmpty then (s.inNextDwell o dt).modOp o fun x => { x with hopDue := true }
      else ((s.inNextDwell o dt).roundHop (op.nextDwell s.hopLen (s.advance dt).nextBoundary) r).beamGo o) := by
  have hlen : (s.advance dt).hopLen = s.hopLen := by simp only [State.hopLen, State.regionW, State.advance_profile]
  have hopv := State.op?_inNextDwell hop dt
  have htestv := State.regionTest_skipped hopv htest true
  unfold State.inNextDwell at hopv htestv
  have hover : (op.active && op.ending.isNone && op.hop && decide (d ≤ (s.advance dt).ticks)) = true := by
    rw [hact, hend, hhop, decide_eq_true hle]
    rfl
  show execDwellBoundary o dt s = _
  unfold execDwellBoundary
  rw [hop]
  dsimp only
  rw [hd]
  dsimp only
  rw [if_pos hover, hlen, htestv]
  dsimp only
  rw [hopv]
  dsimp only
  rw [if_neg (by decide), show (op.nextDwell s.hopLen (s.advance dt).nextBoundary).eng = .round r from heng]
  dsimp only
  rw [if_neg hst]
  rfl

/-- METER_RESUME of a U.ROUND paused by its meter, which is no longer red (R103, R120). -/
theorem execMeterResume_round {o : OpId} {op : Op} {r : RoundSt} (hop : s.running o = some op) (heng : op.eng = .round r)
    (hst : r.st = .metered) (hred : s.colour o.thread ≠ 2) :
    exec (.meterResume o) s = .next (((s.setEng o (.round { r with st := .start })).startBeam o).beamGo o) := by
  have hmet : op.metered = true := by simp [Op.metered, heng, hst]
  show execMeterResume o s = _
  simp [execMeterResume, hop, hmet, hred, heng]

/-- An operation that runs stands in its ticket. -/
theorem State.op?_of_running {o : OpId} {op : Op} (h : s.running o = some op) : s.op? o = some op := by
  unfold State.running at h
  split at h
  next x hx =>
    split at h
    · rw [hx, h]
    · cases h
  · cases h

/-- An operation that hops is a U.ROUND or another of class 0. -/
theorem Op.cls_of_hop {op : Op} (h : op.hop = true) : op.cls = 0 := by
  unfold Op.hop at h
  exact beq_iff_eq.mp (Bool.and_eq_true_iff.mp h).1

/-- A hopping operation is on the channel of its position (R118). -/
theorem State.opFreq_hop {op : Op} (h : op.hop = true) :
    s.opFreq op = s.chanFreq (s.hopAt ((op.pos + op.moved) % max 1 s.hopLen)) := by
  have hcls := Op.cls_of_hop h
  simp [State.opFreq, State.opChan, Op.isListen, Op.isSend, hcls, h]

section
variable {o : OpId} {op : Op} {dt d : Nat} {r : RoundSt} (hop : s.op? o = some op) (hact : op.active = true)
  (hend : op.ending = none) (hhop : op.hop = true) (htest : op.retest = false) (heng : op.eng = .round r)
  (hst : r.st ≠ .metered) (hd : op.dwellEnd = some d) (hle : d ≤ (s.advance dt).ticks)
include hop hact hend hhop htest heng hst hd hle

/-- With an item held a round keeps its carrier at a dwell boundary, and hops later (R187). -/
theorem dwellBoundary_held (hheld : op.held ≠ []) :
    ∃ (t : State) (x : Op), exec (.dwellBoundary o dt) s = .next t ∧ s.airFrame t ∧ t.threads = s.threads ∧
      t.uports = s.uports ∧ t.op? o = some x ∧ x.pos = (op.pos + 1) % max 1 s.hopLen ∧ x.hopDue = true ∧ x.eng = op.eng := by
  have hexec := execDwellBoundary_round hop hact hend hhop htest heng hst hd hle
  rw [if_pos (by simp [hheld])] at hexec
  have hopt := State.op?_modOp (State.op?_inNextDwell hop dt) (f := fun x => { x with hopDue := true }) fun _ => rfl
  exact ⟨_, _, hexec, (s.inNextDwell_airFrame o dt).trans rfl, State.advance_threads s dt, State.advance_uports s dt, hopt, rfl,
    rfl, rfl⟩

/-- With none held it goes to the channel of the next position, its carriers down and BEAMW latched (R118). -/
theorem dwellBoundary_hops (hheld : op.held = [])
    (htx : ∃ q ∈ op.uports, 0 < bits (s.reg (UP_BEAMW q)) 0 8 ∧ bit (s.up q).ctrl 1 = false) :
    ∃ (t : State) (x : Op), exec (.dwellBoundary o dt) s = .next t ∧ s.airFrame t ∧ t.threads = s.threads ∧
      t.op? o = some x ∧ x.pos = (op.pos + 1) % max 1 s.hopLen ∧ x.moved = 0 ∧ x.eng = .round { r with st := .start } ∧
      x.freq = s.chanFreq (s.hopAt ((op.pos + 1) % max 1 s.hopLen % max 1 s.hopLen)) ∧
      x.dwellEnd = some (s.advance dt).nextBoundary ∧
      ∀ q ∈ op.uports, (t.up q).carrier = none ∧ (t.up q).beam = s.reg (UP_BEAMW q) := by
  obtain rfl := State.op?_id hop
  have hexec := execDwellBoundary_round hop hact hend hhop htest heng hst hd hle
  rw [if_neg (by simp [hheld])] at hexec
  let v := s.inNextDwell op.id dt
  let op' := op.nextDwell s.hopLen (s.advance dt).nextBoundary
  have hopv : v.op? op.id = some op' := State.op?_inNextDwell hop dt
  have hreg (q : UPortNo) : v.reg (UP_BEAMW q) = s.reg (UP_BEAMW q) := State.advance_reg_acc s dt _
  have hup (q : UPortNo) : v.up q = s.up q := State.advance_up_acc s dt q
  have hprof : v.profile = s.profile := State.advance_profile s dt
  have hchan (c : Nat) : v.chanFreq c = s.chanFreq c := by unfold State.chanFreq State.regionW; rw [hprof]
  have hat (i : Nat) : v.hopAt i = s.hopAt i := by unfold State.hopAt State.regionW; rw [hprof]
  have hlen : v.hopLen = s.hopLen := by unfold State.hopLen State.regionW; rw [hprof]
  have htx' : ∃ q ∈ op'.uports, 0 < bits (v.reg (UP_BEAMW q)) 0 8 ∧ bit (v.up q).ctrl 1 = false := by
    simp only [hreg, hup]
    exact htx
  have hcls : op'.cls ≠ 3 := by
    rw [show op'.cls = 0 from Op.cls_of_hop hhop]
    decide
  obtain ⟨hframe, hthreads, ⟨w, hopt⟩, hports⟩ := State.roundHop_waits r hopv hcls htx'
  refine ⟨_, _, hexec, (s.inNextDwell_airFrame _ dt).trans hframe, hthreads.trans (State.advance_threads s dt), hopt,
    rfl, rfl, rfl, ?_, rfl, fun q hq => ?_⟩
  · show v.opFreq op' = _
    rw [State.opFreq_hop (op := op') hhop, hchan, hat, hlen]
    rfl
  · rw [← hreg q]
    exact hports q hq

end

/-- A round paused by its meter takes its channel again once the meter is not red (R103, R120). -/
theorem meterResume_starts {o : OpId} {op : Op} {r : RoundSt} (hop : s.running o = some op) (heng : op.eng = .round r)
    (hst : r.st = .metered) (hred : s.colour o.thread ≠ 2) (hc : s.carried op (s.opFreq op) = false) :
    ∃ (t : State) (x : Op), exec (.meterResume o) s = .next t ∧ s.airFrame t ∧ t.threads = s.threads ∧
      t.op? o = some x ∧ x.eng = .round { r with st := .start } ∧ x.freq = s.opFreq op ∧ x.words = op.words := by
  have hopv : (s.setEng o (.round { r with st := .start })).op? o = some { op with eng := .round { r with st := .start } } :=
    State.op?_modOp (State.op?_of_running hop) fun _ => rfl
  obtain ⟨hframe, hthreads, ⟨w, hopt⟩, -⟩ := State.startBeam_waits hopv hc
  exact ⟨_, _, execMeterResume_round hop heng hst hred, State.airFrame.trans (t := s.setEng o _) rfl hframe, hthreads, hopt,
    rfl, rfl, rfl⟩

/-- A carrier that has settled is on every port that transmits for its operation, and on no other (R79). -/
theorem carrierSettled_lights {o : OpId} {op : Op} {dt : Nat} (hop : s.op? o = some op) (h : s.listenless)
    (hexec : exec (.carrierSettled o dt) s = .next ((s.advance dt).beamSettled o)) :
    ∃ (t : State) (x : Op), exec (.carrierSettled o dt) s = .next t ∧ s.airFrame t ∧ t.threads = s.threads ∧
      t.op? o = some x ∧ x = { op with settled := true, dwellEnd := x.dwellEnd } ∧
      (∀ p ∈ s.txPorts op, (t.up p).carrier = some (op.lo, op.freq) ∧ (t.up p).holdover = none ∧
        (s.power.level = 0 → (s.up p).capped = false → (s.up p).spare = false →
          (t.up p).level = ((s.up p).driver (s.txpwr op)).1 ∧
          (t.up p).pa = ((s.up p).paMode && bit (s.reg (UP_CTRL p)) 0 && !(s.up p).faulted))) ∧
      ∀ p, p ∉ s.txPorts op → t.up p = s.up p := by
  have hopa : (s.advance dt).op? o = some op := (State.advance_op_acc s dt o).trans hop
  have hlist : (s.advance dt).listenless := by
    unfold State.listenless
    rw [State.advance_ops]
    exact h
  let at_ := (s.advance dt).ticks - (s.advance dt).settleTicks op
  obtain ⟨hlit, hon, hoff⟩ := State.beamLit_carriers hlist op op.freq at_
  have hports : (s.advance dt).txPorts op = s.txPorts op := by
    unfold State.txPorts
    simp only [State.advance_up_acc]
  have hport (p : UPortNo) : (s.advance dt).litPort op op.freq at_ p = s.litPort op op.freq at_ p := by
    unfold State.litPort State.litAs State.txpwr
    simp only [State.advance_up_acc, State.advance_fld_acc, State.advance_reg_acc, State.advance_power]
  rw [hports] at hon hoff
  have hopm : ((s.advance dt).beamLit op op.freq at_).op? o = some op := by rw [State.op?, hlit.ops]; exact hopa
  rw [State.beamSettled_eq hopa] at hexec
  refine ⟨_, _, hexec, (s.advance_airFrame dt).trans (hlit.airFrame.trans rfl), hlit.threads.trans (State.advance_threads s dt),
    State.op?_modOp hopm fun _ => rfl, rfl, fun p hp => ?_, fun p hp => (hoff p hp).trans (State.advance_up_acc s dt p)⟩
  have hup := (hon p hp).trans (hport p)
  refine ⟨congrArg UPort.carrier hup, congrArg UPort.holdover hup, fun hpow hcap hspare => ?_⟩
  obtain ⟨hlevel, hpa⟩ := State.litPort_full (op := op) (freq := op.freq) (at_ := at_) hpow hcap hspare
  exact ⟨(congrArg UPort.level hup).trans hlevel, (congrArg UPort.pa hup).trans hpa⟩

end Sys2Proof.Machine

open Sys2Proof Sys2Proof.Machine

/-- Settles O19: each event of the beam by the lemma that says what it leaves. -/
theorem beamEventsMoveOperationsOn : Obligations.BeamEventsMoveOperationsOn := by
  unfold Obligations.BeamEventsMoveOperationsOn
  refine ⟨?_, ?_, ?_, ?_, ?_⟩
  · intro s o op dt hop hact hbeam hholds hend hset hwait hstart hmet hlo hlisten
    exact carrierSettled_lights hop hlisten
      (execCarrierSettled_eq hop hact hbeam hholds hend hset hwait hstart hmet hlo)
  · intro s o op levels _ hop hact hcls hhop hwait hplain hlo hd free
    obtain ⟨-, -, hend⟩ := id hplain
    have hexec := execLbtListenEnd_eq (levels := levels) hop hact hhop hwait hend hlo
    refine ⟨fun hfree => ?_, fun hbusy hfix => ?_⟩
    · rw [hexec, if_pos (State.lbtBusy_eq_false.mpr hfree)]
    · have hsend : op.isSend = false := by rw [Op.isSend, hcls]; rfl
      rw [if_neg fun h => hbusy (State.lbtBusy_eq_false.mp h), hfix, if_neg (by decide), State.endOp_plain hop hplain] at hexec
      exact ⟨_, hexec, State.finishOp_done (State.op?_id hop) hsend hd (by decide)⟩
  · intro s o op dt d r hop hact hend hhop htest heng hst hd hle p
    exact ⟨dwellBoundary_held hop hact hend hhop htest heng hst hd hle,
      dwellBoundary_hops hop hact hend hhop htest heng hst hd hle⟩
  · exact fun s o op r hop heng hst hred hc => meterResume_starts hop heng hst hred hc
  · intro s p hover
    exact congrArg Host.Outcome.next (if_pos (Option.isSome_iff_ne_none.mpr hover))

end

section
/-! PROOF. A command that an operation sends, and an operation that ends with nothing held (R66, R96). -/

open Sys2Proof Sys2Proof.Machine

namespace Sys2Proof.Machine

variable {s t u : State} {o : OpId} {op x : Op} {c : AirCmd} {e : Expect} {start : Nat}

/-! ### A command sent -/

/-- The operation that has sent a command: its end and its reply window are noted (R96, R101). -/
def State.sending (s : State) (c : AirCmd) (e : Expect) (start : Nat) (x : Op) : Op :=
  { x with
    cmd := c
    cmdEnd := start + cmdTicks x.link c
    cmdTb := s.tb + BitVec.ofNat 64 (start + cmdTicks x.link c - s.ticks)
    latched := none, reply := false
    winFrom := if e = .none then none else some (start + cmdTicks x.link c + e.open_ x.link)
    winTo := start + cmdTicks x.link c + e.close x.link }

theorem State.op?_sendCmd (h : s.op? o = some x) (c : AirCmd) (e : Expect) (start : Nat) :
    (s.sendCmd o c e start).op? o = some (s.sending c e start x) :=
  State.op?_modOp (f := s.sending c e start) h fun _ => rfl

theorem State.op?_setEng (h : s.op? o = some x) (g : Engine) : (s.setEng o g).op? o = some { x with eng := g } :=
  State.op?_modOp h fun _ => rfl

/-- `x` is `op` begun, in what its commands and its completion word are made of. -/
structure Op.Begun (x op : Op) : Prop where
  active : x.active = op.active
  started : x.started = true
  ending : x.ending = op.ending
  desc : x.desc = op.desc
  words : x.words = op.words
  link : x.link = op.link

/-- A command that draws a reply is sent with its window. -/
theorem State.sendCmd_sent (h : s.op? o = some x) (hx : x.Begun op) (c : AirCmd) (he : e ≠ .none) (start : Nat) :
    (s.sendCmd o c e start).sent o op c start (some (e.open_ op.link)) (some (e.close op.link)) x.eng := by
  refine ⟨_, State.op?_sendCmd h c e start, hx.active, hx.started, hx.ending, hx.desc, hx.words, rfl,
    congrArg (fun l => start + cmdTicks l c) hx.link, rfl, ?_, ?_, rfl⟩
  · rw [← hx.link]
    exact if_neg he
  · rintro _ ⟨⟩
    rw [← hx.link]
    rfl

/-- What an operation does next is no part of the command it has sent. -/
theorem State.sent.setEng {opens closes : Option Nat} {g : Engine} (h : t.sent o op c start opens closes g) (g' : Engine) :
    (t.setEng o g').sent o op c start opens closes g' := by
  obtain ⟨x, hx, hact, hstart, hend, hdesc, hwords, hcmd, hcmdEnd, hreply, hfrom, hto, -⟩ := h
  exact ⟨_, State.op?_setEng hx g', hact, hstart, hend, hdesc, hwords, hcmd, hcmdEnd, hreply, hfrom, hto, rfl⟩

/-! ### The end with nothing held -/

/-- An operation that holds nothing and owes no end item ends in one step. -/
theorem State.endOp_bare (hop : s.op? o = some x) (hheld : x.held = []) (hitem : (x.isRound && x.endItem) = false)
    (hend : x.ending = none) (status : Nat) : s.endOp o status = s.finishOp x status := by
  simp [State.endOp, hop, hend, hitem, hheld]

theorem State.onlySlot.of_threads (h : u.threads = s.threads) (hu : u.onlySlot t o) : s.onlySlot t o := by
  unfold State.onlySlot State.th at hu ⊢
  rwa [h] at hu

/-- An operation that ends so after changes of the air engine that leave the threads alone. -/
theorem State.endOp_done (hop : u.op? o = some x) (hheld : x.held = []) (hitem : (x.isRound && x.endItem) = false)
    (hend : x.ending = none) (hsend : x.isSend = false) (hframe : s.airFrame u) (hthreads : u.threads = s.threads)
    (hd : (s.slot o).discard = false) {status : Nat} (hs : status < 256) :
    (u.endOp o status).doneAs o x.words x.code status ∧ s.onlySlot (u.endOp o status) o ∧ s.airFrame (u.endOp o status) := by
  have hdu : (u.slot o).discard = false := by rw [State.slot, State.th, hthreads]; exact hd
  obtain ⟨hdone, honly, hfin⟩ := State.finishOp_done (s := u) (State.op?_id hop) hsend hdu hs
  rw [State.endOp_bare hop hheld hitem hend]
  exact ⟨hdone, honly.of_threads hthreads, hframe.trans hfin⟩

end Sys2Proof.Machine
end

section
/-! PROOF. The items and the end of an operation leave time, the tag table and the Selects on the ports alone (R106, R110). -/

open Sys2Proof Sys2Proof.Machine

namespace Sys2Proof.Machine

/-- Time, the tag table with its NEXT, and the truncating Selects remembered are those of `s`. -/
structure State.SameRecords (s t : State) : Prop where
  ticks : t.ticks = s.ticks
  tags : t.tags = s.tags
  next : t.reg AIR_TAGTAB = s.reg AIR_TAGTAB
  selects : ∀ p, (t.up p).truncP = (s.up p).truncP

namespace State.SameRecords

variable {s t u : State} {o : OpId} {op : Op}

theorem refl (s : State) : s.SameRecords s := ⟨rfl, rfl, rfl, fun _ => rfl⟩

theorem trans (h : s.SameRecords t) (h' : t.SameRecords u) : s.SameRecords u :=
  ⟨h'.ticks.trans h.ticks, h'.tags.trans h.tags, h'.next.trans h.next, fun p => (h'.selects p).trans (h.selects p)⟩

theorem ite {c : Prop} [Decidable c] (ht : s.SameRecords t) (hu : s.SameRecords u) : s.SameRecords (if c then t else u) := by
  split
  · exact ht
  · exact hu

theorem foldl {α : Type} {f : State → α → State} (hf : ∀ (v : State) (a : α), v.SameRecords (f v a)) (l : List α)
    (h : s.SameRecords t) : s.SameRecords (l.foldl f t) := by
  induction l generalizing t with
  | nil => exact h
  | cons a l ih => exact ih (h.trans (hf t a))

/-! ### The state's own writes -/

/-- Any other register. -/
theorem setReg (h : s.SameRecords t) {a : Nat} (ha : AIR_TAGTAB ≠ a) (w : Word) : s.SameRecords (t.setReg a w) :=
  h.trans ⟨rfl, rfl, State.reg_setReg_other w ha, fun _ => rfl⟩

theorem setFlag (h : s.SameRecords t) {a : Nat} (ha : AIR_TAGTAB ≠ a) (i : Nat) : s.SameRecords (t.setFlag a i) :=
  h.setReg ha _

theorem countFld (h : s.SameRecords t) {a : Nat} (ha : AIR_TAGTAB ≠ a) (lo n k : Nat) : s.SameRecords (t.countFld a lo n k) :=
  h.setReg ha _

theorem modOp (h : s.SameRecords t) (o : OpId) (f : Op → Op) : s.SameRecords (t.modOp o f) :=
  h.trans ⟨rfl, rfl, rfl, fun _ => rfl⟩

theorem modHp (h : s.SameRecords t) (p : HPortNo) (f : HPort → HPort) : s.SameRecords (t.modHp p f) :=
  h.trans ⟨rfl, rfl, rfl, fun _ => rfl⟩

theorem modRing (h : s.SameRecords t) (n : RingNo) (f : Ring → Ring) : s.SameRecords (t.modRing n f) :=
  h.trans ⟨rfl, rfl, rfl, fun _ => rfl⟩

theorem setSlot (h : s.SameRecords t) (o : OpId) (k : Slot) : s.SameRecords (t.setSlot o k) :=
  h.trans ⟨rfl, rfl, rfl, fun _ => rfl⟩

/-- A port changed in anything but the Select it remembers. -/
theorem modUp (h : s.SameRecords t) (p : UPortNo) {f : UPort → UPort} (hf : ∀ x, (f x).truncP = x.truncP) :
    s.SameRecords (t.modUp p f) := by
  refine h.trans ⟨rfl, rfl, rfl, fun q => ?_⟩
  by_cases hq : q = p
  · rw [hq, State.up_modUp_same, hf]
  · rw [State.up_modUp_other t f hq]

theorem raiseRouted (h : s.SameRecords t) (w : Word) : s.SameRecords (t.raiseRouted w) :=
  h.trans ⟨State.raiseRouted_ticks t w, State.raiseRouted_tags t w, State.raiseRouted_reg_acc t w _,
    fun q => congrArg UPort.truncP (State.raiseRouted_up_acc t w q)⟩

/-! ### Rings (R184 to R193) -/

theorem dropWords (h : s.SameRecords t) (n : RingNo) (k : Nat) : s.SameRecords (t.dropWords n k) :=
  h.countFld (by unfold AIR_TAGTAB RG_DROP; omega) _ _ _

theorem malform (h : s.SameRecords t) (n : RingNo) : s.SameRecords (t.malform n) :=
  h.setFlag (by unfold AIR_TAGTAB RG_FLAGS; omega) _

theorem watermark (h : s.SameRecords t) (n : RingNo) (old new : Nat) : s.SameRecords (t.watermark n old new) := by
  unfold State.watermark
  refine .ite (.raiseRouted (.countFld (h.setFlag ?_ _) ?_ _ _ _) _) h
  · unfold AIR_TAGTAB RG_FLAGS; omega
  · unfold AIR_TAGTAB RG_CNT; omega

theorem appendWord (h : s.SameRecords t) (n : RingNo) (w : RWord) : s.SameRecords (t.appendWord n w) :=
  (h.modRing n _).watermark n _ _

theorem putFirst (h : s.SameRecords t) (n : RingNo) (p : Producer) (w : RWord) : s.SameRecords (t.putFirst n p w) := by
  unfold State.putFirst
  extract_lets s1 s2 _ s3 s4
  have h1 : s.SameRecords s1 := .ite (h.malform n) h
  have h2 : s.SameRecords s2 := h1.modRing n _
  have h3 : s.SameRecords s3 := .ite (h2.modRing n _) (h2.modRing n _)
  have h4 : s.SameRecords s4 := .ite (h3.malform n) h3
  exact h4.appendWord n w

theorem putNext (h : s.SameRecords t) (n : RingNo) (p : Producer) (i : OpenItem) (w : RWord) :
    s.SameRecords (t.putNext n p i w) := by
  unfold State.putNext
  extract_lets _ s1 s2
  have h1 : s.SameRecords s1 := .ite (h.modRing n _) (h.modRing n _)
  have h2 : s.SameRecords s2 := .ite (h1.malform n) h1
  exact h2.appendWord n w

theorem putOrphan (h : s.SameRecords t) (n : RingNo) (p : Producer) (i : OpenItem) (w : RWord) :
    s.SameRecords (t.putOrphan n p i w) :=
  .ite ((h.dropWords n 1).modRing n _) ((h.dropWords n 1).modRing n _)

theorem ringPut (h : s.SameRecords t) (n : RingNo) (p : Producer) (w : RWord) : s.SameRecords (t.ringPut n p w) := by
  have hrefused : s.SameRecords ((t.dropWords n 1).malform n) := (h.dropWords n 1).malform n
  unfold State.ringPut
  refine .ite (h.putFirst n p w) ?_
  split
  · exact h.putOrphan n p _ w
  · split
    · exact .ite (h.putNext n p _ w) hrefused
    · exact hrefused

/-! ### Items (R61, R187) -/

theorem drainItem (h : s.SameRecords t) (n : RingNo) (o : OpId) (ws : List RWord) : s.SameRecords (t.drainItem n o ws).1 := by
  induction ws generalizing t with
  | nil => exact h
  | cons w ws ih =>
    rw [State.drainItem]
    split
    · exact (h.dropWords n _).modOp o _
    · dsimp only
      split
      · exact h
      · exact ih ((h.ringPut n _ w).modOp o _)

theorem storeResult (h : s.SameRecords t) (d : Tid) (a : Nat) (ws : List RWord) : s.SameRecords (t.storeResult d a ws) :=
  h.trans (.ite ⟨rfl, rfl, rfl, fun _ => rfl⟩ ⟨rfl, rfl, rfl, fun _ => rfl⟩)

theorem emit (h : s.SameRecords t) (o : OpId) (type status : Nat) (body : List RWord) :
    s.SameRecords (t.emit o type status body) := by
  unfold State.emit
  split
  · exact h
  · refine .ite (.ite (h.modOp o _) ((h.storeResult _ _ _).modOp o _)) (.ite (h.dropWords _ _) ?_)
    split
    next v rest hput =>
      have hv : v = (if _ then _ else _ : State × List RWord).1 := congrArg Prod.fst hput.symm
      refine .modOp ?_ o _
      rw [hv]
      split
      · exact h.drainItem _ o _
      · exact h

/-! ### The end of an operation (R64, R66, R72) -/

theorem carrierOff (h : s.SameRecords t) (p : UPortNo) : s.SameRecords (t.carrierOff p) := h.modUp p fun _ => rfl

theorem releaseUp (h : s.SameRecords t) (o : OpId) (p : UPortNo) : s.SameRecords (t.releaseUp o p) :=
  .ite (h.modUp p fun _ => rfl) (h.carrierOff p)

theorem relevel (h : s.SameRecords t) (p : UPortNo) : s.SameRecords (t.relevel p) := by
  have hne : AIR_TAGTAB ≠ UP_FLAGS p := by
    unfold AIR_TAGTAB UP_FLAGS upBase
    have := p.isLt
    split <;> omega
  unfold State.relevel
  refine .ite h (.modUp (.ite (h.setFlag hne 1) h) p fun _ => rfl)

theorem releaseCarriers (h : s.SameRecords t) (op : Op) : s.SameRecords (t.releaseCarriers op) := by
  have hmute : s.SameRecords (t.muteBeam op) := .foldl (fun v p => (refl v).carrierOff p) _ h
  have hduty (v : State) : v.SameRecords (v.dutyFrame op) := by
    unfold State.dutyFrame
    split
    · exact ⟨rfl, rfl, rfl, fun _ => rfl⟩
    · exact .refl v
  exact .ite (.foldl (fun v p => (refl v).releaseUp op.id p) _ h) (.ite (hmute.trans (hduty _)) (.ite hmute h))

theorem releaseSpares (h : s.SameRecords t) (op : Op) : s.SameRecords (t.releaseSpares op) := by
  refine .ite (.foldl (fun v p => (refl v).modHp p _) _ (.foldl (fun v p => ?_) _ (h.trans ⟨rfl, rfl, rfl, fun _ => rfl⟩))) h
  exact (modUp (.refl v) p (f := fun x => { x with spare := false }) fun _ => rfl).relevel p

theorem release (h : s.SameRecords t) (op : Op) : s.SameRecords (t.release op) := by
  have hfields (v : State) : v.SameRecords (v.releaseFields op) :=
    .ite (.foldl (fun v p => (refl v).modHp p _) _ (.refl v)) (.refl v)
  have hdecoders (v : State) : v.SameRecords (v.releaseDecoders op) := .ite ⟨rfl, rfl, rfl, fun _ => rfl⟩ (.refl v)
  rw [State.release_eq]
  exact ((((h.releaseCarriers op).trans (hfields _)).releaseSpares op).trans (hdecoders _)).trans
    ⟨rfl, rfl, rfl, fun _ => rfl⟩

/-- The statuses of R38 have their counters below the tag table's register. -/
theorem finishOp (h : s.SameRecords t) (op : Op) {status : Nat} (hs : status < 16) : s.SameRecords (t.finishOp op status) := by
  have hout : s.SameRecords (t.takenOut op status) := by
    unfold State.takenOut
    extract_lets t1
    have h1 : s.SameRecords t1 := .ite h (h.release op)
    refine .countFld ?_ ?_ 0 32 1
    · exact h1.trans ⟨rfl, rfl, rfl, fun _ => rfl⟩
    · unfold AIR_TAGTAB AIR_STATCNT
      omega
  rw [State.finishOp_eq]
  exact .ite (hout.setSlot _ _) (hout.setSlot _ _)

theorem letGo (h : s.SameRecords t) (o : OpId) (status : Nat) : s.SameRecords (t.letGo o status) := by
  unfold State.letGo
  split
  · exact h
  · exact .ite ((h.release _).modOp o _) h

theorem endOp (h : s.SameRecords t) (o : OpId) {status : Nat} (hs : status < 16) : s.SameRecords (t.endOp o status) := by
  unfold State.endOp
  split
  · exact h
  · split
    · exact .ite ((h.modOp o _).letGo o status) h
    · extract_lets t1
      have h1 : s.SameRecords t1 := .ite (h.emit o _ _ _) h
      split
      · exact h1
      · exact .ite (h1.finishOp _ hs) ((h1.modOp o _).letGo o status)

end State.SameRecords

end Sys2Proof.Machine
end

section
/-! PROOF. U.SELECT, U.ROUND, U.ACCESS and U.RAW from their dispatch to their first command (R79, R103, R106, R111, R115). -/

open Sys2Proof Sys2Proof.Machine

namespace Sys2Proof.Machine

variable {s t u : State} {o : OpId} {op x : Op} {start : Nat}

/-! ### An operation begins (R79) -/

/-- The operation begun, in its engine state. -/
def Op.begunAs (op : Op) (e : Engine) : Op := { op with started := true, eng := e }

theorem State.op?_beginOp (h : s.op? o = some op) (e : Engine) : (s.beginOp o e).op? o = some (op.begunAs e) :=
  State.op?_modOp h fun _ => rfl

theorem Op.begunAs_begun (op : Op) (e : Engine) : (op.begunAs e).Begun op := ⟨rfl, rfl, rfl, rfl, rfl, rfl⟩

theorem State.uBegin_settled (h : op.settled = true) (e : Engine) :
    s.uBegin op e = (s.beginOp op.id e).uFirst op.id (s.ticks + 174) := by
  simp only [State.uBegin, h, if_true]
  rfl

section
variable (h : s.op? o = some x)
include h

theorem State.uFirst_select (he : x.eng = .select) : s.uFirst o start = s.selectSend o start := by
  simp [State.uFirst, h, he]

theorem State.uFirst_round {r : RoundSt} (he : x.eng = .round r) : s.uFirst o start = s.roundStart o start := by
  simp [State.uFirst, h, he]

theorem State.uFirst_access {a : AccessSt} (he : x.eng = .access a) : s.uFirst o start = s.accBegin o start := by
  simp [State.uFirst, h, he]

theorem State.uFirst_raw (he : x.eng = .raw) : s.uFirst o start = s.rawSend o start := by
  simp [State.uFirst, h, he]

end

theorem execUSelect_eq (h : s.begins o 0 1 = some op) : exec (.uSelect o) s = .next (s.uBegin op .select) := by
  show execUSelect o s = _
  simp [execUSelect, h]

theorem execURound_eq (h : s.begins o 0 2 = some op) :
    exec (.uRound o) s = .next (s.uBegin op (.round { trunc := s.truncOf op })) := by
  show execURound o s = _
  simp [execURound, h]

theorem execUAccess_eq (h : s.begins o 0 3 = some op) : exec (.uAccess o) s = .next (s.uBegin op (.access {})) := by
  show execUAccess o s = _
  simp [execUAccess, h]

theorem execURaw_eq (h : s.begins o 0 4 = some op) : exec (.uRaw o) s = .next (s.uBegin op .raw) := by
  show execURaw o s = _
  simp [execURaw, h]

/-- An operation whose beam is not settled begins and sends nothing (R79). -/
theorem State.uBegin_waits {code : Nat} (h : s.begins o 0 code = some op) (hset : op.settled = false) (e : Engine) :
    s.uBegin op e = s.modOp o fun x => { x with started := true, eng := e } := by
  obtain ⟨hop, -⟩ := State.begins_spec h
  rw [State.uBegin, hset, State.op?_id hop]
  rfl

/-! ### A command and T4 in one step (R106, R115) -/

/-- The T4 after a command that draws nothing, and the end of its operation (R101). -/
def State.endAfterT4 (u : State) (o : OpId) (x : Op) (c : AirCmd) (start : Nat) : State :=
  (u.advanceTo (max u.ticks (start + cmdTicks x.link c + t4Ticks x.link))).endOp o 0

/-- With nothing held the operation is over once T4 has passed, completed OK. -/
theorem State.endAfterT4_done {y : Op} (c : AirCmd) (start : Nat) (hop : u.op? o = some y) (hheld : y.held = [])
    (hround : y.isRound = false) (hsend : y.isSend = false) (hend : y.ending = none) (hframe : s.airFrame u)
    (hthreads : u.threads = s.threads) (hd : (s.slot o).discard = false) :
    let t := u.endAfterT4 o x c start
    t.doneAs o y.words y.code 0 ∧ s.onlySlot t o ∧ s.airFrame t := by
  have hitem : (y.isRound && y.endItem) = false := by rw [hround, Bool.false_and]
  exact State.endOp_done ((State.advanceTo_op_acc u _ o).trans hop) hheld hitem hend hsend
    (hframe.trans (u.advance_airFrame _)) ((State.advanceTo_threads u _).trans hthreads) hd (by decide)

/-- Its end takes no time, and touches no Select remembered. -/
theorem State.endAfterT4_records (u : State) (o : OpId) (x : Op) (c : AirCmd) (start : Nat) :
    (u.advanceTo (max u.ticks (start + cmdTicks x.link c + t4Ticks x.link))).SameRecords (u.endAfterT4 o x c start) :=
  (State.SameRecords.refl _).endOp o (by decide)

/-- Time reaches the tick it is moved to, once TB runs. -/
theorem State.advanceTo_ticks_of_le {n : Nat} (h : s.tbRuns = true) (hn : s.ticks ≤ n) : (s.advanceTo n).ticks = n := by
  unfold State.advanceTo State.advance
  rw [if_pos h]
  exact Nat.add_sub_cancel' hn

/-! ### U.SELECT (R106) -/

/-- A truncating Select that goes out at a tick is remembered by a port, with its P. -/
def UPort.remember (start p : Nat) (x : UPort) : UPort := { x with truncP := some (start, p) }

/-- The state in which a Select has been sent. -/
def State.selectSent (s : State) (o : OpId) (x : Op) (start : Nat) : State :=
  let t := s.sendCmd o x.selectCmd .none start
  if bit (x.w 6) 23 then
    x.uports.foldl (fun v p => v.modUp p (UPort.remember start ((x.w 7).toNat + bits (x.w 6) 0 9))) t
  else t

theorem State.selectSent_spec (s : State) (o : OpId) (x : Op) (start : Nat) :
    let u := s.selectSent o x start
    u = { s with ops := (s.sendCmd o x.selectCmd .none start).ops, uports := u.uports } ∧
    ∀ p ∈ x.uports, bit (x.w 6) 23 = true → (u.up p).truncP = some (start, (x.w 7).toNat + bits (x.w 6) 0 9) := by
  unfold State.selectSent
  dsimp only
  split
  next htrunc =>
    let t := s.sendCmd o x.selectCmd .none start
    let mark := UPort.remember start ((x.w 7).toNat + bits (x.w 6) 0 9)
    obtain ⟨hall, -, hin⟩ := foldl_visits (R := fun v => v = { t with uports := v.uports }) (view := State.up)
      (f := fun v p => v.modUp p mark)
      (fun v hv q => ⟨congrArg (fun y : State => { y with uports := (v.modUp q mark).uports }) hv,
        fun r hr => v.up_modUp_other _ hr⟩)
      x.uports t x.nodup_uports rfl
    refine ⟨hall, fun p hp _ => ?_⟩
    obtain ⟨v, -, -, hres⟩ := hin p hp
    rw [hres, State.up_modUp_same]
    rfl
  next htrunc => exact ⟨rfl, fun _ _ h => absurd h htrunc⟩

theorem State.op?_selectSent (h : s.op? o = some x) (start : Nat) :
    (s.selectSent o x start).op? o = some (s.sending x.selectCmd .none start x) := by
  obtain ⟨honly, -⟩ := s.selectSent_spec o x start
  rw [State.op?, honly]
  exact State.op?_sendCmd h _ _ _

/-- A Select that fits is sent, T4 passes, and the operation ends (R106, R354). -/
theorem State.selectSend_fits (h : s.op? o = some x) (hc : x.cancel = false)
    (hfit : x.fits x.selectCmd .none start = true) :
    s.selectSend o start = (s.selectSent o x start).endAfterT4 o x x.selectCmd start := by
  have hsent := State.op?_selectSent h start
  unfold State.selectSent UPort.remember at hsent
  unfold State.selectSend
  rw [h]
  dsimp only
  rw [if_neg (by rw [hc]; exact Bool.false_ne_true), if_pos hfit, hsent]
  rfl

/-- It ends completed OK; a truncating Select is remembered on its ports. -/
theorem State.selectSend_completes (h : s.op? o = some x) (hcls : x.cls = 0) (hcode : x.code = 1) (hend : x.ending = none)
    (hc : x.cancel = false) (hheld : x.held = []) (hd : (s.slot o).discard = false)
    (hfit : x.fits x.selectCmd .none start = true) (hstart : s.ticks ≤ start) :
    let t := s.selectSend o start
    t.doneAs o x.words 1 0 ∧ s.onlySlot t o ∧ s.airFrame t ∧
      (s.tbRuns = true → t.ticks = start + cmdTicks x.link x.selectCmd + t4Ticks x.link) ∧
      ∀ p ∈ x.uports, bit (x.w 6) 23 = true → (t.up p).truncP = some (start, (x.w 7).toNat + bits (x.w 6) 0 9) := by
  have hround : x.isRound = false := by rw [Op.isRound, hcode]; exact Bool.and_false _
  have hsend : x.isSend = false := by rw [Op.isSend, hcls]; rfl
  obtain ⟨honly, htrunc⟩ := s.selectSent_spec o x start
  have hsame := (s.selectSent o x start).endAfterT4_records o x x.selectCmd start
  obtain ⟨hdone, hslot, hframe⟩ := State.endAfterT4_done (s := s) (x := x) x.selectCmd start (State.op?_selectSent h start)
    hheld hround hsend hend (by rw [honly]; rfl) (by rw [honly]) hd
  rw [State.selectSend_fits h hc hfit]
  refine ⟨hcode ▸ hdone, hslot, hframe, fun hruns => ?_, fun p hp hbit => ?_⟩
  · have hticks : (s.selectSent o x start).ticks = s.ticks := by rw [honly]
    have hrunsu : (s.selectSent o x start).tbRuns = true := by rw [State.tbRuns, honly]; exact hruns
    rw [hsame.ticks, State.advanceTo_ticks_of_le hrunsu (Nat.le_max_left _ _), hticks]
    exact Nat.max_eq_right (by omega)
  · rw [hsame.selects, State.advanceTo_up_acc]
    exact htrunc p hp hbit

/-- U.SELECT on a settled beam. -/
theorem uSelect_completes (h : s.begins o 0 1 = some op) (hset : op.settled = true) (hc : op.cancel = false)
    (hheld : op.held = []) (hd : (s.slot o).discard = false) (hfit : op.fits op.selectCmd .none (s.ticks + 174) = true) :
    ∃ t : State, exec (.uSelect o) s = .next t ∧ t.doneAs o op.words 1 0 ∧ s.onlySlot t o ∧ s.airFrame t ∧
      (s.tbRuns = true → t.ticks = s.ticks + 174 + cmdTicks op.link op.selectCmd + t4Ticks op.link) ∧
      ∀ p ∈ op.uports, bit (op.w 6) 23 = true →
        (t.up p).truncP = some (s.ticks + 174, (op.w 7).toNat + bits (op.w 6) 0 9) := by
  obtain ⟨hop, -, -, hcls, hcode, hend⟩ := State.begins_spec h
  have hbegun := State.op?_beginOp hop .select
  have hexec := execUSelect_eq h
  rw [State.uBegin_settled hset, State.op?_id hop, State.uFirst_select hbegun rfl] at hexec
  obtain ⟨hdone, hslot, hframe, hrest⟩ :=
    State.selectSend_completes hbegun hcls hcode hend hc hheld hd hfit (Nat.le_add_right s.ticks 174)
  have hbegan : s.airFrame (s.beginOp o .select) := rfl
  exact ⟨_, hexec, hdone, hslot, hbegan.trans hframe, hrest⟩

/-! ### U.ROUND: its first Query (R103) -/

/-- A command that opens a slot is sent, and the slot awaits its RN16 (R103). -/
theorem State.roundSlot_sent (h : s.op? o = some x) (hx : x.Begun op) (r : RoundSt) (c : AirCmd) (start : Nat) :
    s.roundSlot x r c start = { s with ops := (s.roundSlot x r c start).ops } ∧
    ∃ slotTb, (s.roundSlot x r c start).sent o op c start (some (winOpenTicks op.link)) (some (winCloseTicks op.link))
      (.round { r with st := .waitRN, slots := r.slots + 1, outcome := .none, slotTb := slotTb }) := by
  obtain rfl := State.op?_id h
  have hsent := State.sendCmd_sent h hx c (e := .immediate 16) (by exact Expect.noConfusion) start
  unfold State.roundSlot
  dsimp only
  rw [State.op?_sendCmd h]
  exact ⟨rfl, _, hsent.setEng _⟩

/-- Open, with nothing held, no red meter and no profile to test again: a Query that fits opens a slot. -/
theorem State.roundOpen_sends {r : RoundSt} (h : s.op? o = some x) (he : x.eng = .round r) (hc : x.cancel = false)
    (hheld : x.held = []) (hred : s.colour o.thread ≠ 2) (htest : x.retest = false)
    (hfit : x.fits (cmdQuery x.link x.sel x.session x.target r.q) (.immediate 16) start = true) :
    s.roundOpen o start =
      s.roundSlot x { r with st := .open_ } (cmdQuery x.link x.sel x.session x.target r.q) start := by
  simp [State.roundOpen, h, Op.round?, he, hc, hheld, hred, State.regionTest_skipped h htest, hfit]

/-- Start, the first time: the round takes its initial Q (R103, R104). -/
theorem State.roundStart_fresh {r : RoundSt} (h : s.op? o = some x) (he : x.eng = .round r) (hr : r.fresh = true) :
    s.roundStart o start =
      (s.setEng o (.round { r with fresh := false, q := x.q0, qfp := 100 * x.q0 })).roundOpen o start := by
  simp [State.roundStart, h, Op.round?, he, hr]

/-- U.ROUND on a settled beam. -/
theorem uRound_sends (h : s.begins o 0 2 = some op) (hset : op.settled = true) (hc : op.cancel = false) (hheld : op.held = [])
    (htest : op.retest = false) (hred : s.colour o.thread ≠ 2)
    (hfit : op.fits (cmdQuery op.link op.sel op.session op.target op.q0) (.immediate 16) (s.ticks + 174) = true) :
    ∃ (t : State) (slotTb : Word), exec (.uRound o) s = .next t ∧ t = { s with ops := t.ops } ∧
      t.sent o op (cmdQuery op.link op.sel op.session op.target op.q0) (s.ticks + 174) (some (winOpenTicks op.link))
        (some (winCloseTicks op.link))
        (.round { st := .waitRN, fresh := false, qfp := 100 * op.q0, q := op.q0, slots := 1, slotTb := slotTb
                  trunc := s.truncOf op }) := by
  obtain ⟨hop, -⟩ := State.begins_spec h
  let r : RoundSt := { fresh := false, q := op.q0, qfp := 100 * op.q0, trunc := s.truncOf op }
  have hbegun := State.op?_beginOp hop (.round { trunc := s.truncOf op })
  have hq := State.op?_setEng hbegun (.round r)
  have hexec := execURound_eq h
  rw [State.uBegin_settled hset, State.op?_id hop, State.uFirst_round hbegun rfl, State.roundStart_fresh hbegun rfl rfl] at hexec
  have hopen := State.roundOpen_sends (start := s.ticks + 174) hq rfl hc hheld hred htest hfit
  obtain ⟨honly, slotTb, hsent⟩ := State.roundSlot_sent hq (op := op) ⟨rfl, rfl, rfl, rfl, rfl, rfl⟩
    { r with st := .open_ } (cmdQuery op.link op.sel op.session op.target op.q0) (s.ticks + 174)
  exact ⟨_, slotTb, hexec.trans (congrArg _ hopen), honly, hsent⟩

/-! ### U.ACCESS: the Select and the Query for target A (R111) -/

/-- A command of a U.ACCESS that fits is sent. -/
theorem State.accSend_fits {a : AccessSt} {c : AirCmd} {e : Expect} (h : s.op? o = some x) (hc : x.cancel = false)
    (hfit : x.fits c e start = true) : s.accSend o a c e start = (s.sendCmd o c e start).setEng o (.access a) := by
  simp [State.accSend, h, hc, hfit]

/-- A Query with no profile to test again is sent when it fits. -/
theorem State.accQuery_fits {step : AccStep} (h : s.op? o = some x) (hc : x.cancel = false) (htest : x.retest = false)
    (hfit : x.fits (cmdQuery x.link 3 (bits x.bscCfg 4 2) (decide (step = .queryB)) 0) (.immediate 16) start = true) :
    s.accQuery o step start =
      (s.sendCmd o (cmdQuery x.link 3 (bits x.bscCfg 4 2) (decide (step = .queryB)) 0) (.immediate 16) start).setEng o
        (.access { step := step }) := by
  unfold State.accQuery
  rw [State.regionTest_skipped h htest]
  dsimp only
  rw [if_neg (by decide), h]
  exact State.accSend_fits h hc hfit

/-- The sequence begins: the Select, T4, and the Query for target A. -/
theorem State.accBegin_sends {e : TagEntry} (h : s.op? o = some x) (hx : x.Begun op) (hc : x.cancel = false)
    (hentry : x.entry = some e) (htest : x.retest = false) (hend : x.ending = none) (hstart : s.ticks ≤ start)
    (hfit : x.fits (reselect e) .none start = true) :
    let c := cmdQuery x.link 3 (bits x.bscCfg 4 2) false 0
    let start2 := start + cmdTicks x.link (reselect e) + t4Ticks x.link
    x.fits c (.immediate 16) start2 = true →
    s.accBegin o start = { s with ops := (s.accBegin o start).ops } ∧
      (s.accBegin o start).sent o op c start2 (some (winOpenTicks op.link)) (some (winCloseTicks op.link))
        (.access { step := .queryA }) := by
  intro c start2 hfit2
  have hsel := State.op?_setEng (State.op?_sendCmd h (reselect e) .none start) (.access { step := .select })
  have hafter : max s.ticks start2 = start2 := Nat.max_eq_right (by omega)
  have hbegin : s.accBegin o start =
      (((s.sendCmd o (reselect e) .none start).setEng o (.access { step := .select })).sendCmd o c (.immediate 16) start2).setEng
        o (.access { step := .queryA }) := by
    unfold State.accBegin
    rw [h]
    dsimp only
    rw [hentry]
    dsimp only
    rw [State.accSend_fits h hc hfit, hsel]
    dsimp only
    rw [if_neg (by rw [show (s.sending _ _ _ x).ending = none from hend]; exact Bool.false_ne_true)]
    refine (congrArg (State.accQuery _ o .queryA) hafter).trans ?_
    have hquery := State.accQuery_fits (step := .queryA) hsel hc htest hfit2
    exact hquery
  rw [hbegin]
  have hsent := State.sendCmd_sent hsel (op := op) ⟨hx.active, hx.started, hx.ending, hx.desc, hx.words, hx.link⟩ c
    (e := .immediate 16) (by exact Expect.noConfusion) start2
  exact ⟨rfl, hsent.setEng _⟩

/-- U.ACCESS on a settled beam. -/
theorem uAccess_sends {e : TagEntry} (h : s.begins o 0 3 = some op) (hset : op.settled = true) (hc : op.cancel = false)
    (hentry : op.entry = some e) (htest : op.retest = false)
    (hfit : op.fits (reselect e) .none (s.ticks + 174) = true) :
    let c := cmdQuery op.link 3 (bits op.bscCfg 4 2) false 0
    let start2 := s.ticks + 174 + cmdTicks op.link (reselect e) + t4Ticks op.link
    op.fits c (.immediate 16) start2 = true →
    ∃ t : State, exec (.uAccess o) s = .next t ∧ t = { s with ops := t.ops } ∧
      t.sent o op c start2 (some (winOpenTicks op.link)) (some (winCloseTicks op.link)) (.access { step := .queryA }) := by
  intro c start2 hfit2
  obtain ⟨hop, -, -, -, -, hend⟩ := State.begins_spec h
  have hbegun := State.op?_beginOp hop (.access {})
  have hexec := execUAccess_eq h
  rw [State.uBegin_settled hset, State.op?_id hop, State.uFirst_access hbegun rfl] at hexec
  obtain ⟨honly, hsent⟩ := State.accBegin_sends hbegun (op.begunAs_begun (.access {})) hc hentry htest hend
    (Nat.le_add_right s.ticks 174) hfit hfit2
  exact ⟨_, hexec, honly, hsent⟩

/-! ### U.RAW: its bits (R115) -/

theorem Op.rawExpect_none (h : bits (x.w 7) 0 16 = 0) : x.rawExpect = .none := if_pos h

theorem Op.rawExpect_window (h : bits (x.w 7) 0 16 ≠ 0) :
    x.rawExpect = .window (bits (x.w 7) 16 16) (bits (x.w 7) 0 16)
      (if bits (x.w 6) 0 12 = 0 then 4095 else bits (x.w 6) 0 12) := if_neg h

section
variable (h : s.op? o = some x) (hc : x.cancel = false) (hfit : x.fits x.rawCmd x.rawExpect start = true)
include h hc hfit

/-- Bits that draw nothing are sent, T4 passes, and the operation ends. -/
theorem State.rawSend_alone (hlen : bits (x.w 7) 0 16 = 0) :
    s.rawSend o start = (s.sendCmd o x.rawCmd .none start).endAfterT4 o x x.rawCmd start := by
  rw [Op.rawExpect_none hlen] at hfit
  have hnone : (s.sending x.rawCmd .none start x).rawExpect = .none := Op.rawExpect_none hlen
  simp only [State.rawSend, h, hc, Op.rawExpect_none hlen, hfit, State.op?_sendCmd h, hnone, if_true, Bool.false_eq_true,
    if_false]
  rfl

/-- Bits that draw a reply are sent with its window. -/
theorem State.rawSend_awaits (hlen : bits (x.w 7) 0 16 ≠ 0) : s.rawSend o start = s.sendCmd o x.rawCmd x.rawExpect start := by
  have hsome : (s.sending x.rawCmd x.rawExpect start x).rawExpect ≠ .none := by
    rw [Op.rawExpect_window (x := s.sending x.rawCmd x.rawExpect start x) hlen]
    exact Expect.noConfusion
  simp only [State.rawSend, h, hc, hfit, State.op?_sendCmd h, hsome, if_true, Bool.false_eq_true, if_false]

end

section
variable (h : s.begins o 0 4 = some op) (hset : op.settled = true) (hc : op.cancel = false)
  (hfit : op.fits op.rawCmd op.rawExpect (s.ticks + 174) = true)
include h hset hc hfit

/-- U.RAW on a settled beam, with no window. -/
theorem uRaw_completes (hheld : op.held = []) (hd : (s.slot o).discard = false) (hlen : bits (op.w 7) 0 16 = 0) :
    ∃ t : State, exec (.uRaw o) s = .next t ∧ t.doneAs o op.words 4 0 ∧ s.onlySlot t o ∧ s.airFrame t := by
  obtain ⟨hop, -, -, hcls, hcode, hend⟩ := State.begins_spec h
  have hround : op.isRound = false := by rw [Op.isRound, hcode]; exact Bool.and_false _
  have hsend : op.isSend = false := by rw [Op.isSend, hcls]; rfl
  have hbegun := State.op?_beginOp hop .raw
  have hexec := execURaw_eq h
  rw [State.uBegin_settled hset, State.op?_id hop, State.uFirst_raw hbegun rfl, State.rawSend_alone hbegun hc hfit hlen]
    at hexec
  obtain ⟨hdone, hslot, hframe⟩ := State.endAfterT4_done (s := s) (x := op.begunAs .raw) op.rawCmd (s.ticks + 174)
    (State.op?_sendCmd hbegun op.rawCmd .none (s.ticks + 174)) hheld hround hsend hend rfl rfl hd
  exact ⟨_, hexec, hcode ▸ hdone, hslot, hframe⟩

/-- U.RAW on a settled beam, with a window. -/
theorem uRaw_awaits (hlen : bits (op.w 7) 0 16 ≠ 0) :
    ∃ t : State, exec (.uRaw o) s = .next t ∧ t = { s with ops := t.ops } ∧
      t.sent o op op.rawCmd (s.ticks + 174) (some (nearest (bits (op.w 7) 16 16 * 21696) 100))
        (some (nearest ((bits (op.w 7) 16 16 + bits (op.w 7) 0 16) * 21696) 100)) .raw := by
  obtain ⟨hop, -⟩ := State.begins_spec h
  have hbegun := State.op?_beginOp hop .raw
  have hexec := execURaw_eq h
  rw [State.uBegin_settled hset, State.op?_id hop, State.uFirst_raw hbegun rfl, State.rawSend_awaits hbegun hc hfit hlen]
    at hexec
  have hwin := Op.rawExpect_window hlen
  have hopen : op.rawExpect.open_ op.link = nearest (bits (op.w 7) 16 16 * 21696) 100 := by rw [hwin]; rfl
  have hclose : op.rawExpect.close op.link = nearest ((bits (op.w 7) 16 16 + bits (op.w 7) 0 16) * 21696) 100 := by
    rw [hwin]; rfl
  have hdraws : op.rawExpect ≠ .none := by rw [hwin]; exact Expect.noConfusion
  rw [← hopen, ← hclose]
  exact ⟨_, hexec, rfl, State.sendCmd_sent hbegun (op.begunAs_begun .raw) op.rawCmd hdraws (s.ticks + 174)⟩

end

end Sys2Proof.Machine

open Sys2Proof Sys2Proof.Machine

/-- Settles O18: an operation that begins either waits for its carrier or goes through its own first command. That T4 and
the completion of a U.SELECT or of a U.RAW with a window of 0 come in the same command is assumption 70, and that a window
of R115 is taken to the nearest tick is assumption 17; the 0.80 µs are R79's. -/
theorem uhfOperationsBeginOnTheirBeam : Obligations.UhfOperationsBeginOnTheirBeam := by
  unfold Obligations.UhfOperationsBeginOnTheirBeam
  intro s o op _ waits start
  refine ⟨fun hset => ⟨fun h => ?_, fun h => ?_, fun h => ?_, fun h => ?_⟩, fun hset hc hheld hd => ⟨?_, ?_, ?_, ?_⟩⟩
  · exact (execUSelect_eq h).trans (congrArg _ (State.uBegin_waits h hset _))
  · exact (execURound_eq h).trans (congrArg _ (State.uBegin_waits h hset _))
  · exact (execUAccess_eq h).trans (congrArg _ (State.uBegin_waits h hset _))
  · exact (execURaw_eq h).trans (congrArg _ (State.uBegin_waits h hset _))
  · exact fun h hfit => uSelect_completes h hset hc hheld hd hfit
  · exact fun h htest hred => uRound_sends h hset hc hheld htest hred
  · exact fun e h hentry htest hfit => uAccess_sends h hset hc hentry htest hfit
  · exact fun h hfit => ⟨fun hlen => uRaw_completes h hset hc hfit hheld hd hlen,
      fun hlen => uRaw_awaits h hset hc hfit hlen⟩

end

section
/-! PROOF. The slots of a U.ROUND: what the rows of its state machine do (R103 to R110). -/

open Sys2Proof Sys2Proof.Machine

namespace Sys2Proof.Machine

variable {s t u v : State} {o : OpId} {op x : Op} {r : RoundSt} {start : Nat}

/-! ### A slot that closes (R103 to R105) -/

/-- What an empty slot makes of a round whose step is `c`. -/
def RoundSt.emptied (r : RoundSt) (c : Nat) : RoundSt :=
  { r with outcome := .empty, qfp := r.qfp - c, empties := if r.q = 0 then r.empties + 1 else 0 }

/-- What a collision makes of it. -/
def RoundSt.collided (r : RoundSt) (c : Nat) : RoundSt :=
  { r with outcome := .collision, qfp := min 1500 (r.qfp + c), colls := r.colls + 1, empties := 0 }

/-- The operation of a round, its reply and its window over. -/
def Op.slotOver (op : Op) (r : RoundSt) : Op := { op with reply := false, winFrom := none, latched := none, eng := .round r }

/-- The state in which a slot has closed. -/
def State.slotClosed (s : State) (o : OpId) (r : RoundSt) : State :=
  (s.modOp o fun x => { x with reply := false, winFrom := none, latched := none }).setEng o (.round r)

theorem State.op?_slotClosed (h : s.op? o = some x) (r : RoundSt) : (s.slotClosed o r).op? o = some (x.slotOver r) :=
  State.op?_setEng (State.op?_modOp (f := fun y => { y with reply := false, winFrom := none, latched := none }) h fun _ => rfl)
    (.round r)

section
variable (h : s.op? o = some x) (he : x.eng = .round r) (hf : x.failItems = false) (est : Word) (ports : BitVec 16)
include h he hf

theorem State.roundOutcome_empty : s.roundOutcome o .empty est ports = s.slotClosed o (r.emptied x.cStep) := by
  simp [State.roundOutcome, h, Op.round?, he, hf, State.slotClosed, RoundSt.emptied]

theorem State.roundOutcome_collision : s.roundOutcome o .collision est ports = s.slotClosed o (r.collided x.cStep) := by
  simp [State.roundOutcome, h, Op.round?, he, hf, State.slotClosed, RoundSt.collided]

end

/-! ### Next (R103 to R105) -/

/-- The End row of Next, with nothing held and no cancellation (R67). -/
theorem State.roundEnd_done (hop : u.op? o = some x) (hp : x.plain) (hcode : x.code = 2) (hcls : x.cls = 0)
    (hc : x.cancel = false) (hframe : s.airFrame u) (hthreads : u.threads = s.threads) (hd : (s.slot o).discard = false) :
    s.onlySlot (u.roundEnd o) o ∧ s.airFrame (u.roundEnd o) ∧
      (u.roundEnd o).doneAs o x.words 2 (if 0 < x.okItems then 0x00 else 0x01) := by
  obtain ⟨hheld, hitem, hend⟩ := hp
  have hsend : x.isSend = false := by rw [Op.isSend, hcls]; rfl
  have heq : u.roundEnd o = u.endOp o (if 0 < x.okItems then 0x00 else 0x01) := by simp [State.roundEnd, hop, hc]
  obtain ⟨hdone, honly, hair⟩ := State.endOp_done hop hheld (by rw [hitem, Bool.and_false]) hend hsend hframe hthreads hd
    (status := if 0 < x.okItems then 0x00 else 0x01) (by split <;> decide)
  rw [heq]
  exact ⟨honly, hair, hcode ▸ hdone⟩

section
variable (h : s.op? o = some x) (he : x.eng = .round r)
include h he

/-- Next goes to End when the round is over. -/
theorem State.roundNext_over (hover : roundOver x { r with st := .next } = true) :
    s.roundNext o start = (s.setEng o (.round { r with st := .next })).roundEnd o := by
  simp [State.roundNext, h, Op.round?, he, hover]

/-- When it is not over and nothing is held, the command of the Q algorithm opens the next slot if it fits (R104). -/
theorem State.roundNext_sends (hheld : x.held = []) (hgo : roundOver x { r with st := .next } = false)
    (hfit : x.fits (qStep x { r with st := .next }).2 (.immediate 16) start = true) :
    s.roundNext o start = (s.setEng o (.round { r with st := .next })).roundSlot x
      { r with st := .next, q := (qStep x { r with st := .next }).1 } (qStep x { r with st := .next }).2 start := by
  simp [State.roundNext, h, Op.round?, he, hgo, hheld, hfit]

end

/-- What a command that closes a slot of a round, leaving it as `r`, leads to: the next command, when it fits at `start`, or
the end of the round. -/
def State.goesOn (s : State) (c : Instr) (o : OpId) (op : Op) (r : RoundSt) (start : Nat) : Prop :=
  let r1 := { r with st := .next }
  (roundOver op r1 = true → ∃ t : State, exec c s = .next t ∧ s.onlySlot t o ∧ s.airFrame t ∧
    t.doneAs o op.words 2 (if 0 < op.okItems then 0x00 else 0x01)) ∧
  (roundOver op r1 = false →
    op.fits (qStep op r1).2 (.immediate 16) start = true →
    ∃ (t : State) (slotTb : Word), exec c s = .next t ∧ s.airFrame t ∧ t.threads = s.threads ∧ t.regs = s.regs ∧
      t.sent o op (qStep op r1).2 start (some (winOpenTicks op.link)) (some (winCloseTicks op.link))
        (.round { r1 with st := .waitRN, q := (qStep op r1).1, slots := r.slots + 1, outcome := .none, slotTb := slotTb }))

/-- `v` is `s` after some time. -/
structure State.Later (s v : State) : Prop where
  airFrame : s.airFrame v
  threads : v.threads = s.threads
  regs : v.regs = s.regs
  op? : ∀ o, v.op? o = s.op? o

theorem State.advance_later (s : State) (n : Nat) : s.Later (s.advance n) :=
  ⟨s.advance_airFrame n, State.advance_threads s n, State.advance_regs s n, State.advance_op_acc s n⟩

theorem State.Later.trans (h : s.Later u) (h' : u.Later v) : s.Later v :=
  ⟨h.airFrame.trans h'.airFrame, h'.threads.trans h.threads, h'.regs.trans h.regs, fun o => (h'.op? o).trans (h.op? o)⟩

/-- A round that runs, of a class-0 operation with nothing held, no end item, no item of a slot that fails and no cancellation. -/
structure State.RoundRuns (s : State) (o : OpId) (op : Op) (r : RoundSt) : Prop where
  running : s.running o = some op
  eng : op.eng = .round r
  plain : op.plain
  cancel : op.cancel = false
  failItems : op.failItems = false
  discard : (s.slot o).discard = false
  code : op.code = 2
  cls : op.cls = 0

theorem State.running_spec (h : s.running o = some op) :
    s.op? o = some op ∧ op.active = true ∧ op.started = true ∧ op.ending = none := by
  have hop := State.op?_of_running h
  simp only [State.running, hop] at h
  split at h
  next hc =>
    simp only [Bool.and_eq_true, Option.isNone_iff_eq_none] at hc
    obtain ⟨⟨hact, hstart⟩, hend⟩ := hc
    exact ⟨hop, hact, hstart, hend⟩
  · cases h

theorem State.RoundRuns.op? (h : s.RoundRuns o op r) : s.op? o = some op := State.op?_of_running h.running

theorem State.RoundRuns.started (h : s.RoundRuns o op r) : op.started = true := by
  obtain ⟨-, -, hstart, -⟩ := State.running_spec h.running
  exact hstart

theorem State.only_ops (h : t = { s with ops := t.ops }) : s.airFrame t ∧ t.threads = s.threads ∧ t.regs = s.regs := by
  rw [h]
  exact ⟨rfl, rfl, rfl⟩

/-- A slot closed after some time: Next decides. -/
theorem State.goesOn_of_closed {c : Instr} {r' : RoundSt} (hr : s.RoundRuns o op r) (hv : s.Later v)
    (hexec : exec c s = .next ((v.slotClosed o r').roundNext o start)) : s.goesOn c o op r' start := by
  obtain ⟨hheld, hitem, hend⟩ := hr.plain
  have hop := State.op?_slotClosed ((hv.op? o).trans hr.op?) r'
  have hnext := State.op?_setEng hop (.round { r' with st := .next })
  have hframe : s.airFrame ((v.slotClosed o r').setEng o (.round { r' with st := .next })) := hv.airFrame.trans rfl
  refine ⟨fun hover => ?_, fun hgo hfit => ?_⟩
  · obtain ⟨honly, hair, hdone⟩ :=
      State.roundEnd_done hnext ⟨hheld, hitem, hend⟩ hr.code hr.cls hr.cancel hframe hv.threads hr.discard
    exact ⟨_, hexec.trans (congrArg _ (State.roundNext_over hop rfl hover)), honly, hair, hdone⟩
  · have hsends := State.roundNext_sends hop rfl hheld hgo hfit
    obtain ⟨honly, slotTb, hsent⟩ := State.roundSlot_sent hnext (op := op) ⟨rfl, hr.started, rfl, rfl, rfl, rfl⟩
      { r' with st := .next, q := (qStep op { r' with st := .next }).1 } (qStep op { r' with st := .next }).2 start
    obtain ⟨hair, hthreads, hregs⟩ := State.only_ops honly
    exact ⟨_, slotTb, hexec.trans (congrArg _ hsends), hframe.trans hair, hthreads.trans hv.threads, hregs.trans hv.regs, hsent⟩

end Sys2Proof.Machine
end

section
/-! PROOF. The replies of a U.ROUND: preambles, decisions and the ends of replies (R99 to R110, R116). -/

open Sys2Proof Sys2Proof.Machine

namespace Sys2Proof.Machine

variable {s t u v : State} {o : OpId} {op x : Op} {r : RoundSt} {start dt : Nat}

/-! ### A preamble (R99, R100) -/

/-- The operation of a reply whose preamble was detected: what `s` shows is latched (R100, R109). -/
def State.hearing (s : State) (op : Op) (d : PreambleData) (x : Op) : Op :=
  { x with
    reply := true, gap := false, winFrom := none
    latched := some ⟨s.tb - 108, s.tb - BitVec.ofNat 64 (detectTicks op.link d.freq), d.freq, op.combined d, s.rxOf op d⟩ }

/-- A preamble in a window: a reply in progress when it is detected with its start inside. -/
theorem execReplyPreambleDetected_eq {w : Nat} (h : s.running o = some op) (hw : op.winFrom = some w)
    (hreply : op.reply = false) (dt : Nat) (d : PreambleData) :
    exec (.replyPreambleDetected o dt d) s = .next (
      let s1 := s.advance dt
      let back := detectTicks op.link d.freq
      if op.detects d = true ∧ w + back ≤ s1.ticks ∧ s1.ticks < op.winTo + back then s1.modOp o (s1.hearing op d) else s1) := by
  show execReplyPreambleDetected o dt d s = _
  simp [execReplyPreambleDetected, h, hw, hreply]
  rfl

/-- A link frequency more than 25 % from BLF is none the demodulator accepts (R99). -/
theorem Op.detects_eq_false {d : PreambleData} (h : 4 * d.freq < 3000 * blf op.link ∨ 5000 * blf op.link < 4 * d.freq) :
    op.detects d = false := by
  have hout : linkAccepts op.link d.freq = false := by
    refine decide_eq_false fun hin => ?_
    omega
  rw [Op.detects, hout, Bool.false_and]

/-! ### Energy in a window (R107) -/

/-- A mask of ports names every port it is made of. -/
theorem portMask_eq_zero {l : List UPortNo} (hl : l.Nodup) :
    BitVec.ofNat 16 (l.foldl (fun a p => a + 2 ^ p.val) 0) = 0 ↔ l = [] := by
  have hsum : l.foldl (fun a p => a + 2 ^ p.val) 0 = ∑ p ∈ l.toFinset, 2 ^ p.val := by
    rw [List.sum_toFinset _ hl, List.sum_eq_foldl, List.foldl_map]
  have hlt : ∑ p ∈ l.toFinset, 2 ^ p.val < 2 ^ 16 :=
    lt_of_le_of_lt (Finset.sum_le_sum_of_subset (Finset.subset_univ _)) (by decide)
  rw [hsum]
  constructor
  · intro hzero
    have hnat : ∑ p ∈ l.toFinset, 2 ^ p.val = 0 := by
      have := congrArg BitVec.toNat hzero
      rwa [BitVec.toNat_ofNat, Nat.mod_eq_of_lt hlt] at this
    refine List.eq_nil_iff_forall_not_mem.mpr fun p hp => ?_
    exact (Nat.two_pow_pos p.val).ne' (Finset.sum_eq_zero_iff.mp hnat p (List.mem_toFinset.mpr hp))
  · rintro rfl
    rfl

/-- No port of the beam sees energy 6 dB above its noise. -/
theorem Op.energyPorts_eq_zero {energy : List Int} :
    op.energyPorts energy = 0 ↔ ∀ p ∈ op.uports, energy.getD p.val 0 < 48 := by
  unfold Op.energyPorts
  rw [portMask_eq_zero (op.nodup_uports.filter _), List.filter_eq_nil_iff]
  simp only [decide_eq_true_eq, Int.not_le]

/-! ### The decisions of an RN16 window (R101, R107) -/

/-- The ACK of an RN16 that was decoded alone, when it fits (R103). -/
theorem State.roundRn_acks (h : s.op? o = some op) (hstarted : op.started = true) (hc : op.cancel = false) (r : RoundSt)
    (rn : BitVec 16) (hfit : op.fits (cmdAck rn) (.immediate 560) (s.ticks + t2Ticks op.link op.bscCfg) = true) :
    s.roundRn op r rn false = { s with ops := (s.roundRn op r rn false).ops } ∧
    (s.roundRn op r rn false).sent o op (cmdAck rn) (s.ticks + t2Ticks op.link op.bscCfg) (some (winOpenTicks op.link))
      (some (winCloseTicks op.link)) (.round { r with st := .waitEPC, rn16 := rn }) := by
  obtain rfl := State.op?_id h
  let m := (s.modOp op.id fun x => { x with reply := false, winFrom := none }).setEng op.id
    (.round { r with st := .ack, rn16 := rn })
  have hm : m.op? op.id =
      some { op with reply := false, winFrom := none, eng := .round { r with st := .ack, rn16 := rn } } :=
    State.op?_setEng (State.op?_modOp (f := fun x => { x with reply := false, winFrom := none }) h fun _ => rfl) _
  have hstart : m.afterReply op 0 = s.ticks + t2Ticks op.link op.bscCfg := Nat.max_eq_right (Nat.le_add_right _ _)
  have hack : s.roundRn op r rn false = (m.sendCmd op.id (cmdAck rn) (.immediate 560) (m.afterReply op 0)).setEng op.id
      (.round { r with st := .waitEPC, rn16 := rn }) := by
    rw [← hstart] at hfit
    unfold State.roundRn
    dsimp only
    rw [if_neg Bool.false_ne_true, if_neg (by rw [hc]; exact Bool.false_ne_true)]
    exact if_pos hfit
  rw [hack, hstart]
  exact ⟨rfl, (State.sendCmd_sent hm (op := op) ⟨rfl, hstarted, rfl, rfl, rfl, rfl⟩ (cmdAck rn) (e := .immediate 560)
    (by exact Expect.noConfusion) _).setEng _⟩

section
variable (hr : s.RoundRuns o op r)
include hr

theorem State.RoundRuns.slotEmpty (hv : s.Later v) : v.roundOutcome op.id .empty 0 0 = v.slotClosed o (r.emptied op.cStep) := by
  have hop := (hv.op? o).trans hr.op?
  rw [State.op?_id hop]
  exact State.roundOutcome_empty hop hr.eng hr.failItems 0 0

theorem State.RoundRuns.slotCollided (hv : s.Later v) (est : Word) (ports : BitVec 16) :
    v.roundOutcome op.id .collision est ports = v.slotClosed o (r.collided op.cStep) := by
  have hop := (hv.op? o).trans hr.op?
  rw [State.op?_id hop]
  exact State.roundOutcome_collision hop hr.eng hr.failItems est ports

/-- A collision draws the next command T2 after the last symbol it decided on (R101, R107). -/
theorem State.RoundRuns.roundCollision (hv : s.Later v) (est : Word) (ports : BitVec 16) :
    v.roundCollision op est ports = (v.slotClosed o (r.collided op.cStep)).roundNext o
      (max v.ticks (v.ticks - 108 + t2Ticks op.link op.bscCfg)) := by
  unfold State.roundCollision
  rw [hr.slotCollided hv, State.op?_id hr.op?]
  rfl

theorem State.RoundRuns.rnWanted (hst : r.st = .waitRN) : op.rnWanted = true := by
  simp [Op.rnWanted, hr.eng, hst]

/-- NO_REPLY_DECISION of a window with neither a reply nor energy: an empty slot. -/
theorem noReplyDecision_goesOn {energy : List Int} (hw : op.winFrom ≠ none) (hreply : op.reply = false)
    (hst : r.st = .waitRN) (hquiet : ∀ p ∈ op.uports, energy.getD p.val 0 < 48) :
    s.goesOn (.noReplyDecision o energy) o op (r.emptied op.cStep)
      (max (s.advanceTo (op.winTo + decisionTicks op.link)).ticks (op.cmdEnd + t4Ticks op.link)) := by
  have hv : s.Later (s.advanceTo (op.winTo + decisionTicks op.link)) := s.advance_later _
  refine State.goesOn_of_closed hr hv ?_
  have hdecide : exec (.noReplyDecision o energy) s =
      .next ((s.advanceTo (op.winTo + decisionTicks op.link)).silence op) := by
    show execNoReplyDecision o energy s = _
    simp [execNoReplyDecision, hr.running, Option.isSome_iff_ne_none.mpr hw, hreply, Op.energyPorts_eq_zero.mpr hquiet]
  have hsilence : (s.advanceTo (op.winTo + decisionTicks op.link)).silence op =
      ((s.advanceTo (op.winTo + decisionTicks op.link)).roundOutcome op.id .empty 0 0).roundNext op.id
        (max (s.advanceTo (op.winTo + decisionTicks op.link)).ticks (op.cmdEnd + t4Ticks op.link)) := by
    simp only [State.silence, hr.eng, State.roundSilence, hst]
    rfl
  rw [hdecide, hsilence, hr.slotEmpty hv, State.op?_id hr.op?]

/-- COLLISION_DECISION of a window with energy and no reply: a collision. -/
theorem collisionDecision_goesOn {w onset : Nat} {energy : List Int} (hw : op.winFrom = some w) (hreply : op.reply = false)
    (hst : r.st = .waitRN) (henergy : ∃ p ∈ op.uports, 48 ≤ energy.getD p.val 0) (hfrom : w ≤ s.ticks + onset)
    (hto : s.ticks + onset < op.winTo) :
    let s2 := s.advance (onset + collisionTicks op.link)
    s.goesOn (.collisionDecision o onset energy) o op (r.collided op.cStep)
      (max s2.ticks (s2.ticks - 108 + t2Ticks op.link op.bscCfg)) := by
  have hv : s.Later (s.advance (onset + collisionTicks op.link)) := s.advance_later _
  refine State.goesOn_of_closed hr hv ?_
  have hseen : (op.energyPorts energy != 0) = true := by
    obtain ⟨p, hp, hloud⟩ := henergy
    exact bne_iff_ne.mpr fun hzero => absurd (Op.energyPorts_eq_zero.mp hzero p hp) (Int.not_lt.mpr hloud)
  rw [← hr.roundCollision hv (s.tbLo + BitVec.ofNat 32 onset) (op.energyPorts energy)]
  have hgo : (!op.reply && op.rnWanted && op.energyPorts energy != 0 &&
      decide (w ≤ s.ticks + onset ∧ s.ticks + onset < op.winTo)) = true := by
    rw [hreply, hr.rnWanted hst, hseen, decide_eq_true ⟨hfrom, hto⟩]
    rfl
  show execCollisionDecision o onset energy s = _
  unfold execCollisionDecision
  rw [hr.running]
  dsimp only
  rw [hw]
  dsimp only
  rw [if_pos hgo, hr.eng]

/-! ### The end of a reply (R99, R103, R107) -/

/-- REPLY_END of a reply whose link frequency kept within 2.5 %. -/
theorem execReplyEnd_round {d : ReplyData} (hreply : op.reply = true)
    (hsteady : ∀ l, op.latched = some l → 40 * d.drift ≤ l.freq) (dt : Nat) :
    exec (.replyEnd o dt d) s = .next ((s.advance dt).roundReply op r d) := by
  have hdrift : op.drifted d = false := by
    unfold Op.drifted
    split
    next l hl => exact decide_eq_false (Nat.not_lt.mpr (hsteady l hl))
    · rfl
  show execReplyEnd o dt d s = _
  simp [execReplyEnd, hr.running, hreply, hdrift, hr.eng]

/-- An RN16 that does not decode is a collision, decided 17 symbols and 0.50 µs after its start. -/
theorem replyEnd_collides {d : ReplyData} (hreply : op.reply = true) (hst : r.st = .waitRN) (hbits : d.bits.length ≠ 16)
    (hsteady : ∀ l, op.latched = some l → 40 * d.drift ≤ l.freq) (dt : Nat) :
    let s2 := (s.advance dt).advance (collisionTicks op.link - ((s.advance dt).tbLo - op.replyTb).toNat)
    s.goesOn (.replyEnd o dt d) o op (r.collided op.cStep) (max s2.ticks (s2.ticks - 108 + t2Ticks op.link op.bscCfg)) := by
  have hv : s.Later ((s.advance dt).toCollision op op.replyTb) := (s.advance_later dt).trans ((s.advance dt).advance_later _)
  refine State.goesOn_of_closed hr hv ?_
  have hfail : op.rnDecoded d = false := by simp [Op.rnDecoded, hbits]
  rw [execReplyEnd_round hr hreply hsteady, State.roundReply]
  simp only [hst, hfail, Bool.false_eq_true, if_false]
  rw [hr.roundCollision hv]
  rfl

/-- An RN16 that decodes alone draws its ACK, T2 after its last symbol. -/
theorem replyEnd_acks {d : ReplyData} (hreply : op.reply = true) (hgap : op.gap = false) (hst : r.st = .waitRN)
    (hpoison : d.poison = false) (hlead : d.lead = none) (hbits : d.bits.length = 16)
    (hsteady : ∀ l, op.latched = some l → 40 * d.drift ≤ l.freq) (dt : Nat) :
    let rn := BitVec.ofNat 16 (bitsNum d.bits)
    let start := (s.advance dt).ticks + t2Ticks op.link op.bscCfg
    op.fits (cmdAck rn) (.immediate 560) start = true →
    ∃ t : State, exec (.replyEnd o dt d) s = .next t ∧ t = { s.advance dt with ops := t.ops } ∧
      t.sent o op (cmdAck rn) start (some (winOpenTicks op.link)) (some (winCloseTicks op.link))
        (.round { r with st := .waitEPC, rn16 := rn }) := by
  intro rn start hfit
  have hdecoded : op.rnDecoded d = true := by simp [Op.rnDecoded, hbits, hpoison, hgap, hlead]
  have hexec := execReplyEnd_round hr hreply hsteady dt
  have hreplies : (s.advance dt).roundReply op r d = (s.advance dt).roundRn op r rn false := by
    simp only [State.roundReply, hst, hdecoded, hlead, if_true, Option.isSome_none]
    rfl
  obtain ⟨honly, hsent⟩ :=
    State.roundRn_acks ((State.advance_op_acc s dt o).trans hr.op?) hr.started hr.cancel r rn hfit
  exact ⟨_, hexec.trans (congrArg _ hreplies), honly, hsent⟩

end

end Sys2Proof.Machine
end

section
/-! PROOF. A tag that is read (R103, R110), and a reply abandoned after a cancellation (R74, R116). -/

open Sys2Proof Sys2Proof.Machine

namespace Sys2Proof.Machine

variable {s t u v : State} {o : OpId} {op x : Op} {r : RoundSt} {start dt : Nat}

/-! ### What a slot's rows leave of the tag table -/

namespace State.SameRecords

theorem setEng (h : s.SameRecords t) (o : OpId) (e : Engine) : s.SameRecords (t.setEng o e) := h.modOp o _

theorem slotItem (h : s.SameRecords t) (op : Op) (status slot : Nat) (tb est : Word) (ports : BitVec 16) :
    s.SameRecords (t.slotItem op status slot tb est ports) := h.emit op.id 0x01 status _

theorem roundEnd (h : s.SameRecords t) (o : OpId) : s.SameRecords (t.roundEnd o) := by
  unfold State.roundEnd
  split
  · exact h
  · refine h.endOp o ?_
    split
    · decide
    · split <;> decide

theorem roundPause (h : s.SameRecords t) (o : OpId) : s.SameRecords (t.roundPause o) := by
  unfold State.roundPause
  split
  · exact h
  · split
    · exact h
    · extract_lets t1
      have h1 : s.SameRecords t1 := .ite (h.slotItem _ _ _ _ _ _) h
      exact .ite (h.roundEnd o) (.ite (h1.roundEnd o) (h.setEng o _))

theorem roundSlot (h : s.SameRecords t) (op : Op) (r : RoundSt) (c : AirCmd) (start : Nat) :
    s.SameRecords (t.roundSlot op r c start) := by
  have hsent : s.SameRecords (t.sendCmd op.id c (.immediate 16) start) := h.modOp op.id _
  unfold State.roundSlot
  dsimp only
  split
  · exact hsent
  · exact hsent.setEng _ _

theorem roundNext (h : s.SameRecords t) (o : OpId) (start : Nat) : s.SameRecords (t.roundNext o start) := by
  unfold State.roundNext
  split
  · exact h
  · split
    · exact h
    · extract_lets r1 t1
      have h1 : s.SameRecords t1 := h.setEng o _
      exact .ite (h1.roundEnd o) (.ite h1 (.ite (h1.roundSlot _ _ _ start) ((h1.setEng o _).roundPause o)))

theorem roundOutcome (h : s.SameRecords t) (o : OpId) (k : SlotOutcome) (est : Word) (ports : BitVec 16) :
    s.SameRecords (t.roundOutcome o k est ports) := by
  unfold State.roundOutcome
  split
  · exact h
  · split
    · exact h
    · extract_lets t1 t2 r1 r2
      have h1 : s.SameRecords t1 := h.modOp o _
      have h2 : s.SameRecords t2 := by
        cases k with
        | empty => exact .ite (h1.slotItem _ _ _ _ _ _) h1
        | collision => exact .ite (h1.slotItem _ _ _ _ _ _) h1
        | none | success | crcFail => exact h1
      exact h2.setEng o _

end State.SameRecords

/-! ### A tag read with CRC passed (R110) -/

/-- The entry a tag takes in the tag table. -/
def State.entryOf (s : State) (g : TagReply) (p : Option Nat) : TagEntry :=
  ⟨s.reg AIR_TAGTAB, g.pc, g.xpc1, g.xpc2, g.epc.take (g.pc.extractLsb' 11 5).toNat, if g.trunc then p else none⟩

/-- It heads the table, and NEXT moves on. -/
theorem State.tableTag_spec (h : s.regsWf) (g : TagReply) (p : Option Nat) :
    (s.tableTag g p).2.tags = (s.entryOf g p :: s.tags).take 4096 ∧
      (s.tableTag g p).2.reg AIR_TAGTAB = s.reg AIR_TAGTAB + 1 :=
  ⟨rfl, State.reg_setReg_same (s := { s with tags := (s.entryOf g p :: s.tags).take 4096 }) h _ _⟩

/-- The rest of a slot in which a tag was read leaves the table so. -/
theorem State.roundEpc_records {d : ReplyData} (hgap : op.gap = false) (hpoison : d.poison = false)
    (hcrc : crcHolds d.bits = true) :
    (s.tableTag (parseTag (decide (op.sel = 3) && r.trunc.isSome) d.bits) r.trunc).2.SameRecords (s.roundEpc op r d) := by
  unfold State.roundEpc
  extract_lets _ start
  rw [if_neg (by rw [hpoison]; exact Bool.false_ne_true), if_pos (by rw [hgap, hcrc]; rfl)]
  exact ((((State.SameRecords.refl _).emit _ _ _ _).setEng _ _).roundOutcome _ _ _ _).roundNext _ start

/-- REPLY_END of an EPC reply whose CRC passes. -/
theorem replyEnd_tables {d : ReplyData} (hr : s.RoundRuns o op r) (hwf : s.regsWf) (hreply : op.reply = true)
    (hgap : op.gap = false) (hst : r.st = .waitEPC) (hpoison : d.poison = false) (hcrc : crcHolds d.bits = true)
    (hsteady : ∀ l, op.latched = some l → 40 * d.drift ≤ l.freq) (dt : Nat) :
    let g := parseTag (decide (op.sel = 3) && r.trunc.isSome) d.bits
    ∃ (t : State) (e : TagEntry), exec (.replyEnd o dt d) s = .next t ∧ t.tags = (e :: s.tags).take 4096 ∧
      e.handle = s.reg AIR_TAGTAB ∧ e.pc = g.pc ∧ e.epc = g.epc.take (g.pc.extractLsb' 11 5).toNat ∧
      t.reg AIR_TAGTAB = s.reg AIR_TAGTAB + 1 := by
  intro g
  have hexec := execReplyEnd_round hr hreply hsteady dt
  have hrow : (s.advance dt).roundReply op r d = (s.advance dt).roundEpc op r d := by
    simp only [State.roundReply, hst]
  have hwf1 : (s.advance dt).regsWf := by rw [State.regsWf, State.advance_regs]; exact hwf
  have hsame := State.roundEpc_records (s := s.advance dt) (r := r) hgap hpoison hcrc
  obtain ⟨htags, hnext⟩ := State.tableTag_spec hwf1 g r.trunc
  rw [State.advance_tags] at htags
  rw [State.advance_reg_acc] at hnext
  exact ⟨_, _, hexec.trans (congrArg _ hrow), hsame.tags.trans htags, State.advance_reg_acc s dt _, rfl, rfl,
    hsame.next.trans hnext⟩

/-! ### 1,640 µs after a cancellation (R74, R116) -/

/-- REPLY_CAP of a round whose cancellation was taken while its reply was in progress. -/
theorem replyCap_cancels (hr : s.RoundRuns o op r) (hreply : op.reply = true) :
    ∃ t : State, exec (.replyCap o) (s.modOp o fun x => { x with cancel := true }) = .next t ∧
      t.doneAs o op.words 2 0x09 ∧ s.onlySlot t o ∧ s.airFrame t := by
  obtain ⟨hop, hact, hstart, hend⟩ := State.running_spec hr.running
  obtain ⟨hheld, hitem, -⟩ := hr.plain
  let op' : Op := { op with cancel := true }
  have hop' : (s.modOp o fun x => { x with cancel := true }).op? o = some op' :=
    State.op?_modOp (f := fun x => { x with cancel := true }) hop fun _ => rfl
  have hrun : (s.modOp o fun x => { x with cancel := true }).running o = some op' := by
    simp [State.running, hop', op', hact, hstart, hend]
  have hexec : exec (.replyCap o) (s.modOp o fun x => { x with cancel := true }) =
      .next ((s.modOp o fun x => { x with cancel := true }).endOp o 0x09) := by
    show execReplyCap o _ = _
    simp [execReplyCap, hrun, op', hr.eng, hreply]
  have hsend : op'.isSend = false := by
    rw [Op.isSend, show op'.cls = 0 from hr.cls]
    rfl
  obtain ⟨hdone, honly, hair⟩ := State.endOp_done (s := s) hop' hheld
    (by rw [show op'.endItem = false from hitem, Bool.and_false]) hend hsend rfl rfl hr.discard (status := 0x09) (by decide)
  have hcode : op'.code = 2 := hr.code
  exact ⟨_, hexec, hcode ▸ hdone, honly, hair⟩

end Sys2Proof.Machine

open Sys2Proof Sys2Proof.Machine

/-- Settles O20: a preamble is judged by its frequency and its window; each reply, silence or collision closes its slot, and
Next decides from there. That a round of collisions alone ends NO_REPLY (R67) is assumption 15, and that the windows are
taken to the nearest tick is assumption 17; the end of a cancelled reply is R74's and R116's. -/
theorem roundRepliesDecideTheSlot : Obligations.RoundRepliesDecideTheSlot := by
  unfold Obligations.RoundRepliesDecideTheSlot
  intro s o op r dt hwf hrun heng hplain hcancel hfail hdiscard s1 next collided steady hcode hcls
  have hr : s.RoundRuns o op r := ⟨hrun, heng, hplain, hcancel, hfail, hdiscard, hcode, hcls⟩
  refine ⟨fun w d hw hreply => ?_, ?_, ?_, ?_, ?_, ?_, ?_⟩
  · have hexec := execReplyPreambleDetected_eq hrun hw hreply dt d
    refine ⟨fun hfar => ?_, fun hdet hout => ?_, fun hdet hfrom hto => ?_⟩
    · exact hexec.trans (congrArg _ (if_neg fun ⟨hdet, _⟩ => Bool.false_ne_true ((Op.detects_eq_false hfar).symm.trans hdet)))
    · exact hexec.trans (congrArg _ (if_neg fun ⟨_, hin⟩ => hout hin))
    · have hop1 : s1.op? o = some op := (State.advance_op_acc s dt o).trans hr.op?
      exact ⟨_, _, hexec.trans (congrArg _ (if_pos ⟨hdet, hfrom, hto⟩)), rfl,
        State.op?_modOp (f := s1.hearing op d) hop1 fun _ => rfl, rfl, rfl, rfl, _, rfl, rfl, rfl, rfl⟩
  · exact fun energy hw hreply hst hquiet => noReplyDecision_goesOn hr hw hreply hst hquiet
  · exact fun w onset energy hw hreply hst henergy hfrom hto =>
      collisionDecision_goesOn hr hw hreply hst henergy hfrom hto
  · exact fun d hreply hst hbits hsteady => replyEnd_collides hr hreply hst hbits hsteady dt
  · exact fun d hreply hgap hst hpoison hlead hbits hsteady =>
      replyEnd_acks hr hreply hgap hst hpoison hlead hbits hsteady dt
  · exact fun d hreply hgap hst hpoison hcrc hsteady => replyEnd_tables hr hwf hreply hgap hst hpoison hcrc hsteady dt
  · exact fun hreply => replyCap_cancels hr hreply

end

section
/-! PROOF. A scan that ends an operation of another class than H.WATCH (R152, R270). -/

open Sys2Proof Sys2Proof.Machine

namespace Sys2Proof.Machine

/-- A K.CAL HDI of H0 (R60, R270) in the engine state of an H.WATCH before its only scan. The statement about scans asks an
operation for that engine state, and not for class and code of H.WATCH. -/
def hdiScanning : Op :=
  { id := ⟨0, 0⟩, desc := #v[0x40000001, 0, 0, 0, 0x06000000, 0, 0x00010000, 0, 0, 0, 0, 0, 0, 0, 0, 0]
    active := true, started := true, eng := .hwatch 0 0 }

/-- The device with that operation in flight, the field of H0 on and its baseline due. -/
def hdiScanned : State := ({ ops := [hdiScanning] } : State).modHp 0 fun x => { x with field := true, needBase := true }

/-- Its last scan completes the operation, and the end of a K.CAL HDI takes the field off (R270). -/
theorem hdiScanned_field_off (x : WatchSample) (hx : x.port = 0) :
    ∃ t : State, exec (.hfWatchScan ⟨0, 0⟩ [x]) hdiScanned = .next t ∧ (t.hp 0).field = false := by
  obtain ⟨p, xi, xq, m⟩ := x
  obtain rfl : p = 0 := hx
  exact ⟨_, rfl, rfl⟩

end Sys2Proof.Machine

/-- Refutes O24: the scan that completes an operation whose descriptor is a K.CAL HDI takes the port's field off, where the
statement has a scan that sets a baseline leave the field alone. -/
theorem not_cardWatchScanSetsBaselines : ¬ Obligations.CardWatchScanSetsBaselines := by
  unfold Obligations.CardWatchScanSetsBaselines
  intro h
  obtain ⟨-, hbase, -⟩ := h hdiScanned ⟨0, 0⟩ hdiScanning 0 ⟨0, 1, 2, 3⟩ 0 0 ⟨List.Pairwise.nil, nofun⟩ rfl ⟨rfl, rfl, rfl⟩
    rfl rfl (by decide) rfl rfl
  obtain ⟨t, hexec, -, -, -, -, -, hfield⟩ := hbase (by decide +kernel) rfl
  obtain ⟨u, hexec', hoff⟩ := hdiScanned_field_off ⟨0, 1, 2, 3⟩ rfl
  cases hexec.symm.trans hexec'
  rw [hoff] at hfield
  exact absurd hfield (by decide)
end

section
/-! PROOF. The fields of the HF ports: turned on, turned off and removed (R136 to R140). -/

open Sys2Proof Sys2Proof.Machine

namespace Sys2Proof.Machine

variable {s t u : State}

/-! ### What a field changes -/

/-- `t` is `s` but for the HF ports and their FLAGS. -/
structure State.Fields (s t : State) : Prop where
  only : t = { s with regs := t.regs, hports := t.hports }
  regs : ∀ a, (∀ p : HPortNo, a ≠ HP_FLAGS p) → t.reg a = s.reg a

theorem State.Fields.refl (s : State) : s.Fields s := ⟨rfl, fun _ _ => rfl⟩

theorem State.Fields.trans (h : s.Fields t) (h' : t.Fields u) : s.Fields u :=
  ⟨h'.only.trans (congrArg (fun v : State => { v with regs := u.regs, hports := u.hports }) h.only),
    fun a ha => (h'.regs a ha).trans (h.regs a ha)⟩

theorem State.Fields.ite {c : Prop} [Decidable c] (ht : s.Fields t) (hu : s.Fields u) : s.Fields (if c then t else u) := by
  split
  · exact ht
  · exact hu

theorem State.Fields.modHp (h : s.Fields t) (p : HPortNo) (f : HPort → HPort) : s.Fields (t.modHp p f) :=
  h.trans ⟨rfl, fun _ _ => rfl⟩

theorem State.Fields.setFlags (h : s.Fields t) (p : HPortNo) (i : Nat) : s.Fields (t.setFlag (HP_FLAGS p) i) :=
  h.trans ⟨rfl, fun _ ha => State.reg_setFlag_other t (ha p)⟩

theorem State.Fields.airFrame (h : s.Fields t) : s.airFrame t := by
  rw [h.only]
  rfl

theorem State.Fields.ops (h : s.Fields t) : t.ops = s.ops := by rw [h.only]

theorem State.Fields.ticks (h : s.Fields t) : t.ticks = s.ticks := by rw [h.only]

theorem State.Fields.rings (h : s.Fields t) : t.rings = s.rings := by rw [h.only]

theorem State.Fields.tbRuns (h : s.Fields t) : t.tbRuns = s.tbRuns := by
  rw [h.only]
  rfl

theorem State.Fields.threads (h : s.Fields t) : t.threads = s.threads := by rw [h.only]

theorem State.Fields.op? (h : s.Fields t) (o : OpId) : t.op? o = s.op? o := by rw [State.op?, h.ops, State.op?]

/-- A fold over distinct ports whose every step changes its own port: each port shows what its own step made of it. -/
theorem State.Fields.foldl {f : State → HPortNo → State} (hf : ∀ u p, State.Fields u (f u p))
    (hother : ∀ u p q, q ≠ p → (f u p).hp q = u.hp q) (s : State) {l : List HPortNo} (hl : l.Nodup) :
    s.Fields (l.foldl f s) ∧ (∀ p, p ∉ l → (l.foldl f s).hp p = s.hp p) ∧
      ∀ p ∈ l, ∃ u, s.Fields u ∧ u.hp p = s.hp p ∧ (l.foldl f s).hp p = (f u p).hp p :=
  foldl_visits (R := s.Fields) (view := State.hp) (fun u hu q => ⟨hu.trans (hf u q), fun r hr => hother u q r hr⟩) l s hl (.refl s)

/-- Neither a register of the cluster nor the FIELD register of a port is a FLAGS register. -/
theorem hc_ne_flags {a : Nat} (h : a < 0x41000) (p : HPortNo) : a ≠ HP_FLAGS p := by
  unfold HP_FLAGS hpBase
  omega

theorem HP_FIELD_ne_flags (q p : HPortNo) : HP_FIELD q ≠ HP_FLAGS p := by
  unfold HP_FIELD HP_FLAGS hpBase
  omega

/-! ### A field on, and a field off -/

/-- The level an operation takes on a port rests on VHF, the port and its FIELD register. -/
theorem State.Fields.hfLevel (h : s.Fields t) {p : HPortNo} (hp : t.hp p = s.hp p) (op : Op) : t.hfLevel op p = s.hfLevel op p := by
  have hvhf : t.reg HC_VHF = s.reg HC_VHF := h.regs _ (hc_ne_flags (by decide))
  have hfield : t.reg (HP_FIELD p) = s.reg (HP_FIELD p) := h.regs _ (HP_FIELD_ne_flags p)
  unfold State.hfLevel State.hfAsked State.hfCeil
  rw [hp, State.fld_congr hvhf, State.fld_congr hfield]

/-- A request above the ceiling is flagged. -/
def State.hfClamped (s : State) (op : Op) (p : HPortNo) : State :=
  if !op.isCal && decide (s.hfCeil < s.hfAsked op p) then s.setFlag (HP_FLAGS p) 1 else s

theorem State.hfClamped_fields (s : State) (op : Op) (p : HPortNo) : s.Fields (s.hfClamped op p) :=
  .ite ((State.Fields.refl s).setFlags p 1) (.refl s)

theorem State.hfClamped_hp (s : State) (op : Op) (p q : HPortNo) : (s.hfClamped op p).hp q = s.hp q := by
  unfold State.hfClamped
  split <;> rfl

/-- A port whose field is on at a level and a phase. -/
def HPort.lit (x : HPort) (level : Nat) (phase : BitVec 7) : HPort := { x with field := true, level := level, phase := phase }

theorem State.hfTurnOn_fields (s : State) (op : Op) (p : HPortNo) : s.Fields (s.hfTurnOn op p) ∧
    (∀ q, q ≠ p → (s.hfTurnOn op p).hp q = s.hp q) ∧
    ∃ phase, (s.hfTurnOn op p).hp p = (s.hp p).lit (s.hfLevel op p) phase := by
  have hclamp := s.hfClamped_fields op p
  have hlevel := hclamp.hfLevel (s.hfClamped_hp op p p) op
  generalize hv : s.hfClamped op p = v at hclamp hlevel
  have hhp (q : HPortNo) : v.hp q = s.hp q := hv ▸ s.hfClamped_hp op p q
  have hon : s.hfTurnOn op p = v.modHp p fun x => x.lit (v.hfLevel op p)
      (if !(v.hp p).field || (v.hp p).level != v.hfLevel op p then (v.reg (HP_FIELD p)).extractLsb' 0 7 else x.phase) := by
    subst hv
    rfl
  rw [hon]
  refine ⟨hclamp.modHp p _, fun q hq => (State.hp_modHp_other v _ hq).trans (hhp q), ?_⟩
  rw [State.hp_modHp_same, hhp, hlevel]
  exact ⟨_, rfl⟩

/-- The fields of an operation's ports turned on. -/
def State.fieldsOn (s : State) (op : Op) : State := op.hports.foldl (fun s p => s.hfTurnOn op p) s

theorem State.fieldsOn_fields (s : State) (op : Op) : s.Fields (s.fieldsOn op) ∧
    (∀ p, p ∉ op.hports → (s.fieldsOn op).hp p = s.hp p) ∧
    ∀ p ∈ op.hports, ∃ phase, (s.fieldsOn op).hp p = (s.hp p).lit (s.hfLevel op p) phase := by
  obtain ⟨hfields, hout, hin⟩ := State.Fields.foldl (fun u p => (u.hfTurnOn_fields op p).1)
    (fun u p => (u.hfTurnOn_fields op p).2.1) s op.nodup_hports
  refine ⟨hfields, hout, fun p hp => ?_⟩
  obtain ⟨u, hu, hsame, hres⟩ := hin p hp
  obtain ⟨-, -, phase, hlit⟩ := u.hfTurnOn_fields op p
  exact ⟨phase, by rw [State.fieldsOn, hres, hlit, hu.hfLevel hsame, hsame]⟩

/-- A change of distinct ports, each from what it holds itself and from what no field changes. -/
theorem State.Fields.foldl_modHp {g : State → HPort → HPort} (hg : ∀ u, s.Fields u → g u = g s) {l : List HPortNo} (hl : l.Nodup) :
    let t := l.foldl (fun s p => s.modHp p (g s)) s
    s.Fields t ∧ (∀ p, p ∉ l → t.hp p = s.hp p) ∧ ∀ p ∈ l, t.hp p = g s (s.hp p) := by
  obtain ⟨hfields, hout, hin⟩ := State.Fields.foldl (f := fun s p => s.modHp p (g s)) (fun u p => (State.Fields.refl u).modHp p _)
    (fun u p q hq => State.hp_modHp_other u _ hq) s hl
  refine ⟨hfields, hout, fun p hp => ?_⟩
  obtain ⟨u, hu, hsame, hres⟩ := hin p hp
  rw [hres, State.hp_modHp_same, hg u hu, hsame]

/-- A port whose field is off. -/
def HPort.unlit (x : HPort) : HPort := { x with field := false, level := 0, leftBy := none }

/-- The fields of an operation's ports turned off. -/
def State.fieldsOff (s : State) (op : Op) : State := op.hports.foldl (fun s p => s.hfTurnOff p) s

theorem State.fieldsOff_fields (s : State) (op : Op) : s.Fields (s.fieldsOff op) ∧
    (∀ p, p ∉ op.hports → (s.fieldsOff op).hp p = s.hp p) ∧ ∀ p ∈ op.hports, (s.fieldsOff op).hp p = (s.hp p).unlit :=
  State.Fields.foldl_modHp (g := fun _ => HPort.unlit) (fun _ _ => rfl) op.nodup_hports

end Sys2Proof.Machine
end

section
/-! PROOF. What the end of an operation leaves of the HF ports, the rings and the registers (R64, R66, R72). -/

open Sys2Proof Sys2Proof.Machine

namespace Sys2Proof.Machine

variable {s t u : State} {o : OpId} {op x : Op} {status : Nat}

/-! ### What a release leaves alone -/

/-- The HF ports and the rings, which the carriers, the level and the receptions of an operation do not touch. -/
def State.portsRings (s : State) : Vector HPort 8 × Vector Ring 32 := (s.hports, s.rings)

theorem State.releaseCarriers_portsRings (s : State) (op : Op) : (s.releaseCarriers op).portsRings = s.portsRings := by
  have hmute : (s.muteBeam op).portsRings = s.portsRings := foldl_keeps State.portsRings (fun _ _ => by rfl) _ s
  have hduty (v : State) : (v.dutyFrame op).portsRings = v.portsRings := by
    unfold State.dutyFrame
    split <;> rfl
  unfold State.releaseCarriers
  split
  · exact foldl_keeps State.portsRings (fun v p => by unfold State.releaseUp; split <;> rfl) _ s
  · split
    · rw [hduty, hmute]
    · split
      · exact hmute
      · rfl

theorem State.relevel_portsRings (s : State) (p : UPortNo) : (s.relevel p).portsRings = s.portsRings := by
  have h := (s.relevel_carriers p).1.only
  rw [State.portsRings, h]
  rfl

/-- A port's own chain in use again. -/
def HPort.unspared (x : HPort) : HPort := { x with spare := false }

/-- Spares released: the operation's ports return to their own chains, and no other port changes. -/
theorem State.releaseSpares_hp (s : State) (op : Op) : (s.releaseSpares op).rings = s.rings ∧
    (∀ p, (s.releaseSpares op).hp p = s.hp p ∨ (s.releaseSpares op).hp p = (s.hp p).unspared) ∧
    ∀ p, p ∉ op.hports → (s.releaseSpares op).hp p = s.hp p := by
  unfold State.releaseSpares
  split
  · extract_lets v w
    have hkept : w.portsRings = s.portsRings :=
      foldl_keeps State.portsRings (fun v p => State.relevel_portsRings (v.modUp p _) p) _ v
    have hhp (p : HPortNo) : w.hp p = s.hp p := congrArg (·.1[p]) hkept
    obtain ⟨hfields, hout, hin⟩ := State.Fields.foldl_modHp (s := w) (g := fun _ => HPort.unspared) (fun _ _ => rfl) op.nodup_hports
    have hrings : (op.hports.foldl (fun v p => v.modHp p HPort.unspared) w).rings = w.rings := hfields.rings
    refine ⟨hrings.trans (congrArg Prod.snd hkept), fun p => ?_, fun p hp => (hout p hp).trans (hhp p)⟩
    by_cases hp : p ∈ op.hports
    · exact .inr ((hin p hp).trans (congrArg HPort.unspared (hhp p)))
    · exact .inl ((hout p hp).trans (hhp p))
  · exact ⟨rfl, fun _ => .inl rfl, fun _ _ => rfl⟩

/-- The solves and trims released last show in their own fields only. -/
theorem State.release_view {α : Type} {view : State → α}
    (hview : ∀ v q r a, view { v with solving := q, solveQ := r, applying := a } = view v) (s : State) (op : Op) :
    view (s.release op) = view ((((s.releaseCarriers op).releaseFields op).releaseSpares op).releaseDecoders op) := by
  rw [State.release_eq]
  generalize (((s.releaseCarriers op).releaseFields op).releaseSpares op).releaseDecoders op = v
  exact hview v _ _ _

/-- A release touches no ring. -/
theorem State.release_rings (s : State) (op : Op) : (s.release op).rings = s.rings := by
  have hfields (v : State) : (v.releaseFields op).rings = v.rings := by
    unfold State.releaseFields
    split
    · exact foldl_keeps State.rings (fun _ _ => by rfl) _ v
    · rfl
  have hdecoders (v : State) : (v.releaseDecoders op).rings = v.rings := by
    unfold State.releaseDecoders
    split <;> rfl
  rw [State.release_view (view := State.rings) (fun _ _ _ _ => rfl), hdecoders, (State.releaseSpares_hp _ op).1, hfields]
  exact congrArg Prod.snd (State.releaseCarriers_portsRings s op)

/-- The release of an operation that is no K.CAL changes at most which chain serves its ports. -/
theorem State.release_hp (hcal : op.isCal = false) (s : State) (p : HPortNo) :
    ((s.release op).hp p = s.hp p ∨ (s.release op).hp p = (s.hp p).unspared) ∧
    (p ∉ op.hports → (s.release op).hp p = s.hp p) := by
  have hcarriers : (s.releaseCarriers op).hp p = s.hp p := congrArg (·.1[p]) (State.releaseCarriers_portsRings s op)
  have hfields : (s.releaseCarriers op).releaseFields op = s.releaseCarriers op := by
    rw [State.releaseFields, hcal]
    rfl
  have hdecoders (v : State) : (v.releaseDecoders op).hp p = v.hp p := by
    unfold State.releaseDecoders
    split <;> rfl
  have hrel : (s.release op).hp p = ((s.releaseCarriers op).releaseSpares op).hp p := by
    rw [State.release_view (view := (State.hp · p)) (fun _ _ _ _ => rfl), hdecoders, hfields]
  obtain ⟨-, hin, hout⟩ := State.releaseSpares_hp (s.releaseCarriers op) op
  rw [hrel, ← hcarriers]
  exact ⟨hin p, hout p⟩

/-- An operation without UHF ports has no carrier whose release shows in a register. -/
theorem State.release_regs (h : op.uports = []) (s : State) : (s.release op).regs = s.regs := by
  have hcarriers : (s.releaseCarriers op).regs = s.regs := by
    unfold State.releaseCarriers State.muteBeam State.dutyFrame
    rw [h]
    split
    · rfl
    · split
      · split <;> rfl
      · split <;> rfl
  have hfold (f : State → HPortNo → HPort → HPort) (v : State) :
      (op.hports.foldl (fun w p => w.modHp p (f w p)) v).regs = v.regs := foldl_keeps State.regs (fun _ _ => by rfl) _ v
  have hfields (v : State) : (v.releaseFields op).regs = v.regs := by
    unfold State.releaseFields
    split
    · exact hfold (fun w p x => x.endHdi ((w.reg (HP_FIELD p)).extractLsb' 0 7)) v
    · rfl
  have hspares (v : State) : (v.releaseSpares op).regs = v.regs := by
    unfold State.releaseSpares
    rw [h]
    split
    · exact hfold (fun _ _ x => x.unspared) _
    · rfl
  have hdecoders (v : State) : (v.releaseDecoders op).regs = v.regs := by
    unfold State.releaseDecoders
    split <;> rfl
  rw [State.release_view (view := State.regs) (fun _ _ _ _ => rfl), hdecoders, hspares, hfields, hcarriers]

/-! ### What the end leaves alone -/

/-- The end of an operation touches no ring. -/
theorem State.finishOp_rings (s : State) (op : Op) (status : Nat) : (s.finishOp op status).rings = s.rings := by
  have hout : (s.takenOut op status).rings = s.rings := by
    unfold State.takenOut
    split
    · rfl
    · exact State.release_rings s op
  rw [State.finishOp_eq]
  split <;> exact hout

/-- The end of an operation that is no K.CAL changes at most which chain serves its ports. -/
theorem State.finishOp_hp (hcal : op.isCal = false) (s : State) (status : Nat) (p : HPortNo) :
    ((s.finishOp op status).hp p = s.hp p ∨ (s.finishOp op status).hp p = (s.hp p).unspared) ∧
    (p ∉ op.hports → (s.finishOp op status).hp p = s.hp p) := by
  have hfin : (s.finishOp op status).hp p = (s.takenOut op status).hp p := by
    rw [State.finishOp_eq]
    split <;> rfl
  rw [hfin]
  unfold State.takenOut
  split
  · exact ⟨.inl rfl, fun _ => rfl⟩
  · exact State.release_hp hcal s p

/-- The end of an operation without UHF ports writes the counter of its status alone. -/
theorem State.finishOp_reg (h : op.uports = []) {a : Nat} (ha : a ≠ AIR_STATCNT status) (s : State) :
    (s.finishOp op status).reg a = s.reg a := by
  have hout : (s.takenOut op status).reg a = s.reg a := by
    unfold State.takenOut
    rw [State.reg_countFld_other _ ha]
    split
    · rfl
    · exact congrArg (fun r => Sparse.get resetWord r a) (State.release_regs h s)
  rw [State.finishOp_eq]
  split <;> exact hout

/-! ### Operations of the HF class -/

theorem Op.isCal_of_hf (h : op.cls = 1) : op.isCal = false := by
  unfold Op.isCal
  rw [h]
  rfl

theorem Op.uports_of_hf (h : op.cls = 1) : op.uports = [] := by
  unfold Op.uports Op.onU
  rw [h, Op.isCal_of_hf h]
  rfl

/-! ### The end of an operation that sends no chirp -/

/-- The operation is at no C.SEND, so that its end counts no duty cycle (R179). -/
def Op.quiet (op : Op) : Prop := ∀ chirping first, op.eng ≠ .csend chirping first

theorem State.dutyFrame_quiet (h : op.quiet) (s : State) : s.dutyFrame op = s := by
  unfold State.dutyFrame
  split
  next heng _ => exact absurd heng (h _ _)
  · rfl

theorem State.release_airFrame_quiet (h : op.quiet) (s : State) : s.airFrame (s.release op) := by
  have hmute : s.airFrame (s.muteBeam op) := .foldl (fun v p => v.modUp_airFrame p UPort.off) _ rfl
  have hcarriers : s.airFrame (s.releaseCarriers op) := by
    unfold State.releaseCarriers
    rw [State.dutyFrame_quiet h]
    exact .ite (.foldl (fun v p => v.releaseUp_airFrame op.id p) _ rfl) (.ite hmute (.ite hmute rfl))
  have hheld : s.airFrame ((((s.releaseCarriers op).releaseFields op).releaseSpares op).releaseDecoders op) :=
    ((hcarriers.trans (State.releaseFields_airFrame _ op)).trans (State.releaseSpares_airFrame _ op)).trans
      (State.releaseDecoders_airFrame _ op)
  rw [State.release_eq]
  exact hheld.trans rfl

theorem State.finishOp_airFrame_quiet (h : op.quiet) (s : State) (status : Nat) : s.airFrame (s.finishOp op status) := by
  have hrel : s.airFrame (if op.released then s else s.release op) := .ite rfl (State.release_airFrame_quiet h s)
  have hout : s.airFrame (s.takenOut op status) := hrel.trans rfl
  rw [State.finishOp_eq]
  exact .ite (hout.trans rfl) (hout.trans rfl)

/-- The ticket of an operation that ends in one step, whatever the operation: Done with its word, no other slot touched. -/
theorem State.finishOp_ticket (hid : op.id = o) (hd : (s.slot o).discard = false) (hs : status < 256) :
    (s.finishOp op status).doneAs o op.words op.code status ∧ s.onlySlot (s.finishOp op status) o := by
  obtain ⟨⟨m, hth⟩, hops⟩ := State.finishOp_tickets hid hd status
  have hslot : (s.finishOp op status).slot o = { st := .done, word := op.completion status } := by
    rw [State.slot, hth]
    exact vset_get_same _ _ _
  have hthreads : (s.finishOp op status).threads = vset s.threads o.thread ((s.finishOp op status).th o.thread) := by
    subst hid
    have hset (k : Slot) : ((s.takenOut op status).setSlot op.id k).threads =
        vset s.threads op.id.thread (((s.takenOut op status).setSlot op.id k).th op.id.thread) := by
      rw [← State.takenOut_threads s op status, State.setSlot, State.th_modTh_same]
      rfl
    rw [State.finishOp_eq]
    split
    · exact hset _
    · exact hset _
  refine ⟨⟨?_, ?_⟩, m, ?_⟩
  · rw [State.op?, hops]
    exact List.find?_eq_none.mpr fun x hx => by simpa using (List.mem_filter.mp hx).2
  · rw [hslot, completion_fields op hs]
  · rw [hthreads, hth, hslot]

/-- The end of an operation that holds nothing and is at no C.SEND, in one step. -/
theorem State.quiet_done (hop : u.op? o = some x) (hp : x.plain) (hq : x.quiet) (hframe : s.airFrame u)
    (hthreads : u.threads = s.threads) (hd : (s.slot o).discard = false) (hs : status < 256) :
    (u.endOp o status).doneAs o x.words x.code status ∧ s.onlySlot (u.endOp o status) o ∧ s.airFrame (u.endOp o status) := by
  have hdu : (u.slot o).discard = false := by rw [State.slot, State.th, hthreads]; exact hd
  obtain ⟨hdone, honly⟩ := State.finishOp_ticket (State.op?_id hop) hdu hs
  rw [State.endOp_plain hop hp]
  exact ⟨hdone, honly.of_threads hthreads, hframe.trans (State.finishOp_airFrame_quiet hq u status)⟩

end Sys2Proof.Machine
end

section
/-! PROOF. A frame sent and an H.ACTIVATE that asks on (R142 to R146). -/

open Sys2Proof Sys2Proof.Machine

namespace Sys2Proof.Machine

variable {s t u : State} {o : OpId} {op x : Op}

/-- The operation that has sent a frame on its port: the frame, its end and its window (R142 to R144). -/
def State.framing (s : State) (op : Op) (c : AirCmd) (close : Nat) (x : Op) : Op :=
  let start := max s.ticks (s.gapOf op)
  let stop := start + 16 * hfCycles op.proto (bits (op.w 4) 24 4) c
  { x with
    cmd := c, cmdFrom := start, cmdEnd := stop, cmdTb := s.tb + BitVec.ofNat 64 (stop - s.ticks)
    winFrom := some (stop + 16 * hfOpen op.proto), winTo := stop + 16 * close }

theorem State.hfSend_eq (s : State) (op : Op) (c : AirCmd) (close : Nat) :
    s.hfSend op c close = s.modOp op.id (s.framing op c close) := rfl

theorem State.op?_hfSend (hop : s.op? op.id = some x) (c : AirCmd) (close : Nat) :
    (s.hfSend op c close).op? op.id = some (s.framing op c close x) :=
  State.op?_modOp (f := s.framing op c close) hop fun _ => rfl

/-! ### What rests on the descriptor alone -/

theorem Op.w_congr {y : Op} (h : y.desc = op.desc) (k : Fin 16) : y.w k = op.w k := congrArg (·[k]) h

theorem Op.proto_congr {y : Op} (h : y.desc = op.desc) : y.proto = op.proto := by rw [Op.proto, Op.w_congr h, Op.proto]

theorem Op.hports_congr {y : Op} (h : y.desc = op.desc) : y.hports = op.hports := by
  have hw := Op.w_congr h
  unfold Op.hports Op.onH Op.isCal Op.calCode Op.cls Op.mask
  rw [hw, hw]

theorem State.gapOf_desc {y : Op} (h : y.desc = op.desc) (s : State) : s.gapOf y = s.gapOf op := by
  rw [State.gapOf, Op.hports_congr h, State.gapOf]

/-- The command of a step rests on the descriptor, on HC_ACTCFG as latched, and for ATTRIB on HC_ATTRIB. -/
theorem Op.actCmd_congr {y : Op} {v w : Word} {a : ActSt} (h : y.desc = op.desc) (hcfg : y.cfg = op.cfg)
    (hw : a.step = .attrib → v = w) : y.actCmd v a = op.actCmd w a := by
  have hproto := Op.proto_congr h
  have hk := Op.w_congr h
  unfold Op.actCmd Op.inventoryCmd Op.viccFlags
  rw [hproto, hcfg, hk, hk]
  split
  case h_6 hstep => rw [hw hstep]
  all_goals rfl

theorem Op.actClose_congr {y : Op} (h : y.desc = op.desc) (a : ActSt) : y.actClose a = op.actClose a := by
  rw [Op.actClose, Op.proto_congr h, Op.actClose]

/-- A frame is that of any operation of the same descriptor. -/
theorem State.framing_framed {y : Op} {c c' : AirCmd} {start close close' : Nat} (hy : y.desc = op.desc) (hc : c = c')
    (hstart : max s.ticks (s.gapOf op) = start) (hclose : close = close') (x : Op) :
    (s.framing y c close x).framed op c' start close' := by
  subst hc hstart hclose
  unfold Op.framed
  rw [← State.gapOf_desc hy, ← Op.proto_congr hy, ← Op.w_congr hy]
  exact ⟨rfl, rfl, rfl, rfl, rfl⟩

/-! ### H.ACTIVATE -/

/-- The progress of an H.ACTIVATE once the command of its step is on the air. -/
def ActSt.asked (a : ActSt) : ActSt := { a with later := a.later || a.step == .request }

/-- An H.ACTIVATE that may go on sends the command of its step (R146). -/
theorem State.actGo_asks (hop : s.op? o = some x) (hheld : x.held = []) {a : ActSt} (hmay : x.mayAsk a) :
    s.actGo o a = (s.setEng o (.hactivate a.asked)).hfSend x (x.actCmd (s.reg HC_ATTRIB) a) (x.actClose a) := by
  obtain ⟨hcancel, hlimit, hmore, hhalt⟩ := hmay
  have hfull : x.actFull = false := decide_eq_false (by omega)
  have hasked : { a with halt := false, later := a.later || a.step == .request } = a.asked := by
    rw [ActSt.asked, ← hhalt]
  simp [State.actGo, hop, hcancel, hlimit, hfull, hheld, hhalt, hasked]

end Sys2Proof.Machine
end

section
/-! PROOF. H.FIELD, H.ACTIVATE, H.FRAME and H.WATCH begin (R136 to R138, R142 to R147, R152). -/

open Sys2Proof Sys2Proof.Machine

namespace Sys2Proof.Machine

variable {s t u : State} {o : OpId} {op x : Op} {code : Nat}

/-! ### An HF operation goes on -/

/-- The gap before an operation's next frame is that of its port. -/
theorem State.gapOf_congr (h : ∀ p ∈ op.hports, (t.hp p).gapTo = (s.hp p).gapTo) : t.gapOf op = s.gapOf op := by
  unfold State.gapOf
  cases hports : op.hports with
  | nil => rfl
  | cons p ps => exact h p (by rw [hports]; exact List.mem_cons_self)

theorem State.gapOf_of_hports (hu : u.hports = t.hports) : u.gapOf op = t.gapOf op :=
  State.gapOf_congr fun p _ => by rw [State.hp, hu, State.hp]

/-- `t` is `s` but for HF ports, their FLAGS and operations; the operation of ticket `o`, Active, has become `x`, and no port but
its own has changed. -/
structure State.HfGoes (s t : State) (o : OpId) (op x : Op) : Prop where
  only : t = { s with regs := t.regs, ops := t.ops, hports := t.hports }
  op? : t.op? o = some x
  active : x.active = true
  desc : x.desc = op.desc
  words : x.words = op.words
  others : ∀ p, p ∉ op.hports → t.hp p = s.hp p

theorem State.HfGoes.ticks (h : s.HfGoes t o op x) : t.ticks = s.ticks := by rw [h.only]

theorem State.Fields.goes (h : s.Fields t) (hop : s.op? o = some op) (hact : op.active = true)
    (hout : ∀ p, p ∉ op.hports → t.hp p = s.hp p) : s.HfGoes t o op op := by
  refine ⟨?_, (h.op? o).trans hop, hact, rfl, rfl, hout⟩
  rw [h.ops]
  exact h.only

/-- A change of the operation in what it does next. -/
theorem State.HfGoes.modOp (h : s.HfGoes t o op x) {f : Op → Op} (hid : ∀ y, (f y).id = y.id) (hact : (f x).active = x.active)
    (hdesc : (f x).desc = x.desc) (hwords : (f x).words = x.words) : s.HfGoes (t.modOp o f) o op (f x) where
  only := congrArg (fun v : State => { v with ops := (t.modOp o f).ops }) h.only
  op? := State.op?_modOp h.op? hid
  active := hact.trans h.active
  desc := hdesc.trans h.desc
  words := hwords.trans h.words
  others := h.others

theorem State.HfGoes.beginOp (h : s.HfGoes t o op x) (e : Engine) : s.HfGoes (t.beginOp o e) o op (x.begunAs e) :=
  h.modOp (f := fun y => y.begunAs e) (fun _ => rfl) rfl rfl rfl

theorem State.HfGoes.setEng (h : s.HfGoes t o op x) (e : Engine) : s.HfGoes (t.setEng o e) o op { x with eng := e } :=
  h.modOp (f := fun y => { y with eng := e }) (fun _ => rfl) rfl rfl rfl

theorem State.HfGoes.hfSend (h : s.HfGoes t o op x) {y : Op} (hid : y.id = o) (c : AirCmd) (close : Nat) :
    s.HfGoes (t.hfSend y c close) o op (t.framing y c close x) := by
  rw [State.hfSend_eq, hid]
  exact h.modOp (fun _ => rfl) rfl rfl rfl

/-- An H.ACTIVATE that may go on has the command of its step on the air (R146). -/
theorem State.HfGoes.actGo (h : s.HfGoes t o op x) (hheld : x.held = []) {a : ActSt} (hmay : x.mayAsk a) :
    ∃ y, s.HfGoes (t.actGo o a) o op y ∧ (t.actGo o a).regs = t.regs ∧ (t.actGo o a).hports = t.hports ∧
      y.started = x.started ∧ y.settled = x.settled ∧ y.eng = .hactivate a.asked ∧
      y.framed op (x.actCmd (t.reg HC_ATTRIB) a) (max t.ticks (t.gapOf op)) (op.actClose a) := by
  rw [State.actGo_asks h.op? hheld hmay]
  refine ⟨_, (h.setEng (.hactivate a.asked)).hfSend (State.op?_id h.op?) _ _, rfl, rfl, rfl, rfl, rfl, ?_⟩
  refine State.framing_framed h.desc rfl ?_ (Op.actClose_congr h.desc a) _
  rw [State.gapOf_of_hports (State.setEng_hports _ _ _), State.setEng_ticks]

/-! ### The port taken (R137, R138) -/

theorem State.fieldsOn_goes (hb : s.begins o 1 code = some op) : s.HfGoes (s.fieldsOn op) o op op := by
  obtain ⟨hop, hact, -⟩ := State.begins_spec hb
  obtain ⟨hfields, hout, -⟩ := s.fieldsOn_fields op
  exact hfields.goes hop hact hout

/-- Each port of the operation has its field on at the operation's level. -/
def State.litFor (s t : State) (op : Op) : Prop :=
  ∀ p ∈ op.hports, (t.hp p).field = true ∧ (t.hp p).level = s.hfLevel op p

theorem State.fieldsOn_lit (s : State) (op : Op) : s.litFor (s.fieldsOn op) op := by
  intro p hp
  obtain ⟨-, -, hin⟩ := s.fieldsOn_fields op
  obtain ⟨phase, hlit⟩ := hin p hp
  rw [hlit]
  exact ⟨rfl, rfl⟩

theorem State.litFor.of_hports (h : s.litFor t op) (hu : u.hports = t.hports) : s.litFor u op := by
  unfold State.litFor State.hp at h ⊢
  rwa [hu]

theorem State.fieldsOn_gapOf (s : State) (op : Op) : (s.fieldsOn op).gapOf op = s.gapOf op := by
  refine State.gapOf_congr fun p hp => ?_
  obtain ⟨-, -, hin⟩ := s.fieldsOn_fields op
  obtain ⟨phase, hlit⟩ := hin p hp
  rw [hlit]
  rfl

/-- All fields of an operation's ports are on. -/
def State.allLit (s : State) (op : Op) : Bool := op.hports.all fun p => (s.hp p).field

/-- An operation that has taken its port: settled when its fields were on already. -/
def State.taken (s : State) (op x : Op) : Op :=
  { x with
    settled := s.allLit op
    cmdFrom := (s.fieldsOn op).ticks + 256 + op.hports.foldl (fun n p => max n (usTicks (100 * s.fld (HP_FIELD p) 8 8))) 0 }

theorem State.hfTake_eq (s : State) (op : Op) : s.hfTake op = (s.fieldsOn op).modOp op.id (s.taken op) := rfl

theorem State.hfTake_goes (hb : s.begins o 1 code = some op) : s.HfGoes (s.hfTake op) o op (s.taken op op) := by
  obtain ⟨hop, -⟩ := State.begins_spec hb
  rw [State.hfTake_eq, State.op?_id hop]
  exact (State.fieldsOn_goes hb).modOp (fun _ => rfl) rfl rfl rfl

/-! ### H.FIELD (R136) -/

/-- The fields of an operation's ports left on by it. -/
def State.fieldsLeft (s : State) (op : Op) (o : OpId) : State :=
  op.hports.foldl (fun s p => s.modHp p fun x => { x with leftBy := some (o, s.ticks) }) s

theorem State.fieldsLeft_fields (s : State) (op : Op) (o : OpId) : s.Fields (s.fieldsLeft op o) ∧
    (∀ p, p ∉ op.hports → (s.fieldsLeft op o).hp p = s.hp p) ∧
    ∀ p ∈ op.hports, (s.fieldsLeft op o).hp p = { s.hp p with leftBy := some (o, s.ticks) } :=
  State.Fields.foldl_modHp (g := fun (s : State) (x : HPort) => { x with leftBy := some (o, s.ticks) })
    (fun u hu => by rw [hu.ticks]) op.nodup_hports

/-- H.FIELD turns its fields on and waits the ramp and its settle time. -/
theorem exec_hField_on (hb : s.begins o 1 1 = some op) (hon : bit (op.w 5) 31 = true) :
    exec (.hField o) s = .next ((((s.fieldsOn op).fieldsLeft op o).beginOp o (.hfield true)).modOp o fun x =>
      { x with cmdFrom := ((s.fieldsOn op).fieldsLeft op o).ticks + 256 + usTicks (bits (op.w 5) 0 24) }) := by
  show execHField o s = _
  simp only [execHField, hb, hon, if_true]
  rfl

theorem hField_on (hb : s.begins o 1 1 = some op) (hon : bit (op.w 5) 31 = true) :
    ∃ (t : State) (x : Op), exec (.hField o) s = .next t ∧ s.HfGoes t o op x ∧ x.started = true ∧ x.eng = .hfield true ∧
      x.cmdFrom = s.ticks + 256 + usTicks (bits (op.w 5) 0 24) ∧ s.litFor t op ∧
      ∀ p ∈ op.hports, (t.hp p).leftBy = some (o, s.ticks) := by
  obtain ⟨hop, hact, -⟩ := State.begins_spec hb
  obtain ⟨hon1, hout1, -⟩ := s.fieldsOn_fields op
  obtain ⟨hleft, hout2, hin⟩ := (s.fieldsOn op).fieldsLeft_fields op o
  have hfields := hon1.trans hleft
  have hgoes := hfields.goes hop hact fun p hp => (hout2 p hp).trans (hout1 p hp)
  refine ⟨_, _, exec_hField_on hb hon, (hgoes.beginOp _).modOp (fun _ => rfl) rfl rfl rfl, rfl, rfl, ?_, fun p hp => ?_, fun p hp => ?_⟩
  · exact congrArg (· + 256 + usTicks (bits (op.w 5) 0 24)) hfields.ticks
  · rw [State.modOp_hp_acc, State.beginOp, State.modOp_hp_acc, hin p hp]
    exact s.fieldsOn_lit op p hp
  · rw [State.modOp_hp_acc, State.beginOp, State.modOp_hp_acc, hin p hp, hon1.ticks]

theorem exec_hField_off (hb : s.begins o 1 1 = some op) (hoff : bit (op.w 5) 31 = false) :
    exec (.hField o) s = .next ((((s.fieldsOff op).beginOp o (.hfield false)).advance 256).endOp o 0x00) := by
  show execHField o s = _
  simp only [execHField, hb, hoff, Bool.false_eq_true, if_false]
  rfl

/-- The state in which the ramp of an H.FIELD off has ended. -/
def State.rampedDown (s : State) (o : OpId) (op : Op) : State :=
  ((s.fieldsOff op).beginOp o (.hfield false)).advance 256

/-- H.FIELD turns its fields off and completes OK once the ramp has ended. -/
theorem hField_off (hb : s.begins o 1 1 = some op) (hoff : bit (op.w 5) 31 = false) (hp : op.plain)
    (hd : (s.slot o).discard = false) :
    ∃ t : State, exec (.hField o) s = .next t ∧ t.doneAs o op.words 1 0 ∧ s.onlySlot t o ∧ s.airFrame t ∧
      (s.tbRuns = true → t.ticks = s.ticks + 256) ∧
      (∀ p ∈ op.hports, (t.hp p).field = false ∧ (t.hp p).level = 0) ∧ ∀ p, p ∉ op.hports → t.hp p = s.hp p := by
  obtain ⟨hop, -, -, hcls, hcode, -⟩ := State.begins_spec hb
  obtain ⟨hfields, hout, hin⟩ := s.fieldsOff_fields op
  have hopu : (s.rampedDown o op).op? o = some (op.begunAs (.hfield false)) :=
    (State.advance_op_acc _ _ o).trans (State.op?_beginOp ((hfields.op? o).trans hop) _)
  have hbegun : s.airFrame ((s.fieldsOff op).beginOp o (.hfield false)) := State.airFrame.trans (t := s.fieldsOff op) hfields.airFrame rfl
  have hframe : s.airFrame (s.rampedDown o op) := hbegun.trans (State.advance_airFrame _ _)
  have hthreads : (s.rampedDown o op).threads = s.threads := (State.advance_threads _ _).trans hfields.threads
  have hcls' : (op.begunAs (.hfield false)).cls = 1 := hcls
  obtain ⟨hdone, honly, hair⟩ := State.quiet_done hopu hp nofun hframe hthreads hd (status := 0) (by decide)
  have hhp (p : HPortNo) : (s.rampedDown o op).hp p = (s.fieldsOff op).hp p := State.advance_hp_acc _ _ p
  refine ⟨_, exec_hField_off hb hoff, hcode ▸ hdone, honly, hair, fun hruns => ?_, fun p hp' => ?_, fun p hp' => ?_⟩
  · have hticks : ((s.rampedDown o op).endOp o 0).ticks = (s.rampedDown o op).ticks :=
      ((State.SameRecords.refl _).endOp o (by decide)).ticks
    have hruns' : ((s.fieldsOff op).beginOp o (.hfield false)).tbRuns = true := hfields.tbRuns.trans hruns
    rw [← hfields.ticks]
    exact hticks.trans (congrArg State.ticks (if_pos hruns'))
  · obtain ⟨hspared, -⟩ := State.finishOp_hp (Op.isCal_of_hf hcls') (s.rampedDown o op) 0 p
    rw [hhp, hin p hp'] at hspared
    rw [← State.rampedDown, State.endOp_plain hopu hp]
    rcases hspared with h | h <;> rw [h] <;> exact ⟨rfl, rfl⟩
  · obtain ⟨-, hout'⟩ := State.finishOp_hp (Op.isCal_of_hf hcls') (s.rampedDown o op) 0 p
    rw [← State.rampedDown, State.endOp_plain hopu hp, hout' hp', hhp, hout p hp']

/-! ### H.ACTIVATE (R146) -/

/-- The progress an H.ACTIVATE begins with. -/
def State.actFirst (s : State) : ActSt := { exp := min 4 (s.fld HC_ACTCFG 8 3) }

/-- An H.ACTIVATE that has begun: its port taken, HC_ACTCFG read. -/
def State.actBegun (s : State) (o : OpId) (op : Op) : State :=
  ((s.hfTake op).beginOp o (.hactivate s.actFirst)).modOp o fun x => { x with cfg := s.reg HC_ACTCFG }

/-- The operation of an H.ACTIVATE that has begun. -/
def State.actOp (s : State) (op : Op) : Op :=
  { (s.taken op op).begunAs (.hactivate s.actFirst) with cfg := s.reg HC_ACTCFG }

theorem State.actBegun_hports (s : State) (o : OpId) (op : Op) : (s.actBegun o op).hports = (s.fieldsOn op).hports := by
  simp [State.actBegun, State.beginOp, State.hfTake_eq]

theorem State.actBegun_goes (hb : s.begins o 1 2 = some op) : s.HfGoes (s.actBegun o op) o op (s.actOp op) :=
  ((State.hfTake_goes hb).beginOp _).modOp (fun _ => rfl) rfl rfl rfl

theorem exec_hActivate (hb : s.begins o 1 2 = some op) :
    exec (.hActivate o) s = .next (if s.allLit op then (s.actBegun o op).actGo o s.actFirst else s.actBegun o op) := by
  have hop : (((s.hfTake op).beginOp o (.hactivate { exp := min 4 (s.fld HC_ACTCFG 8 3) })).modOp o
      fun x => { x with cfg := s.reg HC_ACTCFG }).op? o = some (s.actOp op) := (State.actBegun_goes hb).op?
  show execHActivate o s = _
  simp only [execHActivate, hb, hop, Option.any_some]
  rfl

/-- On fields that were on already an H.ACTIVATE sends its first request. -/
theorem hActivate_sends (hb : s.begins o 1 2 = some op) (hlit : s.allLit op = true) (hheld : op.held = [])
    (hmay : op.mayAsk s.actFirst) :
    ∃ (t : State) (x : Op), exec (.hActivate o) s = .next t ∧ s.HfGoes t o op x ∧ x.started = true ∧
      x.eng = .hactivate { s.actFirst with later := true } ∧ x.settled = true ∧ s.litFor t op ∧
      x.framed op ({ op with cfg := s.reg HC_ACTCFG }.actCmd 0 s.actFirst) (max s.ticks (s.gapOf op)) (op.actClose s.actFirst) := by
  have hgoes := State.actBegun_goes hb
  have hexec := exec_hActivate hb
  obtain ⟨x, hgoes', -, hports, hstart, hset, heng, hframed⟩ := hgoes.actGo hheld hmay
  rw [if_pos hlit] at hexec
  refine ⟨_, x, hexec, hgoes', hstart, heng, hset.trans hlit,
    (s.fieldsOn_lit op).of_hports (hports.trans (s.actBegun_hports o op)), ?_⟩
  have hcmd : (s.actOp op).actCmd ((s.actBegun o op).reg HC_ATTRIB) s.actFirst =
      { op with cfg := s.reg HC_ACTCFG }.actCmd 0 s.actFirst :=
    Op.actCmd_congr rfl rfl fun h => nomatch (h : ActStep.request = .attrib)
  rw [hcmd, hgoes.ticks, State.gapOf_of_hports (s.actBegun_hports o op), s.fieldsOn_gapOf] at hframed
  exact hframed

/-! ### H.FRAME (R147) -/

/-- An H.FRAME that has begun: its port taken, its frame made. -/
def State.frameBegun (s : State) (o : OpId) (op : Op) : State :=
  ((s.hfTake op).beginOp o (.hframe true)).modOp o fun x => { x with cmd := s.frameCmd op }

/-- The operation of an H.FRAME that has begun. -/
def State.frameOp (s : State) (op : Op) : Op := { (s.taken op op).begunAs (.hframe true) with cmd := s.frameCmd op }

theorem State.frameBegun_hports (s : State) (o : OpId) (op : Op) : (s.frameBegun o op).hports = (s.fieldsOn op).hports := by
  simp [State.frameBegun, State.beginOp, State.hfTake_eq]

theorem State.frameBegun_goes (hb : s.begins o 1 3 = some op) : s.HfGoes (s.frameBegun o op) o op (s.frameOp op) :=
  ((State.hfTake_goes hb).beginOp _).modOp (fun _ => rfl) rfl rfl rfl

theorem exec_hFrame (hb : s.begins o 1 3 = some op) :
    exec (.hFrame o false) s = .next (if s.allLit op then (s.frameBegun o op).hfSend op (s.frameCmd op) (op.w 6).toNat
      else s.frameBegun o op) := by
  have hop : (((s.hfTake op).beginOp o (.hframe true)).modOp o fun x => { x with cmd := s.frameCmd op }).op? o =
      some (s.frameOp op) := (State.frameBegun_goes hb).op?
  show execHFrame o false s = _
  simp only [execHFrame, hb, hop, Option.any_some, Bool.false_eq_true, if_false]
  rfl

/-- An H.FRAME takes its port; on a field that was on already it sends its frame. -/
theorem hFrame_begins (hb : s.begins o 1 3 = some op) :
    ∃ (t : State) (x : Op), exec (.hFrame o false) s = .next t ∧ s.HfGoes t o op x ∧ x.started = true ∧
      x.eng = .hframe true ∧ x.settled = s.allLit op ∧ s.litFor t op ∧ x.cmd = s.frameCmd op ∧
      (s.allLit op = true → x.framed op (s.frameCmd op) (max s.ticks (s.gapOf op)) (op.w 6).toNat) := by
  have hgoes := State.frameBegun_goes hb
  have hexec := exec_hFrame hb
  obtain ⟨hop, -⟩ := State.begins_spec hb
  cases hlit : s.allLit op with
  | false =>
    rw [hlit, if_neg Bool.false_ne_true] at hexec
    exact ⟨_, _, hexec, hgoes, rfl, rfl, hlit, (s.fieldsOn_lit op).of_hports (s.frameBegun_hports o op), rfl, fun h => absurd h Bool.false_ne_true⟩
  | true =>
    rw [if_pos hlit] at hexec
    refine ⟨_, _, hexec, hgoes.hfSend (State.op?_id hop) _ _, rfl, rfl, hlit, (s.fieldsOn_lit op).of_hports (s.frameBegun_hports o op), rfl, fun _ => ?_⟩
    refine State.framing_framed (op := op) rfl rfl ?_ rfl _
    rw [State.gapOf_of_hports (s.frameBegun_hports o op), s.fieldsOn_gapOf, hgoes.ticks]

/-- Bytes that fail their parity check are not sent: the operation completes REJECT and DMEM is raised (R321). -/
theorem hFrame_rejects (hb : s.begins o 1 3 = some op) (hwf : s.regsWf) (hp : op.plain) (hd : (s.slot o).discard = false) :
    ∃ t : State, exec (.hFrame o true) s = .next t ∧ t.doneAs o op.words 3 0x0D ∧ (t.reg FLT_STATUS).getLsbD 6 = true ∧
      ∀ p, (t.hp p).field = (s.hp p).field := by
  obtain ⟨hop, -, -, hcls, hcode, -⟩ := State.begins_spec hb
  generalize hu : s.fault 6 o.thread.val 0 = u
  have hopu : u.op? o = some op := by rw [← hu, State.fault_op_acc, hop]
  have hdu : (u.slot o).discard = false := by
    obtain ⟨e, m, hth⟩ := s.fault_th 6 o.thread.val 0 o.thread
    rw [← hu, State.slot, hth]
    exact hd
  have hstatus : (u.reg FLT_STATUS).getLsbD 6 = true := by
    rw [← hu, State.fault_status hwf, BitVec.getLsbD_or, getLsbD_flagW_same (by decide), Bool.or_true]
  have hexec : exec (.hFrame o true) s = .next (u.finishOp op 0x0D) := by
    show execHFrame o true s = _
    simp only [execHFrame, hb, if_true, hu, State.endOp_plain hopu hp]
  obtain ⟨hdone, -⟩ := State.finishOp_ticket (State.op?_id hopu) hdu (status := 0x0D) (by decide)
  refine ⟨_, hexec, hcode ▸ hdone, ?_, fun p => ?_⟩
  · rw [State.finishOp_reg (Op.uports_of_hf hcls) (by decide)]
    exact hstatus
  · have hhp : u.hp p = s.hp p := by rw [← hu, State.fault_hp_acc]
    obtain ⟨hspared, -⟩ := State.finishOp_hp (Op.isCal_of_hf hcls) u 0x0D p
    rw [hhp] at hspared
    rcases hspared with h | h <;> rw [h]
    rfl

/-! ### H.WATCH and REBASE (R152) -/

/-- The next scan of a port sets its baseline. -/
def HPort.rebased (x : HPort) : HPort := { x with needBase := true }

/-- The fields of an H.WATCH off, the baselines of its ports due. -/
def State.watchReady (s : State) (op : Op) : State :=
  op.hports.foldl (fun (v : State) p => (v.hfTurnOff p).modHp p HPort.rebased) s

theorem State.modHp_modHp (s : State) (p : HPortNo) (f g : HPort → HPort) : (s.modHp p f).modHp p g = s.modHp p (g ∘ f) := by
  simp [State.modHp, State.hp, vset]

theorem State.watchReady_fields (s : State) (op : Op) : s.Fields (s.watchReady op) ∧
    (∀ p, p ∉ op.hports → (s.watchReady op).hp p = s.hp p) ∧
    ∀ p ∈ op.hports, (s.watchReady op).hp p = (s.hp p).unlit.rebased := by
  have hstep : (fun (v : State) p => (v.hfTurnOff p).modHp p HPort.rebased) = fun (v : State) p => v.modHp p (HPort.rebased ∘ HPort.unlit) :=
    funext fun v => funext fun p => v.modHp_modHp p HPort.unlit HPort.rebased
  rw [State.watchReady, hstep]
  exact State.Fields.foldl_modHp (g := fun _ => HPort.rebased ∘ HPort.unlit) (fun _ _ => rfl) op.nodup_hports

theorem exec_hWatch (hb : s.begins o 1 4 = some op) :
    exec (.hWatch o) s = .next (((s.watchReady op).beginOp o (.hwatch 0 0)).modOp o fun x =>
      { x with cmdFrom := (s.watchReady op).ticks }) := by
  show execHWatch o s = _
  simp only [execHWatch, hb]
  rfl

/-- H.WATCH turns its ports' fields off; its scans count from now, and the first sets the baselines. -/
theorem hWatch_begins (hb : s.begins o 1 4 = some op) :
    ∃ (t : State) (x : Op), exec (.hWatch o) s = .next t ∧ s.HfGoes t o op x ∧ x.started = true ∧ x.eng = .hwatch 0 0 ∧
      x.cmdFrom = s.ticks ∧ ∀ p ∈ op.hports, (t.hp p).field = false ∧ (t.hp p).level = 0 ∧ (t.hp p).needBase = true := by
  obtain ⟨hop, hact, -⟩ := State.begins_spec hb
  obtain ⟨hfields, hout, hin⟩ := s.watchReady_fields op
  refine ⟨_, _, exec_hWatch hb, ((hfields.goes hop hact hout).beginOp _).modOp (fun _ => rfl) rfl rfl rfl, rfl, rfl, hfields.ticks,
    fun p hp => ?_⟩
  rw [State.modOp_hp_acc, State.beginOp, State.modOp_hp_acc, hin p hp]
  exact ⟨rfl, rfl, rfl⟩

/-- A write of HC_WATCHCFG with REBASE has the next scan of every port set its baseline. -/
theorem rebase_all (s : State) (v : Word) :
    ∃ t : State, exec (.rebase v) s = .next t ∧ t = { s with regs := t.regs, hports := t.hports } ∧
      ∀ p, t.hp p = (s.hp p).rebased := by
  have honly := s.writeFields_only HC_WATCHCFG (v ||| 1)
  obtain ⟨hfields, -, hin⟩ := State.Fields.foldl_modHp (s := s.writeFields HC_WATCHCFG (v ||| 1)) (g := fun _ => HPort.rebased)
    (fun _ _ => rfl) (List.nodup_finRange 8)
  refine ⟨_, congrArg Host.Outcome.next (if_pos (bit_or_one v)), ?_, fun p => (hin p (List.mem_finRange p)).trans ?_⟩
  · exact hfields.only.trans (congrArg (fun w : State => { w with
      regs := (hpAll.foldl (fun (v : State) p => v.modHp p HPort.rebased) (s.writeFields HC_WATCHCFG (v ||| 1))).regs
      hports := (hpAll.foldl (fun (v : State) p => v.modHp p HPort.rebased) (s.writeFields HC_WATCHCFG (v ||| 1))).hports }) honly)
  · rw [honly]
    rfl

end Sys2Proof.Machine

/-- Settles O22, one command at a time: each turns the fields of its ports in one fold, begins its operation and, where the
fields were on already, sends a frame. The REJECT of a frame with a parity error is R321. -/
theorem hfOperationsTurnFieldsOn : Obligations.HfOperationsTurnFieldsOn := by
  unfold Obligations.HfOperationsTurnFieldsOn
  intro s o op hwf hp hd on begun allOn first start frame
  have hbegun {c : Instr} {post : State → Op → Prop} {t : State} {x : Op} (hexec : exec c s = .next t) (hgoes : s.HfGoes t o op x)
      (hstart : x.started = true) (hpost : post t x) : begun c post :=
    ⟨t, x, hexec, hgoes.only, hgoes.op?, hgoes.active, hstart, hgoes.desc, hgoes.words, hgoes.others, hpost⟩
  refine ⟨fun hb hbit => ?_, fun hb hbit => hField_off hb hbit hp hd, fun hb hlit => ?_, fun hb hlit hmay => ?_, fun hb => ?_,
    fun hb => hFrame_rejects hb hwf hp hd, fun hb => ?_, rebase_all s⟩
  · obtain ⟨t, x, hexec, hgoes, hstart, heng, hfrom, hpost⟩ := hField_on hb hbit
    exact hbegun hexec hgoes hstart ⟨heng, ticksOf_eq _ ▸ hfrom, hpost⟩
  · have hexec := exec_hActivate hb
    rw [show s.allLit op = false from hlit, if_neg Bool.false_ne_true] at hexec
    exact hbegun hexec (State.actBegun_goes hb) rfl ⟨rfl, hlit, (s.fieldsOn_lit op).of_hports (s.actBegun_hports o op)⟩
  · obtain ⟨t, x, hexec, hgoes, hstart, hpost⟩ := hActivate_sends hb hlit hp.1 hmay
    exact hbegun hexec hgoes hstart hpost
  · obtain ⟨t, x, hexec, hgoes, hstart, hpost⟩ := hFrame_begins hb
    exact hbegun hexec hgoes hstart hpost
  · obtain ⟨t, x, hexec, hgoes, hstart, hpost⟩ := hWatch_begins hb
    exact hbegun hexec hgoes hstart hpost
end

section
/-! PROOF. An item of two words that an operation writes to its ring (R38, R61, R186, R187), and one that passes LIMIT (R61). -/

open Sys2Proof Sys2Proof.Machine

namespace Sys2Proof.Machine

variable {s t u : State} {o : OpId} {op x : Op} {n : RingNo} {p : Producer} {w w' : RWord}

/-! ### One word -/

/-- A crossing of a watermark touches no ring and no configuration. -/
theorem State.watermark_kept (s : State) (n : RingNo) (old new : Nat) :
    (s.watermark n old new).rings = s.rings ∧ ∀ m, (s.watermark n old new).reg (RG_CFG m) = s.reg (RG_CFG m) := by
  unfold State.watermark
  dsimp only
  split
  · refine ⟨State.raiseRouted_rings _ _, fun m => ?_⟩
    rw [State.raiseRouted_reg_acc, State.reg_countFld_other _ (by unfold RG_CFG RG_CNT; omega),
      State.reg_setFlag_other _ (by unfold RG_CFG RG_FLAGS; omega)]
  · exact ⟨rfl, fun _ => rfl⟩

/-- A word appended touches nothing of its ring but the words, and no configuration. -/
theorem State.appendWord_kept (s : State) (n : RingNo) (w : RWord) :
    (s.appendWord n w).ring n = { s.ring n with words := (s.ring n).words ++ [{ w with v := true, tick := s.ticks }] } ∧
    ∀ m, (s.appendWord n w).reg (RG_CFG m) = s.reg (RG_CFG m) := by
  unfold State.appendWord
  dsimp only
  generalize (s.ring n).words.length = k
  obtain ⟨hrings, hcfg⟩ := State.watermark_kept (s.modRing n fun r =>
    { r with words := r.words ++ [{ w with v := true, tick := s.ticks }] }) n k (k + 1)
  refine ⟨?_, fun m => (hcfg m).trans rfl⟩
  rw [State.ring, hrings]
  exact State.ring_modRing_same s n _

theorem State.malform_if_kept (s : State) (n : RingNo) (c : Bool) : (if c then s.malform n else s).ring n = s.ring n ∧
    ∀ m, (if c then s.malform n else s).reg (RG_CFG m) = s.reg (RG_CFG m) := by
  split
  · exact ⟨rfl, fun m => State.reg_setFlag_other s (by unfold RG_CFG RG_FLAGS; omega)⟩
  · exact ⟨rfl, fun _ => rfl⟩

/-- The first word of an item of several is appended to a ring on which the item stands open for its producer, whose orphan
drop is over (R186, R191). -/
theorem State.putFirst_opens (he : w.e = false) (s : State) (n : RingNo) (p : Producer) :
    ∃ u : State, s.putFirst n p w = u.appendWord n w ∧
      u.ring n = { s.ring n with
        open_ := some ⟨p, itemLength w.data, 1⟩, orphans := (s.ring n).orphans.filter (·.by_ != p) } ∧
      ∀ m, u.reg (RG_CFG m) = s.reg (RG_CFG m) := by
  unfold State.putFirst
  extract_lets s1 s2 len s3 s4
  obtain ⟨hring1, hcfg1⟩ : s1.ring n = s.ring n ∧ ∀ m, s1.reg (RG_CFG m) = s.reg (RG_CFG m) := s.malform_if_kept n _
  obtain ⟨hring4, hcfg4⟩ : s4.ring n = s3.ring n ∧ ∀ m, s4.reg (RG_CFG m) = s3.reg (RG_CFG m) := s3.malform_if_kept n _
  have h3 : s3 = (s1.endOrphan n p).modRing n fun r => { r with open_ := some ⟨p, len, 1⟩ } := if_neg (by simp [he])
  refine ⟨s4, rfl, ?_, fun m => ?_⟩
  · rw [hring4, h3, State.ring_modRing_same, State.endOrphan, State.ring_modRing_same, hring1]
  · rw [hcfg4, h3, ← hcfg1]
    rfl

/-- The first word of an item of several opens it on its ring. -/
theorem State.ringPut_opens (hs : w.s = true) (he : w.e = false) (horph : (s.ring n).orphans = []) :
    ((s.ringPut n p w).ring n).open_ = some ⟨p, itemLength w.data, 1⟩ ∧ ((s.ringPut n p w).ring n).orphans = [] ∧
    ∀ m, (s.ringPut n p w).reg (RG_CFG m) = s.reg (RG_CFG m) := by
  obtain ⟨u, hput, hring, hcfg⟩ := State.putFirst_opens he s n p
  obtain ⟨hword, hcfg'⟩ := State.appendWord_kept u n w
  rw [State.ringPut, if_pos hs, hput, hword, hring, horph]
  exact ⟨rfl, rfl, fun m => (hcfg' m).trans (hcfg m)⟩

/-- A word that its ring stores and has room for is written, and the rest follows (R187). -/
theorem State.drainItem_stores (hon : s.ringOn n = true) (hst : s.airStores n o w = true) (hroom : s.ringRoom n ≠ 0)
    (hopen : w.s = true → s.openByOther n (.air o) = false) (ws : List RWord) :
    s.drainItem n o (w :: ws) = ((s.ringPut n (.air o) w).modOp o fun x => x.place true w).drainItem n o ws := by
  rw [State.drainItem, hon, hst, if_neg (by decide)]
  dsimp only
  rw [if_neg]
  rintro (⟨-, h⟩ | ⟨hs, h⟩)
  · exact hroom h
  · rw [hopen hs] at h
    exact Bool.false_ne_true h

/-! ### Two words -/

/-- An operation whose item of two words is written to its ring. -/
def Op.placedTwo (x : Op) (w w' : RWord) : Op := (x.place true w).place true w'

/-- An item of two words stands last on its ring; the other rings and every ticket slot are the same. -/
structure State.TwoStored (s t : State) (n : RingNo) (w w' : RWord) : Prop where
  words : (t.ring n).words =
    (s.ring n).words ++ [{ w with v := true, tick := s.ticks }, { w' with v := true, tick := s.ticks }]
  others : ∀ m, m ≠ n → t.ring m = s.ring m
  slots : ∀ o, t.slot o = s.slot o

theorem Thread.Signalled.slots {x y : Thread} (h : x.Signalled y) : y.slots = x.slots := by
  obtain ⟨e, m, hy, -⟩ := h
  rw [hy]

/-- An enabled ring with room for two words and no item open takes an item of two words whole. -/
theorem State.drainItem_two (hop : s.op? o = some x) (hon : s.ringOn n = true) (hroom : 2 ≤ s.ringRoom n)
    (hopen : (s.ring n).open_ = none) (horph : (s.ring n).orphans = []) (hs : w.s = true) (he : w.e = false)
    (hs' : w'.s = false) :
    ∃ t, s.drainItem n o [w, w'] = (t, []) ∧ t.op? o = some (x.placedTwo w w') ∧ s.TwoStored t n w w' := by
  have hfree : s.openByOther n (.air o) = false := by simp [State.openByOther, hopen]
  obtain ⟨hwords, hothers, -, hops, hthreads⟩ := State.ringPut_stored (s := s) (n := n) (p := .air o) (w := w) (by simp [hs, hfree])
  obtain ⟨hopen1, horph1, hcfg⟩ := State.ringPut_opens (p := .air o) hs he horph
  have hticks : (s.ringPut n (.air o) w).ticks = s.ticks := ((State.SameRecords.refl s).ringPut n _ w).ticks
  let v := (s.ringPut n (.air o) w).modOp o fun x => x.place true w
  have hopenv : v.openBy n (.air o) = true := by
    show ((s.ringPut n (.air o) w).openBy n (.air o)) = true
    simp [State.openBy, hopen1]
  have horphv : v.orphan n (.air o) = none := by
    show ((s.ringPut n (.air o) w).orphan n (.air o)) = none
    simp [State.orphan, horph1]
  obtain ⟨hwords', hothers', -, hops', hthreads'⟩ :=
    State.ringPut_stored (s := v) (n := n) (p := .air o) (w := w') (by simp [hs', hopenv, horphv])
  have hopv : v.op? o = some (x.place true w) := by
    refine State.op?_modOp (f := fun x => x.place true w) ?_ fun y => ?_
    · rw [State.op?, hops]
      exact hop
    · unfold Op.place
      dsimp only
      split <;> rfl
  have hroomv : v.ringRoom n ≠ 0 := by
    have hcap : v.ringCap n = s.ringCap n := congrArg (fun k => 16 * 2 ^ k) (State.fld_congr (hcfg n) 27 4)
    have hlen : (v.ring n).words.length = (s.ring n).words.length + 1 := by
      rw [show (v.ring n).words = _ from hwords, List.length_append, List.length_singleton]
    unfold State.ringRoom at hroom ⊢
    omega
  refine ⟨(v.ringPut n (.air o) w').modOp o fun x => x.place true w', ?_, ?_, ?_, fun m hm => ?_, fun q => ?_⟩
  · rw [State.drainItem_stores hon (by simp [State.airStores, hs]) (by omega) fun _ => hfree,
      State.drainItem_stores ?_ (by simp [State.airStores, hopenv, horphv]) hroomv fun h => absurd (hs'.symm.trans h) (by decide)]
    · rfl
    · exact (congrArg (bit · 31) (hcfg n)).trans hon
  · refine State.op?_modOp (f := fun x => x.place true w') ?_ fun y => ?_
    · rw [State.op?, hops']
      exact hopv
    · unfold Op.place
      dsimp only
      split <;> rfl
  · have hticksv : v.ticks = s.ticks := hticks
    show ((v.ringPut n (.air o) w').ring n).words = _
    rw [hwords', hticksv, show (v.ring n).words = _ from hwords, List.append_assoc]
    rfl
  · exact (hothers' m hm).trans (hothers m hm)
  · have hslots : ((v.ringPut n (.air o) w').th q.thread).slots = (s.th q.thread).slots :=
      (hthreads' q.thread).slots.trans (hthreads q.thread).slots
    exact congrArg (fun k : Vector Slot 16 => k[q.slot]) hslots

/-! ### Items of an operation -/

/-- An item of two words on a ring that takes it whole: WORDS counts the two (R38). -/
theorem State.emit_two (hop : s.op? o = some x) (hmem : x.mem = false) (hheld : x.held = []) (hon : s.ringOn x.egress = true)
    (hroom : 2 ≤ s.ringRoom x.egress) (hopen : (s.ring x.egress).open_ = none) (horph : (s.ring x.egress).orphans = [])
    {type status : Nat} {body hdr : RWord} (hitem : mkItem o type status [body] = [hdr, { body with e := true }])
    (hs : hdr.s = true) (he : hdr.e = false) (hs' : body.s = false) :
    ∃ y, (s.emit o type status [body]).op? o = some y ∧ y = { x with
        words := x.words + (x.part + 2), part := y.part, held := [], items := y.items, okItems := y.okItems } ∧
      s.TwoStored (s.emit o type status [body]) x.egress hdr { body with e := true } := by
  obtain ⟨t, hdrain, hopt, hwords, hothers, hslots⟩ :=
    State.drainItem_two (w' := { body with e := true }) hop hon hroom hopen horph hs he hs'
  have hemit : s.emit o type status [body] = t.modOp o fun y =>
      { y with held := [], items := y.items + 1, okItems := y.okItems + if status = 0 then 1 else 0 } := by
    simp [State.emit, hop, hmem, hheld, hitem, hdrain]
  rw [hemit]
  refine ⟨_, State.op?_modOp hopt fun _ => rfl, ?_, hwords, hothers, hslots⟩
  simp [Op.placedTwo, Op.place, he]

theorem closeItem_length (ws : List RWord) : (closeItem ws).length = ws.length := by
  induction ws with
  | nil => rfl
  | cons w ws ih =>
    cases ws with
    | nil => rfl
    | cons v vs => exact congrArg (· + 1) ih

theorem mkItem_length (o : OpId) (type status : Nat) (body : List RWord) : (mkItem o type status body).length = body.length + 1 :=
  closeItem_length _

/-- An item that would pass LIMIT in thread memory is written nowhere (R61). -/
theorem State.emit_limit (hop : s.op? o = some x) (hmem : x.mem = true) {body : List RWord}
    (hlimit : x.limit < x.memWords + (body.length + 1)) (type status : Nat) :
    s.emit o type status body = s.modOp o fun x => { x with limitHit := true } := by
  simp [State.emit, hop, hmem, mkItem_length, hlimit]

end Sys2Proof.Machine
end

section
/-! PROOF. The exchanges of the HF cluster: settles, replies and the close of the window (R136, R143, R144, R146, R147). -/

open Sys2Proof Sys2Proof.Machine

namespace Sys2Proof.Machine

variable {s t u v : State} {o : OpId} {op x : Op} {a : ActSt} {dt : Nat} {r : HfReply} {bs : List Byte} {cut : Bool}

/-! ### After some time -/

theorem State.advance_only (s : State) (n : Nat) : s.advance n = { s with ticks := (s.advance n).ticks, tb := (s.advance n).tb } := by
  unfold State.advance
  split <;> rfl

/-- An operation that goes on after some time: beside time, operations and HF ports nothing has changed. -/
structure State.HfLater (s t : State) (o : OpId) (op x : Op) : Prop where
  only : t = { s with ticks := t.ticks, tb := t.tb, ops := t.ops, hports := t.hports }
  op? : t.op? o = some x
  active : x.active = true
  desc : x.desc = op.desc
  words : x.words = op.words

theorem State.HfGoes.later {n : Nat} (h : (s.advance n).HfGoes t o op x) (hregs : t.regs = s.regs) : s.HfLater t o op x := by
  refine ⟨?_, h.op?, h.active, h.desc, h.words⟩
  have hadv := congrArg (fun v : State => { v with regs := t.regs, ops := t.ops, hports := t.hports }) (s.advance_only n)
  have hboth := h.only.trans hadv
  rw [hregs] at hboth
  rw [h.only]
  exact h.only.symm.trans hboth

/-- An HF operation that runs, with nothing held, no end item and no cancellation. -/
structure State.HfRuns (s : State) (o : OpId) (op : Op) : Prop where
  running : s.running o = some op
  plain : op.plain
  discard : (s.slot o).discard = false
  cancel : op.cancel = false

theorem State.HfRuns.op? (h : s.HfRuns o op) : s.op? o = some op := State.op?_of_running h.running

theorem State.HfRuns.id (h : s.HfRuns o op) : op.id = o := State.op?_id h.op?

theorem State.HfRuns.held (h : s.HfRuns o op) : op.held = [] := by
  obtain ⟨hheld, -⟩ := h.plain
  exact hheld

/-- It still stands in its ticket after some time. -/
theorem State.HfRuns.goes (h : s.HfRuns o op) (n : Nat) : (s.advance n).HfGoes (s.advance n) o op op := by
  obtain ⟨hop, hact, -⟩ := State.running_spec h.running
  exact (State.Fields.refl _).goes ((State.advance_op_acc s n o).trans hop) hact fun _ _ => rfl

/-- The command completes the operation with a status. -/
def State.hfEnds (s : State) (c : Instr) (o : OpId) (op : Op) (status : Nat) : Prop :=
  ∃ t : State, exec c s = .next t ∧ t.doneAs o op.words op.code status ∧ s.onlySlot t o ∧ s.airFrame t

/-- A command ends the operation from a state in which it has changed in nothing that its completion rests on. -/
theorem State.HfRuns.ends {c : Instr} {status : Nat} (h : s.HfRuns o op) (hop : u.op? o = some x) (hheld : x.held = [])
    (hitem : x.endItem = op.endItem) (hend : x.ending = op.ending) (hwords : x.words = op.words) (hcode : x.code = op.code)
    (hq : x.quiet) (hframe : s.airFrame u) (hthreads : u.threads = s.threads) (hs : status < 256)
    (hexec : exec c s = .next (u.endOp o status)) : s.hfEnds c o op status := by
  obtain ⟨-, hitem', hend'⟩ := h.plain
  have hdone := State.quiet_done hop ⟨hheld, hitem.trans hitem', hend.trans hend'⟩ hq hframe hthreads h.discard hs
  rw [hwords, hcode] at hdone
  exact ⟨_, hexec, hdone⟩

/-! ### The field has settled (R136, R137) -/

/-- A settled H.FIELD completes OK. -/
theorem hfFieldSettled_completes (h : s.HfRuns o op) (heng : op.eng = .hfield true) : s.hfEnds (.hfFieldSettled o) o op 0x00 := by
  have hexec : exec (.hfFieldSettled o) s = .next ((s.advanceTo op.cmdFrom).endOp o 0x00) := by
    show execHfFieldSettled o s = _
    simp only [execHfFieldSettled, h.running, heng]
  have hq : op.quiet := fun k f hk => by cases heng.symm.trans hk
  exact h.ends (h.goes _).op? h.held rfl rfl rfl rfl hq (s.advance_airFrame _) (State.advance_threads s _) (by decide) hexec

/-- An operation whose port has settled. -/
def Op.ready (x : Op) : Op := { x with settled := true }

/-- An H.FRAME whose field has settled sends its frame. -/
theorem hfFieldSettled_frame (h : s.HfRuns o op) (heng : op.eng = .hframe true) (hset : op.settled = false) :
    ∃ (t : State) (x : Op), exec (.hfFieldSettled o) s = .next t ∧ s.HfLater t o op x ∧ x.settled = true ∧ x.eng = op.eng ∧
      x.framed op op.cmd (max (s.advanceTo op.cmdFrom).ticks (s.gapOf op)) (op.w 6).toNat := by
  have hexec : exec (.hfFieldSettled o) s =
      .next (((s.advanceTo op.cmdFrom).modOp o Op.ready).hfSend op op.cmd (op.w 6).toNat) := by
    show execHfFieldSettled o s = _
    simp only [execHfFieldSettled, h.running, heng, hset]
    rfl
  have hgoes : (s.advanceTo op.cmdFrom).HfGoes ((s.advanceTo op.cmdFrom).modOp o Op.ready) o op op.ready :=
    (h.goes _).modOp (fun _ => rfl) rfl rfl rfl
  refine ⟨_, _, hexec, (hgoes.hfSend h.id _ _).later (State.advanceTo_regs s _), rfl, rfl, ?_⟩
  refine State.framing_framed (op := op) rfl rfl ?_ rfl _
  have hports : ((s.advanceTo op.cmdFrom).modOp o Op.ready).hports = s.hports := State.advanceTo_hports s _
  rw [State.gapOf_of_hports hports, State.modOp_ticks]

/-- An H.ACTIVATE that may go on from after some time has the command of its step on the air. -/
theorem State.HfRuns.asks {n : Nat} (h : (s.advance n).HfGoes t o op x) (hregs : t.regs = s.regs) (hheld : x.held = [])
    (hcfg : x.cfg = op.cfg) (hmay : x.mayAsk a) :
    ∃ y, s.HfLater (t.actGo o a) o op y ∧ y.settled = x.settled ∧ y.eng = .hactivate a.asked ∧
      y.framed op (op.actCmd (s.reg HC_ATTRIB) a) (max t.ticks (t.gapOf op)) (op.actClose a) := by
  obtain ⟨y, hgoes, hregs', -, -, hset, heng, hframed⟩ := h.actGo hheld hmay
  have hattrib : t.reg HC_ATTRIB = s.reg HC_ATTRIB := by rw [State.reg, hregs, State.reg]
  rw [Op.actCmd_congr h.desc hcfg fun _ => hattrib] at hframed
  exact ⟨y, hgoes.later (hregs'.trans hregs), hset, heng, hframed⟩

/-- An H.ACTIVATE whose field has settled sends its first request. -/
theorem hfFieldSettled_activate (h : s.HfRuns o op) (heng : op.eng = .hactivate a) (hset : op.settled = false) (hmay : op.mayAsk a) :
    ∃ (t : State) (x : Op), exec (.hfFieldSettled o) s = .next t ∧ s.HfLater t o op x ∧ x.settled = true ∧
      x.eng = .hactivate a.asked ∧
      x.framed op (op.actCmd (s.reg HC_ATTRIB) a) (max (s.advanceTo op.cmdFrom).ticks (s.gapOf op)) (op.actClose a) := by
  have hexec : exec (.hfFieldSettled o) s = .next (((s.advanceTo op.cmdFrom).modOp o Op.ready).actGo o a) := by
    show execHfFieldSettled o s = _
    simp only [execHfFieldSettled, h.running, heng, hset]
    rfl
  have hgoes : (s.advanceTo op.cmdFrom).HfGoes ((s.advanceTo op.cmdFrom).modOp o Op.ready) o op op.ready :=
    (h.goes _).modOp (fun _ => rfl) rfl rfl rfl
  obtain ⟨y, hlater, hset', heng', hframed⟩ := State.HfRuns.asks hgoes (State.advanceTo_regs s _) h.held rfl hmay
  have hports : ((s.advanceTo op.cmdFrom).modOp o Op.ready).hports = s.hports := State.advanceTo_hports s _
  rw [State.gapOf_of_hports hports, State.modOp_ticks] at hframed
  exact ⟨_, y, hexec, hlater, hset', heng', hframed⟩

/-! ### The window closes (R143, R146, R147) -/

/-- An operation that awaits no reply. -/
def Op.unasked (x : Op) : Op := { x with winFrom := none }

/-- The state in which an operation's window has closed. -/
def State.closed (s : State) (o : OpId) (op : Op) : State := (s.advanceTo op.winTo).modOp o Op.unasked

theorem State.HfRuns.closed (h : s.HfRuns o op) : (s.advanceTo op.winTo).HfGoes (s.closed o op) o op op.unasked :=
  (h.goes _).modOp (fun _ => rfl) rfl rfl rfl

theorem State.closed_airFrame (s : State) (o : OpId) (op : Op) : s.airFrame (s.closed o op) :=
  State.airFrame.trans (t := s.advanceTo op.winTo) (s.advance_airFrame _) rfl

theorem State.closed_threads (s : State) (o : OpId) (op : Op) : (s.closed o op).threads = s.threads := State.advanceTo_threads s _

theorem exec_windowClose_frame (h : s.HfRuns o op) (heng : op.eng = .hframe true) (hwin : op.winFrom ≠ none) :
    exec (.hfReplyWindowClose o) s = .next
      ((if op.failItems then (s.closed o op).emit o 0x11 0x01 [rword 0] else s.closed o op).endOp o 0x01) := by
  have hopen : op.winFrom.isNone = false := Option.isNone_eq_false_iff.mpr (Option.isSome_iff_ne_none.mpr hwin)
  show execHfReplyWindowClose o s = _
  simp only [execHfReplyWindowClose, h.running, hopen, heng, State.frameSilence, h.id, h.cancel, Bool.false_eq_true, if_false]
  rfl

theorem exec_windowClose_activate (h : s.HfRuns o op) (heng : op.eng = .hactivate a) (hwin : op.winFrom ≠ none) :
    exec (.hfReplyWindowClose o) s = .next ((s.closed o op).actSilence op a) := by
  have hopen : op.winFrom.isNone = false := Option.isNone_eq_false_iff.mpr (Option.isSome_iff_ne_none.mpr hwin)
  show execHfReplyWindowClose o s = _
  simp only [execHfReplyWindowClose, h.running, hopen, heng, Bool.false_eq_true, if_false]
  rfl

/-- An H.FRAME whose window closes completes NO_REPLY. -/
theorem windowClose_frame (h : s.HfRuns o op) (heng : op.eng = .hframe true) (hwin : op.winFrom ≠ none)
    (hfail : op.failItems = false) : s.hfEnds (.hfReplyWindowClose o) o op 0x01 := by
  have hexec := exec_windowClose_frame h heng hwin
  rw [hfail, if_neg Bool.false_ne_true] at hexec
  have hq : op.unasked.quiet := fun k f hk => by cases heng.symm.trans hk
  exact h.ends h.closed.op? h.held rfl rfl rfl rfl hq (s.closed_airFrame o op) (s.closed_threads o op) (by decide) hexec

/-- Under FAILITEMS its item of two words goes to its ring first. -/
theorem windowClose_item (h : s.HfRuns o op) (heng : op.eng = .hframe true) (hwin : op.winFrom ≠ none)
    (hfail : op.failItems = true) (hmem : op.mem = false) (hon : s.ringOn op.egress = true) (hroom : 2 ≤ s.ringRoom op.egress)
    (hopen : (s.ring op.egress).open_ = none) (horph : (s.ring op.egress).orphans = []) :
    ∃ t : State, exec (.hfReplyWindowClose o) s = .next t ∧ t.doneAs o (op.words + (op.part + 2)) op.code 0x01 ∧
      (t.ring op.egress).words = (s.ring op.egress).words ++
        [{ data := 2#16 ++ 0x11#8 ++ BitVec.ofNat 8 o.thread ++ BitVec.ofNat 8 o.slot ++ 0x01#8 ++ 0#16, v := true, s := true,
           tick := (s.advanceTo op.winTo).ticks },
         { data := 0, v := true, e := true, tick := (s.advanceTo op.winTo).ticks }] ∧
      ∀ m, m ≠ op.egress → t.ring m = s.ring m := by
  have hexec := exec_windowClose_frame h heng hwin
  rw [if_pos hfail] at hexec
  have hring (m : RingNo) : (s.closed o op).ring m = s.ring m := State.advanceTo_ring_acc s _ m
  have hreg (b : Nat) : (s.closed o op).reg b = s.reg b := State.advanceTo_reg_acc s _ b
  have hon' : (s.closed o op).ringOn op.egress = true := by rw [State.ringOn, hreg]; exact hon
  have hroom' : 2 ≤ (s.closed o op).ringRoom op.egress := by
    rw [State.ringRoom, State.ringCap, State.fld, hreg, hring]
    exact hroom
  obtain ⟨y, hopy, hy, hwords, hothers, hslots⟩ := State.emit_two (type := 0x11) (status := 0x01) (body := rword 0)
    h.closed.op? hmem h.held hon' hroom' (by rw [← hopen]; exact congrArg Ring.open_ (hring _))
    (by rw [← horph]; exact congrArg Ring.orphans (hring _)) rfl rfl rfl rfl
  have hplain : y.plain := by
    obtain ⟨-, hitem, hend⟩ := h.plain
    rw [hy]
    exact ⟨rfl, hitem, hend⟩
  have hd : (((s.closed o op).emit o 0x11 0x01 [rword 0]).slot o).discard = false := by
    rw [hslots, State.slot, State.th, State.closed_threads]
    exact h.discard
  obtain ⟨hdone, -⟩ := State.finishOp_ticket (State.op?_id hopy) hd (status := 0x01) (by decide)
  rw [show y.words = op.words + (op.part + 2) by rw [hy]; rfl, show y.code = op.code by rw [hy]; rfl] at hdone
  rw [State.endOp_plain hopy hplain] at hexec
  have hfin (m : RingNo) : (((s.closed o op).emit o 0x11 0x01 [rword 0]).finishOp y 0x01).ring m =
      ((s.closed o op).emit o 0x11 0x01 [rword 0]).ring m := congrArg (·[m]) (State.finishOp_rings _ _ _)
  refine ⟨_, hexec, hdone, ?_, fun m hm => ?_⟩
  · rw [hfin, ← hring]
    exact hwords
  · rw [hfin, ← hring m]
    exact hothers m hm

/-- A Type A request that drew no reply ends its H.ACTIVATE. -/
theorem windowClose_request (h : s.HfRuns o op) (heng : op.eng = .hactivate a) (hwin : op.winFrom ≠ none) (hproto : op.proto = 0)
    (hstep : a.step = .request) :
    s.hfEnds (.hfReplyWindowClose o) o op (if 0 < op.okItems then 0x00 else if a.replies then 0x03 else 0x01) := by
  have hop : ((s.closed o op).setEng o (.hactivate a)).op? o = some { op.unasked with eng := .hactivate a } :=
    (h.closed.setEng _).op?
  have hexec : exec (.hfReplyWindowClose o) s = .next (((s.closed o op).setEng o (.hactivate a)).endOp o (actStatus op.unasked a)) := by
    rw [exec_windowClose_activate h heng hwin]
    simp [State.actSilence, hproto, hstep, State.actEnd, h.id, h.closed.op?]
  have hstatus : actStatus op.unasked a = if 0 < op.okItems then 0x00 else if a.replies then 0x03 else 0x01 := by
    show (if op.cancel then _ else _) = _
    rw [h.cancel]
    rfl
  rw [hstatus] at hexec
  exact h.ends hop h.held rfl rfl rfl rfl nofun ((s.closed_airFrame o op).trans rfl) (s.closed_threads o op)
    (by split <;> [decide; split <;> decide]) hexec

/-- An empty slot, or a request of the other protocols that drew no reply, is followed by what comes next. -/
theorem windowClose_slot {b : ActSt} (h : s.HfRuns o op) (heng : op.eng = .hactivate a) (hwin : op.winFrom ≠ none)
    (hproto : op.proto ≠ 0) (hstep : a.step = .request ∨ a.step = .slot) (hnext : a.next op.proto = some b) (hmay : op.mayAsk b) :
    ∃ (t : State) (x : Op), exec (.hfReplyWindowClose o) s = .next t ∧ s.HfLater t o op x ∧ x.eng = .hactivate b.asked ∧
      x.framed op (op.actCmd (s.reg HC_ATTRIB) b) (max (s.advanceTo op.winTo).ticks (s.gapOf op)) (op.actClose b) := by
  have hexec : exec (.hfReplyWindowClose o) s = .next ((s.closed o op).actGo o b) := by
    rw [exec_windowClose_activate h heng hwin]
    rcases hstep with hstep | hstep <;> simp [State.actSilence, hstep, State.actNext, hnext, h.id]
  obtain ⟨y, hlater, -, heng', hframed⟩ := State.HfRuns.asks h.closed (State.advanceTo_regs s _) h.held rfl hmay
  have hports : (s.closed o op).hports = s.hports := State.advanceTo_hports s _
  rw [State.gapOf_of_hports hports] at hframed
  exact ⟨_, y, hexec, hlater, heng', hframed⟩

/-! ### A reply (R143, R144) -/

/-- What has come of a reply: its bytes and whether it was cut short, or nothing yet. -/
def State.received (s : State) (op : Op) (r : HfReply) : Option (List Byte × Bool) :=
  hfEnd op.proto (hfBytes op.proto r.bits).1 (s.ticks - replyStart r s.ticks) op.hfWait r.eof

/-- A reply from outside the window, and one still being received, change nothing but time. -/
theorem replyReceived_nothing (h : s.HfRuns o op)
    (hr : op.hfInside (replyStart r (s.advance dt).ticks) = false ∨ (s.advance dt).received op r = none) :
    exec (.hfReplyReceived o dt r) s = .next (s.advance dt) := by
  show execHfReplyReceived o dt r s = _
  rcases hr with hin | hnone
  · simp only [execHfReplyReceived, h.running, hin, Bool.not_false, if_true]
  · unfold State.received at hnone
    simp only [execHfReplyReceived, h.running, hnone]
    split <;> rfl

/-- The next frame on a port waits until a tick. -/
def HPort.heldOff (x : HPort) (n : Nat) : HPort := { x with gapTo := max x.gapTo n }

theorem State.hfHoldOff_fields (s : State) (op : Op) (n : Nat) : s.Fields (s.hfHoldOff op n) ∧
    (∀ p, p ∉ op.hports → (s.hfHoldOff op n).hp p = s.hp p) ∧ ∀ p ∈ op.hports, (s.hfHoldOff op n).hp p = (s.hp p).heldOff n :=
  State.Fields.foldl_modHp (g := fun _ x => x.heldOff n) (fun _ _ => rfl) op.nodup_hports

theorem State.hfHoldOff_regs (s : State) (op : Op) (n : Nat) : (s.hfHoldOff op n).regs = s.regs :=
  foldl_keeps State.regs (fun _ _ => by rfl) _ s

/-- Where the operation has a port, its gap is then at least that long. -/
theorem State.hfHoldOff_gapOf (hports : op.hports ≠ []) (s : State) (n : Nat) :
    (s.hfHoldOff op n).gapOf op = max (s.gapOf op) n := by
  obtain ⟨-, -, hin⟩ := s.hfHoldOff_fields op n
  unfold State.gapOf
  cases hp : op.hports with
  | nil => exact absurd hp hports
  | cons p ps => exact congrArg HPort.gapTo (hin p (by rw [hp]; exact List.mem_cons_self))

/-- The state in which a reply has been taken: the least gap runs, and no reply is awaited. -/
def State.replied (s : State) (o : OpId) (op : Op) (dt : Nat) : State :=
  ((s.advance dt).hfHoldOff op ((s.advance dt).ticks + 16 * hfGap op.proto (bits (op.w 4) 20 4))).modOp o Op.unasked

theorem State.HfRuns.replied (h : s.HfRuns o op) (dt : Nat) : (s.advance dt).HfGoes (s.replied o op dt) o op op.unasked := by
  obtain ⟨hop, hact, -⟩ := State.running_spec h.running
  obtain ⟨hfields, hout, -⟩ := (s.advance dt).hfHoldOff_fields op ((s.advance dt).ticks + 16 * hfGap op.proto (bits (op.w 4) 20 4))
  exact (hfields.goes ((State.advance_op_acc s dt o).trans hop) hact hout).modOp (fun _ => rfl) rfl rfl rfl

theorem State.replied_regs (s : State) (o : OpId) (op : Op) (dt : Nat) : (s.replied o op dt).regs = s.regs :=
  (State.hfHoldOff_regs _ op _).trans (State.advance_regs s dt)

theorem State.replied_threads (s : State) (o : OpId) (op : Op) (dt : Nat) : (s.replied o op dt).threads = s.threads :=
  (State.hfHoldOff_fields _ op _).1.threads.trans (State.advance_threads s dt)

theorem State.replied_airFrame (s : State) (o : OpId) (op : Op) (dt : Nat) : s.airFrame (s.replied o op dt) :=
  ((s.advance_airFrame dt).trans (State.hfHoldOff_fields _ op _).1.airFrame).trans rfl

/-- The progress of an H.ACTIVATE after an ATQA: the ANTICOLLISION with nothing known yet. -/
def ActSt.answered (a : ActSt) (card : List Byte) : ActSt :=
  { a with replies := true, drew := true, card := card, step := .anticoll, known := [] }

section
variable (h : s.HfRuns o op) (hin : op.hfInside (replyStart r (s.advance dt).ticks) = true)
  (hrec : (s.advance dt).received op r = some (bs, cut))
include h hin hrec

theorem exec_replyReceived_frame (heng : op.eng = .hframe true) :
    exec (.hfReplyReceived o dt r) s = .next ((s.replied o op dt).frameReply op r bs cut) := by
  unfold State.received at hrec
  show execHfReplyReceived o dt r s = _
  simp only [execHfReplyReceived, h.running, hin, hrec, heng, Bool.not_true, Bool.false_eq_true, if_false]
  rfl

theorem exec_replyReceived_activate (heng : op.eng = .hactivate a) :
    exec (.hfReplyReceived o dt r) s = .next ((s.replied o op dt).actReply op a r bs cut) := by
  unfold State.received at hrec
  show execHfReplyReceived o dt r s = _
  simp only [execHfReplyReceived, h.running, hin, hrec, heng, Bool.not_true, Bool.false_eq_true, if_false]
  rfl

/-- An H.FRAME completes with its reply, here one whose item passes LIMIT. -/
theorem replyReceived_frame (heng : op.eng = .hframe true) (hmem : op.mem = true) (hlimit : op.limit < op.memWords + 2) :
    s.hfEnds (.hfReplyReceived o dt r) o op
      (if r.poison then 0x0B else if cut || (bit (op.w 5) 11 && !hfCrcOk op.proto bs) then 0x02 else 0x00) := by
  have hgoes := h.replied dt
  have hexec := exec_replyReceived_frame h hin hrec heng
  generalize hst : (if r.poison then 0x0B else if cut || (bit (op.w 5) 11 && !hfCrcOk op.proto bs) then 0x02 else 0x00 : Nat) = st
  have hbound : st < 256 := by
    rw [← hst]
    split
    · decide
    · split <;> decide
  have hreply : ∃ body, (s.replied o op dt).frameReply op r bs cut =
      ((s.replied o op dt).emit o 0x11 st body).endOp o st ∧ 1 ≤ body.length := by
    simp only [State.frameReply, hst, h.id, h.cancel, Bool.false_eq_true, if_false]
    exact ⟨_, rfl, by simp [frameBody]⟩
  obtain ⟨body, hreply, hlen⟩ := hreply
  rw [hreply, State.emit_limit hgoes.op? hmem (by show op.limit < op.memWords + _; omega)] at hexec
  have hq : op.unasked.quiet := fun k f hk => by cases heng.symm.trans hk
  exact h.ends (State.op?_modOp (f := fun x => { x with limitHit := true }) hgoes.op? fun _ => rfl) h.held rfl rfl rfl rfl hq ((s.replied_airFrame o op dt).trans rfl)
    (s.replied_threads o op dt) hbound hexec

/-- An ATQA, collisions in it ignored, draws the ANTICOLLISION of level 1 no sooner than the least gap (R143, R146). -/
theorem replyReceived_atqa (heng : op.eng = .hactivate a) (hproto : op.proto = 0) (hstep : a.step = .request) (hmay : op.mayAsk a)
    (hpoison : r.poison = false) (hcoll : r.coll ≠ none) (hcut : cut = false) (hports : op.hports ≠ []) :
    ∃ (t : State) (x : Op) (b : ActSt), exec (.hfReplyReceived o dt r) s = .next t ∧ s.HfLater t o op x ∧ x.eng = .hactivate b ∧
      b.step = .anticoll ∧ b.replies = true ∧ b.known = [] ∧ b.level = a.level ∧
      x.framed op (anticollCmd { a with known := [] })
        (max (s.advance dt).ticks (max (s.gapOf op) ((s.advance dt).ticks + 16 * 1172))) 1300 := by
  have hgoes := h.replied dt
  have hexec := exec_replyReceived_activate h hin hrec heng
  have hasks : ∃ card, (s.replied o op dt).actReply op a r bs cut = (s.replied o op dt).actGo o (a.answered card) := by
    have hseen : r.coll.isSome = true := Option.isSome_iff_ne_none.mpr hcoll
    simp only [State.actReply, hcut, hpoison, hproto, State.actTypeA, hstep, hseen, h.id, Bool.or_self, Bool.false_eq_true,
      if_false, Bool.true_or, if_true]
    exact ⟨_, rfl⟩
  obtain ⟨card, hasks⟩ := hasks
  rw [hasks] at hexec
  obtain ⟨y, hlater, -, heng', hframed⟩ :=
    State.HfRuns.asks (a := a.answered card) hgoes (s.replied_regs o op dt) h.held rfl hmay
  have hcmd (w : Word) : op.actCmd w (a.answered card) = anticollCmd { a with known := [] } := by
    rw [Op.actCmd, hproto]
    rfl
  have hclose : op.actClose (a.answered card) = 1300 := by
    rw [Op.actClose, hproto]
    rfl
  have hgap : (s.replied o op dt).gapOf op = max (s.gapOf op) ((s.advance dt).ticks + 16 * 1172) := by
    have hhold := State.hfHoldOff_gapOf hports (s.advance dt) ((s.advance dt).ticks + 16 * hfGap op.proto (bits (op.w 4) 20 4))
    rw [State.gapOf_of_hports (State.advance_hports s dt), hproto] at hhold
    rw [State.replied, hproto]
    exact hhold
  rw [hcmd, hclose, hgap, hgoes.ticks] at hframed
  exact ⟨_, y, _, hexec, hlater, heng', rfl, rfl, rfl, rfl, hframed⟩

end

end Sys2Proof.Machine

/-- Settles O23, one event at a time: each either ends the operation in one step, or has its next frame on the air from after
some time. POISON is R324; the close of a window before an addressed card answered, and the CRC left on a reply cut short, are
assumption 71. -/
theorem hfExchangesEndWithTheirStatus : Obligations.HfExchangesEndWithTheirStatus := by
  unfold Obligations.HfExchangesEndWithTheirStatus
  intro s o op dt _ hr hp hd hc ends goes on closed heard received
  have h : s.HfRuns o op := ⟨hr, hp, hd, hc⟩
  have hgoes {c : Instr} {post : State → Op → Prop} {t : State} {x : Op} (hexec : exec c s = .next t) (hl : s.HfLater t o op x)
      (hpost : post t x) : goes c post := ⟨t, x, hexec, hl.only, hl.op?, hl.active, hl.desc, hl.words, hpost⟩
  refine ⟨hfFieldSettled_completes h, fun heng hset => ?_, fun a heng hset hmay => ?_, fun r hin => replyReceived_nothing h hin,
    fun heng => ⟨windowClose_frame h heng, windowClose_item h heng, fun r bs cut hmem hlimit hin hrec =>
      replyReceived_frame h hin hrec heng hmem hlimit⟩,
    fun a heng => ⟨windowClose_request h heng, fun b hwin hproto hstep hnext hmay => ?_,
      fun r bs hproto hstep hmay hpoison hcoll hin hrec hports => ?_⟩⟩
  · obtain ⟨t, x, hexec, hl, hpost⟩ := hfFieldSettled_frame h heng hset
    exact hgoes hexec hl hpost
  · obtain ⟨t, x, hexec, hl, hpost⟩ := hfFieldSettled_activate h heng hset hmay
    exact hgoes hexec hl hpost
  · obtain ⟨t, x, hexec, hl, hpost⟩ := windowClose_slot h heng hwin hproto hstep hnext hmay
    exact hgoes hexec hl hpost
  · obtain ⟨t, x, b, hexec, hl, heng', hanti, hreplies, hknown, hlevel, hframed⟩ :=
      replyReceived_atqa h hin hrec heng hproto hstep hmay hpoison hcoll rfl hports
    exact hgoes hexec hl ⟨⟨b, heng', hanti, hreplies, hknown, hlevel⟩, hframed⟩
end

section
/-! PROOF. Power requests, and Idle, Watch and Hibernate entered (R155, R301). -/

open Sys2Proof Sys2Proof.Machine

namespace Sys2Proof.Machine

variable {s t u : State}

/-! ### Requests (R301) -/

/-- SYS_PWRCTL: REQ, bits 0 to 2, is RW. -/
theorem regRow_SYS_PWRCTL : regRow SYS_PWRCTL = some ⟨SYS_PWRCTL, [], 0x7, 0, 0, 0, 0⟩ := by decide

/-- A request written in SYS_PWRCTL and noted. -/
def State.asking (s : State) (v : Word) (req : Option PState) : State := { s.writeFields SYS_PWRCTL v with power.req := req }

/-- Only SYS_PWRCTL and the request change. -/
theorem State.asking_spec (hwf : s.regsWf) (v : Word) (req : Option PState) :
    let t := s.asking v req
    t = { s with regs := t.regs, power := { s.power with req := req } } ∧ t.fld SYS_PWRCTL 0 3 = bits v 0 3 ∧
      ∀ a, a ≠ SYS_PWRCTL → t.reg a = s.reg a := by
  have hrw : ∀ k < 3, (0x7 : Word).getLsbD (0 + k) = true := by decide
  refine ⟨?_, ?_, fun a ha => State.writeFields_reg_other ha v⟩
  · exact congrArg (fun w : State => { w with power.req := req }) (s.writeFields_only SYS_PWRCTL v)
  · show (s.writeFields SYS_PWRCTL v).fld SYS_PWRCTL 0 3 = _
    rw [State.writeFields_of_some regRow_SYS_PWRCTL, State.fld, State.reg_setReg_same hwf]
    refine bits_congr fun k hk => ?_
    rw [getLsbD_storedWrite _ _ _ (by omega) (by simp) (by simp), if_pos (hrw k hk)]

theorem exec_powerReqIdle (h : s.power.st ≠ .idle) : exec .powerReqIdle s = .next (s.asking 1 (some .idle)) :=
  congrArg Host.Outcome.next (if_neg (by simpa using h))

theorem exec_powerReqRun (s : State) : exec .powerReqRun s = .next { s.writeFields SYS_PWRCTL 0 with
    power.req := none, power.st := if s.power.st == .idle then .run else s.power.st } := rfl

/-- A request for Watch or Hibernate, by its code. -/
theorem State.writePwrCtl_sleep {v : Word} {p : PState}
    (h : (v, p) ∈ [((2 : Word), PState.watch), (3, .hibernate), (4, .hibernateClocked)]) (s : State) :
    s.writePwrCtl v = if s.power.acok then s.asking v (some p) else s := by
  simp only [List.mem_cons, Prod.mk.injEq, List.not_mem_nil, or_false] at h
  rcases h with ⟨rfl, rfl⟩ | ⟨rfl, rfl⟩ | ⟨rfl, rfl⟩ <;> rfl

/-! ### Carriers and fields removed (R252, R301) -/

/-- Every carrier is off, and nothing else of the state changes but UHF ports. -/
theorem State.uhfRemoveAll_up (s : State) : s.uhfRemoveAll = { s with uports := s.uhfRemoveAll.uports } ∧
    ∀ q, (s.uhfRemoveAll.up q).carrier = none := by
  obtain ⟨honly, -, hin⟩ := foldl_visits (R := fun u => u = { s with uports := u.uports }) (view := State.up)
    (f := fun u p => u.carrierOff p)
    (fun u hu q => ⟨congrArg (fun v : State => { v with uports := (u.carrierOff q).uports }) hu,
      fun r hr => State.up_modUp_other u UPort.off hr⟩)
    upAll s (List.nodup_finRange 16) rfl
  refine ⟨honly, fun q => ?_⟩
  obtain ⟨u, -, -, hres⟩ := hin q (List.mem_finRange q)
  rw [State.uhfRemoveAll, hres, State.carrierOff, State.up_modUp_same]
  rfl

theorem State.hfRemove_fields (s : State) (p : HPortNo) : s.Fields (s.hfRemove p) ∧
    (∀ q, q ≠ p → (s.hfRemove p).hp q = s.hp q) ∧ (s.hfRemove p).hp p = (s.hp p).unlit := by
  unfold State.hfRemove
  extract_lets x v
  have hlost : s.Fields v := .ite ((State.Fields.refl s).setFlags p 2) (.refl s)
  have hhp (q : HPortNo) : v.hp q = s.hp q := by
    unfold v
    split <;> rfl
  exact ⟨hlost.modHp p _, fun q hq => (State.hp_modHp_other v _ hq).trans (hhp q),
    (State.hp_modHp_same v p _).trans (congrArg HPort.unlit (hhp p))⟩

/-- Every field is off, and nothing else of the state changes but HF ports and their FLAGS. -/
theorem State.hfRemoveAll_fields (s : State) : s.Fields s.hfRemoveAll ∧ ∀ q, s.hfRemoveAll.hp q = (s.hp q).unlit := by
  obtain ⟨hfields, -, hin⟩ := State.Fields.foldl (fun u p => (u.hfRemove_fields p).1) (fun u p => (u.hfRemove_fields p).2.1) s
    (List.nodup_finRange 8)
  refine ⟨hfields, fun q => ?_⟩
  obtain ⟨u, -, hsame, hres⟩ := hin q (List.mem_finRange q)
  rw [← hsame, ← (u.hfRemove_fields q).2.2]
  exact hres

/-- UHF ports changed, and then fields. -/
theorem State.Fields.after_uports (hu : u = { s with uports := u.uports }) (h : u.Fields t) :
    t = { s with regs := t.regs, uports := t.uports, hports := t.hports } ∧ t.uports = u.uports ∧ u.hports = s.hports ∧
      ∀ a, (∀ p : HPortNo, a ≠ HP_FLAGS p) → t.reg a = s.reg a := by
  have hports : t.uports = u.uports := by rw [h.only]
  refine ⟨?_, hports, by rw [hu], fun a ha => (h.regs a ha).trans ?_⟩
  · rw [hports]
    exact h.only.trans (congrArg (fun v : State => { v with regs := t.regs, hports := t.hports }) hu)
  · rw [hu]
    rfl

/-- The device with its carriers and fields removed. -/
def State.quieted (s : State) : State := s.uhfRemoveAll.hfRemoveAll

theorem State.quieted_spec (s : State) :
    s.quieted = { s with regs := s.quieted.regs, uports := s.quieted.uports, hports := s.quieted.hports } ∧
    (∀ q, (s.quieted.up q).carrier = none) ∧ (∀ q, s.quieted.hp q = (s.hp q).unlit) ∧
    ∀ a, (∀ p : HPortNo, a ≠ HP_FLAGS p) → s.quieted.reg a = s.reg a := by
  obtain ⟨honly, hoff⟩ := s.uhfRemoveAll_up
  obtain ⟨hfields, hunlit⟩ := s.uhfRemoveAll.hfRemoveAll_fields
  rw [← State.quieted] at hfields hunlit
  obtain ⟨honly', huports, hhports, hregs⟩ := hfields.after_uports honly
  refine ⟨honly', fun q => ?_, fun q => ?_, hregs⟩
  · rw [State.up, huports]
    exact hoff q
  · rw [hunlit, State.hp, hhports, State.hp]

/-! ### Entry (R155, R301) -/

theorem Sparse.find_filter {α : Type} (q : Nat → Bool) (m : List (Nat × α)) (k : Nat) :
    Sparse.find k (m.filter fun e => q e.1) = if q k then Sparse.find k m else none := by
  induction m with
  | nil => simp [Sparse.find]
  | cons e m ih =>
    obtain ⟨a, x⟩ := e
    by_cases hak : a = k
    · subst hak
      by_cases hq : q a = true
      · simp [hq, Sparse.find]
      · simp [hq, ih]
    · by_cases hq : q a = true
      · simp [hq, Sparse.find, hak, ih]
      · simp [hq, Sparse.find, hak, ih]

/-- Registers kept by their addresses: any other is back at its default. -/
theorem Sparse.get_filter {α : Type} (d : Nat → α) (q : Nat → Bool) (m : List (Nat × α)) (k : Nat) :
    Sparse.get d (m.filter fun e => q e.1) k = if q k then Sparse.get d m k else d k := by
  unfold Sparse.get
  rw [Sparse.find_filter]
  split <;> rfl

/-- The VBAT island and the card-watch registers hold no FLAGS register. -/
theorem kept_ne_flags {a : Nat} {b : Bool} (h : (inVbat a || (b && inWatch a)) = true) (p : HPortNo) : a ≠ HP_FLAGS p := by
  rintro rfl
  revert h p
  cases b <;> decide

/-- A state without power outside the VBAT island keeps the nonvolatile store; Watch also keeps the card-watch registers, and
the baselines that were due. -/
theorem State.powerDown_spec (s : State) (p : PState) :
    let t := s.powerDown p
    (t.power.st = p ∧ t.nv = s.nv ∧ t.threads = State.reset.threads ∧ t.smem = [] ∧ t.ops = [] ∧ t.rings = State.reset.rings) ∧
    (p = .watch → ∀ q, (t.hp q).needBase = (!(s.reg HC_WATCHCFG).getLsbD 1 || (s.hp q).needBase)) ∧
    ∀ a, t.reg a = if inVbat a || (p == .watch && inWatch a) then s.reg a else resetWord a := by
  refine ⟨⟨rfl, rfl, rfl, rfl, rfl, rfl⟩, ?_, fun a => ?_⟩
  · rintro rfl q
    have hbase : (s.fld HC_WATCHCFG 1 1 == 0) = !(s.reg HC_WATCHCFG).getLsbD 1 := by
      rw [State.fld, bits, BitVec.getLsbD, Nat.testBit, Nat.pow_one, Nat.one_and_eq_mod_two]
      rcases Nat.mod_two_eq_zero_or_one ((s.reg HC_WATCHCFG).toNat >>> 1) with h | h <;> rw [h] <;> rfl
    have hport : ((s.powerDown .watch).hp q).needBase = (s.fld HC_WATCHCFG 1 1 == 0 || (s.hp q).needBase) := by
      simp [State.hp, State.powerDown]
    rw [hport, hbase]
  · exact Sparse.get_filter resetWord (fun a => inVbat a || (p == .watch && inWatch a)) s.regs a

theorem exec_powerStateEntry {p : PState} (hops : s.ops.any (·.active) = false) (hreq : s.power.req = some p) :
    exec .powerStateEntry s = .next (if p = .idle then
      { s.quieted with power.req := none, power.st := .idle } else s.quieted.powerDown p) := by
  show execPowerStateEntry s = _
  unfold execPowerStateEntry
  rw [hreq, hops]
  rfl

/-- Nothing happens while an operation is Active. -/
theorem exec_powerStateEntry_busy (hops : s.ops.any (·.active) = true) : exec .powerStateEntry s = .next s := by
  show execPowerStateEntry s = _
  simp only [execPowerStateEntry, hops, if_true]
  split <;> rfl

/-- Idle keeps all but carriers and fields. -/
theorem powerStateEntry_idle (hops : s.ops.any (·.active) = false) (hreq : s.power.req = some .idle) :
    ∃ t : State, exec .powerStateEntry s = .next t ∧
      t = { s with regs := t.regs, uports := t.uports, hports := t.hports, power := { s.power with req := none, st := .idle } } ∧
      (∀ q, (t.up q).carrier = none) ∧ ∀ q, (t.hp q).field = false := by
  have hexec := exec_powerStateEntry hops hreq
  rw [if_pos rfl] at hexec
  obtain ⟨honly, hoff, hunlit, -⟩ := s.quieted_spec
  generalize s.quieted = v at hexec honly hoff hunlit
  exact ⟨_, hexec, congrArg (fun v : State => { v with power.req := none, power.st := .idle }) honly, hoff,
    fun q => congrArg HPort.field (hunlit q)⟩

/-- The states without power keep the VBAT island and the nonvolatile store, Watch the card-watch registers too. -/
theorem powerStateEntry_down {p : PState} (hops : s.ops.any (·.active) = false) (hreq : s.power.req = some p) (hp : p ≠ .idle) :
    ∃ t : State, exec .powerStateEntry s = .next t ∧ t.power.st = p ∧ t.nv = s.nv ∧
      t.threads = State.reset.threads ∧ t.smem = [] ∧ t.ops = [] ∧ t.rings = State.reset.rings ∧
      (p = .watch → ∀ q, (t.hp q).needBase = (!(s.reg HC_WATCHCFG).getLsbD 1 || (s.hp q).needBase)) ∧
      ∀ a, t.reg a = if inVbat a || (p == .watch && inWatch a) then s.reg a else resetWord a := by
  have hexec := exec_powerStateEntry hops hreq
  rw [if_neg hp] at hexec
  obtain ⟨honly, -, hunlit, hregs⟩ := s.quieted_spec
  generalize s.quieted = v at hexec honly hunlit hregs
  obtain ⟨⟨hst, hnv, hthreads, hsmem, hempty, hrings⟩, hbase, hkept⟩ := v.powerDown_spec p
  have hnv' : v.nv = s.nv := by rw [honly]
  refine ⟨_, hexec, hst, hnv.trans hnv', hthreads, hsmem, hempty, hrings, fun hw q => ?_, fun a => ?_⟩
  · have hcfg : v.reg HC_WATCHCFG = s.reg HC_WATCHCFG := hregs _ (hc_ne_flags (by decide))
    rw [hbase hw q, hunlit, hcfg]
    rfl
  · rw [hkept a]
    split
    next hk => exact hregs a (kept_ne_flags hk)
    · rfl

end Sys2Proof.Machine
end

section
/-! PROOF. A scan in Watch (R152, R153, R155, R298). -/

open Sys2Proof Sys2Proof.Machine

namespace Sys2Proof.Machine

variable {s t u : State} {p : HPortNo} {x : WatchSample} {m : Nat}

/-! ### The port watched -/

/-- Watching the port of a bit alone. -/
theorem hpAll_filter_testBit (p : HPortNo) : (hpAll.filter fun q => (2 ^ p.val).testBit q.val) = [p] := by
  revert p
  decide

theorem hpAll_filterMap_single {α : Type} (p : HPortNo) (y : α) :
    hpAll.filterMap (fun q => if q ∈ [p] then some (q, y) else none) = [(p, y)] := by
  fin_cases p <;> rfl

/-- The one sample of a scan of one port. -/
theorem scanOrder_single (x : WatchSample) : scanOrder [x.port] [x] = [(x.port, x)] := by
  have hone (q : HPortNo) : (if q ∈ [x.port] then ([x].find? (·.port == q)).map fun y => (q, y) else none) =
      if q ∈ [x.port] then some (q, x) else none := by
    split
    next h => simp [List.mem_singleton.mp h]
    · rfl
  unfold scanOrder
  simp only [hone]
  exact hpAll_filterMap_single x.port x

theorem exec_watchStateScan_none (hst : s.power.st = .watch) (hcfg : s.fld HC_WATCHCFG 8 8 = 2 ^ p.val) :
    exec (.watchStateScan []) s = .next s := by
  show execWatchStateScan [] s = _
  simp only [execWatchStateScan, hcfg, hpAll_filter_testBit, hst]
  rfl

theorem State.watchPorts_single (s : State) (p : HPortNo) (x : WatchSample) :
    s.watchPorts [(p, x)] = ((s.watchPort p x).1, (s.watchPort p x).2.map fun m => (p, m)) := by
  unfold State.watchPorts
  generalize s.watchPort p x = r
  obtain ⟨v, found⟩ := r
  cases found <;> rfl

/-- The device in Watch once it has counted a scan. -/
def State.scanned (s : State) : State := { s with power.watchScans := s.power.watchScans + 1 }

/-- The end of a scan in Watch: a change found wakes the device. -/
def State.watchWake (s : State) (n : Nat) (found : Option (HPortNo × Nat)) : State :=
  match found with
  | none => s
  | some (p, m) => (s.doReset 9).setReg HC_WAKESRC
      (fieldW 29 3 p.val ||| flagW 28 true ||| fieldW 16 12 (min n 0xFFF) ||| fieldW 0 16 (min m 0xFFFF))

theorem exec_watchStateScan {xs : List WatchSample}
    (h : (s.power.st == .watch && scanHolds (hpAll.filter fun p => (s.fld HC_WATCHCFG 8 8).testBit p.val) xs) = true) :
    exec (.watchStateScan xs) s =
      let r := s.scanned.watchPorts (scanOrder (hpAll.filter fun p => (s.fld HC_WATCHCFG 8 8).testBit p.val) xs)
      .next (r.1.watchWake (s.power.watchScans + 1) r.2) :=
  congrArg Host.Outcome.next (if_pos h)

theorem exec_watchStateScan_single (hst : s.power.st = .watch) (hcfg : s.fld HC_WATCHCFG 8 8 = 2 ^ x.port.val) :
    exec (.watchStateScan [x]) s = .next ((s.scanned.watchPort x.port x).1.watchWake (s.power.watchScans + 1)
      ((s.scanned.watchPort x.port x).2.map fun m => (x.port, m))) := by
  have hholds : scanHolds [x.port] [x] = true := by simp [scanHolds]
  rw [exec_watchStateScan (by rw [hcfg, hpAll_filter_testBit, hholds, hst]; rfl), hcfg, hpAll_filter_testBit, scanOrder_single,
    State.watchPorts_single]

/-! ### A baseline (R152, R153) -/

/-- A baseline stored is the sample, I above Q. -/
theorem State.reg_setBase (hwf : s.regsWf) (p : HPortNo) (x : WatchSample) :
    (s.setBase p x.xi.toInt x.xq.toInt).reg (HP_WBASE p) = x.xi ++ x.xq := by
  rw [State.setBase, State.reg_setReg_same hwf, BitVec.ofInt_toInt, BitVec.ofInt_toInt]

/-- A port that has its baseline. -/
def HPort.based (h : HPort) : HPort := { h with needBase := false }

/-- A port whose baseline is due takes the sample as its baseline; nothing wakes. -/
theorem watchStateScan_baseline (hwf : s.regsWf) (hst : s.power.st = .watch) (hcfg : s.fld HC_WATCHCFG 8 8 = 2 ^ x.port.val)
    (hskip : s.watchSkips x.port = false) (hneed : (s.hp x.port).needBase = true) :
    ∃ t : State, exec (.watchStateScan [x]) s = .next t ∧
      t = { s with regs := t.regs, hports := t.hports, power := { s.power with watchScans := s.power.watchScans + 1 } } ∧
      t.reg (HP_WBASE x.port) = x.xi ++ x.xq ∧ (t.hp x.port).needBase = false ∧ ∀ q, q ≠ x.port → t.hp q = s.hp q := by
  have hskip' : s.scanned.watchSkips x.port = false := hskip
  have hneed' : (s.scanned.hp x.port).needBase = true := hneed
  have hport : s.scanned.watchPort x.port x =
      ((s.scanned.setBase x.port x.xi.toInt x.xq.toInt).modHp x.port HPort.based, none) := by
    rw [State.watchPort, hskip', if_neg Bool.false_ne_true, if_pos hneed']
    rfl
  have hexec := exec_watchStateScan_single hst hcfg
  rw [hport] at hexec
  have hbase := State.reg_setBase (s := s.scanned) hwf x.port x
  have honly : s.scanned.setBase x.port x.xi.toInt x.xq.toInt = { s with
      regs := (s.scanned.setBase x.port x.xi.toInt x.xq.toInt).regs
      power := { s.power with watchScans := s.power.watchScans + 1 } } := rfl
  generalize s.scanned.setBase x.port x.xi.toInt x.xq.toInt = v at hexec hbase honly
  refine ⟨_, hexec, congrArg (fun u : State => { u with hports := (v.modHp x.port HPort.based).hports }) honly, hbase,
    congrArg HPort.needBase (State.hp_modHp_same v x.port _), fun q hq => (State.hp_modHp_other v _ hq).trans ?_⟩
  rw [honly]
  rfl

/-! ### A change (R153, R155, R298) -/

/-- A change is reported when a port that is not Present has been at or above THR for CONFIRM scans. -/
theorem State.watchStep_snd (s : State) (p : HPortNo) (x : WatchSample) (m : Nat) : (s.watchStep p x m).2 =
    (!(s.hp p).present && !decide (m < s.fld (HP_WATCH p) 0 16) &&
      decide (max 1 (s.fld (HP_WATCH p) 20 4) ≤ (s.hp p).count + 1)) := by
  unfold State.watchStep
  dsimp only
  cases hpres : (s.hp p).present
  · by_cases hthr : m < s.fld (HP_WATCH p) 0 16
    · simp [hthr]
    · by_cases hconf : max 1 (s.fld (HP_WATCH p) 20 4) ≤ (s.hp p).count + 1 <;> simp [hthr, hconf]
  · by_cases hhyst : m + s.fld (HP_WATCH2 p) 0 16 < s.fld (HP_WATCH p) 0 16
    · simp [hhyst]
    · by_cases hadopt : s.fld (HP_WATCH2 p) 16 16 ≠ 0 ∧ s.fld (HP_WATCH2 p) 16 16 ≤ (s.hp p).presentScans + 1 <;>
        simp [hhyst, hadopt]

/-- A port at which a card was found. -/
def HPort.detected (h : HPort) : HPort := { h with present := true, count := 0, presentScans := 0 }

/-- A change that is reported: M shown, the change counted, and the port Present. -/
theorem State.watchStep_reports (h : (s.watchStep p x m).2 = true) : (s.watchStep p x m).1 =
    ((s.setReg (HP_WMAG p) (fieldW 0 16 (min m 0xFFFF))).countFld (HP_WCNT p) 0 8 1).modHp p HPort.detected := by
  rw [State.watchStep_snd] at h
  simp only [Bool.and_eq_true, Bool.not_eq_true', decide_eq_true_eq, decide_eq_false_iff_not] at h
  obtain ⟨⟨hpres, hthr⟩, hconf⟩ := h
  unfold State.watchStep
  simp only [hpres, hthr, hconf, Bool.false_eq_true, if_false, if_true]
  rfl

/-- M of a sample against its port's baseline (R153). -/
def State.watchedM (s : State) (x : WatchSample) : Nat :=
  watchM (signed 16 (s.fld (HP_WBASE x.port) 16 16) * signed 16 (s.fld (HP_WBASE x.port) 16 16) +
      signed 16 (s.fld (HP_WBASE x.port) 0 16) * signed 16 (s.fld (HP_WBASE x.port) 0 16))
    (signed 16 (s.fld (HP_WBASE x.port) 16 16)) (signed 16 (s.fld (HP_WBASE x.port) 0 16)) x

/-- A port that is not skipped and has its baseline goes through the state machine. -/
theorem State.watchPort_step (hskip : s.watchSkips x.port = false) (hneed : (s.hp x.port).needBase = false)
    (hm : s.watchedM x = m) : s.watchPort x.port x =
      ((s.watchStep x.port x m).1, if (s.watchStep x.port x m).2 then some m else none) := by
  subst hm
  rw [State.watchPort, hskip, if_neg Bool.false_ne_true, hneed, if_neg Bool.false_ne_true]
  rfl

/-- The VBAT island lies below the HF cluster. -/
theorem inVbat_lt {a : Nat} (h : inVbat a = true) : a < 0x2000 := by
  unfold inVbat SYS_WAKECNT SYS_RSTCAUSE SYS_KEEP at h
  simp only [Bool.or_eq_true, beq_iff_eq, decide_eq_true_eq] at h
  omega

/-- A change that is reported touches the port's own registers only. -/
theorem State.watchStep_reported (hwf : s.regsWf) (h : (s.watchStep p x m).2 = true) : (s.watchStep p x m).1.regsWf ∧
    (s.watchStep p x m).1 = { s with regs := (s.watchStep p x m).1.regs, hports := (s.watchStep p x m).1.hports } ∧
    ∀ a < 0x2000, (s.watchStep p x m).1.reg a = s.reg a := by
  have hcounted (w : Word) (n : Nat) : let v := (s.setReg (HP_WMAG p) w).countFld (HP_WCNT p) 0 n 1
      v.regsWf ∧ v = { s with regs := v.regs } ∧ ∀ a < 0x2000, v.reg a = s.reg a := by
    refine ⟨State.regsWf_countFld (State.regsWf_setReg hwf _ _) _ _ _ _, rfl, fun a ha => ?_⟩
    rw [State.reg_countFld_other _ (by unfold HP_WCNT hpBase; omega), State.reg_setReg_other _ (by unfold HP_WMAG hpBase; omega)]
  rw [State.watchStep_reports h]
  obtain ⟨hwf', honly, hregs⟩ := hcounted (fieldW 0 16 (min m 0xFFFF)) 8
  generalize (s.setReg (HP_WMAG p) (fieldW 0 16 (min m 0xFFFF))).countFld (HP_WCNT p) 0 8 1 = v at hwf' honly hregs
  exact ⟨hwf', congrArg (fun u : State => { u with hports := (v.modHp p HPort.detected).hports }) honly, hregs⟩

/-- A reset keeps the VBAT island, the nonvolatile store and what the model itself counts (R298). -/
theorem State.doReset_resetTo (hwf : u.regsWf) (hu : u = { s with regs := u.regs, hports := u.hports, power := u.power })
    (hkept : ∀ a, inVbat a = true → u.reg a = s.reg a) {cause : Nat} (hc : cause < 16) {a : Nat} (ha : a ≠ SYS_RSTCAUSE) (w : Word) :
    s.resetTo ((u.doReset cause).setReg a w) cause [a] ∧ ((u.doReset cause).setReg a w).reg a = w := by
  have hclear : u.cleared.regsWf := Sparse.wf_filter hwf _
  have hreset : (u.doReset cause).regsWf := State.regsWf_setReg hclear _ _
  refine ⟨⟨?_, ?_, fun b hb hba => ?_⟩, State.reg_setReg_same hreset a w⟩
  · rw [hu]
    rfl
  · rw [State.reg_setReg_other _ ha.symm, State.doReset, State.reg_setReg_same hclear]
    exact BitVec.eq_of_toNat_eq (by rw [fieldW_toNat (by omega) (by decide), BitVec.toNat_ofNat]; omega)
  · rw [State.reg_setReg_other _ (by simpa using hba), State.doReset, State.reg_setReg_other _ hb]
    refine (Sparse.get_filter resetWord inVbat u.regs b).trans ?_
    split
    next h => exact hkept b h
    · rfl

/-- HC_WAKESRC by its fields: PORT, VALID, SCANS and M. -/
theorem wakeSrc_eq (p : HPortNo) {n m : Nat} (hn : n ≤ 0xFFF) (hm : m ≤ 0xFFFF) :
    fieldW 29 3 p.val ||| flagW 28 true ||| fieldW 16 12 n ||| fieldW 0 16 m =
      BitVec.ofNat 3 p ++ 1#1 ++ BitVec.ofNat 12 n ++ BitVec.ofNat 16 m := by
  have hp := p.isLt
  have hflag : (flagW 28 true).toNat = 1 <<< 28 := by decide
  apply BitVec.eq_of_toNat_eq
  rw [BitVec.toNat_or, BitVec.toNat_or, BitVec.toNat_or, fieldW_toNat (by omega) (by decide), fieldW_toNat (by omega) (by decide),
    fieldW_toNat (by omega) (by decide), hflag, BitVec.toNat_append, BitVec.toNat_append, BitVec.toNat_append,
    BitVec.toNat_ofNat, BitVec.toNat_ofNat, BitVec.toNat_ofNat, BitVec.toNat_ofNat,
    Nat.mod_eq_of_lt (by omega : p.val < 2 ^ 3), Nat.mod_eq_of_lt (by omega : n < 2 ^ 12), Nat.mod_eq_of_lt (by omega : m < 2 ^ 16),
    Nat.shiftLeft_or_distrib, Nat.shiftLeft_or_distrib, Nat.shiftLeft_or_distrib, ← Nat.shiftLeft_add, ← Nat.shiftLeft_add,
    ← Nat.shiftLeft_add, Nat.pow_zero, Nat.mul_one, ← Nat.shiftLeft_eq, ← Nat.shiftLeft_eq]

/-- A change found in Watch resets the device, which names it in HC_WAKESRC. -/
theorem watchStateScan_wakes (hwf : s.regsWf) (hst : s.power.st = .watch) (hcfg : s.fld HC_WATCHCFG 8 8 = 2 ^ x.port.val)
    (hskip : s.watchSkips x.port = false) (hneed : (s.hp x.port).needBase = false)
    (hm : s.watchedM x = m)
    (hstep : (s.watchStep x.port x m).2 = true) :
    ∃ t : State, exec (.watchStateScan [x]) s = .next t ∧ s.resetTo t 9 [HC_WAKESRC] ∧ t.reg HC_WAKESRC =
      BitVec.ofNat 3 x.port ++ 1#1 ++ BitVec.ofNat 12 (min (s.power.watchScans + 1) 0xFFF) ++ BitVec.ofNat 16 (min m 0xFFFF) := by
  have hskip' : s.scanned.watchSkips x.port = false := hskip
  have hneed' : (s.scanned.hp x.port).needBase = false := hneed
  have hstep' : (s.scanned.watchStep x.port x m).2 = true := by
    rw [State.watchStep_snd] at hstep ⊢
    exact hstep
  have hport : s.scanned.watchPort x.port x = ((s.scanned.watchStep x.port x m).1, some m) := by
    have hstep2 := State.watchPort_step hskip' hneed' (hm : s.scanned.watchedM x = m)
    rwa [hstep', if_pos rfl] at hstep2
  have hexec := exec_watchStateScan_single hst hcfg
  rw [hport, Option.map_some, State.watchWake, wakeSrc_eq x.port (Nat.min_le_right _ _) (Nat.min_le_right _ _)] at hexec
  obtain ⟨hwf', honly, hkept⟩ := State.watchStep_reported (s := s.scanned) hwf hstep'
  generalize (s.scanned.watchStep x.port x m).1 = w at hexec hwf' honly hkept
  have honly' : w = { s with regs := w.regs, hports := w.hports, power := w.power } := by
    rw [honly]
    rfl
  exact ⟨_, hexec, State.doReset_resetTo hwf' honly' (fun a ha => hkept a (inVbat_lt ha)) (by decide) (by decide) _⟩

end Sys2Proof.Machine
end

section
/-! PROOF. The housekeeping ADC and the snapshot discarded (R277, R302, R305). -/

open Sys2Proof Sys2Proof.Machine

namespace Sys2Proof.Machine

variable {s t u : State}

/-! ### The 16 channels -/

/-- One channel stored: SYS_HKk, and CAL_TEMPk for a sensor. -/
def State.hkStore (s : State) (k : Nat) (w : Word) : State :=
  if k < 8 then (s.setReg (SYS_HK k) w).setReg (CAL_TEMP k) w else s.setReg (SYS_HK k) w

/-- The registers of a channel. -/
def State.hkView (s : State) (k : Fin 16) : Word × Word := (s.reg (SYS_HK k), s.reg (CAL_TEMP k))

theorem State.hkStore_spec (hwf : s.regsWf) (k : Fin 16) (w : Word) : (s.hkStore k w).regsWf ∧
    s.hkStore k w = { s with regs := (s.hkStore k w).regs } ∧ (∀ j, j ≠ k → (s.hkStore k w).hkView j = s.hkView j) ∧
    (s.hkStore k w).reg (SYS_HK k) = w ∧ (k.val < 8 → (s.hkStore k w).reg (CAL_TEMP k) = w) := by
  have hwf1 := State.regsWf_setReg hwf (SYS_HK k) w
  have hother (j : Fin 16) (hj : j ≠ k) : SYS_HK j ≠ SYS_HK k ∧ CAL_TEMP j ≠ CAL_TEMP k := by
    have hjk : j.val ≠ k.val := fun h => hj (Fin.ext h)
    unfold SYS_HK CAL_TEMP
    omega
  have happart (i j : Fin 16) : SYS_HK i ≠ CAL_TEMP j := by
    unfold SYS_HK CAL_TEMP
    omega
  unfold State.hkStore State.hkView
  split
  next hk =>
    refine ⟨State.regsWf_setReg hwf1 _ _, rfl, fun j hj => ?_, ?_, fun _ => State.reg_setReg_same hwf1 _ _⟩
    · rw [State.reg_setReg_other _ (happart j k), State.reg_setReg_other _ (hother j hj).1,
        State.reg_setReg_other _ (hother j hj).2, State.reg_setReg_other _ (happart k j).symm]
    · rw [State.reg_setReg_other _ (happart k k), State.reg_setReg_same hwf]
  next hk =>
    refine ⟨hwf1, rfl, fun j hj => ?_, State.reg_setReg_same hwf _ _, fun h => absurd h hk⟩
    rw [State.reg_setReg_other _ (hother j hj).1, State.reg_setReg_other _ (happart k j).symm]

/-- The results of a sequence stored. -/
def State.hkStoreAll (s : State) (xs : List (BitVec 16)) : State :=
  (List.finRange 16).foldl (fun (s : State) (k : Fin 16) => s.hkStore k ((xs.getD k 0).setWidth 32)) s

theorem State.hkStoreAll_spec (hwf : s.regsWf) (xs : List (BitVec 16)) : (s.hkStoreAll xs).regsWf ∧
    s.hkStoreAll xs = { s with regs := (s.hkStoreAll xs).regs } ∧ ∀ k : Fin 16,
      (s.hkStoreAll xs).reg (SYS_HK k) = (xs.getD k 0).setWidth 32 ∧
      (k.val < 8 → (s.hkStoreAll xs).reg (CAL_TEMP k) = (xs.getD k 0).setWidth 32) := by
  obtain ⟨⟨hwf', honly⟩, -, hin⟩ := foldl_visits (R := fun u => u.regsWf ∧ u = { s with regs := u.regs }) (view := State.hkView)
    (f := fun (u : State) (k : Fin 16) => u.hkStore k ((xs.getD k 0).setWidth 32))
    (fun u ⟨hw, hu⟩ q => by
      obtain ⟨hw', hu', hother, -⟩ := State.hkStore_spec hw q ((xs.getD q 0).setWidth 32)
      exact ⟨⟨hw', hu'.trans (congrArg (fun v : State => { v with regs := (u.hkStore q ((xs.getD q 0).setWidth 32)).regs }) hu)⟩, hother⟩)
    (List.finRange 16) s (List.nodup_finRange 16) ⟨hwf, rfl⟩
  refine ⟨hwf', honly, fun k => ?_⟩
  obtain ⟨u, ⟨hw, -⟩, -, hres⟩ := hin k (List.mem_finRange k)
  obtain ⟨-, -, -, hhk, htemp⟩ := State.hkStore_spec hw k ((xs.getD k 0).setWidth 32)
  exact ⟨(congrArg Prod.fst hres).trans hhk, fun hk => (congrArg Prod.snd hres).trans (htemp hk)⟩

/-! ### Notices of the die temperatures (R320, R327) -/

/-- `t` is `s` but for notices of faults: the FAULT block, and the events they raise. -/
structure State.Noticed (s t : State) : Prop where
  only : t = { s with regs := t.regs, threads := t.threads, faults := t.faults }
  regs : ∀ a, a < 0x110000 → t.reg a = s.reg a
  events : s.onlyEvents t

theorem State.Noticed.refl (s : State) : s.Noticed s := ⟨rfl, fun _ _ => rfl, fun _ => rfl⟩

theorem State.Noticed.trans (h : s.Noticed t) (h' : t.Noticed u) : s.Noticed u :=
  ⟨h'.only.trans (congrArg (fun v : State => { v with regs := u.regs, threads := u.threads, faults := u.faults }) h.only),
    fun a ha => (h'.regs a ha).trans (h.regs a ha), fun k => by
      have h1 := h'.events k
      rw [h.events k] at h1
      exact h1⟩

theorem State.fault_noticed (s : State) (cls source detail : Nat) : s.Noticed (s.fault cls source detail) := by
  refine ⟨s.fault_only cls source detail, fun a ha => State.fault_reg_below ha _ _ _, fun k => ?_⟩
  obtain ⟨e, m, h⟩ := s.fault_th cls source detail k
  rw [h]

theorem State.thermal_noticed (s : State) (c : Nat) : s.Noticed (s.thermal c) := by
  have hnote (f : Faults) (d : Nat) : s.Noticed (({ s with faults := f } : State).fault 17 c d) :=
    State.Noticed.trans (t := { s with faults := f }) ⟨rfl, fun _ _ => rfl, fun _ => rfl⟩
      (State.fault_noticed { s with faults := f } 17 c d)
  unfold State.thermal
  dsimp only
  split
  · exact hnote _ 1
  · split
    · exact hnote _ 0
    · exact .refl s

theorem State.Noticed.foldl_thermal (h : s.Noticed t) (l : List Nat) : s.Noticed (l.foldl (fun s c => s.thermal c) t) := by
  induction l generalizing t with
  | nil => exact h
  | cons c l ih => exact ih (h.trans (t.thermal_noticed c))

/-! ### The sequence (R302) -/

/-- The results of a sequence in their registers, and the next sequence begun when a trigger is held. -/
def State.hkTaken (s : State) (xs : List (BitVec 16)) : State :=
  { (s.hkStoreAll xs).setFld HC_VHF 0 16 (xs.getD 13 0).toNat with
    power := { s.power with hkBusy := s.power.hkHeld, hkHeld := false } }

/-- The results stand in their registers, and nothing else changes but the sequence itself. -/
theorem State.hkTaken_spec (hwf : s.regsWf) (xs : List (BitVec 16)) :
    s.hkTaken xs = { s with
      regs := (s.hkTaken xs).regs, power := { s.power with hkBusy := s.power.hkHeld, hkHeld := false } } ∧
    (∀ k : Fin 16, (s.hkTaken xs).reg (SYS_HK k) = (xs.getD k 0).setWidth 32 ∧
      (k.val < 8 → (s.hkTaken xs).reg (CAL_TEMP k) = (xs.getD k 0).setWidth 32)) ∧
    (s.hkTaken xs).fld HC_VHF 0 16 = (xs.getD 13 0).toNat := by
  obtain ⟨hwf', honly, hstored⟩ := State.hkStoreAll_spec hwf xs
  unfold State.hkTaken
  generalize s.hkStoreAll xs = v at hwf' honly hstored
  have hvhf := State.fld_setFld_same hwf' HC_VHF (n := 16) (lo := 0) (by decide) (xs.getD 13 0).isLt
  have hkept {a : Nat} (ha : a ≠ HC_VHF) : (v.setFld HC_VHF 0 16 (xs.getD 13 0).toNat).reg a = v.reg a :=
    State.reg_setFld_other _ ha
  have honly' : v.setFld HC_VHF 0 16 (xs.getD 13 0).toNat =
      { s with regs := (v.setFld HC_VHF 0 16 (xs.getD 13 0).toNat).regs } :=
    congrArg (fun w : State => { w with regs := (v.setFld HC_VHF 0 16 (xs.getD 13 0).toNat).regs }) honly
  generalize v.setFld HC_VHF 0 16 (xs.getD 13 0).toNat = w at hvhf hkept honly'
  refine ⟨congrArg (fun w : State => { w with power := { s.power with hkBusy := s.power.hkHeld, hkHeld := false } }) honly',
    fun k => ?_, hvhf⟩
  obtain ⟨hhk, htemp⟩ := hstored k
  have hne : SYS_HK k ≠ HC_VHF ∧ CAL_TEMP k ≠ HC_VHF := by
    unfold SYS_HK CAL_TEMP HC_VHF
    omega
  exact ⟨(hkept hne.1).trans hhk, fun h8 => (hkept hne.2).trans (htemp h8)⟩

theorem exec_hkAdcSequence (hwf : s.regsWf) {xs : List (BitVec 16)} (hp : s.powered = true) (hlen : xs.length = 16) :
    exec (.hkAdcSequence xs) s = .next ((List.range 4).foldl (fun s c => s.thermal c) (s.hkTaken xs)) := by
  have hall : (List.range 16).foldl (fun (s : State) k => s.hkStore k ((xs.getD k 0).setWidth 32)) s = s.hkStoreAll xs := by
    rw [← List.map_coe_finRange_eq_range, List.foldl_map]
    rfl
  have hpower : (s.hkStoreAll xs).power = s.power := by rw [(State.hkStoreAll_spec hwf xs).2.1]
  refine congrArg Host.Outcome.next ((if_pos (by simp [hp, hlen])).trans ?_)
  rw [State.hkTaken, ← hpower, ← hall]
  rfl

/-- The results of the 16 channels stand in their registers, the sensors' also in CAL_TEMPk, VHF in HC_VHF. -/
theorem hkAdcSequence_stores (hwf : s.regsWf) {xs : List (BitVec 16)} (hp : s.powered = true) (hlen : xs.length = 16) :
    ∃ t : State, exec (.hkAdcSequence xs) s = .next t ∧ s.onlyEvents t ∧
      t = { s with regs := t.regs, threads := t.threads, faults := t.faults
                   power := { s.power with hkBusy := s.power.hkHeld, hkHeld := false } } ∧
      (∀ k x, xs[k]? = some x → t.reg (SYS_HK k) = x.setWidth 32 ∧ (k < 8 → t.reg (CAL_TEMP k) = x.setWidth 32)) ∧
      ∀ x, xs[13]? = some x → t.fld HC_VHF 0 16 = x.toNat := by
  have hexec := exec_hkAdcSequence hwf hp hlen
  obtain ⟨htaken, hstored, hvhf⟩ := State.hkTaken_spec hwf xs
  have hnoticed := (State.Noticed.refl (s.hkTaken xs)).foldl_thermal (List.range 4)
  generalize (List.range 4).foldl (fun s c => s.thermal c) (s.hkTaken xs) = t at hexec hnoticed
  generalize s.hkTaken xs = w at htaken hstored hvhf hnoticed
  refine ⟨t, hexec, fun k => ?_, ?_, fun k x hx => ?_, fun x hx => ?_⟩
  · have hth : w.th k = s.th k := by
      rw [htaken]
      rfl
    rw [← hth]
    exact hnoticed.events k
  · exact hnoticed.only.trans (congrArg (fun v : State => { v with regs := t.regs, threads := t.threads, faults := t.faults }) htaken)
  · have hk : k < 16 := hlen ▸ (List.getElem?_eq_some_iff.mp hx).1
    obtain ⟨hhk, htemp⟩ := hstored ⟨k, hk⟩
    have hx' : xs.getD k 0 = x := by rw [List.getD_eq_getElem?_getD, hx, Option.getD_some]
    rw [hx'] at hhk htemp
    refine ⟨?_, fun h8 => ?_⟩
    · rw [hnoticed.regs _ (by unfold SYS_HK; omega)]
      exact hhk
    · rw [hnoticed.regs _ (by unfold CAL_TEMP; omega)]
      exact htemp h8
  · rw [State.fld_congr (hnoticed.regs HC_VHF (by decide)), hvhf, List.getD_eq_getElem?_getD, hx, Option.getD_some]

theorem exec_discard (s : State) (v : Word) : exec (.discard v) s =
    .next { s with nv := { s.nv with snapHeld := false }, power := { s.power with snapValid := false } } :=
  congrArg Host.Outcome.next (if_pos (bit_or_one v))

end Sys2Proof.Machine

/-- Settles O51, one command at a time: the requests, the states entered, the scans in Watch, the ADC and the snapshot. That
Watch and Hibernate are accepted from Idle too is assumption 48; VHF in HC_VHF is assumption 29. -/
theorem powerStatesAreEnteredAndLeft : Obligations.PowerStatesAreEnteredAndLeft := by
  unfold Obligations.PowerStatesAreEnteredAndLeft
  intro s hwf asks
  have hasks {c : Instr} {v : Word} {n : Nat} {req : Option PState} (hexec : exec c s = .next (s.asking v req))
      (hn : bits v 0 3 = n) : asks c n req := by
    obtain ⟨honly, hreq, hother⟩ := State.asking_spec hwf v req
    exact ⟨_, hexec, honly, hreq.trans hn, hother⟩
  have hsleep {v : Word} {p : PState} (h : (v, p) ∈ [((2 : Word), PState.watch), (3, .hibernate), (4, .hibernateClocked)]) :=
    State.writePwrCtl_sleep h s
  refine ⟨fun hst => ⟨hasks (exec_powerReqIdle hst) rfl, hasks (v := 0) ?_ rfl⟩, fun hst => ⟨_, exec_powerReqRun s, ?_⟩,
    fun hac => ⟨hasks (v := 2) ?_ rfl, hasks (v := 3) ?_ rfl, hasks (v := 4) ?_ rfl⟩, fun hac => ⟨?_, ?_, ?_⟩,
    exec_powerStateEntry_busy, fun p hops hreq => ⟨?_, powerStateEntry_down hops hreq⟩,
    fun x hst hcfg hskip => ⟨exec_watchStateScan_none hst hcfg, watchStateScan_baseline hwf hst hcfg hskip,
      fun hneed hstep => watchStateScan_wakes hwf hst hcfg hskip hneed rfl hstep⟩,
    fun xs hp hlen => hkAdcSequence_stores hwf hp hlen, exec_discard s⟩
  · rw [exec_powerReqRun, if_neg (by simpa using hst)]
    refine congrArg Host.Outcome.next ?_
    rw [State.asking, s.writeFields_only]
  · rw [hst]
    exact congrArg (fun v : State => { v with power.req := none, power.st := .run }) (s.writeFields_only SYS_PWRCTL 0)
  · exact congrArg Host.Outcome.next ((hsleep (by decide)).trans (if_pos hac))
  · exact congrArg Host.Outcome.next ((hsleep (by decide)).trans (if_pos hac))
  · exact congrArg Host.Outcome.next ((hsleep (by decide)).trans (if_pos hac))
  · exact congrArg Host.Outcome.next ((hsleep (p := .watch) (by decide)).trans (if_neg (by simp [hac])))
  · exact congrArg Host.Outcome.next ((hsleep (p := .hibernate) (by decide)).trans (if_neg (by simp [hac])))
  · exact congrArg Host.Outcome.next ((hsleep (p := .hibernateClocked) (by decide)).trans (if_neg (by simp [hac])))
  · rintro rfl
    exact powerStateEntry_idle hops hreq
end

section
/-! PROOF. The number of chirps in a frame (R161 to R164). -/

open Sys2Proof Sys2Proof.Machine

namespace Sys2Proof.Machine

variable {cr len so : Nat} {bs : List Bool}

/-- The coded bits that the puncturing of CR leaves out over the first `m` input bits (R164). -/
def puncturedOut (cr m : Nat) : Nat :=
  match cr with
  | 0 => 0
  | 1 => m / 2
  | _ => (m + 1) / 3 + m / 3

/-- Two coded bits for each input bit, but for those punctured out. -/
theorem convCode_length (hcr : cr < 3) (i w : Nat) (bs : List Bool) :
    (convCode cr i w bs).length + puncturedOut cr (i + bs.length) = 2 * bs.length + puncturedOut cr i := by
  induction bs generalizing i w with
  | nil => simp [convCode]
  | cons b bs ih =>
    have hrest := ih (i + 1) ((b.toNat * 64 + w) / 2)
    have hidx : i + 1 + bs.length = i + (bs.length + 1) := by omega
    rw [hidx] at hrest
    match cr, hcr with
    | 0, _ =>
      simp [convCode, puncturedOut] at hrest ⊢
      omega
    | 1, _ =>
      by_cases h : i % 2 = 0
      · simp [convCode, puncturedOut, h] at hrest ⊢
        omega
      · simp [convCode, puncturedOut, h] at hrest ⊢
        omega
    | 2, _ =>
      have hthree : i % 3 = 0 ∨ i % 3 = 1 ∨ i % 3 = 2 := by omega
      rcases hthree with h | h | h
      · simp [convCode, puncturedOut, h] at hrest ⊢
        omega
      · simp [convCode, puncturedOut, h] at hrest ⊢
        omega
      · simp [convCode, puncturedOut, h] at hrest ⊢
        omega

/-- A payload's input bits are even in number, so that R164's count of coded bits holds at each CR. -/
theorem codedBits_eq (hcr : cr < 3) (len : Nat) :
    codedBits (codeBits len) cr + puncturedOut cr (codeBits len) = 2 * codeBits len := by
  match cr, hcr with
  | 0, _ => rfl
  | 1, _ =>
    simp only [codedBits, puncturedOut, codeBits]
    omega
  | 2, _ =>
    simp only [codedBits, puncturedOut, codeBits]
    omega

theorem numBits_length (n v : Nat) : (numBits n v).length = n := by
  rw [numBits, List.length_map, List.length_range]

theorem msbBits_length (b : Byte) : (msbBits b).length = 8 := by
  rw [msbBits, lsbBits, List.length_reverse, List.length_map, List.length_range]

theorem State.threadBits_length (s : State) (t : Tid) (a n : Nat) : (s.threadBits t a n).length = 8 * n := by
  simp [State.threadBits, State.threadBytes, List.length_flatMap, Function.comp_def, msbBits_length, Nat.mul_comm]

/-- The payload symbols of a payload of `len` bytes (R164). -/
theorem payShifts_length (hcr : cr < 3) (so : Nat) (hbs : bs.length = 8 * len) :
    (payShifts so cr bs).length = paySymbols so len cr := by
  have hcoded : (convCode cr 0 0 (bs ++ numBits 16 (crcRun 16 0x1021 0xFFFF bs) ++ List.replicate 6 false)).length =
      codedBits (codeBits len) cr := by
    have hcode := convCode_length hcr 0 0 (bs ++ numBits 16 (crcRun 16 0x1021 0xFFFF bs) ++ List.replicate 6 false)
    have hin : (bs ++ numBits 16 (crcRun 16 0x1021 0xFFFF bs) ++ List.replicate 6 false).length = codeBits len := by
      rw [List.length_append, List.length_append, hbs, numBits_length, List.length_replicate, codeBits]
    have hzero : puncturedOut cr 0 = 0 := by unfold puncturedOut; split <;> rfl
    rw [hin, hzero, Nat.zero_add] at hcode
    have := codedBits_eq hcr len
    omega
  unfold payShifts paySymbols
  dsimp only
  rw [hcoded]
  simp [List.length_flatMap, Function.comp_def, blockSymbols, Nat.mul_comm]

/-- Eight up-chirps, two down-chirps, three of the identifier, six of the header, and the payload (R161 to R164). -/
theorem frameChirps_length (hcr : cr < 3) (so netid header : Nat) (hbs : bs.length = 8 * len) :
    (frameChirps so cr netid header bs).length = 19 + paySymbols so len cr := by
  simp [frameChirps, payShifts_length hcr so hbs]
  omega

end Sys2Proof.Machine
end

section
/-! PROOF. C.SEND: the frame sent, refused and ended, and its duty (R175 to R180, R321). -/

open Sys2Proof Sys2Proof.Machine

namespace Sys2Proof.Machine

variable {s t u : State} {o : OpId} {op x : Op} {status : Nat} {p : UPortNo}

/-! ### The end of any operation -/

/-- What no change of the air engine touches, nor the duty of the operation's frame, its end leaves alone. -/
theorem State.finishOp_shared {α : Type} {view : State → α} (hair : ∀ {u v : State}, u.airFrame v → view v = view u)
    (hduty : ∀ v : State, view (v.dutyFrame op) = view v) (s : State) (status : Nat) :
    view (s.finishOp op status) = view s := by
  have hmute (v : State) : view (v.muteBeam op) = view v :=
    hair (.foldl (fun w p => w.modUp_airFrame p UPort.off) _ rfl)
  have hcarriers : view (s.releaseCarriers op) = view s := by
    unfold State.releaseCarriers
    split
    · exact hair (.foldl (fun v p => v.releaseUp_airFrame op.id p) _ rfl)
    · split
      · rw [hduty, hmute]
      · split
        · exact hmute s
        · rfl
  have hrel : view (s.release op) = view s := by
    have hheld := ((State.releaseFields_airFrame (s.releaseCarriers op) op).trans (State.releaseSpares_airFrame _ op)).trans
      (State.releaseDecoders_airFrame _ op)
    rw [State.release_eq]
    refine Eq.trans ?_ hcarriers
    exact hair (hheld.trans rfl)
  have hout : view (s.takenOut op status) = view s := by
    have hfree : view (if op.released then s else s.release op) = view s := by
      split
      · rfl
      · exact hrel
    rw [← hfree]
    exact hair rfl
  rw [State.finishOp_eq, ← hout]
  split
  · exact hair rfl
  · exact hair rfl

theorem State.finishOp_smem (s : State) (op : Op) (status : Nat) : (s.finishOp op status).smem = s.smem := by
  refine State.finishOp_shared (view := State.smem) (fun h => by rw [h]) (fun v => ?_) s status
  unfold State.dutyFrame
  split <;> rfl

/-- The end of an operation that sends no chirp now counts no duty (R179). -/
theorem State.finishOp_duty (h : ∀ first, op.eng ≠ .csend true first) (s : State) (status : Nat) :
    (s.finishOp op status).duty = s.duty := by
  refine State.finishOp_shared (view := State.duty) (fun h => by rw [h]) (fun v => ?_) s status
  unfold State.dutyFrame
  split
  next heng _ => exact absurd heng (h _)
  · rfl

theorem State.listenless.of_ops (h : s.listenless) (hops : t.ops = s.ops) : t.listenless := by
  unfold State.listenless
  rw [hops]
  exact h

/-- Where no C.LISTEN was in flight, none is after an end. -/
theorem State.listenless.finishOp (h : s.listenless) (hid : op.id = o) (hd : (s.slot o).discard = false) (status : Nat) :
    (s.finishOp op status).listenless := by
  obtain ⟨-, hops⟩ := State.finishOp_tickets hid hd status
  exact fun x hx => h x (List.mem_of_mem_filter (hops ▸ hx))

/-- An operation with nothing held ends in one step, whatever it was at; shared memory keeps. -/
theorem State.endOp_ends (hop : s.op? o = some op) (hp : op.plain) (hd : (s.slot o).discard = false) (hs : status < 256) :
    (s.endOp o status).doneAs o op.words op.code status ∧ (s.endOp o status).smem = s.smem := by
  obtain ⟨hdone, -⟩ := State.finishOp_ticket (State.op?_id hop) hd hs
  rw [State.endOp_plain hop hp]
  exact ⟨hdone, s.finishOp_smem op status⟩

/-! ### The start of a C.SEND (R176) -/

/-- The state at the start of a C.SEND. -/
def State.atSend (s : State) (op : Op) : State := s.advance (op.sendStart - s.tbLo).toInt.toNat

/-- One port of a C.SEND that sends: its carrier up, and the receptions it breaks off counted and abandoned (R177). -/
def State.downlink (s : State) (op : Op) (p : UPortNo) : State :=
  let n := (s.decoders.toList.filter fun d => d.any fun r => decide (r.port = p)).length
  let t := (s.carrierUp op op.freq s.ticks p).modUp p fun x => { x with dpdOff := true }
  (t.countFld CH_CNT2 0 8 n).dropReceptions fun r => op.drowns p r

/-- The chirps of a C.SEND's frame, its payload read from thread memory (R162 to R164). -/
def State.sendChirps (s : State) (op : Op) (t : Tid) : List (Option Nat) :=
  frameChirps op.sendSo op.sendCr (bits (op.w 7) 0 12) (chirpHeader op.sendLen op.sendCr false true)
    (s.threadBits t (op.w 8).toNat op.sendLen)

/-- A C.SEND that sends: its ports one by one, then its frame. -/
def State.downlinkOn (s : State) (o : OpId) (op : Op) : State :=
  let t := op.uports.foldl (fun v p => v.downlink op p) s
  (t.beginOp o (.csend true (s.tbLo + BitVec.ofNat 32 firstDelay))).modOp o fun x =>
    { x with settled := true, cmdFrom := t.ticks + firstDelay, chirps := s.sendChirps op o.thread }

/-- A C.SEND at its start, its LO on its channel: refused for its payload, refused for its window, or sent. -/
theorem execCSend_eq (hb : s.begins o 2 2 = some op) (hlo : (s.lo op.lo).at op.freq = true) (bad : Bool) :
    exec (.cSend o bad) s = .next (
      if bad then ((s.atSend op).fault 6 o.thread.val 0).endOp o 0x0D
      else if !(s.atSend op).sendFits op then (s.atSend op).endOp o op.noFit
      else (s.atSend op).downlinkOn o op) := by
  have hon : ¬ (!((s.atSend op).lo op.lo).at op.freq) = true := by
    rw [State.atSend, State.advance_lo_acc, hlo]
    exact Bool.false_ne_true
  show execCSend o bad s = _
  unfold execCSend
  rw [hb]
  exact congrArg Host.Outcome.next (if_neg hon)

theorem State.atSend_later (s : State) (op : Op) : s.Later (s.atSend op) := s.advance_later _

theorem State.atSend_slot (s : State) (op : Op) (o : OpId) : (s.atSend op).slot o = s.slot o :=
  congrArg (fun v => v[o.thread].slots[o.slot]) (s.atSend_later op).threads

theorem State.atSend_smem (s : State) (op : Op) : (s.atSend op).smem = s.smem := State.advance_smem s _

/-- A frame that does not fit its window is not sent (R176). -/
theorem cSend_tooLate (hb : s.begins o 2 2 = some op) (hlo : (s.lo op.lo).at op.freq = true) (hp : op.plain)
    (hd : (s.slot o).discard = false) (hfits : (s.atSend op).sendFits op = false) :
    ∃ t : State, exec (.cSend o false) s = .next t ∧ t.doneAs o op.words op.code op.noFit ∧ t.smem = s.smem := by
  obtain ⟨hop, -⟩ := State.begins_spec hb
  have hstatus : op.noFit < 256 := by
    unfold Op.noFit
    dsimp only
    split <;> decide
  have hexec := execCSend_eq hb hlo false
  rw [if_neg Bool.false_ne_true, if_pos (by rw [hfits]; rfl)] at hexec
  obtain ⟨hdone, hsmem⟩ := State.endOp_ends (((s.atSend_later op).op? o).trans hop) hp
    (by rw [State.atSend_slot]; exact hd) hstatus
  exact ⟨_, hexec, hdone, hsmem.trans (s.atSend_smem op)⟩

/-- A payload with a parity error raises DMEM and is not sent (R321). -/
theorem cSend_parityError (hb : s.begins o 2 2 = some op) (hlo : (s.lo op.lo).at op.freq = true) (hp : op.plain)
    (hd : (s.slot o).discard = false) :
    ∃ t : State, exec (.cSend o true) s = .next t ∧ t.doneAs o op.words op.code 0x0D ∧ t.smem = s.smem := by
  obtain ⟨hop, -⟩ := State.begins_spec hb
  have hop' : ((s.atSend op).fault 6 o.thread.val 0).op? o = some op :=
    (State.fault_op_acc _ _ _ _ o).trans (((s.atSend_later op).op? o).trans hop)
  have hslot : (((s.atSend op).fault 6 o.thread.val 0).slot o).discard = false := by
    obtain ⟨e, m, hth⟩ := State.fault_th (s.atSend op) 6 o.thread.val 0 o.thread
    rw [← hd, ← State.atSend_slot s op o, State.slot, hth]
    rfl
  have hexec := execCSend_eq hb hlo true
  rw [if_pos rfl] at hexec
  obtain ⟨hdone, hsmem⟩ := State.endOp_ends hop' hp hslot (status := 0x0D) (by decide)
  exact ⟨_, hexec, hdone, hsmem.trans ((State.fault_smem _ _ _ _).trans (s.atSend_smem op))⟩

/-! ### The frame sent (R175, R177) -/

/-- `t` is `s` but for its UHF ports, registers and receptions. -/
def State.portsOnly (s t : State) : Prop := t = { s with regs := t.regs, uports := t.uports, decoders := t.decoders }

theorem State.portsOnly.trans (h : s.portsOnly t) (h' : t.portsOnly u) : s.portsOnly u :=
  Eq.trans h' (congrArg (fun v : State => { v with regs := u.regs, uports := u.uports, decoders := u.decoders }) h)

theorem State.portsOnly.ops (h : s.portsOnly t) : t.ops = s.ops := by rw [h]

theorem State.portsOnly.threads (h : s.portsOnly t) : t.threads = s.threads := by rw [h]

theorem State.portsOnly.airFrame (h : s.portsOnly t) : s.airFrame t := by
  rw [h]
  rfl

theorem State.portsOnly.listenless (h : s.portsOnly t) (hs : s.listenless) : t.listenless := hs.of_ops h.ops

/-- A port that transmits carries the downlink, and no other port is touched. -/
theorem State.downlink_spec (h : s.listenless) (op : Op) (p : UPortNo) : s.portsOnly (s.downlink op p) ∧
    (∀ q, q ≠ p → (s.downlink op p).up q = s.up q) ∧
    ((s.up p).transmits = true → ((s.downlink op p).up p).carrier = some (op.lo, op.freq)) := by
  obtain ⟨hc, hothers, hlit⟩ := State.carrierUp_carriers h op op.freq s.ticks p
  have hup : s.portsOnly (s.carrierUp op op.freq s.ticks p) := hc.only
  unfold State.downlink
  extract_lets n t
  have ht : s.portsOnly (t.countFld CH_CNT2 0 8 n) := hup.trans rfl
  rw [(ht.listenless h).dropReceptions]
  refine ⟨ht.trans rfl, fun q hq => ?_, fun htx => ?_⟩
  · show t.up q = _
    exact (State.up_modUp_other _ _ hq).trans (hothers q hq)
  · have hsame : t.up p = { (s.carrierUp op op.freq s.ticks p).up p with dpdOff := true } := State.up_modUp_same _ _ _
    show (t.up p).carrier = _
    rw [hsame, hlit htx]
    rfl

/-- The downlink on every port of the operation; a C.LISTEN in flight matters only where there is a port. -/
theorem State.downlink_all (h : op.uports = [] ∨ s.listenless) :
    s.portsOnly (op.uports.foldl (fun v p => v.downlink op p) s) ∧ ∀ p ∈ op.uports, (s.up p).transmits = true →
      ((op.uports.foldl (fun v p => v.downlink op p) s).up p).carrier = some (op.lo, op.freq) := by
  rcases h with hnone | h
  · rw [hnone]
    exact ⟨rfl, fun p hp => absurd hp List.not_mem_nil⟩
  · obtain ⟨hall, -, hin⟩ := foldl_visits (R := s.portsOnly) (view := State.up) (f := fun v p => v.downlink op p)
      (fun u hu q => by
        obtain ⟨hstep, hothers, -⟩ := State.downlink_spec (hu.listenless h) op q
        exact ⟨hu.trans hstep, hothers⟩)
      op.uports s op.nodup_uports rfl
    refine ⟨hall, fun p hp htx => ?_⟩
    obtain ⟨u, hu, hview, hres⟩ := hin p hp
    obtain ⟨-, -, hlit⟩ := State.downlink_spec (hu.listenless h) op p
    rw [hres]
    exact hlit (by rw [hview]; exact htx)

theorem State.sendChirps_length (h : op.sendCr ≠ 3) (s : State) (t : Tid) :
    (s.sendChirps op t).length = 19 + paySymbols op.sendSo op.sendLen op.sendCr := by
  have hcr : op.sendCr < 2 ^ 2 := bits_lt _ _ _
  exact frameChirps_length (by omega) _ _ _ (s.threadBits_length t _ _)

/-- A frame that fits is sent. -/
theorem cSend_sends (hb : s.begins o 2 2 = some op) (hlo : (s.lo op.lo).at op.freq = true)
    (hfits : (s.atSend op).sendFits op = true) (hl : op.uports = [] ∨ s.listenless) :
    ∃ (t : State) (x : Op), exec (.cSend o false) s = .next t ∧ s.airFrame t ∧ t.threads = s.threads ∧ t.op? o = some x ∧
      x.started = true ∧ x.desc = op.desc ∧ x.words = op.words ∧ x.eng = .csend true ((s.atSend op).tbLo + 174) ∧
      x.chirps = (s.atSend op).sendChirps op o.thread ∧
      ∀ p ∈ op.uports, (s.up p).transmits = true → (t.up p).carrier = some (op.lo, op.freq) := by
  obtain ⟨hop, -⟩ := State.begins_spec hb
  have hlater := s.atSend_later op
  have hl' : op.uports = [] ∨ (s.atSend op).listenless := hl.imp_right (State.listenless.of_ops · (State.advance_ops s _))
  obtain ⟨hall, hports⟩ := State.downlink_all hl'
  have hexec := execCSend_eq hb hlo false
  rw [if_neg Bool.false_ne_true, if_neg (by rw [hfits]; exact Bool.false_ne_true)] at hexec
  generalize ht : op.uports.foldl (fun v p => v.downlink op p) (s.atSend op) = t at hall hports
  rw [State.downlinkOn, ht] at hexec
  have hopt : t.op? o = some op := by
    rw [State.op?, hall.ops]
    exact (hlater.op? o).trans hop
  have hbegun : (t.beginOp o (.csend true ((s.atSend op).tbLo + BitVec.ofNat 32 firstDelay))).op? o = some _ :=
    State.op?_modOp hopt fun _ => rfl
  refine ⟨_, _, hexec, (hlater.airFrame.trans hall.airFrame).trans rfl, hall.threads.trans hlater.threads,
    State.op?_modOp hbegun fun _ => rfl, rfl, rfl, rfl, rfl, rfl, fun p hp htx => ?_⟩
  exact hports p hp (by rw [State.atSend, State.advance_up_acc]; exact htx)

/-! ### The time charged (R198, R199) -/

/-- `t` is `s` but for the meters and the deficits. -/
def State.metersOnly (s t : State) : Prop := t = { s with meters := t.meters, deficits := t.deficits }

theorem State.metersOnly.trans (h : s.metersOnly t) (h' : t.metersOnly u) : s.metersOnly u :=
  Eq.trans h' (congrArg (fun v : State => { v with meters := u.meters, deficits := u.deficits }) h)

theorem State.charge_metersOnly (s : State) (t : Tid) (n : Nat) : s.metersOnly (s.charge t n) := by
  unfold State.metersOnly State.charge
  dsimp only
  split <;> split <;> rfl

theorem State.meterUs_metersOnly (s : State) (t : Tid) : s.metersOnly (s.meterUs t) := by
  have hrefill : s.metersOnly (s.meterRefill t) := by
    unfold State.metersOnly State.meterRefill
    dsimp only
    split <;> rfl
  have hcharges (l : List Nat) (u : State) (hu : s.metersOnly u) : s.metersOnly (l.foldl (fun v _ => v.charge t 1) u) := by
    induction l generalizing u with
    | nil => exact hu
    | cons a l ih => exact ih _ (hu.trans (u.charge_metersOnly t 1))
  exact hcharges _ _ hrefill

theorem State.meterEach_metersOnly (s : State) (t : Tid) (n : Nat) : s.metersOnly (s.meterEach t n) := by
  induction n generalizing s with
  | zero => rfl
  | succ n ih => exact (s.meterUs_metersOnly t).trans (ih _)

/-- Of the operations, time charged notes what was charged, and nothing else. -/
def onlyCharges (f : Op → Op) : Prop := ∀ x, ∃ c, f x = { x with charged := c }

/-- The µs charged to a thread are noted with its C.SEND on the air (R180). -/
def State.noteCharge (s : State) (t : Tid) (n : Nat) (x : Op) : Op :=
  if x.id.thread == t && x.isSend && s.onAir x then { x with charged := x.charged + n } else x

theorem State.noteCharge_charges (s : State) (t : Tid) (n : Nat) : onlyCharges (s.noteCharge t n) := by
  intro x
  unfold State.noteCharge
  split
  · exact ⟨_, rfl⟩
  · exact ⟨_, rfl⟩

/-- Time charged to a thread changes meters and deficits, and notes it with the operations. -/
theorem State.meterRun_charges (s : State) (t : Tid) (n : Nat) : ∃ f, onlyCharges f ∧
    s.meterRun t n = { s with meters := (s.meterRun t n).meters, deficits := (s.meterRun t n).deficits, ops := s.ops.map f } := by
  have hmeter : s.metersOnly (if bit (s.reg (SC_AMCTL t)) 31 || decide (4 ≤ s.airClass t) then s.meterEach t n else s) := by
    split
    · exact s.meterEach_metersOnly t n
    · rfl
  unfold State.meterRun
  extract_lets v
  have hv : s.metersOnly v := hmeter
  have hops : v.ops = s.ops := by rw [hv]
  refine ⟨v.noteCharge t n, v.noteCharge_charges t n, ?_⟩
  rw [← hops]
  exact congrArg (fun w : State => { w with ops := v.ops.map (v.noteCharge t n) }) hv

/-- The operation of a ticket, with what was charged noted. -/
theorem onlyCharges.op? {f : Op → Op} (hf : onlyCharges f) (hop : s.op? o = some op) (hops : t.ops = s.ops.map f) :
    t.op? o = some (f op) := by
  have hsame : ((fun x : Op => x.id == o) ∘ f) = fun x => x.id == o := by
    funext x
    obtain ⟨c, hc⟩ := hf x
    simp [hc]
  unfold State.op? at hop ⊢
  rw [hops, List.find?_map, hsame, hop, Option.map_some]

theorem onlyCharges.listenless {f : Op → Op} (hf : onlyCharges f) (h : s.listenless) (hops : t.ops = s.ops.map f) :
    t.listenless := by
  intro x hx
  rw [hops] at hx
  obtain ⟨y, hy, rfl⟩ := List.mem_map.mp hx
  obtain ⟨c, hc⟩ := hf y
  rw [hc]
  exact h y hy

/-! ### The frame ends (R176, R179, R180) -/

theorem State.dutyFrame_only (s : State) (op : Op) : s.dutyFrame op = { s with duty := (s.dutyFrame op).duty } := by
  unfold State.dutyFrame
  split <;> rfl

/-- The transmit time of a frame counts in the bucket in progress of its sub-band (R179). -/
theorem State.dutyFrame_counts {first : Word} {k : Fin 4} {b : Nat} {bs : List Nat} (heng : op.eng = .csend true first)
    (hband : op.band = some k) (hb : s.duty[k] = b :: bs) :
    (s.dutyFrame op).duty[k] = (b + ((s.ticks - op.cmdFrom) * 100 + 10848) / 21696) :: bs := by
  have hadd : s.dutyFrame op = s.dutyAdd k (((s.ticks - op.cmdFrom) * 200 + 21696) / 43392) := by
    unfold State.dutyFrame
    rw [heng, hband]
  have htime (n : Nat) : (n * 200 + 21696) / 43392 = (n * 100 + 10848) / 21696 := by omega
  rw [hadd, State.dutyAdd]
  dsimp only
  rw [vset_get_same, hb, htime]

/-- A frame is over: its time charged and counted, and the operation at nothing more. -/
def State.frameOver (s : State) (o : OpId) (op : Op) (first : Word) : State :=
  (((s.advanceTo (op.cmdFrom + op.sendTicks)).meterRun o.thread (op.sendUs - op.charged)).dutyFrame op).setEng o
    (.csend false first)

/-- The threads keep, time reaches the frame's end, and the frame counts in its sub-band; the operation is the same but for its
engine and what was charged. -/
theorem State.frameOver_spec (s : State) (o : OpId) (op : Op) (first : Word) :
    (s.frameOver o op first).threads = s.threads ∧
    (s.frameOver o op first).ticks = (s.advanceTo (op.cmdFrom + op.sendTicks)).ticks ∧
    (∀ k b bs, op.eng = .csend true first → op.band = some k → s.duty[k] = b :: bs →
      (s.frameOver o op first).duty[k] =
        (b + (((s.frameOver o op first).ticks - op.cmdFrom) * 100 + 10848) / 21696) :: bs) ∧
    (s.listenless → (s.frameOver o op first).listenless) ∧
    (s.op? o = some op → ∃ c, (s.frameOver o op first).op? o = some { op with charged := c, eng := .csend false first }) := by
  obtain ⟨f, hf, hrun⟩ := (s.advanceTo (op.cmdFrom + op.sendTicks)).meterRun_charges o.thread (op.sendUs - op.charged)
  unfold State.frameOver
  generalize (s.advanceTo (op.cmdFrom + op.sendTicks)).meterRun o.thread (op.sendUs - op.charged) = v at hrun
  have hops : v.ops = (s.advanceTo (op.cmdFrom + op.sendTicks)).ops.map f := by rw [hrun]
  have hthreads : v.threads = s.threads := by rw [hrun]; exact State.advanceTo_threads s _
  have hticks : v.ticks = (s.advanceTo (op.cmdFrom + op.sendTicks)).ticks := by rw [hrun]
  have hduty : v.duty = s.duty := by rw [hrun]; exact State.advanceTo_duty s _
  have honly := v.dutyFrame_only op
  have hops' : (v.dutyFrame op).ops = (s.advanceTo (op.cmdFrom + op.sendTicks)).ops.map f := by rw [honly]; exact hops
  have hticks' : (v.dutyFrame op).ticks = v.ticks := by rw [honly]
  refine ⟨?_, hticks'.trans hticks, fun k b bs heng hband hb => ?_, fun hl => ?_, fun hop => ?_⟩
  · show (v.dutyFrame op).threads = _
    rw [honly]
    exact hthreads
  · show (v.dutyFrame op).duty[k] = (b + (((v.dutyFrame op).ticks - op.cmdFrom) * 100 + 10848) / 21696) :: bs
    rw [hticks']
    exact State.dutyFrame_counts heng hband (by rw [hduty]; exact hb)
  · have hl' := hl.of_ops (State.advanceTo_ops s (op.cmdFrom + op.sendTicks))
    exact (hf.listenless hl' hops').modOp o (f := fun x => { x with eng := .csend false first }) fun _ => rfl
  · obtain ⟨c, hc⟩ := hf op
    have hop' : (v.dutyFrame op).op? o = some { op with charged := c } := by
      rw [← hc]
      exact hf.op? ((State.advanceTo_op_acc s _ o).trans hop) hops'
    exact ⟨c, State.op?_setEng hop' _⟩

theorem execCSendFrameEnd_eq {first : Word} (hrun : s.running o = some op) (heng : op.eng = .csend true first) :
    exec (.cSendFrameEnd o) s = .next ((((s.frameOver o op first).emit o 0x21 0x00
      [rword (first ++ (first + BitVec.ofNat 32 op.sendTicks))]).endOp o 0x00).settleListens) := by
  show execCSendFrameEnd o s = _
  unfold execCSendFrameEnd
  simp only [hrun, heng]
  rfl

/-- The time that an operation's end leaves. -/
theorem State.finishOp_ticks (s : State) (op : Op) (hs : status < 16) : (s.finishOp op status).ticks = s.ticks :=
  ((State.SameRecords.refl s).finishOp op hs).ticks

/-- Time reaches the tick it is moved to, or is past it. -/
theorem State.advanceTo_ticks (h : s.tbRuns = true) (n : Nat) : (s.advanceTo n).ticks = max s.ticks n := by
  rw [State.advanceTo, State.advance, if_pos h]
  show s.ticks + (n - s.ticks) = max s.ticks n
  omega

/-- The end of a frame whose item would pass LIMIT completes the C.SEND; its duty was counted before (R61, R176, R179). -/
theorem cSendFrameEnd_completes {first : Word} (hrun : s.running o = some op) (heng : op.eng = .csend true first)
    (hp : op.plain) (hd : (s.slot o).discard = false) (hmem : op.mem = true) (hlimit : op.limit < op.memWords + 2)
    (hl : s.listenless) :
    ∃ t : State, exec (.cSendFrameEnd o) s = .next t ∧ t.doneAs o op.words op.code 0x00 ∧ s.onlySlot t o ∧
      (s.tbRuns = true → t.ticks = max s.ticks (op.cmdFrom + op.sendTicks)) ∧
      ∀ k b bs, op.band = some k → s.duty[k] = b :: bs →
        t.duty[k] = (b + ((t.ticks - op.cmdFrom) * 100 + 10848) / 21696) :: bs := by
  obtain ⟨hop, -⟩ := State.running_spec hrun
  obtain ⟨hthreads, hticks, hduty, hless, hover⟩ := s.frameOver_spec o op first
  obtain ⟨c, hx⟩ := hover hop
  have hexec := execCSendFrameEnd_eq hrun heng
  rw [State.emit_limit hx hmem (body := [rword (first ++ (first + BitVec.ofNat 32 op.sendTicks))]) hlimit] at hexec
  have hwritten : ((s.frameOver o op first).modOp o fun x => { x with limitHit := true }).op? o = some _ :=
    State.op?_modOp hx fun _ => rfl
  have hless' := (hless hl).modOp o (f := fun x => { x with limitHit := true }) fun _ => rfl
  generalize hv : ((s.frameOver o op first).modOp o fun x => { x with limitHit := true }) = v at hexec hwritten hless'
  have hvthreads : v.threads = s.threads := hv ▸ hthreads
  have hvticks : v.ticks = (s.frameOver o op first).ticks := hv ▸ rfl
  have hvduty : v.duty = (s.frameOver o op first).duty := hv ▸ rfl
  rw [State.endOp_plain hwritten hp] at hexec
  generalize hy : ({ op with charged := c, eng := .csend false first, limitHit := true } : Op) = y at hexec hwritten
  have hid : y.id = o := State.op?_id hwritten
  have hdv : (v.slot o).discard = false := by rw [State.slot, State.th, hvthreads]; exact hd
  obtain ⟨hdone, honly⟩ := State.finishOp_ticket (s := v) (status := 0) hid hdv (by decide)
  have hft : (v.finishOp y 0).ticks = v.ticks := v.finishOp_ticks y (by decide)
  have hfd : (v.finishOp y 0).duty = v.duty := State.finishOp_duty (fun f hf => by rw [← hy] at hf; cases hf) v 0
  rw [(hless'.finishOp hid hdv 0).settleListens] at hexec
  refine ⟨_, hexec, ?_, honly.of_threads hvthreads, fun htb => ?_, fun k b bs hband hb => ?_⟩
  · rw [← hy] at hdone
    rw [← hy]
    exact hdone
  · rw [hft, hvticks, hticks, State.advanceTo_ticks htb]
  · rw [hft, hfd, hvticks, hvduty]
    exact hduty k b bs heng hband hb

end Sys2Proof.Machine
end

section
/-! PROOF. C.LISTEN begins and its window closes (R166 to R168), and the duty buckets roll (R179). -/

open Sys2Proof Sys2Proof.Machine

namespace Sys2Proof.Machine

variable {s t u : State} {o : OpId} {op x : Op}

/-! ### C.LISTEN begins (R167) -/

theorem execCListen_eq (hb : s.begins o 2 1 = some op) : exec (.cListen o) s = .next (
    if (s.lo op.lo).lockedOn (op.w 7).toNat then (s.beginOp o (.listen false 0)).openListen o
    else s.beginOp o (.listen false 0)) := by
  show execCListen o s = _
  unfold execCListen
  rw [hb]
  rfl

/-- A C.LISTEN searches; its window opens at once where its LO is locked on its frequency already. -/
theorem cListen_begins (hb : s.begins o 2 1 = some op) :
    ∃ (t : State) (x : Op), exec (.cListen o) s = .next t ∧ t = { s with ops := t.ops } ∧ t.op? o = some x ∧
      x.started = true ∧ x.eng = .listen false 0 ∧ x.desc = op.desc ∧
      ((s.lo op.lo).lockedOn (op.w 7).toNat = true → x.settled = true ∧ x.winOpen = s.ticks) ∧
      ((s.lo op.lo).lockedOn (op.w 7).toNat = false → x.settled = op.settled) := by
  obtain ⟨hop, -⟩ := State.begins_spec hb
  have hbegun : (s.beginOp o (.listen false 0)).op? o = some (op.begunAs (.listen false 0)) := State.op?_beginOp hop _
  have hexec := execCListen_eq hb
  cases hlocked : (s.lo op.lo).lockedOn (op.w 7).toNat with
  | true =>
    rw [if_pos hlocked] at hexec
    exact ⟨_, _, hexec, rfl, State.op?_modOp hbegun fun _ => rfl, rfl, rfl, rfl, fun _ => ⟨rfl, rfl⟩,
      fun h => absurd h (by decide)⟩
  | false =>
    rw [if_neg (by rw [hlocked]; exact Bool.false_ne_true)] at hexec
    exact ⟨_, _, hexec, rfl, hbegun, rfl, rfl, rfl, fun h => absurd h (by decide), fun _ => rfl⟩

/-! ### Its window closes (R167, R168) -/

/-- A C.LISTEN whose window has closed, no limit of its own met and no packet in progress, ends. -/
theorem State.listenSettle_closed {got : Nat} (hop : s.op? o = some x) (heng : x.eng = .listen true got)
    (hend : x.ending = none) (hlimit : bits (x.w 4) 8 8 = 0) (hhit : x.limitHit = false)
    (hidle : s.decoders = Vector.replicate 16 none) :
    s.listenSettle o = s.endOp o (if 0 < x.okItems then 0x00 else 0x01) := by
  simp [State.listenSettle, hop, heng, hend, hlimit, hhit, hidle]

/-- The state in which a listening window has closed, and no packet that began in it can be detected any more. -/
def State.windowClosed (s : State) (o : OpId) (op : Op) (got : Nat) : State :=
  (s.advanceTo (op.winOpen + spanTicks (op.w 5).toNat + op.listenLag)).setEng o (.listen true got)

theorem execListenWindowClose_eq {got : Nat} (hrun : s.running o = some op) (heng : op.eng = .listen false got)
    (hset : op.settled = true) (hspan : op.w 5 ≠ 0) :
    exec (.listenWindowClose o) s = .next ((s.windowClosed o op got).listenSettle o) := by
  have hopen : (op.settled && op.w 5 != 0) = true := by
    rw [hset, Bool.true_and]
    exact bne_iff_ne.mpr hspan
  show execListenWindowClose o s = _
  unfold execListenWindowClose
  simp only [hrun, heng]
  exact congrArg Host.Outcome.next (if_pos hopen)

/-- The close of the window of a C.LISTEN with no packet in progress completes it. -/
theorem listenWindowClose_completes {got : Nat} (hrun : s.running o = some op) (heng : op.eng = .listen false got)
    (hp : op.plain) (hd : (s.slot o).discard = false) (hset : op.settled = true) (hspan : op.w 5 ≠ 0)
    (hhit : op.limitHit = false) (hlimit : bits (op.w 4) 8 8 = 0) (hidle : s.decoders = Vector.replicate 16 none) :
    ∃ t : State, exec (.listenWindowClose o) s = .next t ∧ s.airFrame t ∧ s.onlySlot t o ∧
      t.doneAs o op.words op.code (if 0 < op.okItems then 0x00 else 0x01) ∧
      (s.tbRuns = true → t.ticks = max s.ticks (op.winOpen + spanTicks (op.w 5).toNat + op.listenLag)) := by
  obtain ⟨hop, -, -, hend⟩ := State.running_spec hrun
  have hopu : (s.windowClosed o op got).op? o = some { op with eng := .listen true got } :=
    State.op?_setEng ((State.advanceTo_op_acc s _ o).trans hop) _
  have hidleu : (s.windowClosed o op got).decoders = Vector.replicate 16 none := (State.advanceTo_decoders s _).trans hidle
  have hframe : s.airFrame (s.windowClosed o op got) := (s.advance_airFrame _).trans rfl
  have hthreads : (s.windowClosed o op got).threads = s.threads := State.advanceTo_threads s _
  have hexec := execListenWindowClose_eq hrun heng hset hspan
  rw [State.listenSettle_closed hopu rfl hend hlimit hhit hidleu] at hexec
  have hstatus : (if 0 < op.okItems then 0x00 else 0x01) < 16 := by split <;> decide
  obtain ⟨hdone, honly, hair⟩ := State.quiet_done hopu (status := if 0 < op.okItems then 0x00 else 0x01) hp
    (fun k f hk => by cases hk) hframe hthreads hd (by omega)
  refine ⟨_, hexec, hair, honly, hdone, fun htb => ?_⟩
  have hticks := ((State.SameRecords.refl (s.windowClosed o op got)).endOp o hstatus).ticks
  exact hticks.trans (State.advanceTo_ticks htb _)

/-! ### The duty buckets (R179) -/

/-- A bucket begins in each sub-band, and 3,600 are kept. -/
theorem dutyBucketRoll_keeps (s : State) : ∃ t : State, exec .dutyBucketRoll s = .next t ∧ t = { s with duty := t.duty } ∧
    ∀ k : Fin 4, t.duty[k] = (0 :: s.duty[k]).take 3600 ∧ (t.duty[k]).length ≤ 3600 := by
  refine ⟨{ s with duty := s.duty.map fun l => (0 :: l).take 3600 }, rfl, rfl, fun k => ?_⟩
  have hk : (s.duty.map fun l => (0 :: l).take 3600)[k] = (0 :: s.duty[k]).take 3600 := Vector.getElem_map _ k.isLt
  refine ⟨hk, ?_⟩
  dsimp only
  rw [hk]
  exact List.length_take_le _ _

end Sys2Proof.Machine

open Sys2Proof Sys2Proof.Machine

/-- Settles O27, one command at a time. That a C.SEND's carrier goes up with its frame is assumption 19, and that a listening window
is kept open for the latency of its slowest detector assumption 73; REJECT for a payload with a parity error is R321. -/
theorem chirpOperationsSendAndListen : Obligations.ChirpOperationsSendAndListen := by
  unfold Obligations.ChirpOperationsSendAndListen
  intro s o op _ hp hd start ends fitted
  refine ⟨fun hb hlo => ⟨fun hfits => cSend_tooLate hb hlo hp hd hfits, cSend_parityError hb hlo hp hd,
      fun hfits hl => ?_, fun hstop => ?_⟩,
    fun first hrun heng hmem hlimit hl => cSendFrameEnd_completes hrun heng hp hd hmem hlimit hl, cListen_begins,
    fun got hrun heng hset hspan hhit hlimit hidle =>
      listenWindowClose_completes hrun heng hp hd hset hspan hhit hlimit hidle,
    dutyBucketRoll_keeps s⟩
  · obtain ⟨t, x, hexec, hair, hthreads, hop, hstart, hdesc, hwords, heng, hchirps, hports⟩ := cSend_sends hb hlo hfits hl
    exact ⟨t, x, hexec, hair, hthreads, hop, hstart, hdesc, hwords, heng,
      fun hcr => hchirps ▸ State.sendChirps_length hcr _ _, hports⟩
  · exact if_neg (by rw [hstop]; exact Bool.false_ne_true)

end

section
/-! PROOF. A preamble beside a reception, a detection of its own, and the delivery of a payload (R164, R168 to R173). -/

open Sys2Proof Sys2Proof.Machine

namespace Sys2Proof.Machine

variable {s t u : State} {o : OpId} {op x : Op} {d : Fin 16} {r new : Recep} {lv now : Int}

/-! ### C.LISTENs that go on (R168) -/

/-- A C.LISTEN whose window is open, with no limit of its own and none met. -/
def Op.listensOn (op : Op) : Prop := bits (op.w 4) 8 8 = 0 ∧ op.limitHit = false ∧ ∃ got, op.eng = .listen false got

theorem Op.listensOn.settled (h : op.listensOn) (hop : s.op? o = some op) : s.listenSettle o = s := by
  obtain ⟨hlimit, hhit, got, heng⟩ := h
  cases hend : op.ending with
  | none => simp [State.listenSettle, hop, heng, hend, hlimit, hhit]
  | some st => simp [State.listenSettle, hop, heng, hend]

/-- Where every operation listens on, none ends. -/
theorem State.settleListens_on (h : ∀ x ∈ s.ops, x.listensOn) : s.settleListens = s := by
  have hstays (o : OpId) : s.listenSettle o = s := by
    cases hop : s.op? o with
    | none => simp [State.listenSettle, hop]
    | some x => exact (h x (List.mem_of_find?_eq_some hop)).settled hop
  exact List.foldl_fixed' hstays _

/-! ### A packet beside a reception (R172, R173) -/

theorem State.advance_zero (s : State) : s.advance 0 = s := by
  unfold State.advance
  split
  · show { s with tb := s.tb + 0#64 } = s
    rw [BitVec.add_zero]
  · rfl

theorem State.newRecep_level {p : UPortNo} {chan : Fin 16} {so : Fin 7} (h : s.newRecep p chan so lv = some new) :
    new.level = lv := by
  unfold State.newRecep at h
  dsimp only at h
  split at h
  · cases h
  · obtain ⟨c, -, rfl⟩ := Option.map_eq_some_iff.mp h
    rfl

/-- A preamble beside a decoder that the detectors hear is a newcomer to its reception. -/
theorem State.beside_newcomer (hr : s.decoders[d] = some r) (hnew : s.newRecep r.port r.chan r.so lv = some new)
    (hdet : s.detects new = true) : s.beside d 0 lv now r.hdr.isSome = s.newcomer d r new now := by
  unfold State.beside
  rw [s.advance_zero]
  simp [hr, hnew, hdet]

/-- Before the header 1 dB decides (R172). -/
theorem State.newcomer_before (hhdr : r.hdr = none) (d : Fin 16) (hnew : new.level = lv) (now : Int) :
    s.newcomer d r new now =
      if r.level + 16 ≤ lv then ((s.countFld CH_CNT0 16 16 1).setDec d (some new)).settleListens else s := by
  unfold State.newcomer
  rw [hhdr, if_pos Option.isNone_none, hnew]
  rfl

/-- After it CAPTHR decides (R173). -/
theorem State.newcomer_after (hhdr : r.hdr ≠ none) (d : Fin 16) (hnew : new.level = lv) (now : Int) :
    s.newcomer d r new now = if now + 16 * r.capthr ≤ lv then ((s.preempt r).setDec d (some new)).settleListens
      else s.countFld CH_CNT1 16 16 1 := by
  unfold State.newcomer
  rw [if_neg (by simpa using hhdr), hnew]
  rfl

/-- The newcomer takes the decoder, and a counter says why. -/
theorem State.settleListens_setDec (hwf : s.regsWf) (hon : ∀ x ∈ s.ops, x.listensOn) (d : Fin 16) (new : Recep) (a : Nat)
    {lo n : Nat} (hn : lo + n ≤ 32) : ∃ t : State, ((s.countFld a lo n 1).setDec d (some new)).settleListens = t ∧
      t = { s with regs := t.regs, decoders := t.decoders } ∧ t.decoders[d] = some new ∧
      t.fld a lo n = min (s.fld a lo n + 1) (2 ^ n - 1) :=
  ⟨_, State.settleListens_on hon, rfl, vset_get_same _ _ _, State.fld_countFld_same hwf a hn 1⟩

/-- Before the header a preamble not 1 dB stronger changes nothing (R172). -/
theorem reanchor_weaker (hr : s.decoders[d] = some r) (hnew : s.newRecep r.port r.chan r.so lv = some new)
    (hdet : s.detects new = true) (hhdr : r.hdr = none) (hlv : lv < r.level + 16) :
    exec (.reanchor d 0 lv) s = .next s := by
  have hbeside := State.beside_newcomer (now := 0) hr hnew hdet
  rw [State.newcomer_before hhdr d (State.newRecep_level hnew), if_neg (by omega), hhdr] at hbeside
  exact congrArg Host.Outcome.next hbeside

/-- One at least 1 dB stronger re-anchors the decoder, and is counted (R172). -/
theorem reanchor_stronger (hwf : s.regsWf) (hr : s.decoders[d] = some r) (hnew : s.newRecep r.port r.chan r.so lv = some new)
    (hdet : s.detects new = true) (hhdr : r.hdr = none) (hlv : r.level + 16 ≤ lv) (hon : ∀ x ∈ s.ops, x.listensOn) :
    ∃ t : State, exec (.reanchor d 0 lv) s = .next t ∧ t = { s with regs := t.regs, decoders := t.decoders } ∧
      t.decoders[d] = some new ∧ t.fld CH_CNT0 16 16 = min (s.fld CH_CNT0 16 16 + 1) 65535 := by
  have hbeside := State.beside_newcomer (now := 0) hr hnew hdet
  obtain ⟨t, ht, hspec⟩ := State.settleListens_setDec hwf hon d new CH_CNT0 (lo := 16) (n := 16) (by decide)
  rw [State.newcomer_before hhdr d (State.newRecep_level hnew), if_pos hlv, ht, hhdr] at hbeside
  exact ⟨t, congrArg Host.Outcome.next hbeside, hspec⟩

/-- After the header a packet less than CAPTHR above the one in progress is counted as missed (R173). -/
theorem preempted_weaker (hwf : s.regsWf) (hr : s.decoders[d] = some r) (hnew : s.newRecep r.port r.chan r.so lv = some new)
    (hdet : s.detects new = true) (hhdr : r.hdr ≠ none) (hlv : lv < now + 16 * r.capthr) :
    ∃ t : State, exec (.preempted d 0 lv now) s = .next t ∧ t = { s with regs := t.regs } ∧
      t.fld CH_CNT1 16 16 = min (s.fld CH_CNT1 16 16 + 1) 65535 := by
  have hbeside := State.beside_newcomer (now := now) hr hnew hdet
  rw [State.newcomer_after hhdr d (State.newRecep_level hnew), if_neg (by omega), Option.isSome_iff_ne_none.mpr hhdr] at hbeside
  exact ⟨_, congrArg Host.Outcome.next hbeside, rfl, State.fld_countFld_same hwf _ (by decide) 1⟩

/-- One at least CAPTHR above it takes the decoder from a reception that no C.LISTEN takes (R173). -/
theorem preempted_stronger (hwf : s.regsWf) (hr : s.decoders[d] = some r) (hnew : s.newRecep r.port r.chan r.so lv = some new)
    (hdet : s.detects new = true) (hhdr : r.hdr ≠ none) (hlv : now + 16 * r.capthr ≤ lv) (hnone : r.ops = [])
    (hon : ∀ x ∈ s.ops, x.listensOn) :
    ∃ t : State, exec (.preempted d 0 lv now) s = .next t ∧ t = { s with regs := t.regs, decoders := t.decoders } ∧
      t.decoders[d] = some new ∧ t.fld CH_CNT2 16 16 = min (s.fld CH_CNT2 16 16 + 1) 65535 := by
  have hbeside := State.beside_newcomer (now := now) hr hnew hdet
  have hpreempt : s.preempt r = s.countFld CH_CNT2 16 16 1 := by
    have htakers : s.takers r = [] := by simp [State.takers, hnone]
    rw [State.preempt, htakers, List.foldl_nil]
  obtain ⟨t, ht, hspec⟩ := State.settleListens_setDec hwf hon d new CH_CNT2 (lo := 16) (n := 16) (by decide)
  rw [State.newcomer_after hhdr d (State.newRecep_level hnew), if_pos hlv, hpreempt, ht,
    Option.isSome_iff_ne_none.mpr hhdr] at hbeside
  exact ⟨t, congrArg Host.Outcome.next hbeside, hspec⟩

/-! ### A packet of a kind that no decoder follows (R170) -/

/-- It takes the first free decoder, or is counted as dropped. -/
theorem execChirpDetection_alone {p : UPortNo} {chan : Fin 16} {so : Fin 7} (hunit : (p, chan) ∈ s.units)
    (hnew : s.newRecep p chan so lv = some r) (hdet : s.detects r = true) (halone : s.follower r = none) :
    exec (.chirpDetection p chan so 0 lv now) s = .next (((List.finRange 16).find? fun d => (s.decoders[d]).isNone).elim
      (s.countFld CH_CNT2 8 8 1) fun d => s.setDec d (some r)) := by
  show execChirpDetection p chan so 0 lv now s = _
  unfold execChirpDetection
  rw [s.advance_zero]
  simp only [hunit, not_true_eq_false, if_false, hnew, hdet, Bool.not_true, Bool.false_eq_true, halone]
  cases (List.finRange 16).find? fun d => (s.decoders[d]).isNone with
  | none => rfl
  | some d => rfl

/-- The lowest free decoder is the first. -/
theorem chirpDetection_claims {p : UPortNo} {chan : Fin 16} {so : Fin 7} (hunit : (p, chan) ∈ s.units)
    (hnew : s.newRecep p chan so lv = some r) (hdet : s.detects r = true) (halone : s.follower r = none)
    (hfree : s.decoders[d] = none) (hlow : ∀ e : Fin 16, e < d → s.decoders[e] ≠ none) :
    exec (.chirpDetection p chan so 0 lv now) s = .next { s with decoders := vset s.decoders d (some r) } := by
  have hfirst : ((List.finRange 16).find? fun e => (s.decoders[e]).isNone) = some d := by
    rw [← Fin.find?_eq_find?_finRange, Fin.find?_eq_some_iff]
    exact ⟨Option.isNone_iff_eq_none.mpr hfree, fun e he => by simpa [Option.isSome_iff_ne_none] using hlow e he⟩
  rw [execChirpDetection_alone hunit hnew hdet halone, hfirst]
  rfl

/-- With every decoder taken it is dropped, and counted. -/
theorem chirpDetection_drops {p : UPortNo} {chan : Fin 16} {so : Fin 7} (hwf : s.regsWf) (hunit : (p, chan) ∈ s.units)
    (hnew : s.newRecep p chan so lv = some r) (hdet : s.detects r = true) (halone : s.follower r = none)
    (hfull : ∀ e : Fin 16, s.decoders[e] ≠ none) :
    ∃ t : State, exec (.chirpDetection p chan so 0 lv now) s = .next t ∧ t = { s with regs := t.regs } ∧
      t.fld CH_CNT2 8 8 = min (s.fld CH_CNT2 8 8 + 1) 255 := by
  have hnone : ((List.finRange 16).find? fun e => (s.decoders[e]).isNone) = none :=
    List.find?_eq_none.mpr fun e _ => by simpa using hfull e
  have hexec := execChirpDetection_alone (now := now) hunit hnew hdet halone
  rw [hnone] at hexec
  exact ⟨_, hexec, rfl, State.fld_countFld_same hwf _ (by decide) 1⟩

/-! ### The delivery of a payload (R164, R168) -/

theorem bytesToWords_length (bs : List Byte) : (bytesToWords bs).length = (bs.length + 7) / 8 := by
  rw [bytesToWords, List.length_map, List.length_range]

/-- The words of an item of type 0x20 (R62). -/
theorem Recep.body_length (r : Recep) (bytes : List Byte) (poison : Bool) :
    (r.words ++ r.payload bytes poison).length = 2 + (((r.hdr.getD 0).extractLsb' 16 8).toNat + 7) / 8 := by
  simp [Recep.words, Recep.payload, bytesToWords_length]
  omega

theorem State.storeResult_only (s : State) (t : Tid) (a : Nat) (ws : List RWord) : s.storeResult t a ws =
    { s with threads := (s.storeResult t a ws).threads, smem := (s.storeResult t a ws).smem } := by
  unfold State.storeResult
  split <;> rfl

/-- An operation that has written an item of `n` words to thread memory with status OK (R29, R61). -/
def Op.wroteOk (n : Nat) (x : Op) : Op :=
  { x with memWords := x.memWords + n, words := x.words + n, items := x.items + 1, okItems := x.okItems + 1 }

/-- An item that fits LIMIT is written to thread memory (R29, R61). -/
theorem State.emit_memory (hop : s.op? o = some x) (hmem : x.mem = true) {body : List RWord}
    (hfits : x.memWords + (body.length + 1) ≤ x.limit) (type : Nat) :
    ∃ u : State, u = { s with threads := u.threads, smem := u.smem } ∧
      s.emit o type 0x00 body = u.modOp o (Op.wroteOk (body.length + 1)) := by
  refine ⟨_, s.storeResult_only o.thread ((x.w 3).toNat + 8 * x.memWords) (mkItem o type 0 body), ?_⟩
  simp [State.emit, hop, hmem, mkItem_length, Nat.not_lt.mpr hfits]
  rfl

/-- A C.LISTEN that has written so the item of a packet with CRC passed, and counted it (R168). -/
def Op.received (n got : Nat) (x : Op) : Op := { x.wroteOk n with eng := .listen false (got + 1) }

/-- What the only operation writes of a packet with CRC passed: its item in thread memory, and the packet counted towards its
limit (R168). -/
theorem State.deliver_ok {got : Nat} (hops : s.ops = [x]) (heng : x.eng = .listen false got) (hmem : x.mem = true)
    {body : List RWord} (hfits : x.memWords + (body.length + 1) ≤ x.limit) :
    ∃ t : State, s.deliver x 0x00 body = t ∧ t = { s with threads := t.threads, smem := t.smem, ops := t.ops } ∧
      t.ops = [x.received (body.length + 1) got] := by
  have hop : s.op? x.id = some x := by simp [State.op?, hops]
  obtain ⟨u, hu, hemit⟩ := State.emit_memory hop hmem hfits 0x20
  have huops : u.ops = [x] := by rw [hu]; exact hops
  have hwrote : (u.modOp x.id (Op.wroteOk (body.length + 1))).ops = [x.wroteOk (body.length + 1)] := by
    simp [State.modOp, huops]
  generalize hv : u.modOp x.id (Op.wroteOk (body.length + 1)) = v at hemit hwrote
  have honly : v = { s with threads := v.threads, smem := v.smem, ops := v.ops } := by
    rw [← hv, hu]
    rfl
  have hcounted : ((v.op? x.id).all fun y => y.items == x.items) = false := by
    simp [State.op?, hwrote, Op.wroteOk]
  obtain ⟨f, hdeliver, hf⟩ : ∃ f : Op → Op, s.deliver x 0x00 body = v.modOp x.id f ∧
      f (x.wroteOk (body.length + 1)) = x.received (body.length + 1) got := by
    unfold State.deliver
    rw [hemit]
    refine ⟨_, (if_neg Bool.false_ne_true).trans ((if_neg ?_).trans (if_pos (.inl rfl))), ?_⟩
    · rw [hcounted]
      exact Bool.false_ne_true
    · simp only [Op.received, Op.wroteOk, heng]
  refine ⟨_, hdeliver, congrArg (fun w : State => { w with ops := (v.modOp x.id f).ops }) honly, ?_⟩
  rw [State.modOp, hwrote, ← hf]
  exact congrArg (fun y => [y]) (if_pos (beq_self_eq_true _))

/-- A payload with CRC passed, received without gap or gain step, is delivered to its one C.LISTEN, which goes on; the decoder
is free. -/
theorem payloadVerdict_delivers {got : Nat} {bytes : List Byte} (hr : s.decoders[d] = some r) (hhdr : r.hdr ≠ none)
    (hgap : r.gap = false) (hstep : r.step = false) (hrops : r.ops = [x.id]) (hops : s.ops = [x])
    (hso : x.takesSo r = true) (hpass : x.passes r = true) (hend : x.ending = none) (heng : x.eng = .listen false got)
    (hlimit : bits (x.w 4) 8 8 = 0) (hhit : x.limitHit = false) (hmem : x.mem = true)
    (hfits : x.memWords + (3 + (((r.hdr.getD 0).extractLsb' 16 8).toNat + 7) / 8) ≤ x.limit)
    (hlen : bytes.length = ((r.hdr.getD 0).extractLsb' 16 8).toNat + 2) (hcrc : payloadOk bytes = true) :
    ∃ t : State, exec (.payloadVerdict d 0 bytes false) s = .next t ∧
      t = { s with threads := t.threads, smem := t.smem, ops := t.ops, decoders := vset s.decoders d none } ∧
      t.ops = [x.received (3 + (((r.hdr.getD 0).extractLsb' 16 8).toNat + 7) / 8) got] := by
  have hbody := r.body_length bytes false
  generalize hn : 3 + (((r.hdr.getD 0).extractLsb' 16 8).toNat + 7) / 8 = n at hfits
  have hwords : (r.words ++ r.payload bytes false).length + 1 = n := by omega
  obtain ⟨t, hdeliver, honly, htops⟩ := State.deliver_ok (s := s.setDec d none) (body := r.words ++ r.payload bytes false)
    hops heng hmem (by rw [hwords]; exact hfits)
  rw [hwords] at htops
  have htakers : (s.setDec d none).takers r = [x] := by
    simp [State.takers, State.setDec, hops, hrops, hso, hpass, hend]
  have hon : ∀ y ∈ t.ops, y.listensOn := by
    rw [htops]
    intro y hy
    obtain rfl := List.mem_singleton.mp hy
    exact ⟨hlimit, hhit, got + 1, rfl⟩
  have hstatus : r.status
      (bytes.length == ((r.hdr.getD 0).extractLsb' 16 8).toNat + 2 && payloadOk bytes && !r.gap) false = 0x00 := by
    simp [Recep.status, hlen, hcrc, hgap, hstep]
  have hexec : exec (.payloadVerdict d 0 bytes false) s = .next t := by
    show execPayloadVerdict d 0 bytes false s = _
    unfold execPayloadVerdict
    simp only [s.advance_zero, hr, Option.isNone_eq_false_iff.mpr (Option.isSome_iff_ne_none.mpr hhdr), htakers, hstatus,
      List.isEmpty_cons, Bool.false_and, Bool.false_eq_true, if_false, List.foldl_cons, List.foldl_nil, hdeliver,
      State.settleListens_on hon]
  exact ⟨t, hexec, honly, htops⟩

end Sys2Proof.Machine

open Sys2Proof Sys2Proof.Machine

/-- Settles O29, one event at a time: the delivery of a payload, then a preamble before and after the header, and a detection
that no decoder follows. -/
theorem chirpCaptureAndDelivery : Obligations.ChirpCaptureAndDelivery := by
  unfold Obligations.ChirpCaptureAndDelivery
  refine ⟨?_, fun s d r new lv now hwf hr hnew hdet => ?_⟩
  · intro s d r x got bytes hr hhdr hgap hstep hrops hops _ hso hpass hend heng hlimit hhit hmem len n hfits hlen hcrc
    obtain ⟨t, hexec, honly, htops⟩ :=
      payloadVerdict_delivers hr hhdr hgap hstep hrops hops hso hpass hend heng hlimit hhit hmem hfits hlen hcrc
    exact ⟨t, _, hexec, by rw [honly], htops, rfl, by rw [honly], by rw [honly]⟩
  · have hon (h : ∀ x ∈ s.ops, x.w 5 = 0 ∧ bits (x.w 4) 8 8 = 0 ∧ x.limitHit = false ∧ x.eng = .listen false 0) :
        ∀ x ∈ s.ops, x.listensOn := fun x hx => by
      obtain ⟨-, hlimit, hhit, heng⟩ := h x hx
      exact ⟨hlimit, hhit, 0, heng⟩
    exact ⟨reanchor_weaker hr hnew hdet, fun hhdr hlv h => reanchor_stronger hwf hr hnew hdet hhdr hlv (hon h),
      preempted_weaker hwf hr hnew hdet,
      fun hhdr hlv hnone h => preempted_stronger hwf hr hnew hdet hhdr hlv hnone (hon h),
      fun p chan so x hunit hnew' hdet' halone => ⟨fun e => chirpDetection_claims hunit hnew' hdet' halone,
        chirpDetection_drops hwf hunit hnew' hdet' halone⟩⟩

end

section
/-! PROOF. A ring that is enabled, disabled, flushed or reset (R182, R190 to R192). -/

open Sys2Proof Sys2Proof.Machine

namespace Sys2Proof.Machine

variable {s t u : State} {n : RingNo} {x y : Thread}

/-! ### A ring emptied (R191) -/

theorem State.discardRing_reg_other (s : State) {n : RingNo} {a : Nat} (h : a ≠ RG_DROP n) :
    (s.discardRing n).reg a = s.reg a := State.reg_countFld_other s h

theorem State.discardRing_emptied (h : s.regsWf) (n : RingNo) : s.emptied (s.discardRing n) n := by
  let s1 := s.dropWords n (s.ring n).words.length
  have hring : (s.discardRing n).ring n = { s.ring n with
      words := [], last := {}, open_ := none
      orphans := match (s.ring n).open_ with
        | some o => o :: (s.ring n).orphans.filter (·.by_ != o.by_)
        | none => (s.ring n).orphans } := State.ring_modRing_same s1 n _
  refine ⟨by rw [hring], by rw [hring], by rw [hring], fun o ho => ?_, fun m hm => State.ring_modRing_other s1 _ hm, ?_⟩
  · rw [hring, ho]
    exact List.mem_cons_self
  · have hcount := State.fld_countFld_same h (RG_DROP n) (lo := 0) (n := 32) (by omega) (s.ring n).words.length
    rwa [State.fld, State.fld, bits_whole, bits_whole] at hcount

/-- Whether a ring was emptied shows in the rings and in its own RG_DROPn alone. -/
theorem State.emptied.congr (h : s.emptied t n) (hrings : u.rings = t.rings) (hdrop : u.reg (RG_DROP n) = t.reg (RG_DROP n)) :
    s.emptied u n := by
  have hring (m : RingNo) : u.ring m = t.ring m := congrArg (·[m]) hrings
  simpa only [State.emptied, hring, hdrop] using h

theorem State.flushRing_emptied (h : s.regsWf) (n : RingNo) : s.emptied (s.flushRing n) n :=
  (State.discardRing_emptied h n).congr rfl (State.reg_setFlag_other _ (by unfold RG_DROP RG_FLAGS; omega))

theorem State.flushRing_flag (h : s.regsWf) (n : RingNo) : ((s.flushRing n).reg (RG_FLAGS n)).getLsbD 3 = true :=
  State.setFlag_bit (s := s.discardRing n) (State.regsWf_countFld h _ _ _ _) _ (by omega)

/-! ### RG_CFGn written (R182, R192) -/

theorem bit_enable (v : Word) : bit (v ||| 0x80000000) 31 = true := by simp [bit]

theorem bit_disable (v : Word) : bit (v &&& 0x7FFFFFFF) 31 = false := by simp [bit]

theorem exec_ringEnable (s : State) (n : RingNo) (v : Word) :
    exec (.ringEnable n v) s = .next (s.enableRing n (v ||| 0x80000000)) := by
  show Host.Outcome.next (s.cfgRing n _) = _
  simp only [State.cfgRing, State.writeRingCfg, bit_enable, Bool.not_true, Bool.and_false, if_true, Bool.false_eq_true, if_false]

theorem State.enableRing_on (h : s.ringOn n = true) (v : Word) : s.enableRing n v = s := if_pos h

theorem State.enableRing_ok (h : s.ringOn n = false) {v : Word} (hok : s.ringCfgOk n v = true) :
    s.enableRing n v = (s.setReg (RG_CFG n) ((v &&& 0xFFFFFF7F) ||| 0x80000000)).modRing n fun r =>
      { r with words := [], last := {}, open_ := none } := by
  simp [State.enableRing, h, hok]

theorem State.enableRing_bad (h : s.ringOn n = false) {v : Word} (hok : s.ringCfgOk n v = false) :
    s.enableRing n v = (s.setReg (RG_CFG n) (v &&& 0xFFFFFF7F &&& 0x7FFFFFFF)).setFlag (RG_FLAGS n) 6 := by
  simp [State.enableRing, h, hok]

theorem exec_ringDisable (h : s.ringOn n = true) (v : Word) : exec (.ringDisable n v) s =
    .next ((((s.flushRing n).setReg (RG_CFG n) (v &&& 0x7FFFFF7F)).uncountParts n).trapRingWaits n) := by
  have hfields : v &&& 0x7FFFFFFF &&& 0x7FFFFF7F = v &&& (0x7FFFFF7F : Word) := by rw [BitVec.and_assoc]; rfl
  show Host.Outcome.next (s.cfgRing n _) = _
  simp only [State.cfgRing, State.writeRingCfg, State.disableRing, bit_disable, h, hfields, Bool.not_false, Bool.and_true,
    if_true, Bool.false_eq_true, if_false]

/-! ### The threads that wait on a ring trap (R192) -/

/-- `y` is the thread `x` but for its events and the mark of a wait that they meet. -/
def Thread.SameButEvents (x y : Thread) : Prop := y = { x with event := y.event, met := y.met }

theorem Thread.SameButEvents.of_eq {e : Word} {m : Option Nat} (h : y = { x with event := e, met := m }) :
    x.SameButEvents y := by
  rw [h]
  rfl

/-- What a thread is once ring `n` is disabled: trapped with cause 0x09 when it waited on the ring, else the same. -/
def Thread.RingTrapped (n : RingNo) (x y : Thread) : Prop :=
  if x.st = .wait ∧ waitsOnRing n x.waiting = true then
    y.tpc = x.pc ∧ y.tcause.toNat % 256 = 9 ∧ y.waiting = none ∧
    y.st = (if x.tven = true ∧ x.tactive = false then .run else .trapped)
  else x.SameButEvents y

/-- Events before the trap change nothing of it. -/
theorem Thread.SameButEvents.ringTrapped {z : Thread} (h : x.SameButEvents y) (hz : y.RingTrapped n z) : x.RingTrapped n z := by
  rw [h] at hz
  exact hz

/-- Nor do events after it. -/
theorem Thread.RingTrapped.withEvents {z : Thread} (h : x.RingTrapped n y) (hz : y.SameButEvents z) : x.RingTrapped n z := by
  unfold Thread.RingTrapped at h ⊢
  split at h
  · next hwait =>
    rw [if_pos hwait, hz]
    exact h
  · next hwait =>
    rw [if_neg hwait, Thread.SameButEvents, hz, h]

theorem tcause_low (cause : Nat) (hc : cause < 256) (b : Bool) :
    (fieldW 16 1 (if b then 1 else 0) ||| fieldW 8 8 0 ||| fieldW 0 8 cause).toNat % 256 = cause := by
  rw [tcause_eq hc (by omega), BitVec.toNat_ofNat]
  split <;> omega

/-- One thread's turn. -/
def State.trapRingWait (s : State) (n : RingNo) (t : Tid) : State :=
  if (s.th t).st = .wait ∧ waitsOnRing n (s.th t).waiting then s.takeTrap t 0x09 0 (s.th t).pc none else s

theorem State.trapRingWaits_eq (s : State) (n : RingNo) :
    s.trapRingWaits n = s.forThreads fun s t => s.trapRingWait n t := rfl

/-- What the turns of the threads `P` come to. -/
structure State.RingTraps (s t : State) (n : RingNo) (P : Tid → Prop) : Prop where
  trapped : ∀ v, P v → (s.th v).RingTrapped n (t.th v)
  others : ∀ v, ¬ P v → (s.th v).SameButEvents (t.th v)
  rings : t.rings = s.rings
  regs : ∀ a, a < 0x110000 → t.reg a = s.reg a

theorem State.takeTrap_ringTraps {k : Tid} (hwait : (s.th k).st = .wait ∧ waitsOnRing n (s.th k).waiting = true) (a : Word) :
    s.RingTraps (s.takeTrap k 0x09 0 (s.th k).pc (some a)) n (· = k) := by
  by_cases hv : (s.th k).tven = true ∧ (s.th k).tactive = false
  · rw [State.takeTrap_vectors hv.1 hv.2]
    refine ⟨?_, fun v hk => .of_eq (State.th_setTh_other _ _ hk), rfl, fun _ _ => rfl⟩
    rintro _ rfl
    rw [Thread.RingTrapped, if_pos hwait, if_pos hv, State.th_setTh_same]
    exact ⟨rfl, tcause_low 9 (by omega) _, rfl, rfl⟩
  · rw [State.takeTrap_stops hv]
    have hth := State.fault_th (s.setTh k ((s.th k).stopped 9 0 (s.th k).pc a)) 10 k.val 0
    refine ⟨?_, fun v hk => ?_, State.fault_rings _ _ _ _, fun b hb => State.fault_reg_below hb _ _ _⟩
    · rintro k rfl
      obtain ⟨e, m, hk⟩ := hth k
      rw [State.th_setTh_same] at hk
      rw [Thread.RingTrapped, if_pos hwait, if_neg hv, hk]
      exact ⟨rfl, tcause_low 9 (by omega) _, rfl, rfl⟩
    · obtain ⟨e, m, hv⟩ := hth v
      rw [State.th_setTh_other _ _ hk] at hv
      exact .of_eq hv

theorem State.trapRingWait_spec (s : State) (n : RingNo) (k : Tid) : s.RingTraps (s.trapRingWait n k) n (· = k) := by
  unfold State.trapRingWait
  split
  · next hwait =>
    obtain ⟨htrapped, hothers, hrings, hregs⟩ := State.takeTrap_ringTraps (s := s.freeW.2) hwait s.freeW.1
    exact ⟨htrapped, hothers, hrings, hregs⟩
  · next hwait =>
    refine ⟨?_, fun _ _ => rfl, rfl, fun _ _ => rfl⟩
    rintro _ rfl
    rw [Thread.RingTrapped, if_neg hwait]
    rfl

theorem State.foldl_trapRingWait (n : RingNo) : ∀ (l : List Tid) (s : State), l.Nodup →
    s.RingTraps (l.foldl (fun s t => s.trapRingWait n t) s) n (· ∈ l)
  | [], s, _ => ⟨nofun, fun _ _ => rfl, rfl, fun _ _ => rfl⟩
  | k :: l, s, hl => by
    obtain ⟨hk, hl⟩ := List.nodup_cons.mp hl
    have h1 := s.trapRingWait_spec n k
    have h2 := State.foldl_trapRingWait n l (s.trapRingWait n k) hl
    rw [List.foldl_cons]
    refine ⟨fun v hv => ?_, fun v hv => ?_, h2.rings.trans h1.rings, fun a ha => (h2.regs a ha).trans (h1.regs a ha)⟩
    · by_cases hvk : v = k
      · subst hvk
        exact (h1.trapped v rfl).withEvents (h2.others v hk)
      · exact (h1.others v hvk).ringTrapped (h2.trapped v (List.mem_of_ne_of_mem hvk hv))
    · obtain ⟨hvk, hvl⟩ := not_or.mp (mt List.mem_cons.mpr hv)
      have hlast := h2.others v hvl
      rw [h1.others v hvk] at hlast
      exact hlast

theorem State.trapRingWaits_spec (s : State) (n : RingNo) : s.RingTraps (s.trapRingWaits n) n fun _ => True := by
  obtain ⟨htrapped, -, hrings, hregs⟩ := State.foldl_trapRingWait n (List.finRange 32) s (List.nodup_finRange 32)
  rw [State.trapRingWaits_eq, State.forThreads]
  exact ⟨fun v _ => htrapped v (List.mem_finRange v), fun _ h => absurd trivial h, hrings, hregs⟩

/-! ### The commands -/

theorem ringEnable_takes (h : s.regsWf) (v : Word) (hoff : s.ringOn n = false) (hok : s.ringCfgOk n (v ||| 0x80000000) = true) :
    ∃ t : State, exec (.ringEnable n v) s = .next t ∧ t = { s with regs := t.regs, rings := t.rings } ∧
      t.reg (RG_CFG n) = (v &&& 0xFFFFFF7F) ||| 0x80000000 ∧ (∀ a, a ≠ RG_CFG n → t.reg a = s.reg a) ∧
      (t.ring n).words = [] ∧ (t.ring n).open_ = none ∧ (t.ring n).orphans = (s.ring n).orphans ∧
      ∀ m, m ≠ n → t.ring m = s.ring m := by
  have hfields : (v ||| 0x80000000) &&& 0xFFFFFF7F ||| 0x80000000 = (v &&& 0xFFFFFF7F) ||| (0x80000000 : Word) := by
    rw [BitVec.and_or_distrib_right, BitVec.or_assoc]
    rfl
  refine ⟨_, (exec_ringEnable s n v).trans (congrArg _ (State.enableRing_ok hoff hok)), rfl, ?_, fun a ha => ?_, ?_⟩
  · exact (State.reg_setReg_same h _ _).trans hfields
  · exact State.reg_setReg_other _ ha
  · rw [State.ring_modRing_same]
    exact ⟨rfl, rfl, rfl, fun m hm => State.ring_modRing_other (s.setReg _ _) _ hm⟩

theorem ringEnable_refuses (h : s.regsWf) (v : Word) (hoff : s.ringOn n = false)
    (hok : s.ringCfgOk n (v ||| 0x80000000) = false) :
    ∃ t : State, exec (.ringEnable n v) s = .next t ∧ t = { s with regs := t.regs } ∧
      t.reg (RG_CFG n) = v &&& 0x7FFFFF7F ∧ (t.reg (RG_FLAGS n)).getLsbD 6 = true := by
  have hfields : (v ||| 0x80000000) &&& 0xFFFFFF7F &&& 0x7FFFFFFF = v &&& (0x7FFFFF7F : Word) := by
    rw [BitVec.and_assoc, BitVec.and_or_distrib_right]
    exact BitVec.or_zero
  refine ⟨_, (exec_ringEnable s n v).trans (congrArg _ (State.enableRing_bad hoff hok)), rfl, ?_, ?_⟩
  · rw [State.reg_setFlag_other _ (by unfold RG_CFG RG_FLAGS; omega), State.reg_setReg_same h, hfields]
  · exact State.setFlag_bit (State.regsWf_setReg h _ _) _ (by omega)

theorem ringDisable_empties (h : s.regsWf) (hon : s.ringOn n = true) (v : Word) :
    ∃ t : State, exec (.ringDisable n v) s = .next t ∧ s.emptied t n ∧
      t.reg (RG_CFG n) = v &&& 0x7FFFFF7F ∧ (t.reg (RG_FLAGS n)).getLsbD 3 = true ∧
      ∀ u, (s.th u).RingTrapped n (t.th u) := by
  let s1 := ((s.flushRing n).setReg (RG_CFG n) (v &&& 0x7FFFFF7F)).uncountParts n
  obtain ⟨htrapped, -, hrings, hregs⟩ := s1.trapRingWaits_spec n
  have hwf : (s.flushRing n).regsWf := State.regsWf_setFlag (State.regsWf_countFld h _ _ _ _) _ _
  have hkept {a : Nat} (ha : a ≠ RG_CFG n) (hlt : a < 0x110000) : (s1.trapRingWaits n).reg a = (s.flushRing n).reg a :=
    (hregs a hlt).trans (State.reg_setReg_other _ ha)
  refine ⟨_, exec_ringDisable hon v, ?_, ?_, ?_, fun u => htrapped u trivial⟩
  · refine (State.flushRing_emptied h n).congr hrings (hkept ?_ ?_)
    · unfold RG_DROP RG_CFG; omega
    · unfold RG_DROP; omega
  · exact (hregs _ (by unfold RG_CFG; omega)).trans (State.reg_setReg_same hwf _ _)
  · rw [hkept (by unfold RG_FLAGS RG_CFG; omega) (by unfold RG_FLAGS; omega)]
    exact State.flushRing_flag h n

theorem flush_empties (h : s.regsWf) (n : RingNo) (v : Word) :
    ∃ t : State, exec (.flush n v) s = .next t ∧ t = { s with regs := t.regs, rings := t.rings } ∧ s.emptied t n ∧
      (t.reg (RG_FLAGS n)).getLsbD 3 = true ∧ t.reg (RG_CFG n) = s.reg (RG_CFG n) := by
  have hexec : s.writeRingCtrl n (v ||| 1) = s.flushRing n := if_pos (by simp [bit])
  refine ⟨_, congrArg Host.Outcome.next hexec, rfl, State.flushRing_emptied h n, State.flushRing_flag h n, ?_⟩
  exact (State.reg_setFlag_other _ (by unfold RG_CFG RG_FLAGS; omega)).trans
    (s.discardRing_reg_other (by unfold RG_CFG RG_DROP; omega))

theorem ringPointerReset_empties (h : s.regsWf) (n : RingNo) :
    ∃ t : State, exec (.ringPointerReset n) s = .next t ∧ s.emptied t n ∧ s.onlyEvents t ∧
      (t.reg (RG_FLAGS n)).getLsbD 5 = true ∧ (t.reg FLT_STATUS).getLsbD 8 = true ∧
      t.reg (FLT_LOGA (s.fld FLT_LOGHEAD 0 4)) = BitVec.ofNat 32 (0x8000000 + 65536 * n.val + s.fld FLT_LOGHEAD 8 8) := by
  let s1 := (s.discardRing n).setFlag (RG_FLAGS n) 5
  have hwf0 : (s.discardRing n).regsWf := State.regsWf_countFld h _ _ _ _
  have hwf : s1.regsWf := State.regsWf_setFlag hwf0 _ _
  have hhead (lo k : Nat) : s1.fld FLT_LOGHEAD lo k = s.fld FLT_LOGHEAD lo k := by
    refine State.fld_congr ?_ lo k
    rw [State.reg_setFlag_other _ (by unfold FLT_LOGHEAD RG_FLAGS; omega),
      State.discardRing_reg_other s (by unfold FLT_LOGHEAD RG_DROP; omega)]
  have hrecord := (State.fault_record hwf (cls := 8) (by omega) n.val 0).1
  have hseq : s.fld FLT_LOGHEAD 8 8 < 256 := bits_lt _ _ 8
  rw [hhead, hhead, faultRecord_eq (by omega) (by omega) (by omega) hseq] at hrecord
  refine ⟨s1.fault 8 n.val 0, rfl, ?_, (s1.fault_noticed 8 n.val 0).events, ?_, State.fault_bit hwf (by omega) _ _, ?_⟩
  · refine (State.discardRing_emptied h n).congr (State.fault_rings _ _ _ _) ?_
    rw [State.fault_reg_below (by unfold RG_DROP; omega)]
    exact State.reg_setFlag_other _ (by unfold RG_DROP RG_FLAGS; omega)
  · rw [State.fault_reg_below (by unfold RG_FLAGS; omega)]
    exact State.setFlag_bit hwf0 _ (by omega)
  · rw [hrecord]
    congr 1

end Sys2Proof.Machine

open Sys2Proof Sys2Proof.Machine

/-- Settles O34, one command at a time; the traps of the waiting threads are an induction over the threads. -/
theorem ringsEnableEmptyAndReset : Obligations.RingsEnableEmptyAndReset := by
  intro s n v hwf
  refine ⟨fun hon => ?_, ringEnable_takes hwf v, ringEnable_refuses hwf v, fun hon => ringDisable_empties hwf hon v,
    flush_empties hwf n v, ringPointerReset_empties hwf n⟩
  exact (exec_ringEnable s n v).trans (congrArg _ (State.enableRing_on hon _))

end

section
/-! PROOF. The requests and the moves of the transfer channels (R194). -/

open Sys2Proof Sys2Proof.Machine

namespace Sys2Proof.Machine

variable {s t u : State} {n : RingNo} {x : Fin 4} {w : RWord}

/-! ### What a word written to a ring leaves alone -/

/-- `t` is `s` but for what a word written to ring `n` can change: the rings, the ring's FLAGS and CNT, and the thread
that a watermark's event wakes. -/
structure State.RingWritten (s t : State) (n : RingNo) : Prop where
  only : t = { s with regs := t.regs, rings := t.rings, threads := t.threads }
  regs : ∀ a, a ≠ RG_FLAGS n → a ≠ RG_CNT n → t.reg a = s.reg a

theorem State.RingWritten.refl (s : State) (n : RingNo) : s.RingWritten s n := ⟨rfl, fun _ _ _ => rfl⟩

theorem State.RingWritten.trans (h : s.RingWritten t n) (h' : t.RingWritten u n) : s.RingWritten u n :=
  ⟨h'.only.trans (congrArg (fun v : State => { v with regs := u.regs, rings := u.rings, threads := u.threads }) h.only),
    fun a hf hc => (h'.regs a hf hc).trans (h.regs a hf hc)⟩

theorem State.RingWritten.modRing (h : s.RingWritten t n) (f : Ring → Ring) : s.RingWritten (t.modRing n f) n :=
  h.trans ⟨rfl, fun _ _ _ => rfl⟩

theorem State.RingWritten.malform_if (h : s.RingWritten t n) (c : Prop) [Decidable c] :
    s.RingWritten (if c then t.malform n else t) n := by
  split
  · exact h.trans ⟨rfl, fun _ hf _ => State.reg_setFlag_other t hf⟩
  · exact h

theorem State.RingWritten.modRing_if (h : s.RingWritten t n) (f g : Ring → Ring) (c : Prop) [Decidable c] :
    s.RingWritten (if c then t.modRing n f else t.modRing n g) n := by
  split
  · exact h.modRing f
  · exact h.modRing g

theorem State.RingWritten.watermark (h : s.RingWritten t n) (old new : Nat) : s.RingWritten (t.watermark n old new) n := by
  unfold State.watermark
  dsimp only
  split
  · let v := (t.setFlag (RG_FLAGS n) 0).countFld (RG_CNT n) 16 16 1
    have hv : t.RingWritten v n :=
      ⟨rfl, fun _ hf hc => (State.reg_countFld_other _ hc).trans (State.reg_setFlag_other t hf)⟩
    have honly := v.raiseRouted_only (t.reg (RG_WM n))
    exact (h.trans hv).trans ⟨honly.trans (by rw [honly]), fun a _ _ => State.raiseRouted_reg_acc v _ a⟩
  · exact h

/-- The first word of an item. -/
theorem State.putFirst_written (s : State) (n : RingNo) (p : Producer) (w : RWord) : s.RingWritten (s.putFirst n p w) n := by
  unfold State.putFirst
  extract_lets s1 s2 _ s3 s4
  have h1 : s.RingWritten s1 n := .malform_if (.refl s n) _
  have h2 : s.RingWritten s2 n := h1.modRing _
  have h3 : s.RingWritten s3 n := h2.modRing_if _ _ _
  have h4 : s.RingWritten s4 n := h3.malform_if _
  exact (h4.modRing _).watermark _ _

theorem State.ringPut_written (hs : w.s = true) (s : State) (n : RingNo) (p : Producer) : s.RingWritten (s.ringPut n p w) n := by
  rw [State.ringPut, if_pos hs]
  exact s.putFirst_written n p w

theorem Thread.Signalled.sameButEvents {x y : Thread} (h : x.Signalled y) : y = { x with event := y.event, met := y.met } := by
  obtain ⟨e, m, rfl, -⟩ := h
  rfl

/-! ### Requests -/

section
variable (x)

theorem State.xfRequest_off (h : bit (s.xf x).cfg 31 = false) : s.xfRequest x = s := by
  simp [State.xfRequest, h]

theorem State.xfRequest_empty (hon : bit (s.xf x).cfg 31 = true) (hbusy : (s.xf x).busy = false) (hmid : (s.xf x).mid = false)
    (hempty : (s.ring (s.xf x).src).words = []) : s.xfRequest x = s.countFld (RG_XFCNT x) 16 16 1 := by
  simp [State.xfRequest, hon, hbusy, hmid, hempty]

theorem State.xfRequest_begins (hon : bit (s.xf x).cfg 31 = true) (hbusy : (s.xf x).busy = false) (hmid : (s.xf x).mid = false)
    (hwords : (s.ring (s.xf x).src).words ≠ []) : s.xfRequest x = s.modXf x fun y => { y with busy := true } := by
  simp [State.xfRequest, hon, hbusy, hmid, hwords]

theorem State.xfRequest_busy (hon : bit (s.xf x).cfg 31 = true) (hbusy : (s.xf x).busy = true) : s.xfRequest x =
    if (s.xf x).held then s.countFld (RG_XFCNT x) 0 16 1 else s.modXf x fun y => { y with held := true } := by
  simp [State.xfRequest, hon, hbusy]

/-! ### Moves -/

theorem State.xfMove_off (h : bit (s.xf x).cfg 31 = false) (bad : List Bool) : s.xfMove x bad = s := by
  simp [State.xfMove, h]

end

theorem State.xf_modXf_same (s : State) (x : Fin 4) (f : Xfer → Xfer) : (s.modXf x f).xf x = f (s.xf x) :=
  vset_get_same s.xfers x _

/-- A good word taken from a ring. -/
def State.tookWord (s : State) (n : RingNo) (w : RWord) (ws : List RWord) : State :=
  s.modRing n fun r => { r with words := ws, last := w }

theorem State.ringTake_good {ws : List RWord} (h : (s.ring n).words = w :: ws) :
    s.ringTake n false = some (w, s.tookWord n w ws) := by
  simp [State.ringTake, h, State.tookWord]

/-- Transfer channel `x` has a request to serve, and its rings stand as the move of an item of the one word `w` wants them. -/
structure State.MovesWord (s : State) (x : Fin 4) (w : RWord) : Prop where
  on : bit (s.xf x).cfg 31 = true
  busy : (s.xf x).busy = true
  held : (s.xf x).held = false
  mid : (s.xf x).mid = false
  todst : bit (s.xf x).cfg 15 = true
  tocrc : bit (s.xf x).cfg 14 = false
  src : s.ringOn (s.xf x).src = true
  cons : s.ringCons (s.xf x).src = 0x44 + x.val
  dst : s.ringOn (s.xf x).dst = true
  prod : s.ringProd (s.xf x).dst = 0x44 + x.val
  room : s.ringRoom (s.xf x).dst ≠ 0
  words : (s.ring (s.xf x).src).words = [w]
  starts : w.s = true
  ends : w.e = true
  free : (s.ring (s.xf x).dst).open_ = none

/-- The channel in the middle of its item. -/
def State.xfMid (s : State) (x : Fin 4) : State := s.modXf x fun y => { y with mid := true }

theorem State.xfMid_xf (s : State) (x : Fin 4) : (s.xfMid x).xf x = { s.xf x with mid := true } := s.xf_modXf_same x _

/-- A single word moved: taken from the source and written to the destination. -/
def State.xfMoved (s : State) (x : Fin 4) (w : RWord) : State :=
  ((s.xfMid x).tookWord (s.xf x).src w []).ringPut (s.xf x).dst (.xfer x) w

theorem State.itemOver_end (h : w.e = true) (s : State) (n : RingNo) : s.itemOver n w = true := by
  simp [State.itemOver, h]

theorem State.xfHeld_room {y : Xfer} (hy : s.xf x = y) (hroom : s.ringRoom y.dst ≠ 0) : s.xfHeld x = false := by
  simp [State.xfHeld, hy, hroom]

theorem State.MovesWord.xfWords (h : s.MovesWord x w) : (s.xfMid x).xfWords x [] 1 = (s.xfMoved x w, true) := by
  have hxf := s.xfMid_xf x
  have hheld : (s.xfMid x).xfHeld x = false := State.xfHeld_room hxf h.room
  have htake : (s.xfMid x).ringTake (s.xf x).src false = some (w, (s.xfMid x).tookWord (s.xf x).src w []) :=
    State.ringTake_good h.words
  have hsrc : ({ s.xf x with mid := true } : Xfer).src = (s.xf x).src := rfl
  unfold State.xfWords
  simp only [hxf, hheld, h.todst, h.tocrc, hsrc, htake, List.headD_nil, State.itemOver_end h.ends, Bool.and_false,
    Bool.false_eq_true, if_false, if_true]
  rfl

theorem State.MovesWord.written (h : s.MovesWord x w) :
    ((s.xfMid x).tookWord (s.xf x).src w []).RingWritten (s.xfMoved x w) (s.xf x).dst :=
  State.ringPut_written h.starts _ _ _

theorem State.MovesWord.xf (h : s.MovesWord x w) : (s.xfMoved x w).xf x = { s.xf x with mid := true } := by
  rw [State.xf, h.written.only]
  exact s.xfMid_xf x

/-- The move ends with no check made and no further request served. -/
theorem State.MovesWord.xfEnd (h : s.MovesWord x w) : (s.xfMoved x w).xfEnd x true =
    (s.xfMoved x w).modXf x fun y => { y with busy := false, mid := false, held := false } := by
  simp [State.xfEnd, h.xf, h.tocrc, h.held]

theorem State.MovesWord.xfMove (h : s.MovesWord x w) : s.xfMove x [] =
    (s.xfMoved x w).modXf x fun y => { y with busy := false, mid := false, held := false } := by
  have hheld : s.xfHeld x = false := State.xfHeld_room rfl h.room
  have hitem : headItem (s.ring (s.xf x).src).words = some [w] := by
    rw [h.words, headItem, if_pos h.ends]
  have hother : s.openByOther (s.xf x).dst (.xfer x) = false := by
    simp [State.openByOther, h.free]
  have hwords : (s.modXf x fun y => { y with mid := true }).xfWords x [] (s.ring (s.xf x).src).words.length =
      (s.xfMoved x w, true) := by
    rw [h.words]
    exact h.xfWords
  simp [State.xfMove, h.on, h.busy, h.mid, h.src, h.cons, h.dst, h.prod, h.tocrc, hheld, hitem, hother, hwords, h.xfEnd]

/-! ### The commands -/

theorem transferRequest_counts (h : s.regsWf) {lo : Nat} (hlo : lo + 16 ≤ 32)
    (hreq : s.xfRequest x = s.countFld (RG_XFCNT x) lo 16 1) :
    ∃ t : State, exec (.transferRequest x) s = .next t ∧ t = { s with regs := t.regs } ∧
      t.fld (RG_XFCNT x) lo 16 = min (s.fld (RG_XFCNT x) lo 16 + 1) 65535 :=
  ⟨_, congrArg Host.Outcome.next hreq, rfl, State.fld_countFld_same h _ hlo 1⟩

theorem transferMove_moves (h : s.MovesWord x w) (hne : (s.xf x).src ≠ (s.xf x).dst) :
    ∃ t : State, exec (.transferMove x []) s = .next t ∧ (t.ring (s.xf x).src).words = [] ∧ s.onlyEvents t ∧
      (t.ring (s.xf x).dst).words = (s.ring (s.xf x).dst).words ++ [{ w with v := true, tick := s.ticks }] ∧
      (∀ m, m ≠ (s.xf x).src → m ≠ (s.xf x).dst → t.ring m = s.ring m) ∧
      t.xf x = { s.xf x with busy := false, held := false } ∧ ∀ c : Fin 8, t.reg (CC_STATE c) = s.reg (CC_STATE c) := by
  let s1 := (s.xfMid x).tookWord (s.xf x).src w []
  have hsrc : (s1.ring (s.xf x).src).words = [] := congrArg Ring.words (State.ring_modRing_same (s.xfMid x) _ _)
  have hring {m : RingNo} (hm : m ≠ (s.xf x).src) : s1.ring m = s.ring m := State.ring_modRing_other (s.xfMid x) _ hm
  have hopen : s1.openByOther (s.xf x).dst (.xfer x) = false := by
    simp [State.openByOther, hring hne.symm, h.free]
  obtain ⟨hwords, hothers, -, -, hthreads⟩ := State.ringPut_stored (s := s1) (p := .xfer x) (by rwa [if_pos h.starts])
  refine ⟨_, congrArg Host.Outcome.next h.xfMove, ?_, fun u => (hthreads u).sameButEvents, ?_, fun m hm hm' => ?_, ?_, fun c => ?_⟩
  · exact (congrArg Ring.words (hothers _ hne)).trans hsrc
  · exact hwords.trans (by rw [hring hne.symm]; rfl)
  · exact (hothers m hm').trans (hring hm)
  · rw [State.xf_modXf_same, h.xf, Xfer.mk.injEq]
    exact ⟨rfl, rfl, h.mid.symm, rfl⟩
  · exact h.written.regs _ (by unfold CC_STATE RG_FLAGS; omega) (by unfold CC_STATE RG_CNT; omega)

end Sys2Proof.Machine

open Sys2Proof Sys2Proof.Machine

/-- Settles O35: the requests by the state of their channel, and the move of one word, which its destination stores. -/
theorem transferChannelsServeRequests : Obligations.TransferChannelsServeRequests := by
  intro s x hwf y src dst
  refine ⟨fun hoff => ⟨?_, fun bad => ?_⟩, fun hon hbusy hmid => ⟨fun hempty => ?_, fun hwords => ?_⟩,
    fun hon hbusy => ⟨fun hheld => ?_, fun hheld => ?_, ?_⟩⟩
  · exact congrArg Host.Outcome.next (State.xfRequest_off x hoff)
  · exact congrArg Host.Outcome.next (State.xfMove_off x hoff bad)
  · exact transferRequest_counts hwf (by omega) (State.xfRequest_empty x hon hbusy hmid hempty)
  · exact congrArg Host.Outcome.next (State.xfRequest_begins x hon hbusy hmid hwords)
  · exact congrArg Host.Outcome.next ((State.xfRequest_busy x hon hbusy).trans (by rw [hheld]; rfl))
  · exact transferRequest_counts hwf (by omega) ((State.xfRequest_busy x hon hbusy).trans (if_pos hheld))
  · intro w hheld hmid htodst htocrc hne hsrc hcons hdst hprod hroom hwords hs he _ hfree
    exact transferMove_moves ⟨hon, hbusy, hheld, hmid, htodst, htocrc, hsrc, hcons, hdst, hprod, hroom, hwords, hs, he, hfree⟩ hne

end

section
/-! PROOF. What the egress scheduler sends (R195, R196). -/

open Sys2Proof Sys2Proof.Machine

namespace Sys2Proof.Machine

variable {s t u : State} {n : RingNo} {w : RWord} {ws rest : List RWord}

/-! ### The item at the head of a ring -/

/-- Whether an item ends with its word `w`, with `rest` behind it on the ring (R186). -/
def endsItem (w : RWord) (rest : List RWord) : Bool := w.e || rest.head?.any (·.s)

theorem State.itemOver_eq (s : State) (n : RingNo) (w : RWord) : s.itemOver n w = endsItem w (s.ring n).words := by
  unfold State.itemOver endsItem
  cases (s.ring n).words <;> rfl

theorem headItem_cons (w : RWord) (rest : List RWord) :
    headItem (w :: rest) = if endsItem w rest then some [w] else (headItem rest).map (w :: ·) := by
  cases rest with
  | nil => cases he : w.e <;> simp [headItem, endsItem, he]
  | cons v l => cases he : w.e <;> cases hs : v.s <;> simp [headItem, endsItem, he, hs]

theorem headItem_ne_nil : ∀ {l : List RWord}, headItem l = some ws → ws ≠ []
  | [], h => nomatch h
  | w :: rest, h => by
    rw [headItem_cons] at h
    split at h
    · exact Option.some.inj h ▸ List.cons_ne_nil _ _
    · obtain ⟨_, -, rfl⟩ := Option.map_eq_some_iff.mp h
      exact List.cons_ne_nil _ _

/-! ### What a decision changes -/

/-- The scheduler writes the rings, the transmit queue and the shaper levels. -/
def State.EgFrame (s t : State) : Prop := t = { s with rings := t.rings, hsp := t.hsp, shLevels := t.shLevels }

theorem State.EgFrame.trans (h : s.EgFrame t) (h' : t.EgFrame u) : s.EgFrame u :=
  Eq.trans h' (congrArg (fun v : State => { v with rings := u.rings, hsp := u.hsp, shLevels := u.shLevels }) h)

theorem State.EgFrame.ext (h : s.EgFrame t) (h' : s.EgFrame u) (hrings : t.rings = u.rings) (hhsp : t.hsp = u.hsp)
    (hlevels : t.shLevels = u.shLevels) : t = u := by
  rw [h, h', hrings, hhsp, hlevels]

theorem State.egFrame_modRing (s : State) (n : RingNo) (f : Ring → Ring) : s.EgFrame (s.modRing n f) := rfl

/-! ### An item moved into the transmit queue -/

theorem vset_vset {α : Type} {k : Nat} (v : Vector α k) (i : Fin k) (a b : α) : vset (vset v i a) i b = vset v i b := by
  simp [vset]

/-- The shaper levels once ring `n` has paid for `k` words (R196). -/
def State.shPaid (s : State) (n : RingNo) (k : Nat) : Vector Int 16 :=
  if s.shaped n then vset s.shLevels (RingNo.egr n) (s.shLevels[RingNo.egr n] - 8000000 * k) else s.shLevels

/-- The words `ws`, which the deficit has paid for, in the transmit queue and charged to the shaper of ring `n`. -/
def State.egQueued (s : State) (n : RingNo) (ws : List RWord) : State :=
  { s with
    shLevels := s.shPaid n ws.length
    hsp.txq := s.hsp.txq ++ ws
    hsp.sendLeft := s.hsp.sendLeft - ws.length }

/-- A ring without the words `ws` that stood at its head. -/
def Ring.without (r : Ring) (ws : List RWord) : Ring :=
  { r with words := r.words.drop ws.length, last := ws.getLast?.getD {} }

theorem Ring.without_head {r : Ring} (h : r.words = w :: rest) : (r.without [w]).words = rest := by
  rw [Ring.without, h]
  rfl

theorem Ring.without_without (hws : ws ≠ []) (r : Ring) (w : RWord) : (r.without [w]).without ws = r.without (w :: ws) := by
  obtain ⟨v, hv⟩ := Option.ne_none_iff_exists'.mp (mt List.getLast?_eq_none_iff.mp hws)
  simp [Ring.without, List.getLast?_cons, hv]

/-- The words `ws` at the head of ring `n` moved into the transmit queue. -/
def State.egMoved (s : State) (n : RingNo) (ws : List RWord) : State := (s.modRing n (·.without ws)).egQueued n ws

/-- The item in transfer is over. -/
def State.egDone (s : State) : State := { s with hsp.sending := none, hsp.sendLeft := 0 }

theorem State.egFrame_egMoved (s : State) (n : RingNo) (ws : List RWord) : s.EgFrame (s.egMoved n ws) :=
  (s.egFrame_modRing n _).trans rfl

theorem State.egFrame_egDone (s : State) : s.EgFrame s.egDone := rfl

theorem State.ring_egMoved_same (s : State) (n : RingNo) (ws : List RWord) : (s.egMoved n ws).ring n = (s.ring n).without ws :=
  s.ring_modRing_same n (·.without ws)

theorem State.ring_egMoved_other (s : State) {m n : RingNo} (h : m ≠ n) (ws : List RWord) : (s.egMoved n ws).ring m = s.ring m :=
  s.ring_modRing_other (·.without ws) h

theorem State.egTake_paid (hleft : s.hsp.sendLeft ≠ 0) (n : RingNo) (w : RWord) : s.egTake n w = s.egQueued n [w] := by
  unfold State.egTake State.egQueued State.shPaid
  dsimp only
  cases s.shaped n
  · simp only [Bool.false_eq_true, if_false]
    rw [if_neg fun h => hleft h.2.1]
    rfl
  · simp only [if_true]
    rw [if_neg fun h => hleft h.2.1]
    rfl

theorem State.egTake_took (hleft : s.hsp.sendLeft ≠ 0) (hwords : (s.ring n).words = w :: rest) :
    (s.tookWord n w rest).egTake n w = s.egMoved n [w] := by
  rw [State.egTake_paid (s := s.tookWord n w rest) hleft, State.egMoved, State.tookWord, State.modRing, State.modRing,
    Ring.without, hwords]
  rfl

theorem State.shPaid_congr (h : t.shLevels = s.shLevels) (hregs : t.regs = s.regs) (k : Nat) : t.shPaid n k = s.shPaid n k := by
  rw [State.shPaid, State.shPaid, State.shaped, State.shaped, State.reg, State.reg, h, hregs]

theorem State.shPaid_shPaid (h : t.shLevels = s.shPaid n 1) (hregs : t.regs = s.regs) (k : Nat) :
    t.shPaid n k = s.shPaid n (k + 1) := by
  have hshaped : t.shaped n = s.shaped n := by rw [State.shaped, State.shaped, State.reg, State.reg, hregs]
  unfold State.shPaid at h ⊢
  rw [h, hshaped]
  split
  · rw [vset_get_same, vset_vset]
    congr 1
    push_cast
    ring
  · rfl

theorem State.egMoved_cons (hws : ws ≠ []) (s : State) (n : RingNo) (w : RWord) :
    (s.egMoved n [w]).egMoved n ws = s.egMoved n (w :: ws) := by
  have hrings : ((s.egMoved n [w]).egMoved n ws).rings = (s.egMoved n (w :: ws)).rings := by
    show vset (vset s.rings n _) n (((s.egMoved n [w]).ring n).without ws) = vset s.rings n ((s.ring n).without (w :: ws))
    rw [vset_vset, State.ring_egMoved_same, Ring.without_without hws]
  have hlevels : ((s.egMoved n [w]).egMoved n ws).shLevels = (s.egMoved n (w :: ws)).shLevels :=
    State.shPaid_shPaid (s := s) (t := s.egMoved n [w]) rfl rfl ws.length
  have hhsp : ((s.egMoved n [w]).egMoved n ws).hsp = (s.egMoved n (w :: ws)).hsp := by
    simp [State.egMoved, State.egQueued, Nat.sub_sub, Nat.add_comm]
  exact ((s.egFrame_egMoved n [w]).trans (State.egFrame_egMoved _ n ws)).ext (s.egFrame_egMoved n (w :: ws)) hrings hhsp hlevels

theorem State.egMove_succ (hroom : s.hsp.txq.length < txqCap) (hleft : s.hsp.sendLeft ≠ 0)
    (hwords : (s.ring n).words = w :: rest) (k : Nat) : s.egMove n [] (k + 1) =
      if endsItem w rest then (s.egMoved n [w]).egDone else (s.egMoved n [w]).egMove n [] k := by
  have hover : (s.egMoved n [w]).itemOver n w = endsItem w rest := by
    rw [State.itemOver_eq, State.ring_egMoved_same, Ring.without_head hwords]
  rw [State.egMove, if_neg (Nat.not_le.mpr hroom), List.headD_nil, State.ringTake_good hwords]
  dsimp only
  rw [State.egTake_took hleft hwords, hover]
  rfl

theorem State.egMove_item (l : List RWord) : ∀ (s : State) (ws : List RWord) (k : Nat), (s.ring n).words = l →
    headItem l = some ws → s.hsp.txq.length + ws.length ≤ txqCap → ws.length ≤ k → s.hsp.sendLeft = ws.length →
    s.egMove n [] k = (s.egMoved n ws).egDone := by
  induction l with
  | nil => exact fun _ _ _ _ h => nomatch h
  | cons w rest ih =>
    intro s ws k hwords hitem hroom hk hleft
    have hpos : 0 < ws.length := List.length_pos_iff.mpr (headItem_ne_nil hitem)
    obtain ⟨k, rfl⟩ : ∃ j, k = j + 1 := ⟨k - 1, by omega⟩
    rw [State.egMove_succ (by omega) (by omega) hwords]
    rw [headItem_cons] at hitem
    split at hitem
    · next hends => rw [if_pos hends, Option.some.inj hitem]
    · next hends =>
      obtain ⟨ws', hitem', rfl⟩ := Option.map_eq_some_iff.mp hitem
      rw [List.length_cons] at hroom hk hleft
      rw [if_neg hends, ← State.egMoved_cons (headItem_ne_nil hitem')]
      refine ih (s.egMoved n [w]) ws' k ?_ hitem' ?_ (by omega) ?_
      · rw [State.ring_egMoved_same, Ring.without_head hwords]
      · show (s.hsp.txq ++ [w]).length + ws'.length ≤ txqCap
        rw [List.length_append, List.length_singleton]
        omega
      · show s.hsp.sendLeft - 1 = ws'.length
        omega

/-- A complete item that the queue has room for is sent whole. -/
theorem State.egSend_item (hitem : headItem (s.ring n).words = some ws) (hroom : s.hsp.txq.length + ws.length ≤ txqCap) :
    s.egSend n [] = (s.egMoved n ws).egDone := by
  have hlen : s.egLength n = ws.length := by rw [State.egLength, hitem]
  exact State.egMove_item (s.ring n).words { s with hsp.sending := some n, hsp.sendLeft := s.egLength n } ws txqCap rfl hitem
    hroom (by omega) hlen

/-! ### The choice of R195 -/

/-- Ring `n` with another credit. -/
def State.credited (s : State) (n : RingNo) (d : Int) (vis : Bool) : State :=
  s.modRing n fun r => { r with deficit := d, visited := vis }

theorem State.credited_self (s : State) (n : RingNo) : s.credited n (s.ring n).deficit (s.ring n).visited = s := by
  show { s with rings := vset s.rings n s.rings[n] } = s
  rw [vset_self]

/-- A credited ring pays for its item. -/
theorem State.credited_pays (s : State) (n : RingNo) (d k : Int) (vis : Bool) :
    ((s.credited n d vis).modRing n fun r => { r with deficit := r.deficit - k }) = s.credited n (d - k) vis := by
  have hring : (s.credited n d vis).ring n = { s.ring n with deficit := d, visited := vis } := State.ring_modRing_same s n _
  rw [State.modRing, hring]
  show { s with rings := vset (vset s.rings n _) n _ } = { s with rings := vset s.rings n _ }
  rw [vset_vset]

theorem State.egDecide_strict (h : s.egReady n = true) (hlow : 16 ≤ n.val) (hhigh : n.val < 20)
    (hfirst : ∀ m : RingNo, 16 ≤ m.val → m < n → s.egReady m = false) (bad : List Bool) : s.egDecide bad = s.egSend n bad := by
  have hfind : ([16, 17, 18, 19] : List RingNo).find? (fun m => s.egReady m) = some n := by
    have hn : n = 16 ∨ n = 17 ∨ n = 18 ∨ n = 19 := by simp only [Fin.ext_iff]; omega
    rcases hn with rfl | rfl | rfl | rfl <;> simp [h, hfirst 16, hfirst 17, hfirst 18]
  rw [State.egDecide, hfind]

theorem State.egDecide_rotates (h : ∀ m : RingNo, 16 ≤ m.val → m.val < 20 → s.egReady m = false) (bad : List Bool) :
    s.egDecide bad = s.egRotate s.hsp.cursor bad 12 := by
  have hfind : ([16, 17, 18, 19] : List RingNo).find? (fun m => s.egReady m) = none := by
    simp [h]
  rw [State.egDecide, hfind]

/-- A ready ring under the cursor that the turn has not visited sends an item that its deficit covers with the quantum. -/
theorem State.egRotate_sends {d : Int} (hn : n.val = 20 + s.hsp.cursor) (hcur : s.hsp.cursor < 12) (hready : s.egReady n = true)
    (hvis : (s.ring n).visited = false) (hitem : headItem (s.ring n).words = some ws)
    (hd : (s.ring n).deficit + s.quantum n = d) (hcovers : ws.length ≤ d) (bad : List Bool) (k : Nat) :
    s.egRotate s.hsp.cursor bad (k + 1) = (s.credited n (d - ws.length) true).egSend n bad := by
  have hring : drrRing s.hsp.cursor = n := Fin.ext (by show 20 + s.hsp.cursor % 12 = n.val; omega)
  have hwords : (s.ring n).words.isEmpty = false := by
    cases hl : (s.ring n).words with
    | nil => rw [hl] at hitem; cases hitem
    | cons => rfl
  have hcredit : (s.modRing n fun r => { r with deficit := r.deficit + s.quantum n, visited := true }) = s.credited n d true := by
    rw [State.modRing, State.credited, State.modRing, hd]
  have hitem' : headItem ((s.credited n d true).ring n).words = some ws := by
    rw [State.credited, State.ring_modRing_same]
    exact hitem
  have hlen : (s.credited n d true).egLength n = ws.length := by rw [State.egLength, hitem']
  have hdeficit : ((s.credited n d true).ring n).deficit = d := by rw [State.credited, State.ring_modRing_same]
  unfold State.egRotate
  simp only [hring, hwords, hready, hvis, Bool.not_true, Bool.false_eq_true, if_false, hcredit, hlen, hdeficit, hcovers, if_true,
    State.credited_pays, Nat.mod_eq_of_lt hcur]
  rfl

/-! ### The command -/

theorem exec_egressDecision_full (h : txqCap ≤ s.hsp.txq.length) (bad : List Bool) : exec (.egressDecision bad) s = .next s :=
  congrArg Host.Outcome.next (if_pos h)

theorem exec_egressDecision_decides (h : s.hsp.txq.length < txqCap) (hsend : s.hsp.sending = none) (bad : List Bool) :
    exec (.egressDecision bad) s = .next (s.egDecide bad) := by
  show Host.Outcome.next _ = _
  rw [if_neg (Nat.not_le.mpr h), hsend]

/-- An item sent from a ring with the credit `d`. -/
theorem State.sent_spec (s : State) (n : RingNo) (ws : List RWord) (d : Int) (vis : Bool) :
    let t := ((s.credited n d vis).egMoved n ws).egDone
    t.ring n = { s.ring n with
      words := (s.ring n).words.drop ws.length, last := ws.getLast?.getD {}, deficit := d, visited := vis } ∧
    t.hsp.txq = s.hsp.txq ++ ws ∧ t.hsp.sending = none ∧ (∀ m, m ≠ n → (t.ring m).words = (s.ring m).words) ∧
    t = { s with rings := t.rings, hsp := t.hsp, shLevels := t.shLevels } ∧ t.shLevels = s.shPaid n ws.length := by
  refine ⟨?_, rfl, rfl, fun m hm => ?_, ?_, ?_⟩
  · refine ((s.credited n d vis).ring_egMoved_same n ws).trans ?_
    rw [State.credited, State.ring_modRing_same]
    rfl
  · exact congrArg Ring.words (((s.credited n d vis).ring_egMoved_other hm ws).trans (State.ring_modRing_other s _ hm))
  · exact ((s.egFrame_modRing n _).trans (State.egFrame_egMoved _ n ws)).trans (State.egFrame_egDone _)
  · exact State.shPaid_congr rfl rfl ws.length

theorem State.egSend_credited (hitem : headItem (s.ring n).words = some ws) (hroom : s.hsp.txq.length + ws.length ≤ txqCap)
    (d : Int) (vis : Bool) : (s.credited n d vis).egSend n [] = ((s.credited n d vis).egMoved n ws).egDone := by
  refine State.egSend_item ?_ hroom
  rw [State.credited, State.ring_modRing_same]
  exact hitem

end Sys2Proof.Machine

open Sys2Proof Sys2Proof.Machine

/-- Settles O36: a decision by strict priority or by deficit, and the item sent word for word, by induction over the ring. -/
theorem egressSendsByPriorityThenDeficit : Obligations.EgressSendsByPriorityThenDeficit := by
  intro s _
  refine ⟨exec_egressDecision_full, fun n ws hsend hready hitem hroom hfree => ⟨fun hlow hhigh hfirst => ?_,
    fun hstrict hn hcur hvis hcovers => ?_⟩⟩
  · have hmoved := s.egSend_credited hitem hroom (s.ring n).deficit (s.ring n).visited
    rw [State.credited_self] at hmoved
    refine ⟨_, (exec_egressDecision_decides hfree hsend []).trans (congrArg _ ?_), s.sent_spec n ws _ _⟩
    rw [State.egDecide_strict hready hlow hhigh hfirst, hmoved, State.credited_self]
  · refine ⟨_, (exec_egressDecision_decides hfree hsend []).trans (congrArg _ ?_), s.sent_spec n ws _ _, rfl⟩
    rw [State.egDecide_rotates hstrict, State.egRotate_sends hn hcur hready hvis hitem rfl hcovers]
    exact State.egSend_credited hitem hroom _ _

end

section
/-! PROOF. The memory serial port and the peripheral serial port (R222 to R227). -/

open Sys2Proof Sys2Proof.Machine

namespace Sys2Proof.Machine

variable {s : State} {e v : Word}

/-! ### The XIP cache and its line fills (R222, R223) -/

theorem execInval_empties (s : State) (v : Word) : execInval v s = .next { s with msp.lines := [] } := by
  have hbit : bit (v ||| 1) 0 = true := by simp [bit]
  exact congrArg Host.Outcome.next (if_pos hbit)

/-- A thread that waits for line `l` goes back to Run and fetches again. -/
def Thread.refilled (l : Nat) (x : Thread) : Thread :=
  if x.st = .wait ∧ x.xipLine = some l then x.resume else x

theorem Thread.refilled_waiting {x : Thread} (h : x.waiting = none) (l : Nat) : (x.refilled l).waiting = none := by
  unfold Thread.refilled
  split
  · rfl
  · exact h

/-- A thread that waits on its fetch alone has no LD to try again. -/
theorem State.retryLine_fetch {t : Tid} (h : (s.th t).waiting = none) (l : Nat) :
    s.retryLine l t = s.modTh t (Thread.refilled l) := by
  unfold State.retryLine Thread.refilled State.modTh
  dsimp only
  split
  · rw [h]
  · exact (State.setTh_self s t).symm

theorem State.foldl_retryLine (l : Nat) : ∀ (ts : List Tid) (s : State), (∀ t, (s.th t).waiting = none) →
    ts.foldl (fun s t => s.retryLine l t) s = ts.foldl (fun s t => s.modTh t (Thread.refilled l)) s
  | [], _, _ => rfl
  | t :: ts, s, h => by
    rw [List.foldl_cons, List.foldl_cons, State.retryLine_fetch (h t)]
    refine State.foldl_retryLine l ts _ fun u => ?_
    by_cases hu : u = t
    · subst hu
      rw [State.th_modTh_same]
      exact Thread.refilled_waiting (h u) l
    · rw [State.th_modTh_other _ _ hu]
      exact h u

/-- The threads that wait on line `l` go on; the port and the registers keep. -/
theorem State.forThreads_retryLine (h : ∀ t, (s.th t).waiting = none) (l : Nat) :
    let t := s.forThreads fun s t => s.retryLine l t
    t.msp = s.msp ∧ t.regs = s.regs ∧ ∀ u, t.th u = (s.th u).refilled l := by
  have honly := State.foldl_modTh_only (Thread.refilled l) (List.finRange 32) s
  dsimp only
  rw [State.forThreads, State.foldl_retryLine l _ s h]
  refine ⟨(congrArg State.msp honly :), (congrArg State.regs honly :), fun u => ?_⟩
  rw [State.foldl_modTh_th _ _ _ _ (List.nodup_finRange 32), if_pos (List.mem_finRange u)]

theorem State.decryptLine_plain (h : ∀ a, s.xipRegion a = none) (l : Nat) (flash : List Word) :
    s.decryptLine l flash = (flash, false) := by
  rw [State.decryptLine, h]

theorem State.cacheLine_empty (h : s.msp.lines = []) (l : Nat) (ws : List Word) :
    s.cacheLine l ws = { s with msp.lines := [(l, ws)] } := by
  unfold State.cacheLine
  rw [h]
  rfl

/-- The oldest line asked for, filled and counted; no thread has gone on yet. -/
def State.lineFilled (s : State) (l : Nat) (ws : List Word) (rest : List Nat) : State :=
  { s with msp := { lines := [(l, ws)], fills := rest, queued := false } }.countFld MS_MISS 0 32 1

theorem execXipLineFill_fills {l : BitVec 19} {flash : List Word} {rest : List Nat} (hfills : s.msp.fills = l.toNat :: rest)
    (hlen : flash.length = 8) (hidle : (s.reg MS_DCMD).getLsbD 30 = false) (hplain : ∀ a, s.xipRegion a = none)
    (hempty : s.msp.lines = []) :
    execXipLineFill l flash s =
      .next ((s.lineFilled l.toNat flash rest).forThreads fun s t => s.retryLine l.toNat t) := by
  have hbusy : s.fld MS_DCMD 30 1 = 0 := by
    refine (bits_congr (w := 0) fun k hk => ?_).trans (by decide)
    obtain rfl : k = 0 := by omega
    simpa using hidle
  unfold execXipLineFill
  rw [if_pos ⟨by rw [hfills]; rfl, hlen, .inr hbusy⟩, State.decryptLine_plain hplain]
  dsimp only
  rw [if_neg Bool.false_ne_true, State.cacheLine_empty (by exact hempty), hfills]
  rfl

theorem State.reg_lineFilled_miss (h : s.regsWf) (l : Nat) (ws : List Word) (rest : List Nat) :
    ((s.lineFilled l ws rest).reg MS_MISS).toNat = min ((s.reg MS_MISS).toNat + 1) 0xFFFFFFFF := by
  have hcount := State.fld_countFld_same (s := { s with msp := { lines := [(l, ws)], fills := rest, queued := false } }) h MS_MISS
    (lo := 0) (n := 32) (by omega) 1
  rw [State.fld, State.fld, bits_whole, bits_whole] at hcount
  exact hcount

/-! ### Direct commands (R224) -/

theorem regRow_MS_DCMD : regRow MS_DCMD = some ⟨MS_DCMD, [], 0xFFFF00, 0, 0, 0x80000000, 0⟩ := by decide

/-- BUSY is read-only: a write keeps it. -/
theorem getLsbD_storedWrite_busy (old v : Word) :
    (storedWrite ⟨MS_DCMD, [], 0xFFFF00, 0, 0, 0x80000000, 0⟩ old v).getLsbD 30 = old.getLsbD 30 :=
  getLsbD_storedWrite _ _ _ (by omega) (by decide) (by decide)

theorem execMsDcmdGo_starts (h : s.regsWf) (v : Word) :
    ∃ t : State, execMsDcmdGo v s = .next t ∧ t = { s with regs := t.regs, msp := t.msp } ∧
      t.msp = { s.msp with queued := if (s.reg MS_DCMD).getLsbD 30 then s.msp.queued else !s.msp.fills.isEmpty } ∧
      (t.reg MS_DCMD).getLsbD 30 = true ∧ ∀ a, a ≠ MS_DCMD → t.reg a = s.reg a := by
  have hgo : bit (v ||| 0x80000000) 31 = true := by simp [bit]
  have hbusy := getLsbD_storedWrite_busy (s.reg MS_DCMD) (v ||| 0x80000000)
  refine ⟨_, rfl, ?_⟩
  rw [State.writeDcmd, State.writeFields_of_some regRow_MS_DCMD, hgo]
  unfold bit
  cases hold : (s.reg MS_DCMD).getLsbD 30 with
  | true =>
    refine ⟨rfl, rfl, ?_, fun a ha => State.reg_setReg_other _ ha⟩
    exact (congrArg (·.getLsbD 30) (State.reg_setReg_same h _ _)).trans (hbusy.trans hold)
  | false =>
    refine ⟨rfl, rfl, ?_, fun a ha => ?_⟩
    · exact State.setFlag_bit (State.regsWf_setReg h _ _) MS_DCMD (by omega)
    · exact (State.reg_setFlag_other _ ha).trans (State.reg_setReg_other _ ha)

theorem execDirectCommandDone_receives (h : s.regsWf) (rx : DWord) (hbusy : (s.reg MS_DCMD).getLsbD 30 = true)
    (hqueued : s.msp.queued = false) (hnrx : bits (s.reg MS_DCMD) 16 4 = 8) :
    ∃ t : State, execDirectCommandDone rx s = .next t ∧ t = { s with regs := t.regs } ∧
      t.reg MS_DRX0 = rx.extractLsb' 32 32 ∧ t.reg MS_DRX1 = rx.extractLsb' 0 32 ∧ (t.reg MS_DCMD).getLsbD 30 = false := by
  have hrx : (rx &&& ~~~ BitVec.ofNat 64 (2 ^ (64 - 8 * 8) - 1)) |||
      ((s.reg MS_DRX0 ++ s.reg MS_DRX1) &&& BitVec.ofNat 64 (2 ^ (64 - 8 * 8) - 1)) = rx := by
    rw [show BitVec.ofNat 64 (2 ^ (64 - 8 * 8) - 1) = 0#64 from rfl, BitVec.and_zero, BitVec.or_zero, BitVec.not_zero,
      BitVec.and_allOnes]
  have hw0 := State.regsWf_setReg h MS_DRX0 (rx.extractLsb' 32 32)
  have hw1 := State.regsWf_setReg hw0 MS_DRX1 (rx.extractLsb' 0 32)
  refine ⟨_, congrArg Host.Outcome.next (if_pos (by simp [bit, hbusy, hqueued])), ?_⟩
  rw [State.fld, hnrx, Nat.min_self]
  dsimp only
  rw [hrx]
  refine ⟨rfl, ?_, ?_, ?_⟩
  · rw [State.reg_setFld_other _ (by decide), State.reg_setReg_other _ (by decide), State.reg_setReg_same h]
  · rw [State.reg_setFld_other _ (by decide), State.reg_setReg_same hw0]
  · rw [State.reg_setFld_same hw1, getLsbD_withBits _ _ _ _ _ (by omega)]
    rfl

/-! ### The queue of the peripheral port (R225 to R227) -/

/-- An empty queue has no entry to begin. -/
theorem State.pspGo_empty (h : s.psp.queue = []) : s.pspGo = s := by
  unfold State.pspGo
  split
  · next heq => rw [h] at heq; cases heq
  · rfl

/-- Nor does an entry begin while a word is in progress or the queue is stopped. -/
theorem State.pspGo_held (h : s.psp.word ≠ none ∨ (s.reg PS_CTRL).getLsbD 0 = false) : s.pspGo = s := by
  unfold State.pspGo
  split
  · next hword _ =>
    have hstop : bit (s.reg PS_CTRL) 0 = false := h.resolve_left fun hne => hne hword
    rw [hstop, Bool.false_and, if_neg Bool.false_ne_true]
  · rfl

theorem entrySel_toNat (v : Word) : (entrySel v).toNat = v.toNat / 2 ^ 27 % 8 := by
  rw [entrySel, BitVec.extractLsb'_toNat, Nat.shiftRight_eq_div_pow]

theorem execPsQentWrite_full (h : s.regsWf) (hfull : 64 ≤ s.psp.queue.length) (v : Word) :
    ∃ t : State, execPsQentWrite v s = .next t ∧ t = { s with regs := t.regs } ∧ (t.reg PS_FLAGS).getLsbD 2 = true :=
  ⟨_, congrArg Host.Outcome.next (if_pos hfull), rfl, State.setFlag_bit h PS_FLAGS (by omega)⟩

theorem execPsQentWrite_badSelect (h : s.regsWf) (hroom : s.psp.queue.length < 64) (hsel : 6 ≤ v.toNat / 2 ^ 27 % 8) :
    ∃ t : State, execPsQentWrite v s = .next t ∧ t = { s with regs := t.regs } ∧ (t.reg PS_FLAGS).getLsbD 1 = true := by
  refine ⟨_, congrArg Host.Outcome.next ?_, rfl, State.setFlag_bit h PS_FLAGS (by omega)⟩
  rw [State.writeQent, if_neg (Nat.not_le.mpr hroom), entrySel_toNat, if_pos hsel]

theorem execPsQentWrite_queues (hroom : s.psp.queue.length < 64) (hsel : v.toNat / 2 ^ 27 % 8 < 6)
    (hheld : s.psp.word ≠ none ∨ (s.reg PS_CTRL).getLsbD 0 = false) :
    execPsQentWrite v s = .next { s with psp.queue := s.psp.queue ++ [v] } := by
  refine congrArg Host.Outcome.next ?_
  rw [State.writeQent, if_neg (Nat.not_le.mpr hroom), entrySel_toNat, if_neg (Nat.not_le.mpr hsel)]
  exact State.pspGo_held hheld

/-- The word kept for an entry is valid and names its select (R227). -/
theorem State.rxWord_fields (s : State) (e : Word) (rx : BitVec 24) :
    (s.rxWord e rx).getLsbD 31 = true ∧ (s.rxWord e rx).extractLsb' 27 3 = e.extractLsb' 27 3 := by
  have hlow : ∀ i, 27 ≤ i → (fieldW 0 (s.pspBits (entrySel e)) rx.toNat).getLsbD i = false := fun i hi => by
    have hrx : rx.toNat % 2 ^ s.pspBits (entrySel e) < 2 ^ i :=
      ((Nat.mod_le _ _).trans_lt rx.isLt).trans_le (Nat.pow_le_pow_right (by omega) (by omega))
    rw [fieldW, Nat.shiftLeft_zero, BitVec.getLsbD_ofNat, Nat.testBit_lt_two_pow hrx, Bool.and_false]
  refine ⟨by simp [State.rxWord], ?_⟩
  ext i hi
  have hvalid : (0x80000000 : Word).getLsbD (27 + i) = false := by
    have : ∀ j < 3, (0x80000000 : Word).getLsbD (27 + j) = false := by decide
    exact this i hi
  rw [BitVec.getElem_extractLsb', State.rxWord, BitVec.getLsbD_or, BitVec.getLsbD_or, hvalid, hlow _ (by omega), fieldW,
    BitVec.getLsbD_ofNat, Nat.testBit_shiftLeft, Nat.testBit_mod_two_pow, BitVec.testBit_toNat, entrySel, BitVec.getLsbD_extractLsb']
  simp [hi, show 27 + i < 32 by omega]

/-- A word done, with no entry to follow. -/
theorem execPspWordDone_last (hword : s.psp.word = some e) (hqueue : s.psp.queue = []) (rx : BitVec 24) :
    execPspWordDone rx s = .next { s with
      psp.word := none, psp.held := if e.getLsbD 31 then some (e.extractLsb' 27 3) else none
      psp.rx := s.psp.rx ++ if e.getLsbD 30 then [s.rxWord e rx] else [] } := by
  unfold execPspWordDone
  rw [hword]
  exact congrArg Host.Outcome.next (State.pspGo_empty hqueue)

theorem execContbrk_releases (h : s.regsWf) (hheld : s.psp.held ≠ none) (hword : s.psp.word = none) (hqueue : s.psp.queue = []) :
    ∃ t : State, execContbrk s = .next t ∧ t = { s with regs := t.regs, psp := t.psp } ∧ t.psp.held = none ∧
      (t.reg PS_FLAGS).getLsbD 0 = true := by
  have hcond : (s.psp.held.isSome && s.psp.word.isNone && s.psp.queue.isEmpty) = true := by
    simp [Option.isSome_iff_ne_none, hheld, hword, hqueue]
  exact ⟨_, congrArg Host.Outcome.next (if_pos hcond), rfl, rfl,
    State.setFlag_bit (s := { s with psp.held := none }) h PS_FLAGS (by omega)⟩

theorem execPsRxRead_empty (h : s.psp.rx = []) : execPsRxRead s = .next { s with busData := 0 } := by
  rw [execPsRxRead, State.readPsRx, h]

theorem execPsRxRead_oldest {w : Word} {ws : List Word} (hrx : s.psp.rx = w :: ws) (hqueue : s.psp.queue = []) :
    execPsRxRead s = .next { s with psp.rx := ws, busData := w } := by
  have hread : s.readPsRx = (w, { s with psp.rx := ws }) := by
    rw [State.readPsRx, hrx]
    exact congrArg (w, ·) (State.pspGo_empty hqueue)
  rw [execPsRxRead, hread]

/-! ### The flush (R227) -/

theorem regRow_PS_CTRL : regRow PS_CTRL = some ⟨PS_CTRL, [], 1, 0, 0, 2, 0⟩ := by decide

theorem State.onlyEvents_raiseRouted (s : State) (w : Word) : s.onlyEvents (s.raiseRouted w) := fun u => by
  obtain ⟨e, m, h⟩ := s.raiseRouted_th w u
  rw [h]

/-- The queue and the held select discarded; the event of an emptied queue. -/
def State.pspFlushed (s : State) : State :=
  if s.psp.queue.isEmpty then { s with psp.queue := [], psp.held := none }
  else { s with psp.queue := [], psp.held := none }.raiseRouted (s.reg PS_EVT)

theorem State.pspFlushed_spec (s : State) : s.pspFlushed.psp = { s.psp with queue := [], held := none } ∧
    s.onlyEvents s.pspFlushed ∧ s.pspFlushed.regs = s.regs := by
  unfold State.pspFlushed
  split
  · exact ⟨rfl, fun _ => rfl, rfl⟩
  · exact ⟨State.raiseRouted_psp _ _, State.onlyEvents_raiseRouted _ _, State.raiseRouted_regs _ _⟩

theorem State.writePsCtrl_flush (h : bit v 1 = true) :
    s.writePsCtrl v = (s.setReg PS_CTRL (storedWrite ⟨PS_CTRL, [], 1, 0, 0, 2, 0⟩ (s.reg PS_CTRL) v)).pspFlushed := by
  have hqueue (t : State) : t.pspFlushed.psp.queue = [] := congrArg Psp.queue t.pspFlushed_spec.1
  rw [State.writePsCtrl, State.writeFields_of_some regRow_PS_CTRL, if_pos h]
  exact State.pspGo_empty (hqueue _)

theorem execPsFlush_empties (h : s.regsWf) (v : Word) :
    ∃ t : State, execPsFlush v s = .next t ∧ t.psp = { s.psp with queue := [], held := none } ∧ s.onlyEvents t ∧
      (t.reg PS_CTRL).getLsbD 0 = v.getLsbD 0 := by
  have hflush : bit (v ||| 2) 1 = true := by simp [bit]
  obtain ⟨hpsp, hevents, hregs⟩ :=
    (s.setReg PS_CTRL (storedWrite ⟨PS_CTRL, [], 1, 0, 0, 2, 0⟩ (s.reg PS_CTRL) (v ||| 2))).pspFlushed_spec
  refine ⟨_, congrArg Host.Outcome.next (State.writePsCtrl_flush hflush), hpsp, hevents, ?_⟩
  rw [State.reg, hregs, ← State.reg, State.reg_setReg_same h, getLsbD_storedWrite _ _ _ (by omega) (by decide) (by decide)]
  simp

end Sys2Proof.Machine

open Sys2Proof Sys2Proof.Machine

/-- Settles O41: each transfer by its command, a line fill by induction over the threads that wait for it. -/
theorem memoryAndPeripheralPortTransfers : Obligations.MemoryAndPeripheralPortTransfers := by
  intro s h
  refine ⟨execInval_empties s, fun l flash rest hfills hlen hidle hplain hwait hempty => ?_, execMsDcmdGo_starts h,
    execDirectCommandDone_receives h, fun v => ⟨fun hfull => execPsQentWrite_full h hfull v, execPsQentWrite_badSelect h,
      execPsQentWrite_queues⟩, fun e rx hword hqueue => ?_, execContbrk_releases h, execPsRxRead_empty,
    fun _ _ => execPsRxRead_oldest, execPsFlush_empties h⟩
  · obtain ⟨hmsp, hregs, hth⟩ := State.forThreads_retryLine (s := s.lineFilled l.toNat flash rest) hwait l.toNat
    refine ⟨_, execXipLineFill_fills hfills hlen hidle hplain hempty, congrArg Msp.lines hmsp,
      congrArg Msp.fills hmsp, ?_, hth⟩
    rw [State.reg, hregs]
    exact State.reg_lineFilled_miss h _ _ _
  · obtain ⟨hvalid, hsel⟩ := s.rxWord_fields e rx
    refine ⟨_, execPspWordDone_last hword hqueue rx, rfl, rfl, hqueue, rfl, fun hrd => ?_, fun hrd => ⟨_, ?_, hvalid, hsel⟩⟩
    · dsimp only
      rw [hrd]
      exact List.append_nil _
    · dsimp only
      rw [hrd]
      rfl

end

section
/-! PROOF. A host frame whose CRC holds, executed in its turn and answered (R205 to R217). -/

open Sys2Proof Sys2Proof.Machine

namespace Sys2Proof.Machine

variable {s t x : State} {f : HostFrame} {n : RingNo} {ty : Nat} {v : Byte} {data : List Word}

/-! ### The header word (R205) -/

theorem extractLsb'_fieldW_same {lo n : Nat} (v : Nat) (h : lo + n ≤ 32) :
    (fieldW lo n v).extractLsb' lo n = BitVec.ofNat n v := by
  refine BitVec.eq_of_getLsbD_eq fun i hi => ?_
  rw [BitVec.getLsbD_extractLsb', fieldW, BitVec.getLsbD_ofNat, Nat.testBit_shiftLeft, Nat.testBit_mod_two_pow,
    BitVec.getLsbD_ofNat]
  simp [hi, show lo + i < 32 by omega]

theorem extractLsb'_fieldW_apart {lo n k m : Nat} (v : Nat) (h : k + m ≤ lo ∨ lo + n ≤ k) :
    (fieldW lo n v).extractLsb' k m = 0#m := by
  ext i hi
  rw [BitVec.getElem_extractLsb', fieldW, BitVec.getLsbD_ofNat, Nat.testBit_shiftLeft, Nat.testBit_mod_two_pow]
  rcases h with h | h
  · simp [show ¬ lo ≤ k + i by omega]
  · simp [show ¬ k + i - lo < n by omega]

/-- An answer names the type, the alive value and the length of its frame. -/
theorem answerOf_frameHeader (ty : Nat) (f : HostFrame) (v : Byte) (data : List Word) : answerOf (frameHeader ty f) v data =
    { verdict := v, ftype := BitVec.ofNat 4 ty, alive := f.alive, length := BitVec.ofNat 12 f.body.length, data := data } := by
  unfold answerOf frameHeader
  simp only [BitVec.extractLsb'_or]
  rw [extractLsb'_fieldW_same _ (by omega), extractLsb'_fieldW_apart _ (by omega), extractLsb'_fieldW_apart _ (by omega),
    extractLsb'_fieldW_apart _ (by omega), extractLsb'_fieldW_apart _ (by omega), extractLsb'_fieldW_same _ (by omega),
    extractLsb'_fieldW_apart _ (by omega), extractLsb'_fieldW_apart _ (by omega), extractLsb'_fieldW_apart _ (by omega),
    extractLsb'_fieldW_apart _ (by omega), extractLsb'_fieldW_same _ (by omega), extractLsb'_fieldW_apart _ (by omega)]
  simp

/-! ### The record of a frame that was executed (R208 to R212, R215) -/

/-- The port after a frame was executed and answered with a verdict that is not one of a bad frame. -/
def Hsp.answered (h : Hsp) (ty : Nat) (f : HostFrame) (v : Byte) (data : List Word) : Hsp :=
  { h with
    answer := some (answerOf (frameHeader ty f) v data)
    kept := (answerOf (frameHeader ty f) v data :: h.kept).take 4
    badRun := 0
    expect := if f.alive = 0 then 1 else if v == 0 && f.alive == h.expect then aliveNext f.alive else h.expect
    devAlive := if f.sel.full then h.devAlive + 1 else h.devAlive
    verdict := if f.sel.full then (h.reply.headD 0).extractLsb' 0 8 else h.verdict }

/-- What the execution of a frame leaves alone at the port. -/
structure Hsp.SameExchange (h k : Hsp) : Prop where
  kept : k.kept = h.kept
  reply : k.reply = h.reply
  devAlive : k.devAlive = h.devAlive
  expect : k.expect = h.expect
  ready : k.ready = h.ready

theorem Hsp.SameExchange.refl (h : Hsp) : h.SameExchange h := ⟨rfl, rfl, rfl, rfl, rfl⟩

theorem Hsp.SameExchange.of_eq {h k : Hsp} (e : k = h) : h.SameExchange k := e ▸ .refl h

/-- The answer that `State.answers` asks for is the one recorded. -/
theorem State.answers_of_answered {h : Hsp} (hport : s.inFrame.hsp.SameExchange h) (hturn : s.inTurn f)
    (ht : t.hsp = h.answered ty f v data) : s.answers t ty f v data := by
  obtain ⟨hkept, hreply, hdev, hexpect, -⟩ := hport
  unfold State.answers
  rw [ht, ← answerOf_frameHeader]
  refine ⟨rfl, congrArg (fun k => (answerOf (frameHeader ty f) v data :: k).take 4) hkept, hreply, ?_, ?_⟩
  · exact congrArg (fun d => if f.sel.full then d + 1 else d) hdev
  · have hnext (h0 : f.alive ≠ 0) : f.alive = s.hsp.expect := hturn.resolve_left h0
    show (if f.alive = 0 then 1 else if v == 0 && f.alive == h.expect then aliveNext f.alive else h.expect) = _
    rw [show h.expect = s.hsp.expect from hexpect]
    by_cases h0 : f.alive = 0
    · rw [if_pos h0, if_pos h0]
    · rw [if_neg h0, if_neg h0, ← hnext h0, beq_self_eq_true, Bool.and_true]
      simp only [beq_iff_eq]
      rfl

theorem State.newExpect_eq (s : State) (alive : Byte) (ok : Bool) : s.newExpect alive ok =
    { s with hsp.expect := if alive = 0 then 1 else if ok && alive == s.hsp.expect then aliveNext alive else s.hsp.expect } := by
  unfold State.newExpect
  split
  · rfl
  · split
    · rfl
    · rfl

/-- Counting a verdict writes a register at most. -/
theorem State.countVerdict_withHsp (s : State) (h : Hsp) (v : Byte) :
    ({ s with hsp := h } : State).countVerdict v = { s.countVerdict v with hsp := h } := by
  unfold State.countVerdict
  split <;> rfl

theorem State.answered_kept (s : State) (a : Answer) (h1 : a.verdict ≠ 1) (h3 : a.verdict ≠ 3) : s.answered a true =
    { s.countVerdict a.verdict with hsp := { s.hsp with answer := some a, kept := (a :: s.hsp.kept).take 4, badRun := 0 } } := by
  have hgood : ¬ (a.verdict = 1 ∨ a.verdict = 3) := not_or.mpr ⟨h1, h3⟩
  unfold State.answered
  dsimp only
  rw [if_pos rfl, State.badVerdict, if_neg hgood, State.countVerdict_withHsp]

/-! ### A frame executed (R211 to R213) -/

/-- A select of one whole frame: the frame is taken in a state whose reply is built, and the reply is sent. -/
theorem State.hostFrame_heard (h : s.hears f) (ty : Nat) : s.hostFrame ty f =
    let t := ({ s with hsp.reply := s.replyWords } : State).takeFrame ty f
    if t.hsp.ready && f.sel.full then t.replySent else t := by
  obtain ⟨hready, hsel, hsplit⟩ := h
  rw [State.hostFrame, State.selectLive, hready, hsel, Bool.and_self, if_pos rfl, State.select, State.selectBegin, hsplit]
  simp only [Bool.false_and, Bool.not_false, Bool.and_true, Bool.false_eq_true, if_false]

/-- With no split frame open, a good frame is executed in the state `State.inFrame`. -/
theorem State.goodFrame_eq_inFrame (h : s.hears f) :
    State.goodFrame { s with hsp := { s.hsp with reply := s.replyWords, split := false } } = s.inFrame := by
  obtain ⟨-, -, hsplit⟩ := h
  unfold State.goodFrame State.inFrame
  rw [← hsplit]
  rfl

theorem State.takeFrame_good (h : s.hears f) (hcrc : frameCrcOk ty f = true) :
    ({ s with hsp.reply := s.replyWords } : State).takeFrame ty f =
      if ty = 1 ∧ f.flags.getLsbD 7 then s.inFrame.doResend f
      else if ty ≠ 5 ∧ f.alive ≠ 0 ∧ f.alive ≠ s.hsp.expect then s.inFrame.answered (answerOf (frameHeader ty f) 0x02 []) true
      else
        let x := s.inFrame.execFrame ty f
        if !x.state.hsp.ready then x.state
        else (x.state.newExpect f.alive (x.verdict == 0)).answered (answerOf (frameHeader ty f) x.verdict x.data) true := by
  unfold State.takeFrame
  dsimp only
  rw [hcrc, State.goodFrame_eq_inFrame h]
  rfl

/-- The port after the answer, and after its reply was sent. -/
theorem State.frameAnswered (x : State) (f : HostFrame) (ty : Nat) (data : List Word) (h1 : v ≠ 1) (h3 : v ≠ 3)
    (hready : x.hsp.ready = true) :
    (let t := (x.newExpect f.alive (v == 0)).answered (answerOf (frameHeader ty f) v data) true
     if t.hsp.ready && f.sel.full then t.replySent else t) =
      { x.countVerdict v with hsp := x.hsp.answered ty f v data } := by
  rw [State.answered_kept _ _ h1 h3, State.newExpect_eq, State.countVerdict_withHsp, Hsp.answered]
  cases hfull : f.sel.full with
  | true => exact if_pos ((Bool.and_true _).trans hready)
  | false => exact if_neg ((Bool.and_false _).trans_ne Bool.false_ne_true)

/-- A good frame in its turn is executed; its answer is recorded and kept, and its verdict counted. -/
theorem State.hostFrame_executed (h : s.hears f) (hturn : s.inTurn f) (hcrc : frameCrcOk ty f = true)
    (hkind : ¬ (ty = 1 ∧ f.flags.getLsbD 7)) (h1 : v ≠ 1) (h3 : v ≠ 3) (hexec : s.inFrame.execFrame ty f = ⟨v, data, x⟩)
    (hport : s.inFrame.hsp.SameExchange x.hsp) :
    s.hostFrame ty f = { x.countVerdict v with hsp := x.hsp.answered ty f v data } ∧
      s.answers (s.hostFrame ty f) ty f v data := by
  have hready : x.hsp.ready = true := hport.ready.trans h.1
  have halive : ¬ (ty ≠ 5 ∧ f.alive ≠ 0 ∧ f.alive ≠ s.hsp.expect) := fun ⟨_, h0, hne⟩ => hne (hturn.resolve_left h0)
  have hend : s.hostFrame ty f = { x.countVerdict v with hsp := x.hsp.answered ty f v data } := by
    rw [State.hostFrame_heard h, State.takeFrame_good h hcrc, if_neg hkind, if_neg halive, hexec]
    dsimp only
    rw [hready, Bool.not_true, if_neg Bool.false_ne_true]
    exact x.frameAnswered f ty data h1 h3 hready
  exact ⟨hend, State.answers_of_answered hport hturn (congrArg State.hsp hend)⟩

/-- A frame that is executed with verdict OK. -/
theorem State.hostFrame_ok (h : s.hears f) (hturn : s.inTurn f) (hcrc : frameCrcOk ty f = true)
    (hkind : ¬ (ty = 1 ∧ f.flags.getLsbD 7)) (hexec : s.inFrame.execFrame ty f = .ok x data)
    (hport : s.inFrame.hsp.SameExchange x.hsp) :
    s.hostFrame ty f = { x with hsp := x.hsp.answered ty f 0 data } ∧ s.answers (s.hostFrame ty f) ty f 0 data :=
  State.hostFrame_executed h hturn hcrc hkind (by decide) (by decide) hexec hport

/-- A frame answered BUSY, which is counted. -/
theorem State.hostFrame_busy (h : s.hears f) (hturn : s.inTurn f) (hcrc : frameCrcOk ty f = true)
    (hkind : ¬ (ty = 1 ∧ f.flags.getLsbD 7)) (hexec : s.inFrame.execFrame ty f = ⟨4, [], x⟩)
    (hport : s.inFrame.hsp.SameExchange x.hsp) :
    s.hostFrame ty f = { x.countFld HS_CNT1 0 16 1 with hsp := x.hsp.answered ty f 4 [] } ∧
      s.answers (s.hostFrame ty f) ty f 4 [] :=
  State.hostFrame_executed h hturn hcrc hkind (by decide) (by decide) hexec hport

/-! ### Register frames (R207) -/

/-- Flags that a command's kind fixes already stand in the frame. -/
theorem hostFrame_withFlags_self {g : Byte} (h : g = f.flags) : { f with flags := g } = f := h ▸ rfl

theorem State.doRegrd_one {a : Word} (hflags : f.flags = 0) (hbody : f.body = [a]) (ha : wordAddr a < regSpace) :
    s.doRegrd f = .ok (s.busRead (wordAddr a)).2 [(s.busRead (wordAddr a)).1] := by
  have haddrs : regrdAddrs f = some [wordAddr a] := by simp [regrdAddrs, hflags, hbody, ha]
  rw [State.doRegrd, haddrs]
  rfl

theorem State.doRegwr_one {a w : Word} (hflags : f.flags = 0) (hbody : f.body = [a, w]) (ha : wordAddr a < regSpace) :
    s.doRegwr f = .ok (s.busWrite .host (wordAddr a) w) [] := by
  have hpairs : regwrPairs f = some [(wordAddr a, w)] := by simp [regwrPairs, pairUp, hflags, hbody, ha]
  rw [State.doRegwr, hpairs]
  rfl

theorem regrd_answers (h : s.hears f) (hturn : s.inTurn f) (a : Word) (hcrc : frameCrcOk 1 f = true) (hflags : f.flags = 0)
    (hbody : f.body = [a]) (ha : wordAddr a < regSpace)
    (hport : (s.inFrame.busRead (wordAddr a)).2.hsp = s.inFrame.hsp) :
    ∃ t : State, exec (.regrd f) s = .next t ∧ s.answers t 1 f 0 [(s.inFrame.busRead (wordAddr a)).1] ∧
      t = { (s.inFrame.busRead (wordAddr a)).2 with hsp := t.hsp } := by
  obtain ⟨hend, hans⟩ := State.hostFrame_ok h hturn hcrc (by simp [hflags]) (State.doRegrd_one hflags hbody ha) (.of_eq hport)
  have hexec : exec (.regrd f) s = .next (s.hostFrame 1 f) :=
    congrArg (fun g => Host.Outcome.next (s.hostFrame 1 g)) (hostFrame_withFlags_self (by rw [hflags]; rfl))
  refine ⟨_, hexec, hans, ?_⟩
  rw [hend]

theorem regwr_writes (h : s.hears f) (hturn : s.inTurn f) (a w : Word) (hcrc : frameCrcOk 2 f = true) (hflags : f.flags = 0)
    (hbody : f.body = [a, w]) (ha : wordAddr a < regSpace)
    (hport : (s.inFrame.busWrite .host (wordAddr a) w).hsp = s.inFrame.hsp) :
    ∃ t : State, exec (.regwr f) s = .next t ∧ s.answers t 2 f 0 [] ∧
      t = { s.inFrame.busWrite .host (wordAddr a) w with hsp := t.hsp } := by
  obtain ⟨hend, hans⟩ := State.hostFrame_ok h hturn hcrc (by simp) (State.doRegwr_one hflags hbody ha) (.of_eq hport)
  refine ⟨_, rfl, hans, ?_⟩
  rw [hend]

/-! ### Ring frames (R214, R215) -/

/-- The ring that a RINGWR names. -/
def frameRing (f : HostFrame) : RingNo := ⟨f.flags.toNat % 16, by omega⟩

/-- The meter of that ring. -/
def frameMeter (f : HostFrame) : Fin 16 := (f.flags.extractLsb' 0 4).toFin

theorem frameMeter_val (f : HostFrame) : (frameMeter f).val = (frameRing f).val := by
  show (f.flags.extractLsb' 0 4).toNat = f.flags.toNat % 16
  rw [BitVec.extractLsb'_toNat, Nat.shiftRight_zero]

/-- A host item of one word as its ring stores it: S and E, and the host in SOURCE. -/
def hostWord (d : DWord) : RWord :=
  { data := (d &&& 0xFFFFFF00FFFFFFFF) ||| 0x0000004000000000, v := true, s := true, e := true }

theorem hostItem_one (d : DWord) : hostItem [d] = [hostWord d] := rfl

/-- A ring always holds some words. -/
theorem State.ringCap_pos (s : State) (n : RingNo) : 1 ≤ s.ringCap n := by
  have := Nat.two_pow_pos (s.fld (RG_CFG n) 27 4)
  unfold State.ringCap
  omega

/-- A frame of one item of one word, on a ring that takes the host's items. -/
theorem State.doRingwr_one {a b : Word} (hn : frameRing f = n) (hflags : f.flags.toNat < 16) (hbody : f.body = [a, b])
    (hlen : itemLength (a ++ b) = 1) (hon : s.ringOn n = true) (hprod : s.ringProd n = 0x40) :
    s.doRingwr f = if s.ringRoom n < 1 then ⟨4, [], s⟩ else .ok (s.hostPut n (frameMeter f) [a ++ b]) [] := by
  have hring : (⟨(f.flags.extractLsb' 0 4).toFin.val, by omega⟩ : RingNo) = n :=
    Fin.ext ((frameMeter_val f).trans (congrArg Fin.val hn))
  have hcut : cutItems 1 [a ++ b] = some [[a ++ b]] := by simp [cutItems, hlen]
  have hzero : f.flags.extractLsb' 4 4 = 0 := BitVec.eq_of_toNat_eq (by
    rw [BitVec.extractLsb'_toNat, Nat.shiftRight_eq_div_pow, Nat.div_eq_of_lt hflags]
    rfl)
  have hgood : ¬ (f.flags.extractLsb' 4 4 ≠ 0 ∨ !s.ringOn n ∨ s.ringProd n ≠ 0x40 ∨ s.ringCap n < 1) := by
    rintro (h | h | h | h)
    · exact h hzero
    · simp [hon] at h
    · exact h hprod
    · exact Nat.not_lt.mpr (s.ringCap_pos _) h
  simp only [State.doRingwr, hbody, frameRingWords, Option.map_some, List.length_singleton, hcut, hring]
  exact if_neg hgood

/-- An item that its meter lets pass is written whole. -/
theorem State.hostPut_green {i : Fin 16} (h : bit (s.reg (SC_IMCTL i)) 31 = false) (d : DWord) :
    s.hostPut n i [d] = s.ringPut n .host (hostWord d) := by
  have hgreen : s.imVerdict i 1 = (0, s) := if_pos (.inr (by rw [h, Bool.not_false]))
  rw [State.hostPut, List.length_singleton, hgreen, hostItem_one]
  exact if_pos (.inl rfl)

theorem ringwr_busy (h : s.hears f) (hturn : s.inTurn f) {a b : Word} (hcrc : frameCrcOk 3 f = true) (hn : frameRing f = n)
    (hflags : f.flags.toNat < 16) (hbody : f.body = [a, b]) (hlen : itemLength (a ++ b) = 1) (hon : s.ringOn n = true)
    (hprod : s.ringProd n = 0x40) (hroom : s.ringRoom n = 0) (hwf : s.regsWf) :
    ∃ t : State, exec (.ringwr f) s = .next t ∧ s.answers t 3 f 4 [] ∧ t.rings = s.rings ∧
      t.fld HS_CNT1 0 16 = min (s.fld HS_CNT1 0 16 + 1) 65535 := by
  have hdo : s.inFrame.doRingwr f = ⟨4, [], s.inFrame⟩ :=
    (State.doRingwr_one (s := s.inFrame) hn hflags hbody hlen hon hprod).trans (if_pos (Nat.lt_one_iff.mpr hroom))
  obtain ⟨hend, hans⟩ := State.hostFrame_busy h hturn hcrc (by simp) hdo (.refl _)
  refine ⟨_, rfl, hans, ?_⟩
  rw [hend]
  exact ⟨rfl, State.fld_countFld_same (s := s.inFrame) hwf HS_CNT1 (by omega) 1⟩

theorem ringwr_writes (h : s.hears f) (hturn : s.inTurn f) {a b : Word} (hcrc : frameCrcOk 3 f = true)
    (hn : frameRing f = n) (hflags : f.flags.toNat < 16) (hbody : f.body = [a, b]) (hlen : itemLength (a ++ b) = 1)
    (hon : s.ringOn n = true) (hprod : s.ringProd n = 0x40) (hroom : s.ringRoom n ≠ 0)
    (hmeter : (s.reg (SC_IMCTL n)).getLsbD 31 = false) (hopen : (s.ring n).open_ = none) :
    ∃ (t : State) (w : RWord), exec (.ringwr f) s = .next t ∧ s.answers t 3 f 0 [] ∧
      (t.ring n).words = (s.ring n).words ++ [w] ∧ w.v = true ∧ w.s = true ∧ w.e = true ∧ w.p = false ∧
      w.data = ((a ++ b) &&& 0xFFFFFF00FFFFFFFF) ||| 0x0000004000000000 ∧ ∀ m, m ≠ n → t.ring m = s.ring m := by
  have hgreen : bit (s.inFrame.reg (SC_IMCTL (frameMeter f))) 31 = false := by
    rw [frameMeter_val f, hn]
    exact hmeter
  have hdo : s.inFrame.doRingwr f = .ok (s.inFrame.ringPut n .host (hostWord (a ++ b))) [] := by
    rw [State.doRingwr_one (s := s.inFrame) hn hflags hbody hlen hon hprod, State.hostPut_green hgreen]
    exact if_neg (mt Nat.lt_one_iff.mp hroom)
  have hfree : s.inFrame.openByOther n .host = false := by
    rw [State.openByOther, show (s.inFrame.ring n).open_ = none from hopen]
  have hstored := State.ringPut_stored (s := s.inFrame) (n := n) (p := .host) (w := hostWord (a ++ b)) hfree
  have hhsp : (s.inFrame.ringPut n .host (hostWord (a ++ b))).hsp = s.inFrame.hsp :=
    (congrArg State.hsp (State.ringPut_written (w := hostWord (a ++ b)) rfl s.inFrame n .host).only :)
  obtain ⟨hend, hans⟩ := State.hostFrame_ok h hturn hcrc (by simp) hdo (.of_eq hhsp)
  refine ⟨_, { hostWord (a ++ b) with v := true, tick := s.ticks }, rfl, hans, ?_, rfl, rfl, rfl, rfl, rfl, ?_⟩
  · rw [hend]
    exact hstored.words
  · rw [hend]
    exact hstored.others

theorem ringrd_takes (h : s.hears f) (hturn : s.inTurn f) (w : Word) (hcrc : frameCrcOk 4 f = true) (hflags : f.flags = 0)
    (hbody : f.body = [w]) (hpos : 1 ≤ w.toNat) (hlt : w.toNat < 4096) :
    ∃ t : State, exec (.ringrd f) s = .next t ∧
      s.answers t 4 f 0 (ringBlocks 240 (s.hsp.txq.take (min 1920 w.toNat))) ∧
      t.hsp.txq = s.hsp.txq.drop (min 1920 w.toNat) ∧ t = { s with hsp := t.hsp } := by
  have hcount : bits w 0 12 = w.toNat := (bits_low w 12).trans (Nat.mod_eq_of_lt hlt)
  have hdo : s.inFrame.doRingrd f = .ok { s.inFrame with hsp.txq := s.hsp.txq.drop (min 1920 w.toNat) }
      (ringBlocks 240 (s.hsp.txq.take (min 1920 w.toNat))) := by
    rw [State.doRingrd, hbody]
    dsimp only
    rw [hcount]
    exact if_neg (not_or.mpr ⟨not_not.mpr hflags, by omega⟩)
  obtain ⟨hend, hans⟩ := State.hostFrame_ok h hturn hcrc (by simp) hdo ⟨rfl, rfl, rfl, rfl, rfl⟩
  refine ⟨_, rfl, hans, ?_⟩
  rw [hend]
  exact ⟨rfl, rfl⟩

/-! ### STOP (R219) -/

/-- The threads of a mask halted. -/
theorem State.foldl_haltMasked (src : BitVec 3) (mask : Word) : ∀ (l : List Tid) (s : State), l.Nodup →
    let t := l.foldl (fun s t => if mask.getLsbD t.val then s.haltTh t src else s) s
    t = { s with threads := t.threads } ∧
      ∀ u, t.th u = if u ∈ l ∧ mask.getLsbD u.val then (s.th u).halt src else s.th u
  | [], s, _ => ⟨rfl, fun u => by simp⟩
  | k :: l, s, hl => by
    obtain ⟨hk, hl⟩ := List.nodup_cons.mp hl
    obtain ⟨honly, hth⟩ := State.foldl_haltMasked src mask l (if mask.getLsbD k.val then s.haltTh k src else s) hl
    dsimp only
    rw [List.foldl_cons]
    refine ⟨honly.trans ?_, fun u => ?_⟩
    · split
      · rfl
      · rfl
    · rw [hth u]
      by_cases hu : u = k
      · subst hu
        rw [if_neg (fun h => hk h.1)]
        by_cases hm : mask.getLsbD u.val
        · rw [if_pos hm, if_pos ⟨List.mem_cons_self, hm⟩, State.haltTh, State.th_modTh_same]
        · rw [if_neg hm, if_neg fun h => hm h.2]
      · have hkeep : (if mask.getLsbD k.val then s.haltTh k src else s).th u = s.th u := by
          split
          · exact State.th_modTh_other s _ hu
          · rfl
        rw [hkeep]
        simp [hu]

/-- A STOP without MUTE and HOLD halts threads alone. -/
theorem State.stopAll_halts (s : State) (src : BitVec 3) (mask : Word) :
    s.stopAll src mask false false = { s with threads := (s.stopAll src mask false false).threads } ∧
      ∀ u, (s.stopAll src mask false false).th u = if mask.getLsbD u.val then (s.th u).halt src else s.th u := by
  obtain ⟨honly, hth⟩ := State.foldl_haltMasked src mask (List.finRange 32) s (List.nodup_finRange 32)
  refine ⟨honly, fun u => (hth u).trans ?_⟩
  simp

theorem stop_halts (h : s.hears f) (hturn : s.inTurn f) (mask w : Word) (hcrc : frameCrcOk 5 f = true) (hflags : f.flags = 0)
    (hbody : f.body = [mask, w]) (hw : w.toNat % 4 = 0) (hwf : s.regsWf) :
    ∃ t : State, exec (.stop f) s = .next t ∧ s.answers t 5 f 0 [] ∧
      t = { s with regs := t.regs, threads := t.threads, hsp := t.hsp } ∧
      (∀ u : Tid, t.th u = if mask.getLsbD u.val then (s.th u).halt 3 else s.th u) ∧
      t.fld HS_CNT2 16 16 = min (s.fld HS_CNT2 16 16 + 1) 65535 := by
  have hmute : bit w 0 = false := by
    rw [bit, getLsbD_eq_div, decide_eq_false_iff_not]
    omega
  have hhold : bit w 1 = false := by
    rw [bit, getLsbD_eq_div, decide_eq_false_iff_not]
    omega
  have hdo : s.inFrame.doStop f = .ok ((s.inFrame.countFld HS_CNT2 16 16 1).stopAll 3 mask false false) [] := by
    rw [State.doStop, hbody]
    dsimp only
    rw [hmute, hhold]
    exact if_neg (not_not.mpr hflags)
  obtain ⟨honly, hth⟩ := (s.inFrame.countFld HS_CNT2 16 16 1).stopAll_halts 3 mask
  have hhsp : ((s.inFrame.countFld HS_CNT2 16 16 1).stopAll 3 mask false false).hsp = s.inFrame.hsp :=
    (congrArg State.hsp honly :)
  obtain ⟨hend, hans⟩ := State.hostFrame_ok h hturn hcrc (by simp) hdo (.of_eq hhsp)
  refine ⟨_, rfl, hans, ?_⟩
  rw [hend]
  generalize (s.inFrame.countFld HS_CNT2 16 16 1).stopAll 3 mask false false = x at honly hth
  refine ⟨?_, hth, ?_⟩
  · rw [honly]
    rfl
  · rw [honly]
    exact State.fld_countFld_same (s := s.inFrame) hwf HS_CNT2 (by omega) 1

/-! ### ENCLAVE and its fetch (R216, R308) -/

theorem State.foldl_setReg_only : ∀ (l : List (Word × Nat)) (s : State),
    l.foldl (fun s x => s.setReg (SF_REQ x.2) x.1) s = { s with regs := (l.foldl (fun s x => s.setReg (SF_REQ x.2) x.1) s).regs }
  | [], _ => rfl
  | x :: l, s => by
    rw [List.foldl_cons]
    exact State.foldl_setReg_only l (s.setReg (SF_REQ x.2) x.1)

/-- A request stands in registers alone. -/
theorem State.putRequest_only (s : State) (ws : List Word) : s.putRequest ws = { s with regs := (s.putRequest ws).regs } :=
  State.foldl_setReg_only ws.zipIdx s

theorem enclave_submits (h : s.hears f) (hturn : s.inTurn f) (hcrc : frameCrcOk 6 f = true) (hflags : f.flags = 0)
    (hbody : f.body ≠ []) (hlen : f.body.length ≤ 1024) (hfree : s.saffron.held = false) :
    ∃ t : State, exec (.enclave f) s = .next t ∧ s.answers t 6 f 0 [] ∧
      t = { s with regs := t.regs, saffron := t.saffron, hsp := t.hsp } ∧ t.saffron.held = true ∧ t.saffron.owner = .host ∧
      t.saffron.busy = true ∧ t.saffron.ready = false ∧ t.saffron.request = f.body := by
  have hdo : s.inFrame.doEnclave f = .ok ((s.inFrame.putRequest f.body).sfSubmit .host f.body) [] := by
    rw [State.doEnclave, if_neg (not_or.mpr ⟨not_not.mpr hflags, Nat.not_lt.mpr hlen⟩),
      if_neg (mt List.isEmpty_iff.mp hbody), if_neg (by rw [show s.inFrame.saffron.held = false from hfree]; decide)]
  have honly := s.inFrame.putRequest_only f.body
  have hhsp : ((s.inFrame.putRequest f.body).sfSubmit .host f.body).hsp = s.inFrame.hsp := (congrArg State.hsp honly :)
  obtain ⟨hend, hans⟩ := State.hostFrame_ok h hturn hcrc (by simp) hdo (.of_eq hhsp)
  refine ⟨_, rfl, hans, ?_⟩
  rw [hend]
  generalize s.inFrame.putRequest f.body = x at honly
  refine ⟨?_, rfl, rfl, rfl, rfl, rfl⟩
  rw [honly]
  rfl

theorem enclave_collides (h : s.hears f) (hturn : s.inTurn f) (hcrc : frameCrcOk 6 f = true) (hflags : f.flags = 0)
    (hbody : f.body ≠ []) (hlen : f.body.length ≤ 1024) (hheld : s.saffron.held = true) :
    ∃ t : State, exec (.enclave f) s = .next t ∧ s.answers t 6 f 4 [] ∧ t = { s with regs := t.regs, hsp := t.hsp } ∧
      (s.regsWf → (t.reg SF_FLAGS).getLsbD 0 = true) := by
  have hdo : s.inFrame.doEnclave f = ⟨4, [], s.inFrame.setFlag SF_FLAGS 0⟩ := by
    rw [State.doEnclave, if_neg (not_or.mpr ⟨not_not.mpr hflags, Nat.not_lt.mpr hlen⟩),
      if_neg (mt List.isEmpty_iff.mp hbody), if_pos (show s.inFrame.saffron.held = true from hheld)]
  obtain ⟨hend, hans⟩ := State.hostFrame_busy h hturn hcrc (by simp) hdo (.refl _)
  refine ⟨_, rfl, hans, ?_⟩
  rw [hend]
  refine ⟨rfl, fun hwf => ?_⟩
  have hkeep : ((s.inFrame.setFlag SF_FLAGS 0).countFld HS_CNT1 0 16 1).reg SF_FLAGS =
      (s.inFrame.setFlag SF_FLAGS 0).reg SF_FLAGS :=
    State.reg_countFld_other _ (by decide)
  exact (congrArg (·.getLsbD 0) hkeep).trans (State.setFlag_bit (s := s.inFrame) hwf SF_FLAGS (by omega))

theorem enclaveFetch_answers (h : s.hears f) (hturn : s.inTurn f) (hcrc : frameCrcOk 6 f = true) (hflags : f.flags = 0)
    (hbody : f.body = []) (hready : s.saffron.ready = true) (howner : s.saffron.owner = .host) :
    ∃ t : State, exec (.enclaveFetch f) s = .next t ∧ s.answers t 6 f 0 s.saffron.answer ∧
      t = { s with saffron := t.saffron, hsp := t.hsp } ∧ t.saffron.held = false ∧ t.saffron.ready = false := by
  have heready : s.inFrame.eready = true := by
    show (s.saffron.ready && !s.sfThreadOwned) = true
    rw [State.sfThreadOwned, hready, howner]
    rfl
  have hdo : s.inFrame.doEnclave f = .ok s.inFrame.sfFree s.saffron.answer := by
    rw [State.doEnclave, if_neg (by simp [hflags, hbody]), hbody, if_pos List.isEmpty_nil, if_pos heready]
    rfl
  obtain ⟨hend, hans⟩ := State.hostFrame_ok h hturn hcrc (by simp) hdo (.refl _)
  have hexec : exec (.enclaveFetch f) s = .next (s.hostFrame 6 f) :=
    congrArg (fun b => Host.Outcome.next (s.hostFrame 6 { f with body := b })) hbody.symm
  refine ⟨_, hexec, hans, ?_⟩
  rw [hend]
  exact ⟨rfl, rfl, rfl⟩

/-! ### LOAD and LOAD_REPAIR (R213, R323) -/

theorem load_writes (h : s.hears f) (hturn : s.inTurn f) (o : Word) (ws : List Word) (hcrc : frameCrcOk 7 f = true)
    (hflags : f.flags.toNat < 2) (hbody : f.body = o :: ws) (halign : o.toNat % 32 = 0) (hlines : ws.length % 8 = 0)
    (hlen : ws.length ≤ 4088) (hend : o.toNat + 4 * ws.length ≤ 0x40000) (hloading : s.hsp.loading = true) :
    ∃ t : State, exec (.load f) s = .next t ∧ s.answers t 7 f 0 [] ∧ t = { s with pstore := t.pstore, hsp := t.hsp } ∧
      t.pstore = Memory.setWords s.pstore o.toNat ws ∧ t.hsp.loading = !f.flags.getLsbD 0 := by
  have hlast : f.flags = 0 ∨ f.flags = 1 := by bv_omega
  have hmask : f.flags &&& 0xFC = 0 := by rcases hlast with e | e <;> rw [e] <;> rfl
  have hrepair : f.flags.getLsbD 1 = false := by rcases hlast with e | e <;> rw [e] <;> rfl
  have hkind : f.flags &&& 0xFD = f.flags := by rcases hlast with e | e <;> rw [e] <;> rfl
  have hdo : s.inFrame.doLoad f = .ok { s.inFrame with
      pstore := Memory.setWords s.pstore o.toNat ws, hsp.loading := !f.flags.getLsbD 0 } [] := by
    have hwords : ¬ (f.flags &&& 0xFC ≠ 0 ∨ bits o 0 5 ≠ 0 ∨ ws.length % 8 ≠ 0 ∨ 4088 < ws.length) := by
      rw [bits_low]
      rintro (hbad | hbad | hbad | hbad)
      · exact hbad hmask
      · omega
      · omega
      · omega
    have hroom : ¬ (!s.inFrame.hsp.loading ∨ 0x40000 < o.toNat + 4 * ws.length) := by
      rw [show s.inFrame.hsp.loading = true from hloading]
      simpa using hend
    rw [State.doLoad, hbody]
    dsimp only
    rw [if_neg hwords, hrepair, if_neg Bool.false_ne_true, if_neg hroom]
    rfl
  obtain ⟨hframe, hans⟩ := State.hostFrame_ok h hturn hcrc (by simp) hdo ⟨rfl, rfl, rfl, rfl, rfl⟩
  have hexec : exec (.load f) s = .next (s.hostFrame 7 f) :=
    congrArg (fun g => Host.Outcome.next (s.hostFrame 7 g)) (hostFrame_withFlags_self hkind)
  refine ⟨_, hexec, hans, ?_⟩
  rw [hframe]
  exact ⟨rfl, rfl, rfl⟩

/-- A thread in Refetch for line `l` goes back to Run. -/
def Thread.repaired (l : Nat) (x : Thread) : Thread :=
  if x.st = .refetch ∧ x.refLine = some l then { x with st := .run, refLine := none } else x

theorem State.wakeRefetch_spec (s : State) (l : Nat) : s.wakeRefetch l = { s with threads := (s.wakeRefetch l).threads } ∧
    ∀ u, (s.wakeRefetch l).th u = (s.th u).repaired l := by
  have heq : s.wakeRefetch l = (List.finRange 32).foldl (fun s t => s.modTh t (Thread.repaired l)) s := rfl
  refine ⟨?_, fun u => ?_⟩
  · rw [heq]
    exact State.foldl_modTh_only _ _ _
  · rw [heq, State.foldl_modTh_th _ _ _ _ (List.nodup_finRange 32), if_pos (List.mem_finRange u)]

/-- Line `l` rewritten, no longer bad and no longer asked for; its threads have not gone on yet. -/
def State.lineStored (s : State) (l : Nat) (ws : List Word) : State :=
  { s with
    pstore := Memory.setWords s.pstore (32 * l) (ws.take 8), image.bad := s.image.bad.filter (· != l)
    hsp.refetch := s.hsp.refetch.filter (· != l) }

theorem State.lineGood_eq (s : State) (l : Nat) (ws : List Word) : s.lineGood l ws = (s.lineStored l ws).wakeRefetch l := rfl

theorem loadRepair_rewrites (h : s.hears f) (hturn : s.inTurn f) (o : Word) (ws : List Word) (l : Nat) (ls : List Nat)
    (hcrc : frameCrcOk 7 f = true) (hflags : f.flags = 2) (hbody : f.body = o :: ws) (hline : o.toNat = 32 * l)
    (hlen : ws.length = 8) (hwaits : s.hsp.refetch = l :: ls) :
    ∃ t : State, exec (.loadRepair f) s = .next t ∧ s.answers t 7 f 0 [] ∧ t.pstore = Memory.setWords s.pstore o.toNat ws ∧
      l ∉ t.hsp.refetch ∧ l ∉ t.image.bad ∧
      ∀ u, t.th u = if (s.th u).st = .refetch ∧ (s.th u).refLine = some l
        then { s.th u with st := .run, refLine := none } else s.th u := by
  have hdo : s.inFrame.doLoad f = .ok (s.inFrame.lineGood l ws) [] := by
    have hwords : ¬ (f.flags &&& 0xFC ≠ 0 ∨ bits o 0 5 ≠ 0 ∨ ws.length % 8 ≠ 0 ∨ 4088 < ws.length) := by
      rw [bits_low]
      rintro (hbad | hbad | hbad | hbad)
      · exact hbad (by rw [hflags]; rfl)
      · omega
      · omega
      · omega
    have hrepair : f.flags.getLsbD 1 = true := by rw [hflags]; rfl
    rw [State.doLoad, hbody]
    dsimp only
    rw [if_neg hwords, if_pos hrepair, show s.inFrame.hsp.refetch = l :: ls from hwaits]
    exact if_pos ⟨hlen, hline⟩
  obtain ⟨honly, hth⟩ := (s.inFrame.lineStored l ws).wakeRefetch_spec l
  rw [State.lineGood_eq] at hdo
  generalize (s.inFrame.lineStored l ws).wakeRefetch l = x at hdo honly hth
  have hhsp : x.hsp = { s.inFrame.hsp with refetch := s.hsp.refetch.filter (· != l) } := (congrArg State.hsp honly :)
  have hpstore : x.pstore = Memory.setWords s.pstore (32 * l) (ws.take 8) := (congrArg State.pstore honly :)
  have hbad : x.image = { s.image with bad := s.image.bad.filter (· != l) } := (congrArg State.image honly :)
  have hgone (xs : List Nat) : l ∉ xs.filter (· != l) := by simp
  obtain ⟨hend, hans⟩ := State.hostFrame_ok h hturn hcrc (by simp) hdo (by rw [hhsp]; exact ⟨rfl, rfl, rfl, rfl, rfl⟩)
  have hexec : exec (.loadRepair f) s = .next (s.hostFrame 7 f) :=
    congrArg (fun g => Host.Outcome.next (s.hostFrame 7 g)) (hostFrame_withFlags_self (by rw [hflags]; rfl))
  refine ⟨_, hexec, hans, ?_⟩
  rw [hend, hhsp, hline]
  refine ⟨?_, hgone _, ?_, hth⟩
  · rw [List.take_of_length_le (Nat.le_of_eq hlen)] at hpstore
    exact hpstore
  · dsimp only
    rw [hbad]
    exact hgone _

/-! ### RESEND (R215) -/

theorem resend_repeats (h : s.hears f) (w : Word) (a : Answer) (hcrc : frameCrcOk 1 f = true)
    (hflags : f.flags = 0x80) (hbody : f.body = [w])
    (hkept : s.hsp.kept.find? (fun x => x.alive == w.extractLsb' 0 8) = some a) :
    ∃ t : State, exec (.resend f) s = .next t ∧ t = { s with hsp := t.hsp } ∧ t.hsp.answer = some a ∧
      t.hsp.kept = s.hsp.kept := by
  have hdo : s.inFrame.doResend f = { s.inFrame with hsp.answer := some a, hsp.badRun := 0 }.newExpect f.alive true := by
    have hnamed : s.inFrame.hsp.kept.find? (fun x => x.alive == w.extractLsb' 0 8) = some a := hkept
    rw [State.doResend, hbody]
    dsimp only
    rw [if_pos hflags, hnamed]
  have hexec : exec (.resend f) s = .next (s.hostFrame 1 f) :=
    congrArg (fun g => Host.Outcome.next (s.hostFrame 1 g)) (hostFrame_withFlags_self (by rw [hflags]; rfl))
  have htaken := (State.takeFrame_good h hcrc).trans (if_pos ⟨rfl, by rw [hflags]; rfl⟩)
  refine ⟨_, hexec, ?_⟩
  rw [State.hostFrame_heard h, htaken, hdo, State.newExpect_eq]
  dsimp only
  split
  · exact ⟨rfl, rfl, rfl⟩
  · exact ⟨rfl, rfl, rfl⟩

end Sys2Proof.Machine

open Sys2Proof Sys2Proof.Machine

/-- Settles O39: a good frame in its turn is executed in `State.inFrame` and answered; each type by what it executes. -/
theorem goodFramesAreExecutedAndAnswered : Obligations.GoodFramesAreExecutedAndAnswered := by
  intro s f h hturn
  refine ⟨regrd_answers h hturn, regwr_writes h hturn, fun a b hcrc hflags hbody hlen hon hprod => ⟨fun hroom _ hwf => ?_,
    fun hroom hmeter hopen => ?_⟩, ringrd_takes h hturn, stop_halts h hturn, fun hcrc hflags hbody hlen => ⟨?_, ?_⟩,
    enclaveFetch_answers h hturn, load_writes h hturn, loadRepair_rewrites h hturn, resend_repeats h⟩
  · exact ringwr_busy h hturn hcrc rfl hflags hbody hlen hon hprod hroom hwf
  · exact ringwr_writes h hturn hcrc rfl hflags hbody hlen hon hprod hroom hmeter hopen
  · exact enclave_submits h hturn hcrc hflags hbody hlen
  · exact enclave_collides h hturn hcrc hflags hbody hlen

end

section
/-! PROOF. What the mains link changes beside its own state: reports of class MLINE (R320, R326), the items it writes
(R244, R246), and the frame of all its commands. -/

open Sys2Proof Sys2Proof.Machine

namespace Sys2Proof.Machine

variable {s t u : State}

theorem State.onlyEvents_trans (h : s.onlyEvents t) (h' : t.onlyEvents u) : s.onlyEvents u := fun k => by
  have h1 := h' k
  rw [h k] at h1
  exact h1

@[simp] theorem State.modMl_ml (s : State) (f : Mlink → Mlink) : (s.modMl f).ml = f s.ml := rfl

theorem State.only_modMl (h : t = { s with ml := t.ml }) (f : Mlink → Mlink) : t.modMl f = { s with ml := (t.modMl f).ml } :=
  (congrArg (fun v : State => v.modMl f) h :)

theorem usTicks_eq (n : Nat) : usTicks n = ticksOf n := by
  rw [usTicks, ticksOf, Nat.mul_comm]

/-! ### Reports of class MLINE (R320, R326) -/

/-- `t` is `s` but for the mains link's own state, ML_FLAGS, and notices of faults. -/
structure State.Reports (s t : State) : Prop where
  only : t = { s with regs := t.regs, threads := t.threads, ml := t.ml, faults := t.faults }
  regs : ∀ a, a < 0x110000 → a ≠ ML_FLAGS → t.reg a = s.reg a
  events : s.onlyEvents t
  wf : s.regsWf → t.regsWf

namespace State.Reports

theorem refl (s : State) : s.Reports s := ⟨rfl, fun _ _ _ => rfl, fun _ => rfl, id⟩

theorem trans (h : s.Reports t) (h' : t.Reports u) : s.Reports u :=
  ⟨h'.only.trans (congrArg (fun v : State => { v with regs := u.regs, threads := u.threads, ml := u.ml, faults := u.faults })
      h.only),
    fun a ha hne => (h'.regs a ha hne).trans (h.regs a ha hne), State.onlyEvents_trans h.events h'.events, fun w => h'.wf (h.wf w)⟩

theorem ite {c : Prop} [Decidable c] (ht : s.Reports t) (hu : s.Reports u) : s.Reports (if c then t else u) := by
  split
  · exact ht
  · exact hu

theorem modMl (h : s.Reports t) (f : Mlink → Mlink) : s.Reports (t.modMl f) :=
  h.trans ⟨rfl, fun _ _ _ => rfl, fun _ => rfl, id⟩

theorem mline (h : s.Reports t) (detail : Nat) : s.Reports (t.mline detail) := by
  have hn := t.fault_noticed 14 0 detail
  exact h.trans ⟨hn.only.trans (by rw [State.mline, State.fault_ml]), fun a ha _ => hn.regs a ha, hn.events,
    fun w => State.regsWf_fault w _ _ _⟩

theorem flag (h : s.Reports t) (i : Nat) : s.Reports (t.setFlag ML_FLAGS i) :=
  h.trans ⟨rfl, fun _ _ hne => State.reg_setFlag_other t hne, fun _ => rfl, fun w => State.regsWf_setFlag w _ _⟩

theorem fld (h : s.Reports t) {a : Nat} (ha : a < 0x110000) (hne : a ≠ ML_FLAGS) (lo n : Nat) : t.fld a lo n = s.fld a lo n :=
  State.fld_congr (h.regs a ha hne) lo n

theorem ticks (h : s.Reports t) : t.ticks = s.ticks := by rw [h.only]

theorem rings (h : s.Reports t) : t.rings = s.rings := by rw [h.only]

theorem signOf (h : s.Reports t) (id : BitVec 7) (negated : Bool) : s.Reports (t.signOf id negated) := by
  unfold State.signOf
  extract_lets t1 _ _ _ t2
  have h2 : s.Reports t2 := (h.modMl _).modMl _
  exact .ite ((h2.flag 2).mline 3) h2

theorem heard (s : State) (f : MlFrame) : s.Reports (s.heard f) := by
  unfold State.heard
  extract_lets src s1 _
  have h1 : s.Reports s1 := .ite (refl s) (.ite (((refl s).signOf _ _).modMl _) ((refl s).signOf _ _))
  exact h1.modMl _

theorem seenBy (h : s.Reports t) (id : BitVec 7) (negated : Bool) : s.Reports (t.seenBy id negated) := by
  unfold State.seenBy
  extract_lets t1 _ _ t2
  have h2 : s.Reports t2 := (h.modMl _).modMl _
  exact .ite ((h2.flag 3).mline 4) h2

theorem zcReport (h : s.Reports t) (was : Bool) : s.Reports (t.zcReport was) := .ite ((h.flag 1).mline 1) h

end State.Reports

/-- A fault of class MLINE sets its sticky bit, and leaves ML_FLAGS alone. -/
theorem State.mline_bit (h : s.regsWf) (detail : Nat) : ((s.mline detail).reg FLT_STATUS).getLsbD 14 = true :=
  State.fault_bit h (by omega) _ _

theorem State.reg_mline {a : Nat} (ha : a < 0x110000) (detail : Nat) : (s.mline detail).reg a = s.reg a :=
  State.fault_reg_below ha _ _ _

@[simp] theorem State.mline_ml (s : State) (detail : Nat) : (s.mline detail).ml = s.ml := State.fault_ml _ _ _ _

@[simp] theorem State.mline_ticks (s : State) (detail : Nat) : (s.mline detail).ticks = s.ticks := State.fault_ticks _ _ _ _

/-- A condition flagged in ML_FLAGS and reported (R326). -/
theorem State.flag_mline_bits (h : s.regsWf) {i : Nat} (hi : i < 32) (detail : Nat) :
    (((s.setFlag ML_FLAGS i).mline detail).reg ML_FLAGS).getLsbD i = true ∧
    (((s.setFlag ML_FLAGS i).mline detail).reg FLT_STATUS).getLsbD 14 = true := by
  refine ⟨?_, State.mline_bit (State.regsWf_setFlag h _ _) _⟩
  rw [State.reg_mline (by decide)]
  exact State.setFlag_bit h _ hi

/-! ### Items written to a ring (R186, R244, R246) -/

/-- `t` is `s` but for the rings, their registers, and the threads that a watermark's event reaches. -/
structure State.ItemsPut (s t : State) : Prop where
  only : t = { s with regs := t.regs, threads := t.threads, rings := t.rings }
  regs : ∀ a, ML_CFG ≤ a → t.reg a = s.reg a
  events : s.onlyEvents t

namespace State.ItemsPut

theorem refl (s : State) : s.ItemsPut s := ⟨rfl, fun _ _ => rfl, fun _ => rfl⟩

theorem trans (h : s.ItemsPut t) (h' : t.ItemsPut u) : s.ItemsPut u :=
  ⟨h'.only.trans (congrArg (fun v : State => { v with regs := u.regs, threads := u.threads, rings := u.rings }) h.only),
    fun a ha => (h'.regs a ha).trans (h.regs a ha), State.onlyEvents_trans h.events h'.events⟩

theorem ite {c : Prop} [Decidable c] (ht : s.ItemsPut t) (hu : s.ItemsPut u) : s.ItemsPut (if c then t else u) := by
  split
  · exact ht
  · exact hu

theorem ml (h : s.ItemsPut t) : t.ml = s.ml := by rw [h.only]

theorem modRing (h : s.ItemsPut t) (n : RingNo) (f : Ring → Ring) : s.ItemsPut (t.modRing n f) :=
  h.trans ⟨rfl, fun _ _ => rfl, fun _ => rfl⟩

theorem setReg (h : s.ItemsPut t) {a : Nat} (ha : a < ML_CFG) (w : Word) : s.ItemsPut (t.setReg a w) :=
  h.trans ⟨rfl, fun _ hc => State.reg_setReg_other w (by omega), fun _ => rfl⟩

theorem raiseRouted (h : s.ItemsPut t) (w : Word) : s.ItemsPut (t.raiseRouted w) := by
  have honly := t.raiseRouted_only w
  exact h.trans ⟨honly.trans (by rw [State.raiseRouted_regs, State.raiseRouted_rings]), fun a _ => State.raiseRouted_reg_acc t w a,
    t.onlyEvents_raiseRouted w⟩

theorem dropWords (h : s.ItemsPut t) (n : RingNo) (k : Nat) : s.ItemsPut (t.dropWords n k) :=
  h.setReg (by have := n.isLt; unfold ML_CFG RG_DROP; omega) _

theorem malform (h : s.ItemsPut t) (n : RingNo) : s.ItemsPut (t.malform n) :=
  h.setReg (by have := n.isLt; unfold ML_CFG RG_FLAGS; omega) _

theorem watermark (h : s.ItemsPut t) (n : RingNo) (old new : Nat) : s.ItemsPut (t.watermark n old new) := by
  have := n.isLt
  unfold State.watermark
  refine .ite (.raiseRouted (.setReg (h.setReg ?_ _) ?_ _) _) h
  · unfold ML_CFG RG_FLAGS; omega
  · unfold ML_CFG RG_CNT; omega

theorem appendWord (h : s.ItemsPut t) (n : RingNo) (w : RWord) : s.ItemsPut (t.appendWord n w) :=
  (h.modRing n _).watermark n _ _

theorem putFirst (h : s.ItemsPut t) (n : RingNo) (p : Producer) (w : RWord) : s.ItemsPut (t.putFirst n p w) := by
  unfold State.putFirst
  extract_lets s1 s2 _ s3 s4
  have h1 : s.ItemsPut s1 := .ite (h.malform n) h
  have h2 : s.ItemsPut s2 := h1.modRing n _
  have h3 : s.ItemsPut s3 := .ite (h2.modRing n _) (h2.modRing n _)
  have h4 : s.ItemsPut s4 := .ite (h3.malform n) h3
  exact h4.appendWord n w

theorem putNext (h : s.ItemsPut t) (n : RingNo) (p : Producer) (i : OpenItem) (w : RWord) : s.ItemsPut (t.putNext n p i w) := by
  unfold State.putNext
  extract_lets _ s1 s2
  have h1 : s.ItemsPut s1 := .ite (h.modRing n _) (h.modRing n _)
  have h2 : s.ItemsPut s2 := .ite (h1.malform n) h1
  exact h2.appendWord n w

theorem putOrphan (h : s.ItemsPut t) (n : RingNo) (p : Producer) (i : OpenItem) (w : RWord) : s.ItemsPut (t.putOrphan n p i w) :=
  .ite ((h.dropWords n 1).modRing n _) ((h.dropWords n 1).modRing n _)

theorem ringPut (h : s.ItemsPut t) (n : RingNo) (p : Producer) (w : RWord) : s.ItemsPut (t.ringPut n p w) := by
  have hrefused : s.ItemsPut ((t.dropWords n 1).malform n) := (h.dropWords n 1).malform n
  unfold State.ringPut
  refine .ite (h.putFirst n p w) ?_
  split
  · exact h.putOrphan n p _ w
  · split
    · exact .ite (h.putNext n p _ w) hrefused
    · exact hrefused

theorem ringPutAll (h : s.ItemsPut t) (n : RingNo) (p : Producer) (ws : List RWord) : s.ItemsPut (t.ringPutAll n p ws) := by
  induction ws generalizing t with
  | nil => exact h
  | cons w ws ih => exact ih (h.ringPut n p w)

theorem mlItem (h : s.ItemsPut t) (n : RingNo) (ws : List RWord) : s.ItemsPut (t.mlItem n ws) :=
  .ite (h.ringPutAll n _ ws) (h.dropWords n _)

theorem mgmtItem (h : s.ItemsPut t) (type : Nat) (id : BitVec 7) (body : List DWord) : s.ItemsPut (t.mgmtItem type id body) := by
  unfold State.mgmtItem
  split
  · exact h
  · exact h.mlItem _ _

end State.ItemsPut

@[simp] theorem State.mgmtItem_ml (s : State) (type : Nat) (id : BitVec 7) (body : List DWord) :
    (s.mgmtItem type id body).ml = s.ml := ((State.ItemsPut.refl s).mgmtItem _ _ _).ml

@[simp] theorem State.peerItem_ml (s : State) (id : BitVec 7) (up : Bool) (reason : Byte) :
    (s.peerItem id up reason).ml = s.ml := s.mgmtItem_ml _ _ _

/-! ### The frame of the mains link -/

/-- What leaves everything beside the link's own parts alone is framed. -/
theorem State.mlFrame_of {ticks : Nat} {tb : BitVec 64} {regs : List (Nat × Word)} {threads : Vector Thread 32}
    {rings : Vector Ring 32} {ml : Mlink} {faults : Faults} {freeCtr : Nat}
    (h : t = { s with ticks := ticks, tb := tb, regs := regs, threads := threads, rings := rings, ml := ml, faults := faults
                      freeCtr := freeCtr }) (he : s.onlyEvents t) : s.mlFrame t :=
  ⟨by rw [h], he⟩

theorem State.Reports.mlFrame (h : s.Reports t) : s.mlFrame t := State.mlFrame_of h.only h.events

theorem State.ItemsPut.mlFrame (h : s.ItemsPut t) : s.mlFrame t := State.mlFrame_of h.only h.events

namespace State.mlFrame

theorem refl (s : State) : s.mlFrame s := ⟨rfl, fun _ => rfl⟩

theorem trans (h : s.mlFrame t) (h' : t.mlFrame u) : s.mlFrame u :=
  ⟨h'.1.trans (congrArg (fun v : State => { v with
      ticks := u.ticks, tb := u.tb, regs := u.regs, threads := u.threads, rings := u.rings, ml := u.ml, faults := u.faults
      freeCtr := u.freeCtr }) h.1),
    State.onlyEvents_trans h.2 h'.2⟩

theorem ite {c : Prop} [Decidable c] (ht : s.mlFrame t) (hu : s.mlFrame u) : s.mlFrame (if c then t else u) := by
  split
  · exact ht
  · exact hu

theorem foldl {α : Type} {f : State → α → State} (hf : ∀ (v : State) (a : α), v.mlFrame (f v a)) (l : List α)
    (h : s.mlFrame t) : s.mlFrame (l.foldl f t) := by
  induction l generalizing t with
  | nil => exact h
  | cons a l ih => exact ih (h.trans (hf t a))

theorem modMl (h : s.mlFrame t) (f : Mlink → Mlink) : s.mlFrame (t.modMl f) := h.trans ⟨rfl, fun _ => rfl⟩

theorem setReg (h : s.mlFrame t) (a : Nat) (w : Word) : s.mlFrame (t.setReg a w) := h.trans ⟨rfl, fun _ => rfl⟩

theorem advanceTo (h : s.mlFrame t) (n : Nat) : s.mlFrame (t.advanceTo n) :=
  h.trans (State.mlFrame_of (t.advance_only (n - t.ticks)) fun k => by rw [State.advanceTo_th_acc])

theorem advance (h : s.mlFrame t) (n : Nat) : s.mlFrame (t.advance n) :=
  h.trans (State.mlFrame_of (t.advance_only n) fun k => by rw [State.advance_th_acc])

theorem mgmtItem (h : s.mlFrame t) (type : Nat) (id : BitVec 7) (body : List DWord) : s.mlFrame (t.mgmtItem type id body) :=
  h.trans ((State.ItemsPut.refl t).mgmtItem type id body).mlFrame

theorem peerItem (h : s.mlFrame t) (id : BitVec 7) (up : Bool) (reason : Byte) : s.mlFrame (t.peerItem id up reason) :=
  h.mgmtItem _ _ _

end State.mlFrame

/-! ### A frame heard (R232, R235, R239) -/

theorem State.regsWf_heard (h : s.regsWf) (dt : Nat) (f : MlFrame) : ((s.advance dt).heard f).regsWf :=
  (State.Reports.heard (s.advance dt) f).wf (by unfold State.regsWf; rw [State.advance_regs]; exact h)

/-- A frame heard leaves every register but ML_FLAGS and those of the fault record alone. -/
theorem State.reg_heard {a : Nat} (ha : a < 0x110000) (hne : a ≠ ML_FLAGS) (s : State) (dt : Nat) (f : MlFrame) :
    ((s.advance dt).heard f).reg a = s.reg a :=
  ((State.Reports.heard (s.advance dt) f).regs a ha hne).trans (State.advance_reg_acc s dt a)

theorem State.accepts_wf {ftype : BitVec 4} {dt : Nat} {f : MlFrame} (ha : s.accepts ftype dt f t) (h : s.regsWf) : t.regsWf := by
  obtain ⟨-, -, -, rfl⟩ := ha
  exact State.regsWf_heard h dt f

theorem State.accepts_reg {ftype : BitVec 4} {dt : Nat} {f : MlFrame} (ha : s.accepts ftype dt f t) {a : Nat} (hlt : a < 0x110000)
    (hne : a ≠ ML_FLAGS) : t.reg a = s.reg a := by
  obtain ⟨-, -, -, rfl⟩ := ha
  exact State.reg_heard hlt hne s dt f

/-- A frame that is accepted acts in the state in which it was heard. -/
theorem State.rxFrame_accepts {ftype : BitVec 4} {dt : Nat} {f : MlFrame} (ha : s.accepts ftype dt f t) (k : State → State) :
    s.rxFrame ftype dt f k = k t := by
  obtain ⟨hruns, hok, htype, rfl⟩ := ha
  simp [State.rxFrame, hruns, hok, htype]

/-- A frame whose FCCRC fails is ignored whole (R235). -/
theorem State.rxFrame_bad {f : MlFrame} (h : fcOk f.fc = false) (s : State) (ftype : BitVec 4) (dt : Nat) (k : State → State) :
    s.rxFrame ftype dt f k = s.advance dt := by
  simp [State.rxFrame, h]

end Sys2Proof.Machine
end

section
/-! PROOF. Peers and the operations on them: a peer changed, dropped, or asked for sounding, the group key changed. -/

open Sys2Proof Sys2Proof.Machine

namespace Sys2Proof.Machine

variable {s t u : State} {id : BitVec 7} {f : MlPeer → MlPeer} {p q : MlPeer}

/-! ### A peer changed (R245) -/

/-- The peers with one of them, new if need be, changed. -/
def peersWith (id : BitVec 7) (f : MlPeer → MlPeer) (ps : List MlPeer) : List MlPeer :=
  if ps.any (·.id == id) then ps.map fun p => if p.id == id then f p else p else ps ++ [f { id := id }]

theorem State.modPeer_eq (s : State) (id : BitVec 7) (f : MlPeer → MlPeer) :
    s.modPeer id f = s.modMl fun m => { m with peers := peersWith id f m.peers } := by
  unfold State.modPeer State.modMl peersWith
  dsimp only
  split <;> rfl

/-- The peer that was changed, as it is found. -/
theorem State.peer?_modPeer (s : State) (id : BitVec 7) (hf : ∀ p, (f p).id = p.id) :
    (s.modPeer id f).peer? id = some (f ((s.peer? id).getD { id := id })) := by
  rw [State.modPeer_eq]
  show (peersWith id f s.ml.peers).find? (·.id == id) = some (f ((s.ml.peers.find? (·.id == id)).getD { id := id }))
  have hkeep : ((fun p : MlPeer => p.id == id) ∘ fun p => if p.id == id then f p else p) = fun p => p.id == id := by
    funext p
    dsimp only [Function.comp]
    split <;> simp [hf]
  unfold peersWith
  split
  · next hany =>
    obtain ⟨p, hp⟩ : ∃ p, s.ml.peers.find? (·.id == id) = some p := by
      rw [← Option.isSome_iff_exists, List.find?_isSome]
      simpa using hany
    rw [List.find?_map, hkeep, hp, Option.map_some, if_pos (by simpa using List.find?_some hp), Option.getD_some]
  · next hany =>
    have hnone : s.ml.peers.find? (·.id == id) = none := by
      rw [List.find?_eq_none]
      simpa using hany
    rw [List.find?_append, hnone, Option.getD_none, Option.none_or, List.find?_cons_of_pos (by simp [hf])]

theorem State.peer?_modPeer_of (h : s.peer? id = some p) (hf : ∀ p, (f p).id = p.id) : (s.modPeer id f).peer? id = some (f p) := by
  rw [s.peer?_modPeer id hf, h, Option.getD_some]

@[simp] theorem State.peerItem_peer? (s : State) (q : BitVec 7) (up : Bool) (reason : Byte) (id : BitVec 7) :
    (s.peerItem q up reason).peer? id = s.peer? id := by
  rw [State.peer?, State.peerItem_ml, State.peer?]

theorem State.peerUp_of (h : s.peer? id = some p) : s.peerUp id = p.up := by
  rw [State.peerUp, h]

theorem State.peer?_of_peerUp (h : s.peerUp id = true) : ∃ p, s.peer? id = some p ∧ p.up = true := by
  unfold State.peerUp at h
  split at h
  · next p hp => exact ⟨p, hp, h⟩
  · cases h

theorem State.mlFrame.modPeer (h : s.mlFrame t) (id : BitVec 7) (f : MlPeer → MlPeer) : s.mlFrame (t.modPeer id f) := h.modMl _

/-! ### Sounding asked for (R238) -/

/-- Asking for sounding notes the regions asked for in the peer, and queues a message. -/
theorem State.askSounding_eq (s : State) (id : BitVec 7) : s.askSounding id =
    s.modMl fun m => { m with peers := (s.askSounding id).ml.peers, outMsgs := (s.askSounding id).ml.outMsgs } := by
  unfold State.askSounding
  split
  · rfl
  · dsimp only
    split
    · rfl
    · rw [State.modPeer_eq]
      rfl

theorem State.askSounding_peer? (s : State) (id : BitVec 7) :
    ∃ r, (s.askSounding id).peer? id = (s.peer? id).map fun q => { q with asked := r } := by
  unfold State.askSounding
  split
  · next h => exact ⟨0, by rw [h]; rfl⟩
  · next p h =>
    extract_lets want
    split
    · exact ⟨p.asked, by rw [h]; rfl⟩
    · exact ⟨p.asked ||| want,
        (State.peer?_modPeer_of (f := fun p => { p with asked := p.asked ||| want }) h fun _ => rfl).trans (by rw [h]; rfl)⟩

theorem State.askSounding_outMsgs (s : State) (id : BitVec 7) : s.ml.outMsgs ⊆ (s.askSounding id).ml.outMsgs := by
  unfold State.askSounding
  split
  · exact fun _ h => h
  · dsimp only
    split
    · exact fun _ h => h
    · rw [State.modPeer_eq]
      exact List.subset_append_left _ _

theorem State.mlFrame.askSounding (h : s.mlFrame t) (id : BitVec 7) : s.mlFrame (t.askSounding id) := by
  rw [State.askSounding_eq]
  exact h.modMl _

/-! ### Peers dropped (R246) -/

theorem State.mlFrame.dropPeer (h : s.mlFrame t) (id : BitVec 7) : s.mlFrame (t.dropPeer id) := h.modMl _

theorem State.dropPeer_peer? (s : State) (id : BitVec 7) : (s.dropPeer id).peer? id = none := by
  show (s.ml.peers.filter (·.id != id)).find? (·.id == id) = none
  rw [List.find?_eq_none]
  intro p hp
  simpa using (List.mem_filter.mp hp).2

/-- `t` is `s` without some of its peers: their links, attempts and places in the member bitmap are gone. -/
structure State.PeersLeft (s t : State) : Prop where
  only : t = s.modMl fun m =>
    { m with peers := t.ml.peers, tx := t.ml.tx, rx := t.ml.rx, pend := t.ml.pend, members := t.ml.members }
  pend : t.ml.pend ⊆ s.ml.pend

theorem State.foldl_dropPeer (l : List (BitVec 7)) (s : State) : s.PeersLeft (l.foldl (fun s o => s.dropPeer o) s) := by
  induction l generalizing s with
  | nil => exact ⟨rfl, fun _ h => h⟩
  | cons o l ih =>
    obtain ⟨honly, hpend⟩ := ih (s.dropPeer o)
    exact ⟨honly, fun p hp => (List.mem_filter.mp (hpend hp)).1⟩

/-! ### The group key changed (R246) -/

theorem State.foldl_mlQueue {α : Type} (g : State → α → State) (hg : ∀ s a, ∃ ms, g s a = s.modMl fun m => { m with outMsgs := ms })
    (l : List α) (s : State) : ∃ ms, l.foldl g s = s.modMl fun m => { m with outMsgs := ms } := by
  induction l generalizing s with
  | nil => exact ⟨_, rfl⟩
  | cons a l ih =>
    obtain ⟨ms, h⟩ := hg s a
    obtain ⟨ms', h'⟩ := ih (g s a)
    exact ⟨ms', h'.trans (by rw [h]; rfl)⟩

/-- A new group key, the old one kept for 2 cycles, and messages. -/
theorem State.rekey_eq (s : State) : ∃ ms, s.rekey = s.modMl fun m =>
    { m with ephemeral := m.ephemeral + 1, group := some (Config.groupKey m.ephemeral), epoch := m.epoch + 1, oldGroup := m.group
             oldKeys := 2, outMsgs := ms } := by
  unfold State.rekey
  dsimp only
  obtain ⟨ms, h⟩ := State.foldl_mlQueue (fun s (p : MlPeer) => s.mlQueue p.id 0x07 (_ ++ [s.ml.epoch])) (fun _ _ => ⟨_, rfl⟩) _ _
  exact ⟨ms, h⟩

end Sys2Proof.Machine
end

section
/-! PROOF. Association and pairing (R246): attempts that wait, fail, are accepted and confirmed, keys, and peers that leave. -/

open Sys2Proof Sys2Proof.Machine

namespace Sys2Proof.Machine

variable {s s1 t u : State} {p : MlPend} {src id : BitVec 7} {c : List Byte} {dt : Nat} {f : MlFrame}

/-! ### Attempts -/

/-- An attempt that leaves the list is in it no more. -/
theorem State.dropPend_pend (s : State) (p : MlPend) : p ∉ (s.dropPend p).ml.pend := fun h => by
  simpa using (List.mem_filter.mp h).2

theorem State.mlFrame.dropPend (h : s.mlFrame t) (p : MlPend) : s.mlFrame (t.dropPend p) := h.modMl _

theorem State.mlFrame.assocFail (h : s.mlFrame t) : s.mlFrame t.assocFail := (h.setReg _ _).setReg _ _

/-- KEYFAIL is set and ASSOCFAIL counts. -/
theorem State.assocFail_fails (h : s.regsWf) : s.attemptFails s.assocFail := by
  constructor
  · unfold State.assocFail
    rw [State.reg_countFld_other _ (by decide)]
    exact State.setFlag_bit h _ (by omega)
  · unfold State.assocFail
    rw [State.fld_countFld_same (State.regsWf_setFlag h _ _) _ (by omega),
      State.fld_congr (State.reg_setFlag_other s (by decide))]
    rfl

theorem State.attemptFails_congr (h : t.attemptFails u) (hreg : t.reg ML_CNT1 = s.reg ML_CNT1) : s.attemptFails u :=
  ⟨h.1, by rw [h.2, State.fld_congr hreg]⟩

/-- An item written afterwards changes neither the flag nor the counter. -/
theorem State.attemptFails_item (h : s.attemptFails t) (hi : t.ItemsPut u) : s.attemptFails u :=
  ⟨by rw [hi.regs _ (by decide)]; exact h.1, by rw [State.fld_congr (hi.regs _ (by decide))]; exact h.2⟩

/-- A denial: the attempt is gone and has failed. -/
theorem State.dropPend_assocFail (h : s.regsWf) (p : MlPend) :
    s.mlFrame (s.dropPend p).assocFail ∧ s.attemptFails (s.dropPend p).assocFail ∧ p ∉ (s.dropPend p).assocFail.ml.pend :=
  ⟨((State.mlFrame.refl s).dropPend p).assocFail, State.attemptFails_congr (State.assocFail_fails (s := s.dropPend p) h) rfl,
    s.dropPend_pend p⟩

/-! ### An attempt that waits for ML_ADMIT -/

/-- An attempt with a free index waits, and its item goes to the program. -/
theorem State.askProgram_waits {i : BitVec 3} (hi : s.freeIdx = some i) (hr : s.mgmtRing ≠ none) (mt : Byte) (pair asked : Bool)
    (own : Nat) (id : BitVec 7) (a : MlAssoc) :
    s.mlFrame (s.askProgram mt pair asked own id a) ∧ (s.askProgram mt pair asked own id a).ml =
      { s.ml with pend := s.ml.pend ++
        [{ idx := i, pair := pair, asked := asked, stage := 0, own := own, id := id, a := a, since := s.ticks }] } := by
  have hring : s.mgmtRing.isNone = false := by simpa using Option.ne_none_iff_isSome.mp hr
  unfold State.askProgram
  rw [hi]
  dsimp only
  rw [if_neg (by simp [hring])]
  exact ⟨((State.mlFrame.refl s).modMl _).mgmtItem _ _ _, State.mgmtItem_ml _ _ _ _⟩

/-- With no ring for its item an attempt of another station is denied. -/
theorem State.askProgram_denied (hi : s.freeIdx ≠ none) (hr : s.mgmtRing = none) (mt : Byte) (pair : Bool) (own : Nat)
    (id : BitVec 7) (a : MlAssoc) : s.askProgram mt pair false own id a = s.assocFail := by
  obtain ⟨i, hi⟩ := Option.ne_none_iff_exists'.mp hi
  simp [State.askProgram, hi, hr]

theorem assocReq_exec (h : s.brings 0x01 dt f s1 src c) (hst : s1.ml.st = 4)
    (huid : ∀ p ∈ s1.ml.pend, p.pair = true ∨ p.a.uid ≠ (assocOf 0x01 src c).uid) :
    exec (.assocReq dt f) s = .next ((s1.modMl fun m => { m with ephemeral := s1.ml.ephemeral + 1 }).askProgram 0x01 false false
      s1.ml.ephemeral 0 (assocOf 0x01 src c)) := by
  refine congrArg Host.Outcome.next ((h _).trans (if_pos ?_))
  simpa [hst] using huid

theorem assocRsp_exec (h : s.brings 0x02 dt f s1 src c) (hsrc : src = 0) (hst : s1.ml.st = 2) (hpair : ∀ p ∈ s1.ml.pend, p.pair = true) :
    exec (.assocRsp dt f) s =
      .next (s1.askProgram 0x02 false true s1.ml.reqOwn (assocOf 0x02 src c).id (assocOf 0x02 src c)) := by
  refine congrArg Host.Outcome.next ((h _).trans (if_pos ?_))
  simpa [hst, hsrc] using hpair

theorem pairReq_exec (h : s.brings 0x08 dt f s1 src c) (hup : s1.mlUp = true) (hid : ∀ p ∈ s1.ml.pend, p.id ≠ src) :
    exec (.pairReq dt f) s = .next ((s1.modMl fun m => { m with ephemeral := s1.ml.ephemeral + 1 }).askProgram 0x08 true false
      s1.ml.ephemeral src (assocOf 0x08 src c)) := by
  refine congrArg Host.Outcome.next ((h _).trans (if_pos ?_))
  simpa [hup] using hid

theorem pairRsp_exec (h : s.brings 0x09 dt f s1 src c) (hup : s1.mlUp = true)
    (hp : s1.ml.pend.find? (fun p => p.pair && p.asked && p.stage == 1 && p.id == src) = some p) :
    exec (.pairRsp dt f) s = .next ((s1.dropPend p).askProgram 0x09 true true p.own p.id (assocOf 0x09 src c)) := by
  refine congrArg Host.Outcome.next ((h _).trans ((if_pos hup).trans ?_))
  rw [hp]

/-! ### Keys, and a peer that comes up -/

/-- The link key in force: links and counters begin anew, the attempts, messages and keys of the group are as they were. -/
theorem State.keyLink_spec (s : State) (id : BitVec 7) (p : MlPend) :
    s.mlFrame (s.keyLink id p) ∧ ∃ peers tx rx, (s.keyLink id p).ml = { s.ml with peers := peers, tx := tx, rx := rx } := by
  unfold State.keyLink
  dsimp only
  refine ⟨(((State.mlFrame.refl s).modMl _).setReg _ _).modPeer _ _, ?_⟩
  rw [State.modPeer_eq]
  exact ⟨_, _, _, rfl⟩

/-- What stands after the peer of an attempt came up. -/
structure State.LinkedUp (s t : State) (id : BitVec 7) : Prop where
  frame : s.mlFrame t
  up : t.peerUp id = true
  pend : t.ml.pend ⊆ s.ml.pend
  st : t.ml.st = s.ml.st
  keys : t.ml.group = s.ml.group ∧ t.ml.epoch = s.ml.epoch

theorem State.linkUp_linkedUp (s : State) (id : BitVec 7) (p : MlPend) : s.LinkedUp (s.linkUp id p) id := by
  unfold State.linkUp
  extract_lets s1 s2
  obtain ⟨honly, hpend⟩ : s.PeersLeft s1 := State.foldl_dropPeer _ s
  obtain ⟨b, h2⟩ : ∃ b, s2 = s1.modMl fun m => { m with members := b } := by
    unfold s2
    split
    · exact ⟨_, rfl⟩
    · exact ⟨s1.ml.members, rfl⟩
  let g : MlPeer → MlPeer := fun x => { x with up := true, uid := p.a.uid, maps := [], own := [], signal := [], asked := 0 }
  let s3 := (s2.modPeer id g).peerItem id true 0
  have hml : s3.ml = { s1.ml with members := b, peers := peersWith id g s2.ml.peers } := by
    rw [State.peerItem_ml, State.modPeer_eq, h2]
    rfl
  have hpeer : s3.peer? id = some (g ((s2.peer? id).getD { id := id })) :=
    (State.peerItem_peer? _ _ _ _ _).trans (s2.peer?_modPeer (f := g) id fun _ => rfl)
  obtain ⟨r, hasked⟩ := s3.askSounding_peer? id
  have hlast := s3.askSounding_eq id
  have hml1 : s1.ml = { s.ml with
      peers := s1.ml.peers, tx := s1.ml.tx, rx := s1.ml.rx, pend := s1.ml.pend, members := s1.ml.members } :=
    congrArg State.ml honly
  have hframe1 : s.mlFrame s1 := by
    rw [honly]
    exact (State.mlFrame.refl s).modMl _
  have hfields : (s3.askSounding id).ml.pend = s1.ml.pend ∧ (s3.askSounding id).ml.st = s1.ml.st ∧
      (s3.askSounding id).ml.group = s1.ml.group ∧ (s3.askSounding id).ml.epoch = s1.ml.epoch := by
    rw [hlast]
    show s3.ml.pend = _ ∧ s3.ml.st = _ ∧ s3.ml.group = _ ∧ s3.ml.epoch = _
    rw [hml]
    exact ⟨rfl, rfl, rfl, rfl⟩
  obtain ⟨hp, hst, hgroup, hepoch⟩ := hfields
  refine ⟨?_, ?_, ?_, ?_, ?_, ?_⟩
  · have h2f : s.mlFrame s2 := by
      rw [h2]
      exact hframe1.modMl _
    exact ((h2f.modPeer id g).peerItem _ _ _).askSounding id
  · rw [hpeer] at hasked
    exact State.peerUp_of hasked
  · exact fun x hx => hpend (hp ▸ hx)
  · exact hst.trans (by rw [hml1])
  · exact hgroup.trans (by rw [hml1])
  · exact hepoch.trans (by rw [hml1])

end Sys2Proof.Machine
end

section
/-! PROOF. The commands of association and pairing (R246). -/

open Sys2Proof Sys2Proof.Machine

namespace Sys2Proof.Machine

variable {s s1 t u : State} {p : MlPend} {src : BitVec 7} {c : List Byte} {dt : Nat} {f : MlFrame}

/-! ### ML_ADMIT -/

theorem State.writeAdmit_found {v : Word} (h : s.ml.pend.find? (fun p => p.idx == v.extractLsb' 0 3 && p.stage == 0) = some p) :
    s.writeAdmit v =
      if !v.getLsbD 4 then (s.dropPend p).assocFail else if p.asked then s.acceptAsker p else s.acceptAsked p := by
  rw [State.writeAdmit, h]
  rfl

theorem State.mlAdmit_exec {v : Word} (h : s.writeAdmit v = t) : exec (.mlAdmitWrite v) s = .next t := congrArg Host.Outcome.next h

/-- An attempt that stays in the list under its index shows its new state there. -/
theorem State.mem_setPend {q : MlPend} (h : p ∈ s.ml.pend) (hidx : p.idx = q.idx) (hpair : p.pair = q.pair) :
    q ∈ (s.setPend q).ml.pend :=
  List.mem_map.mpr ⟨p, h, by simp [hidx, hpair]⟩

theorem State.mlFrame.freeCtr (h : s.mlFrame t) (n : Nat) : s.mlFrame { t with freeCtr := n } := h.trans ⟨rfl, fun _ => rfl⟩

theorem State.mlFrame.mlQueue (h : s.mlFrame t) (dst : BitVec 7) (mtype : Byte) (m : List Byte) : s.mlFrame (t.mlQueue dst mtype m) :=
  h.modMl _

/-- A response and a confirmation are messages with a signature of this device. -/
theorem State.sendRsp_queues (s : State) (p : MlPend) (mtype : Byte) :
    ∃ m, s.sendRsp p mtype = ({ s with freeCtr := s.freeCtr + 1 } : State).mlQueue p.a.peer mtype m := ⟨_, rfl⟩

theorem State.sendConf_queues (s : State) (p : MlPend) (dst : BitVec 7) (mtype : Byte) :
    ∃ m, s.sendConf p dst mtype = ({ s with freeCtr := s.freeCtr + 1 } : State).mlQueue dst mtype m := ⟨_, rfl⟩

/-- A request accepted at the head is answered with the id it is given (R246 step 4). -/
theorem State.acceptAsked_answers {id : BitVec 7} (hmem : p ∈ s.ml.pend) (hpair : p.pair = false) (hid : s.freeId = some id) :
    ∃ m, s.mlFrame (s.acceptAsked p) ∧ (s.acceptAsked p).ml.outMsgs = s.ml.outMsgs ++ [(p.a.peer, 0x02, m)] ∧
      (s.acceptAsked p).ml.members = s.ml.members ||| BitVec.ofNat 64 (2 ^ id.toNat) ∧
      { p with id := id, stage := 1, since := s.ticks } ∈ (s.acceptAsked p).ml.pend := by
  let q : MlPend := { p with id := id, stage := 1, since := s.ticks }
  let v := s.modMl fun m => { m with members := m.members ||| BitVec.ofNat 64 (2 ^ id.toNat) }
  have heq : s.acceptAsked p = (v.setPend q).sendRsp q 0x02 := by
    have hno : ¬ p.pair = true := ne_true_of_eq_false hpair
    rw [State.acceptAsked, if_neg hno, hid]
    dsimp only
    rw [if_neg hno, if_neg hno]
  obtain ⟨m, hsent⟩ := (v.setPend q).sendRsp_queues q 0x02
  have hframe : s.mlFrame (v.setPend q) := ((State.mlFrame.refl s).modMl _).modMl _
  have hq : q ∈ (v.setPend q).ml.pend := State.mem_setPend (s := v) hmem rfl rfl
  rw [heq, hsent]
  exact ⟨m, (hframe.freeCtr _).mlQueue _ _ _, rfl, rfl, hq⟩

/-- An answer accepted at the member that asked is confirmed (R246 steps 5 and 6). -/
theorem State.acceptAsker_confirms (hmem : p ∈ s.ml.pend) (hpair : p.pair = false) (hsig : s.peerSigOk p p.a.sig = true) :
    ∃ m, s.mlFrame (s.acceptAsker p) ∧ (s.acceptAsker p).ml.myId = p.id ∧
      (s.acceptAsker p).ml.outMsgs = s.ml.outMsgs ++ [(0, 0x03, m)] ∧
      { p with stage := 2, since := s.ticks } ∈ (s.acceptAsker p).ml.pend := by
  obtain ⟨hframe, peers, tx, rx, hml⟩ := s.keyLink_spec 0 p
  obtain ⟨m, hsent⟩ := (s.keyLink 0 p).sendConf_queues p 0 0x03
  let v := (s.keyLink 0 p).sendConf p 0 0x03
  let w := v.modMl fun m => { m with myId := p.id }
  have hv : s.mlFrame v ∧ v.ml = { (s.keyLink 0 p).ml with outMsgs := (s.keyLink 0 p).ml.outMsgs ++ [(0, 0x03, m)] } := by
    unfold v
    rw [hsent]
    exact ⟨(hframe.freeCtr _).mlQueue _ _ _, rfl⟩
  have heq : s.acceptAsker p = w.setPend { p with stage := 2, since := s.ticks } := by
    rw [State.acceptAsker, if_neg (by rw [hsig]; decide), if_neg (ne_true_of_eq_false hpair)]
    rfl
  have hp : p ∈ w.ml.pend := by
    show p ∈ v.ml.pend
    rw [hv.2, hml]
    exact hmem
  have hmsgs : v.ml.outMsgs = s.ml.outMsgs ++ [(0, 0x03, m)] := by rw [hv.2, hml]
  rw [heq]
  exact ⟨m, (hv.1.modMl _).modMl _, rfl, hmsgs, State.mem_setPend hp rfl rfl⟩

/-! ### Confirmations -/

theorem State.takeConf_found {pair : Bool} {a : MlAssoc}
    (h : s.ml.pend.find? (fun p => p.pair == pair && p.stage == 1 && !p.asked && p.id == a.peer) = some p) :
    s.takeConf pair a = if s.peerSigOk p a.sig then some (((s.dropPend p).keyLink p.id p).linkUp p.id p)
      else some (((s.dropPend p).assocFail).peerItem p.id false 3) := by
  rw [State.takeConf, h]

/-- A confirmation that verifies brings the peer up, and its attempt is over. -/
theorem State.confirmed_up (s : State) (p : MlPend) (id : BitVec 7) :
    let t := ((s.dropPend p).keyLink id p).linkUp id p
    s.mlFrame t ∧ t.peerUp id = true ∧ p ∉ t.ml.pend := by
  obtain ⟨hframe, peers, tx, rx, hml⟩ := (s.dropPend p).keyLink_spec id p
  have hup := ((s.dropPend p).keyLink id p).linkUp_linkedUp id p
  refine ⟨(((State.mlFrame.refl s).dropPend p).trans hframe).trans hup.frame, hup.up, fun h => s.dropPend_pend p ?_⟩
  have := hup.pend h
  rwa [hml] at this

/-- A confirmation that does not verify ends the attempt, and the program is told. -/
theorem State.unconfirmed_fails (h : s.regsWf) (p : MlPend) (id : BitVec 7) (reason : Byte) :
    let t := (s.dropPend p).assocFail.peerItem id false reason
    s.mlFrame t ∧ s.attemptFails t ∧ p ∉ t.ml.pend := by
  obtain ⟨hframe, hfails, hpend⟩ := State.dropPend_assocFail h p
  have hitem : (s.dropPend p).assocFail.ItemsPut ((s.dropPend p).assocFail.peerItem id false reason) := (State.ItemsPut.refl _).mgmtItem _ _ _
  exact ⟨hframe.peerItem _ _ _, State.attemptFails_item hfails hitem, by rw [State.peerItem_ml]; exact hpend⟩

/-- ASSOC_CONF at the head. -/
theorem assocConf_exec (h : s.brings 0x03 dt f s1 src c) (hst : s1.ml.st = 4) {t : State}
    (ht : s1.takeConf false (assocOf 0x03 src c) = some t) :
    exec (.assocConf dt f) s = .next (if t.peerUp src then t.mlQueue src 0x07 t.keyBytes else t) := by
  refine congrArg Host.Outcome.next ((h _).trans ((if_pos (by simp [hst])).trans ?_))
  rw [ht]

/-- PAIR_CONF at a member. -/
theorem pairConf_exec (h : s.brings 0x0A dt f s1 src c) (hup : s1.mlUp = true) {t : State}
    (ht : s1.takeConf true (assocOf 0x0A src c) = some t) : exec (.pairConf dt f) s = .next t := by
  refine congrArg Host.Outcome.next ((h _).trans ((if_pos hup).trans ?_))
  rw [ht, Option.getD_some]

theorem assocConf_confirms (h : s.brings 0x03 dt f s1 src c) (hwf : s1.regsWf) (hst : s1.ml.st = 4)
    (hp : s1.ml.pend.find? (fun p => p.pair == false && p.stage == 1 && !p.asked && p.id == src) = some p) :
    (s1.peerSigOk p (assocOf 0x03 src c).sig = true → ∃ (t : State) (m : List Byte), exec (.assocConf dt f) s = .next t ∧
      s1.mlFrame t ∧ t.peerUp src = true ∧ (src, 0x07, m) ∈ t.ml.outMsgs ∧ p ∉ t.ml.pend) ∧
    (s1.peerSigOk p (assocOf 0x03 src c).sig = false → ∃ t : State, exec (.assocConf dt f) s = .next t ∧ s1.mlFrame t ∧
      s1.attemptFails t ∧ p ∉ t.ml.pend) := by
  have hid : p.id = src := by
    have hfound := List.find?_some hp
    simp only [Bool.and_eq_true, beq_iff_eq] at hfound
    exact hfound.2
  have htake := State.takeConf_found (a := assocOf 0x03 src c) hp
  refine ⟨fun hsig => ?_, fun hsig => ?_⟩
  · rw [if_pos hsig] at htake
    obtain ⟨hframe, hup, hpend⟩ := s1.confirmed_up p p.id
    rw [hid] at htake hup hframe hpend
    exact ⟨_, _, (assocConf_exec h hst htake).trans (congrArg _ (if_pos hup)), hframe.mlQueue _ _ _, hup,
      List.mem_append_right _ (List.mem_singleton_self _), hpend⟩
  · rw [if_neg (ne_true_of_eq_false hsig)] at htake
    obtain ⟨hframe, hfails, hpend⟩ := State.unconfirmed_fails hwf p p.id 3
    refine ⟨_, assocConf_exec h hst htake, ?_⟩
    split
    · exact ⟨hframe.modMl _, hfails, hpend⟩
    · exact ⟨hframe, hfails, hpend⟩

theorem pairConf_confirms (h : s.brings 0x0A dt f s1 src c) (hwf : s1.regsWf) (hup : s1.mlUp = true)
    (hp : s1.ml.pend.find? (fun p => p.pair == true && p.stage == 1 && !p.asked && p.id == src) = some p) :
    (s1.peerSigOk p (assocOf 0x0A src c).sig = true → ∃ t : State, exec (.pairConf dt f) s = .next t ∧ s1.mlFrame t ∧
      t.peerUp src = true ∧ p ∉ t.ml.pend) ∧
    (s1.peerSigOk p (assocOf 0x0A src c).sig = false → ∃ t : State, exec (.pairConf dt f) s = .next t ∧ s1.mlFrame t ∧
      s1.attemptFails t ∧ p ∉ t.ml.pend) := by
  have hid : p.id = src := by
    have hfound := List.find?_some hp
    simp only [Bool.and_eq_true, beq_iff_eq] at hfound
    exact hfound.2
  have htake := State.takeConf_found (a := assocOf 0x0A src c) hp
  refine ⟨fun hsig => ?_, fun hsig => ?_⟩
  · rw [if_pos hsig] at htake
    obtain ⟨hframe, hpeer, hpend⟩ := s1.confirmed_up p p.id
    exact ⟨_, pairConf_exec h hup htake, hframe, hid ▸ hpeer, hpend⟩
  · rw [if_neg (ne_true_of_eq_false hsig)] at htake
    exact ⟨_, pairConf_exec h hup htake, State.unconfirmed_fails hwf p p.id 3⟩

/-! ### Keys and leaving -/

/-- The group key in a KEY message. -/
def keyGroup (c : List Byte) : BitVec 128 := BitVec.ofNat 128 (bytesNat c 0 16)

/-- KEY to a member that has confirmed: it is up, and so is its head. -/
theorem key_ups (h : s.brings 0x07 dt f s1 src c) (hrole : s1.mlRole = 1) (hsrc : src = 0)
    (hp : s1.ml.pend.find? (fun p => p.stage == 2 && !p.pair) = some p) :
    ∃ t : State, exec (.key dt f) s = .next t ∧ s1.mlFrame t ∧ t.ml.st = 3 ∧ t.ml.group = some (keyGroup c) ∧
      t.ml.epoch = c.getD 16 0 ∧ t.peerUp 0 = true := by
  let v := (s1.dropPend p).modMl fun m => { m with st := 3, group := some (keyGroup c), epoch := c.getD 16 0 }
  have hexec : exec (.key dt f) s = .next (v.linkUp 0 p) := by
    refine congrArg Host.Outcome.next ((h _).trans ((if_pos (by simp [hrole, hsrc])).trans ?_))
    rw [hp]
    rfl
  have hup := v.linkUp_linkedUp 0 p
  obtain ⟨hgroup, hepoch⟩ := hup.keys
  exact ⟨_, hexec, (((State.mlFrame.refl s1).dropPend p).modMl _).trans hup.frame, hup.st, hgroup, hepoch, hup.up⟩

/-- A later KEY changes the group key, the old one being kept for 2 cycles. -/
theorem key_changes (h : s.brings 0x07 dt f s1 src c) (hrole : s1.mlRole = 1) (hsrc : src = 0) (hpend : s1.ml.pend = [])
    (hst : s1.ml.st = 3) : exec (.key dt f) s = .next { s1 with
      ml := { s1.ml with group := some (keyGroup c), epoch := c.getD 16 0, oldGroup := s1.ml.group, oldKeys := 2 } } := by
  refine congrArg Host.Outcome.next ((h _).trans ((if_pos (by simp [hrole, hsrc])).trans ?_))
  rw [hpend]
  exact if_pos hst

/-- A peer that leaves is gone; a head then changes the group key, and a member whose head left searches. -/
theorem leave_drops (h : s.brings 0x0B dt f s1 src c) (hup : s1.peerUp src = true) :
    ∃ t : State, exec (.leave dt f) s = .next t ∧ s1.mlFrame t ∧ t.peer? src = none ∧
      (src = 0 → s1.ml.st = 3 → t.ml.st = 1 ∧ t.ml.myId = 0) ∧
      (s1.ml.st = 4 → t.ml.epoch = s1.ml.epoch + 1 ∧ t.ml.oldGroup = s1.ml.group ∧ t.ml.oldKeys = 2) := by
  let v := (s1.dropPeer src).peerItem src false 1
  have hml : v.ml = (s1.dropPeer src).ml := State.peerItem_ml _ _ _ _
  have hst : v.ml.st = s1.ml.st := by rw [hml]; rfl
  have hframe : s1.mlFrame v := ((State.mlFrame.refl s1).dropPeer src).peerItem _ _ _
  have hgone : v.peer? src = none := (State.peerItem_peer? _ _ _ _ _).trans (s1.dropPeer_peer? src)
  have hexec : exec (.leave dt f) s = .next (if v.ml.st = 4 then v.rekey
      else if src = 0 ∧ v.ml.st = 3 then v.modMl fun m => { m with st := 1, myId := 0 } else v) :=
    congrArg Host.Outcome.next ((h _).trans (if_pos hup))
  refine ⟨_, hexec, ?_⟩
  by_cases h4 : s1.ml.st = 4
  · rw [if_pos (hst.trans h4)]
    obtain ⟨ms, hrekey⟩ := v.rekey_eq
    rw [hrekey]
    refine ⟨hframe.modMl _, hgone, fun _ h3 => ?_, fun _ => ?_⟩
    · rw [h4] at h3
      exact absurd h3 (by decide)
    · show v.ml.epoch + 1 = _ ∧ v.ml.group = _ ∧ _
      rw [hml]
      exact ⟨rfl, rfl, rfl⟩
  · rw [if_neg (by rwa [hst])]
    split
    · exact ⟨hframe.modMl _, hgone, fun _ _ => ⟨rfl, rfl⟩, fun h => absurd h h4⟩
    · next hno => exact ⟨hframe, hgone, fun h0 h3 => absurd ⟨h0, hst.trans h3⟩ hno, fun h => absurd h h4⟩

/-! ### Attempts that time out -/

theorem associationTimeout_ends {i : BitVec 3} (hwf : s.regsWf) (hp : s.ml.pend.find? (fun p => p.idx == i) = some p) :
    ∃ t : State, exec (.associationTimeout i) s = .next t ∧ s.mlFrame t ∧ s.attemptFails t ∧ p ∉ t.ml.pend := by
  let v := s.advanceTo (p.since + usTicks 2000000)
  have hexec : exec (.associationTimeout i) s = .next (v.dropPend p).assocFail := by
    refine congrArg Host.Outcome.next ?_
    rw [hp]
  have hv : v.regsWf := by
    unfold State.regsWf
    rw [State.advanceTo_regs]
    exact hwf
  obtain ⟨hframe, hfails, hpend⟩ := State.dropPend_assocFail hv p
  exact ⟨_, hexec, ((State.mlFrame.refl s).advanceTo _).trans hframe, State.attemptFails_congr hfails (State.advanceTo_reg_acc s _ _),
    hpend⟩

theorem associationTimeout_searches (i : BitVec 3) (hwf : s.regsWf) (hpend : s.ml.pend = []) (hst : s.ml.st = 2) :
    ∃ t : State, exec (.associationTimeout i) s = .next t ∧ s.mlFrame t ∧ s.attemptFails t ∧ t.ml.st = 1 := by
  let v := (s.advanceTo (s.ml.reqAt + usTicks 2000000)).modMl fun m => { m with st := 1 }
  have hexec : exec (.associationTimeout i) s = .next v.assocFail := by
    refine congrArg Host.Outcome.next ?_
    rw [hpend]
    exact if_pos ⟨hst, rfl⟩
  have hv : v.regsWf := by
    unfold State.regsWf
    rw [State.modMl_regs, State.advanceTo_regs]
    exact hwf
  exact ⟨_, hexec, (((State.mlFrame.refl s).advanceTo _).modMl _).assocFail,
    State.attemptFails_congr (State.assocFail_fails hv) (State.advanceTo_reg_acc s _ _), rfl⟩

end Sys2Proof.Machine

open Sys2Proof Sys2Proof.Machine

/-- Settles O44, one message at a time. That the head gives the lowest free id, that a signature is verified with the key
received, and that a peer's leaving changes the group key are assumption 47. -/
theorem mainsAssociationAdmitsAndPairs : Obligations.MainsAssociationAdmitsAndPairs := by
  intro s dt f s1 src c hwf hwf1 asked
  refine ⟨fun h hst huid => ⟨fun i hi hr => ?_, fun hr hi => ?_⟩, fun h hsrc hst hpair i hi hr => ?_, fun h hup hid i hi hr => ?_,
    fun p i h hup hp hi hr => ?_, fun v p hp => ⟨fun hv => ?_, fun id hv hasked hpair hid => ?_, fun hv hasked hpair hsig => ?_⟩,
    fun p h hst hp => assocConf_confirms h hwf1 hst hp, fun p h hup hp => pairConf_confirms h hwf1 hup hp,
    fun h hrole hsrc => ⟨fun p hp => key_ups h hrole hsrc hp, fun hpend hst => key_changes h hrole hsrc hpend hst⟩,
    fun h hup => leave_drops h hup, fun i p hp => associationTimeout_ends hwf hp,
    fun i hpend hst => associationTimeout_searches i hwf hpend hst⟩
  · obtain ⟨hframe, hml⟩ := State.askProgram_waits (s := s1.modMl fun m => { m with ephemeral := s1.ml.ephemeral + 1 }) hi hr
      0x01 false false s1.ml.ephemeral 0 (assocOf 0x01 src c)
    exact ⟨_, assocReq_exec h hst huid, ((State.mlFrame.refl s1).modMl _).trans hframe, by rw [hml]; rfl, by rw [hml]; rfl,
      by rw [hml]; rfl⟩
  · have hdenied := State.askProgram_denied (s := s1.modMl fun m => { m with ephemeral := s1.ml.ephemeral + 1 }) hi hr
      0x01 false s1.ml.ephemeral 0 (assocOf 0x01 src c)
    refine ⟨_, (assocReq_exec h hst huid).trans (congrArg _ hdenied), ((State.mlFrame.refl s1).modMl _).assocFail, ?_, rfl⟩
    exact State.attemptFails_congr (State.assocFail_fails (s := s1.modMl _) hwf1) rfl
  · obtain ⟨hframe, hml⟩ := State.askProgram_waits hi hr 0x02 false true s1.ml.reqOwn (assocOf 0x02 src c).id (assocOf 0x02 src c)
    exact ⟨_, assocRsp_exec h hsrc hst hpair, hframe, by rw [hml], by rw [hml], by rw [hml]⟩
  · obtain ⟨hframe, hml⟩ := State.askProgram_waits (s := s1.modMl fun m => { m with ephemeral := s1.ml.ephemeral + 1 }) hi hr
      0x08 true false s1.ml.ephemeral src (assocOf 0x08 src c)
    exact ⟨_, pairReq_exec h hup hid, ((State.mlFrame.refl s1).modMl _).trans hframe, by rw [hml]; rfl, by rw [hml]; rfl,
      by rw [hml]; rfl⟩
  · obtain ⟨hframe, hml⟩ := State.askProgram_waits hi (s := s1.dropPend p) hr 0x09 true true p.own p.id (assocOf 0x09 src c)
    exact ⟨_, pairRsp_exec h hup hp, ((State.mlFrame.refl s1).dropPend p).trans hframe, by rw [hml]; rfl⟩
  · have hexec := State.mlAdmit_exec ((State.writeAdmit_found hp).trans (if_pos (by rw [hv]; rfl)))
    exact ⟨_, hexec, State.dropPend_assocFail hwf p⟩
  · have hexec := State.mlAdmit_exec ((State.writeAdmit_found hp).trans ((if_neg (by rw [hv]; decide)).trans (if_neg (ne_true_of_eq_false hasked))))
    obtain ⟨m, hspec⟩ := State.acceptAsked_answers (List.mem_of_find?_eq_some hp) hpair hid
    exact ⟨_, m, hexec, hspec⟩
  · have hexec := State.mlAdmit_exec ((State.writeAdmit_found hp).trans ((if_neg (by rw [hv]; decide)).trans (if_pos hasked)))
    obtain ⟨m, hspec⟩ := State.acceptAsker_confirms (List.mem_of_find?_eq_some hp) hpair hsig
    exact ⟨_, m, hexec, hspec⟩

end

section
/-! PROOF. The fields of frame control as they are read back (R235). -/

open Sys2Proof Sys2Proof.Machine

namespace Sys2Proof.Machine

/-- The low part of a word put together is its last part. -/
theorem append_low {m n : Nat} (a : BitVec m) (x : BitVec n) : (a ++ x).extractLsb' 0 n = x :=
  (BitVec.extractLsb'_append_eq_of_add_le (by omega)).trans BitVec.extractLsb'_eq_self

/-- A field of frame control above FCCRC is one of the header. -/
theorem fcSeal_extract (h : BitVec 80) {k n : Nat} : (fcSeal h).extractLsb' (16 + k) n = h.extractLsb' k n := by
  rw [fcSeal]
  exact (BitVec.extractLsb'_append_eq_of_le (by omega)).trans (by rw [Nat.add_sub_cancel_left])

theorem fcOk_fcSeal (h : BitVec 80) : fcOk (fcSeal h) = true := by
  have hcrc : (fcSeal h).extractLsb' 0 16 = fcCrc h := append_low _ _
  have hhead : (fcSeal h).extractLsb' 16 80 = h := (fcSeal_extract h (k := 0)).trans BitVec.extractLsb'_eq_self
  rw [fcOk, hcrc, hhead, beq_self_eq_true]

/-- A bit that is a field of its own. -/
theorem getLsbD_of_extract {w : Nat} {x : BitVec w} {i : Nat} {b : Bool} (h : x.extractLsb' i 1 = BitVec.ofBool b) :
    x.getLsbD i = b := by
  have hlow : (x.extractLsb' i 1).getLsbD 0 = x.getLsbD i := by simp
  rw [← hlow, h]
  cases b <;> rfl

section
variable (ftype : BitVec 4) (src dst : BitVec 7) (link : BitVec 4) (l : MlLoad) (notch hfon : Bool) (nsym nseg : Nat) (seq : Byte)

theorem fcOk_mlFc : fcOk (mlFc ftype src dst link l notch hfon nsym nseg seq) = true := fcOk_fcSeal _

theorem fcType_mlFc : fcType (mlFc ftype src dst link l notch hfon nsym nseg seq) = ftype := by
  refine (fcSeal_extract _ (k := 76)).trans ?_
  repeat refine (BitVec.extractLsb'_append_eq_of_le (by omega)).trans ?_
  exact BitVec.extractLsb'_eq_self

theorem fcSrc_mlFc : fcSrc (mlFc ftype src dst link l notch hfon nsym nseg seq) = src := by
  refine (fcSeal_extract _ (k := 69)).trans ?_
  repeat refine (BitVec.extractLsb'_append_eq_of_le (by omega)).trans ?_
  exact append_low _ _

theorem fcDst_mlFc : fcDst (mlFc ftype src dst link l notch hfon nsym nseg seq) = dst := by
  refine (fcSeal_extract _ (k := 62)).trans ?_
  repeat refine (BitVec.extractLsb'_append_eq_of_le (by omega)).trans ?_
  exact append_low _ _

theorem fcLink_mlFc : fcLink (mlFc ftype src dst link l notch hfon nsym nseg seq) = link := by
  refine (fcSeal_extract _ (k := 58)).trans ?_
  repeat refine (BitVec.extractLsb'_append_eq_of_le (by omega)).trans ?_
  exact append_low _ _

theorem fcTmi_mlFc : fcTmi (mlFc ftype src dst link l notch hfon nsym nseg seq) = l.tmi := by
  refine (fcSeal_extract _ (k := 55)).trans ?_
  repeat refine (BitVec.extractLsb'_append_eq_of_le (by omega)).trans ?_
  exact append_low _ _

theorem fcBit67_mlFc : fcBit67 (mlFc ftype src dst link l notch hfon nsym nseg seq) = notch := by
  refine getLsbD_of_extract ((fcSeal_extract _ (k := 51)).trans ?_)
  repeat refine (BitVec.extractLsb'_append_eq_of_le (by omega)).trans ?_
  exact append_low _ _

theorem fcHfon_mlFc : fcHfon (mlFc ftype src dst link l notch hfon nsym nseg seq) = hfon := by
  refine getLsbD_of_extract ((fcSeal_extract _ (k := 50)).trans ?_)
  repeat refine (BitVec.extractLsb'_append_eq_of_le (by omega)).trans ?_
  exact append_low _ _

theorem fcNsym_mlFc : fcNsym (mlFc ftype src dst link l notch hfon nsym nseg seq) = nsym % 1024 := by
  have h : (mlFc ftype src dst link l notch hfon nsym nseg seq).extractLsb' 56 10 = BitVec.ofNat 10 nsym := by
    refine (fcSeal_extract _ (k := 40)).trans ?_
    repeat refine (BitVec.extractLsb'_append_eq_of_le (by omega)).trans ?_
    exact append_low _ _
  rw [fcNsym, h, BitVec.toNat_ofNat]

theorem fcSeq_mlFc : fcSeq (mlFc ftype src dst link l notch hfon nsym nseg seq) = seq := by
  refine (fcSeal_extract _ (k := 26)).trans ?_
  repeat refine (BitVec.extractLsb'_append_eq_of_le (by omega)).trans ?_
  exact append_low _ _

end

section
variable (src dst : BitVec 7) (base : Byte) (b : BitVec 37) (negated hfon tmreq : Bool)

theorem fcOk_sackFc : fcOk (sackFc src dst base b negated hfon tmreq) = true := fcOk_fcSeal _

theorem fcType_sackFc : fcType (sackFc src dst base b negated hfon tmreq) = 3 := by
  refine (fcSeal_extract _ (k := 76)).trans ?_
  repeat refine (BitVec.extractLsb'_append_eq_of_le (by omega)).trans ?_
  exact BitVec.extractLsb'_eq_self

theorem fcDst_sackFc : fcDst (sackFc src dst base b negated hfon tmreq) = dst := by
  refine (fcSeal_extract _ (k := 62)).trans ?_
  repeat refine (BitVec.extractLsb'_append_eq_of_le (by omega)).trans ?_
  exact append_low _ _

theorem fcBit67_sackFc : fcBit67 (sackFc src dst base b negated hfon tmreq) = negated := by
  refine getLsbD_of_extract ((fcSeal_extract _ (k := 51)).trans ?_)
  repeat refine (BitVec.extractLsb'_append_eq_of_le (by omega)).trans ?_
  exact append_low _ _

theorem fcSeq_sackFc : fcSeq (sackFc src dst base b negated hfon tmreq) = base := by
  refine (fcSeal_extract _ (k := 26)).trans ?_
  repeat refine (BitVec.extractLsb'_append_eq_of_le (by omega)).trans ?_
  exact append_low _ _

/-- The 37 segment bits stand in three parts of the header. -/
theorem fcBits_sackFc : fcBits (sackFc src dst base b negated hfon tmreq) = b := by
  have hlow : (sackFc src dst base b negated hfon tmreq).extractLsb' 74 4 = b.extractLsb' 0 4 := by
    refine (fcSeal_extract _ (k := 58)).trans ?_
    repeat refine (BitVec.extractLsb'_append_eq_of_le (by omega)).trans ?_
    exact append_low _ _
  have hmid : (sackFc src dst base b negated hfon tmreq).extractLsb' 50 16 = b.extractLsb' 4 16 := by
    refine (fcSeal_extract _ (k := 34)).trans ?_
    repeat refine (BitVec.extractLsb'_append_eq_of_le (by omega)).trans ?_
    exact append_low _ _
  have hhigh : (sackFc src dst base b negated hfon tmreq).extractLsb' 17 17 = b.extractLsb' 20 17 := by
    refine (fcSeal_extract _ (k := 1)).trans ?_
    repeat refine (BitVec.extractLsb'_append_eq_of_le (by omega)).trans ?_
    exact append_low _ _
  rw [fcBits, hlow, hmid, hhigh, BitVec.extractLsb'_append_extractLsb'_eq_extractLsb' (by omega),
    BitVec.extractLsb'_append_extractLsb'_eq_extractLsb' (by omega)]
  exact BitVec.extractLsb'_eq_self

end

end Sys2Proof.Machine
end

section
/-! PROOF. Tone maps: what a measurement and a map sent change of a station (R236, R237). -/

open Sys2Proof Sys2Proof.Machine

namespace Sys2Proof.Machine

variable {s t u : State} {id : BitVec 7} {p : MlPeer}

/-- `t` is `s` but for what it knows of its peers, and messages queued. -/
def State.Tells (s t : State) : Prop := t = s.modMl fun m => { m with peers := t.ml.peers, outMsgs := t.ml.outMsgs }

namespace State.Tells

theorem eq (h : s.Tells t) : t = s.modMl fun m => { m with peers := t.ml.peers, outMsgs := t.ml.outMsgs } := h

theorem refl (s : State) : s.Tells s := rfl

theorem trans (h : s.Tells t) (h' : t.Tells u) : s.Tells u :=
  h'.eq.trans (congrArg (fun v : State => v.modMl fun m => { m with peers := u.ml.peers, outMsgs := u.ml.outMsgs }) h.eq :)

theorem modPeer (h : s.Tells t) (id : BitVec 7) (f : MlPeer → MlPeer) : s.Tells (t.modPeer id f) := by
  refine h.trans ?_
  rw [State.modPeer_eq]
  rfl

theorem mlQueue (h : s.Tells t) (dst : BitVec 7) (mtype : Byte) (c : List Byte) : s.Tells (t.mlQueue dst mtype c) := h.trans rfl

theorem askSounding (h : s.Tells t) (id : BitVec 7) : s.Tells (t.askSounding id) := h.trans (t.askSounding_eq id)

theorem sendMap (h : s.Tells t) (id : BitVec 7) (m : MlMap) : s.Tells (t.sendMap id m) := (h.modPeer _ _).mlQueue _ _ _

theorem reviewMap (h : s.Tells t) (id : BitVec 7) (index : Nat) : s.Tells (t.reviewMap id index) := by
  unfold State.reviewMap
  split
  · exact h
  · split
    · exact h
    · split
      · exact h.sendMap _ _
      · split
        · exact h.sendMap _ _
        · exact h

theorem foldl {α : Type} {f : State → α → State} (hf : ∀ (v : State) (a : α), v.Tells (f v a)) (l : List α) (h : s.Tells t) :
    s.Tells (l.foldl f t) := by
  induction l generalizing t with
  | nil => exact h
  | cons a l ih => exact ih (h.trans (hf t a))

theorem sendMaps (h : s.Tells t) (id : BitVec 7) : s.Tells (t.sendMaps id) := by
  refine foldl (fun v r => ?_) _ h
  split
  · exact (refl v).sendMap _ _
  · exact refl v

theorem hearLevel (h : s.Tells t) (f : MlFrame) : s.Tells (t.hearLevel f) := by
  unfold State.hearLevel
  dsimp only
  split
  · exact h
  · split
    · exact h
    · exact ((h.modPeer _ _).reviewMap _ _).reviewMap _ _

theorem mlFrame (h : s.Tells t) : s.mlFrame t := by
  rw [h]
  exact (State.mlFrame.refl s).modMl _

theorem ticks (h : s.Tells t) : t.ticks = s.ticks := (congrArg State.ticks h.eq :)

theorem regs (h : s.Tells t) : t.regs = s.regs := (congrArg State.regs h.eq :)

theorem rings (h : s.Tells t) : t.rings = s.rings := (congrArg State.rings h.eq :)

theorem reg (h : s.Tells t) (a : Nat) : t.reg a = s.reg a := by rw [State.reg, h.regs]; rfl

theorem only_ml (h : s.Tells t) : t = { s with ml := t.ml } := by
  have hml : t.ml = (s.modMl fun m => { m with peers := t.ml.peers, outMsgs := t.ml.outMsgs }).ml := congrArg State.ml h.eq
  rw [hml]
  exact h.eq

end State.Tells

end Sys2Proof.Machine
end

section
/-! PROOF. The zero crossing of the mains (R229, R249). -/

open Sys2Proof Sys2Proof.Machine

namespace Sys2Proof.Machine

variable {s t u : State}

theorem State.mlRole_congr (h : t.reg ML_CFG = s.reg ML_CFG) : t.mlRole = s.mlRole := by
  rw [State.mlRole, State.mlRole, State.fld_congr h]

/-- The mains link after a rising edge at a tick, which shows a member its offset from the head. -/
def Mlink.atEdge (m : Mlink) (now : Nat) (ofs : Option (BitVec 3)) : Mlink :=
  { m with zcOk := true, zcGone := false, zcTick := now
           zcLen := if m.zcOk then some (now - m.zcTick) else m.zcLen
           zcOfs := ofs.getD m.zcOfs, zcSeen := m.zcSeen || ofs.isSome }

/-- The offset that an edge shows. -/
def State.edgeOfs (s : State) : Option (BitVec 3) := if s.mlRole = 1 then s.ml.start.map s.zcSteps else none

theorem zcEdge_exec (dt : Nat) (s : State) : exec (.zcEdge dt) s =
    .next (((s.advance dt).modMl (·.atEdge (s.advance dt).ticks (s.advance dt).edgeOfs)).zcReport (s.advance dt).zcMis) := rfl

theorem State.zcReport_quiet (h : s.zcMis = false) (was : Bool) : s.zcReport was = s := by
  rw [State.zcReport, if_neg (by rw [h]; exact Bool.false_ne_true)]

theorem State.zcReport_ml (s : State) (was : Bool) : (s.zcReport was).ml = s.ml := by
  unfold State.zcReport
  split
  · rw [State.mline_ml, State.setFlag_ml]
  · rfl

/-- A station that is no member takes the edge's time and the mains period from it. -/
theorem zcEdge_times (hrole : s.mlRole ≠ 1) (dt : Nat) :
    ∃ t : State, exec (.zcEdge dt) s = .next t ∧ t = { s.advance dt with ml := t.ml } ∧
      t.ml = { s.ml with zcOk := true, zcGone := false, zcTick := t.ticks, zcLen := t.ml.zcLen } ∧
      t.ml.zcLen = if s.ml.zcOk = true then some (t.ticks - s.ml.zcTick) else s.ml.zcLen := by
  let v := s.advance dt
  have hv : v.mlRole ≠ 1 := fun h => hrole ((State.mlRole_congr (State.advance_reg_acc s dt ML_CFG)).symm.trans h)
  have hofs : v.edgeOfs = none := if_neg hv
  let w := v.modMl (·.atEdge v.ticks none)
  have hmis : w.zcMis = false := by
    have hw : (w.mlRole == 1) = false := beq_eq_false_iff_ne.mpr hv
    simp [State.zcMis, hw]
  have hexec : exec (.zcEdge dt) s = .next w := by
    rw [zcEdge_exec, hofs, State.zcReport_quiet hmis]
  have hml : w.ml = s.ml.atEdge v.ticks none := congrArg (Mlink.atEdge · v.ticks none) (State.advance_ml s dt)
  refine ⟨w, hexec, rfl, ?_, ?_⟩
  · rw [hml]
    simp [Mlink.atEdge, w, v]
  · rw [hml]
    rfl

/-- A member that knows the head's cycle shows its offset from it; one newly other than expected is flagged and reported. -/
theorem zcEdge_offset (hwf : s.regsWf) (hrole : s.mlRole = 1) {start : Nat} (hstart : s.ml.start = some start) (dt : Nat) :
    ∃ t : State, exec (.zcEdge dt) s = .next t ∧ s.mlFrame t ∧ t.ml.zcSeen = true ∧ t.ml.zcOfs = (s.advance dt).zcSteps start ∧
      (t.ml.zcOfs.toNat ≠ bits (s.reg ML_CFG) 24 3 → s.zcMis = false →
        (t.reg ML_FLAGS).getLsbD 1 = true ∧ (t.reg FLT_STATUS).getLsbD 14 = true) ∧
      (t.ml.zcOfs.toNat = bits (s.reg ML_CFG) 24 3 → t.regs = s.regs) := by
  let v := s.advance dt
  let ofs := v.zcSteps start
  have hv : v.mlRole = 1 := (State.mlRole_congr (State.advance_reg_acc s dt ML_CFG)).trans hrole
  have hofs : v.edgeOfs = some ofs := by
    rw [State.edgeOfs, if_pos hv, State.advance_ml, hstart]
    rfl
  let w := v.modMl (·.atEdge v.ticks (some ofs))
  have hexec : exec (.zcEdge dt) s = .next (w.zcReport v.zcMis) := by
    rw [zcEdge_exec, hofs]
  have hwas : v.zcMis = s.zcMis := by
    rw [State.zcMis, State.zcMis, State.advance_ml, State.advance_fld_acc, hv, hrole]
  have hmis : w.zcMis = (ofs.toNat != bits (s.reg ML_CFG) 24 3) := by
    have hw : w.mlRole = 1 := hv
    have hreg : w.fld ML_CFG 24 3 = bits (s.reg ML_CFG) 24 3 := State.advance_fld_acc s dt ML_CFG 24 3
    rw [State.zcMis, hw, hreg, State.modMl_ml]
    simp [Mlink.atEdge]
  have hregs : v.regs = s.regs := State.advance_regs s dt
  have hwwf : w.regsWf := by
    unfold State.regsWf
    rw [State.modMl_regs, hregs]
    exact hwf
  have hml := w.zcReport_ml v.zcMis
  refine ⟨_, hexec, ?_, ?_, ?_, fun hne hold => ?_, fun heq => ?_⟩
  · exact (((State.mlFrame.refl s).advance dt).modMl _).trans ((State.Reports.refl w).zcReport _).mlFrame
  · rw [hml]
    exact Bool.or_true _
  · rw [hml]
    rfl
  · rw [hml] at hne
    have hne : ofs.toNat ≠ bits (s.reg ML_CFG) 24 3 := hne
    have hnew : (w.zcMis && !v.zcMis) = true := by
      rw [hmis, hwas, hold]
      simpa using hne
    rw [State.zcReport, if_pos hnew]
    exact State.flag_mline_bits hwwf (by omega) 1
  · rw [hml] at heq
    have heq : ofs.toNat = bits (s.reg ML_CFG) 24 3 := heq
    have hno : w.zcMis = false := by
      rw [hmis]
      simpa using heq
    rw [State.zcReport_quiet hno]
    exact hregs

/-- ZC lost is flagged and reported, and a head will re-phase. -/
theorem zcLost_reports (hwf : s.regsWf) (hrole : s.mlRole ≠ 0) (hgone : s.ml.zcGone = false) :
    ∃ t : State, exec .zcLost s = .next t ∧ s.mlFrame t ∧ t.ml.zcOk = false ∧ t.ml.zcGone = true ∧
      (s.mlRole = 2 → t.ml.rephase = true) ∧ (t.reg ML_FLAGS).getLsbD 0 = true ∧ (t.reg FLT_STATUS).getLsbD 14 = true := by
  let v := s.advanceTo (s.ml.zcTick + 3 * s.nominalPeriod / 2)
  let w := v.modMl fun m => { m with zcOk := false, zcGone := true, rephase := m.rephase || v.mlRole == 2 }
  have hexec : exec .zcLost s = .next ((w.setFlag ML_FLAGS 0).mline 2) := by
    refine congrArg Host.Outcome.next ((if_pos ?_).trans ?_)
    · simpa [hgone] using hrole
    · have hv : v.mlRole = s.mlRole := State.mlRole_congr (State.advanceTo_reg_acc s _ ML_CFG)
      unfold w
      rw [hv]
  have hwwf : w.regsWf := by
    unfold State.regsWf
    rw [State.modMl_regs, State.advanceTo_regs]
    exact hwf
  have hml : ((w.setFlag ML_FLAGS 0).mline 2).ml = w.ml := State.mline_ml _ _
  refine ⟨_, hexec, ?_, ?_, ?_, fun h2 => ?_, State.flag_mline_bits hwwf (by omega) 2⟩
  · exact (((State.mlFrame.refl s).advanceTo _).modMl _).trans (((State.Reports.refl w).flag 0).mline 2).mlFrame
  · rw [hml, State.modMl_ml]
  · rw [hml, State.modMl_ml]
  · have hv : v.mlRole = 2 := (State.mlRole_congr (State.advanceTo_reg_acc s _ ML_CFG)).trans h2
    rw [hml]
    show (v.ml.rephase || v.mlRole == 2) = true
    rw [hv]
    exact Bool.or_true _

end Sys2Proof.Machine
end

section
/-! PROOF. The cycle of a head and of a member (R240, R241). -/

open Sys2Proof Sys2Proof.Machine

namespace Sys2Proof.Machine

variable {s t u : State}

/-! ### The beacon's bytes (R241) -/

/-- Two bytes and four bytes read as the numbers they were written from. -/
theorem halfBytes_join (h : BitVec 16) : ((h.extractLsb' 8 8).toNat * 256 + (h.extractLsb' 0 8).toNat) = h.toNat := by
  have := h.isLt
  simp only [BitVec.extractLsb'_toNat, Nat.shiftRight_eq_div_pow]
  omega

theorem wordBytes_join_toNat (w : Word) : (((w.extractLsb' 24 8).toNat * 256 + (w.extractLsb' 16 8).toNat) * 256 +
    (w.extractLsb' 8 8).toNat) * 256 + (w.extractLsb' 0 8).toNat = w.toNat := by
  have := w.isLt
  simp only [BitVec.extractLsb'_toNat, Nat.shiftRight_eq_div_pow]
  omega

/-- A beacon in a segment names its network and its cycle. -/
theorem beaconOf_names (b : MlBeacon) (head : Word) (mic : List Byte) :
    (beaconOf (segBody (segPlain head (beaconBytes b ++ mic)))).nid = b.nid ∧
    (beaconOf (segBody (segPlain head (beaconBytes b ++ mic)))).cycle = b.cycle := by
  rw [segBody_segPlain]
  constructor
  · show BitVec.ofNat 16 (bytesNat (fill 504 0 (beaconBytes b ++ mic)) 0 2) = b.nid
    have hbytes : bytesNat (fill 504 0 (beaconBytes b ++ mic)) 0 2 =
        (0 * 256 + (b.nid.extractLsb' 8 8).toNat) * 256 + (b.nid.extractLsb' 0 8).toNat := rfl
    rw [hbytes, Nat.zero_mul, Nat.zero_add, halfBytes_join, BitVec.ofNat_toNat, BitVec.setWidth_eq]
  · show BitVec.ofNat 32 (bytesNat (fill 504 0 (beaconBytes b ++ mic)) 2 4) = b.cycle
    have hbytes : bytesNat (fill 504 0 (beaconBytes b ++ mic)) 2 4 =
        (((0 * 256 + (b.cycle.extractLsb' 24 8).toNat) * 256 + (b.cycle.extractLsb' 16 8).toNat) * 256 +
          (b.cycle.extractLsb' 8 8).toNat) * 256 + (b.cycle.extractLsb' 0 8).toNat := rfl
    rw [hbytes, Nat.zero_mul, Nat.zero_add, wordBytes_join_toNat, BitVec.ofNat_toNat, BitVec.setWidth_eq]

/-! ### The cycle moves on (R240) -/

/-- The state in which the next cycle has begun. -/
def State.cycleOn (s : State) : State :=
  let left := s.ml.rephase && s.ml.start.any fun t => decide (usTicks 200 < (s.zcOff (t + usTicks s.ml.length)).natAbs)
  let v := s.advanceTo s.nextCycle
  v.modMl fun m =>
    { m with cycle := m.cycle + 1, start := some v.ticks, rephase := m.rephase && (!m.zcOk || left)
             oldKeys := m.oldKeys - 1, oldGroup := if m.oldKeys ≤ 1 then none else m.oldGroup }

theorem cycleStart_exec (hruns : s.mlRuns = true) (hst : 3 ≤ s.ml.st.toNat) :
    exec .cycleStart s = .next (if s.cycleOn.ml.st = 4 then s.cycleOn.headCycle else s.cycleOn.askAlloc) := by
  refine congrArg Host.Outcome.next ((if_pos ?_).trans rfl)
  rw [hruns, decide_eq_true hst]
  rfl

theorem State.cycleOn_only (s : State) : s.cycleOn = { s.advanceTo s.nextCycle with ml := s.cycleOn.ml } := rfl

theorem State.cycleOn_ml (s : State) : s.cycleOn.ml = { s.ml with
    cycle := s.ml.cycle + 1, start := some s.cycleOn.ticks, rephase := s.cycleOn.ml.rephase, oldKeys := s.cycleOn.ml.oldKeys
    oldGroup := s.cycleOn.ml.oldGroup } := by
  have h : s.cycleOn.ml = { (s.advanceTo s.nextCycle).ml with
      cycle := (s.advanceTo s.nextCycle).ml.cycle + 1, start := some s.cycleOn.ticks, rephase := s.cycleOn.ml.rephase
      oldKeys := s.cycleOn.ml.oldKeys, oldGroup := s.cycleOn.ml.oldGroup } := rfl
  rwa [State.advanceTo_ml] at h

/-- A member asks for time at most. -/
theorem State.askAlloc_eq (s : State) : ∃ d ms, s.askAlloc = s.modMl fun m => { m with demand := d, outMsgs := ms } := by
  unfold State.askAlloc
  dsimp only
  split
  · exact ⟨s.ml.demand, s.ml.outMsgs, rfl⟩
  · exact ⟨_, _, rfl⟩

theorem cycleStart_member (hruns : s.mlRuns = true) (hst : s.ml.st = 3) :
    ∃ t : State, exec .cycleStart s = .next t ∧ t = { s.advanceTo s.nextCycle with ml := t.ml } ∧
      t.ml.cycle = s.ml.cycle + 1 ∧ t.ml.start = some t.ticks ∧ t.ml.sent = s.ml.sent ∧ t.ml.group = s.ml.group := by
  have hst' : s.cycleOn.ml.st = 3 := by rw [State.cycleOn_ml]; exact hst
  have hexec := cycleStart_exec hruns (by rw [hst]; decide)
  rw [if_neg (by rw [hst']; decide)] at hexec
  obtain ⟨d, ms, hask⟩ := s.cycleOn.askAlloc_eq
  rw [hask] at hexec
  have honly := s.cycleOn_only
  have hml := s.cycleOn_ml
  have hstart : s.cycleOn.ml.start = some s.cycleOn.ticks := rfl
  generalize s.cycleOn = v at hexec honly hml hstart
  refine ⟨_, hexec, State.only_modMl honly _, ?_, hstart, ?_, ?_⟩
  · show v.ml.cycle = _
    rw [hml]
  · show v.ml.sent = _
    rw [hml]
  · show v.ml.group = _
    rw [hml]

/-- The schedule of a head's cycle (R240, R242). -/
def State.scheduled (s : State) : State :=
  let len := cycleUs s.mainsPeriod
  let v := s.modMl fun m => { m with length := len }
  v.modMl fun m => { m with
    silent := v.silentStart m.cycle.toNat len, contLen := v.fld ML_CONT 0 16, zcLostHead := m.zcGone, changing := m.oldKeys != 0
    allocs := v.headAllocs }

theorem State.scheduled_only (s : State) : s.scheduled = { s with ml := s.scheduled.ml } ∧ s.scheduled.ml = { s.ml with
    length := s.scheduled.ml.length, silent := s.scheduled.ml.silent, contLen := s.fld ML_CONT 0 16, zcLostHead := s.ml.zcGone
    changing := s.scheduled.ml.changing, allocs := s.scheduled.ml.allocs } := ⟨rfl, rfl⟩

theorem State.headCycle_sends (hpn : pnSpent (s.txLink 0x7F 0).pn = false) (hlevel : s.power.level < 4) :
    s.headCycle = s.scheduled.sendBeacon := by
  unfold State.headCycle
  dsimp only
  rw [if_neg (ne_true_of_eq_false hpn)]
  exact if_neg (Nat.not_le.mpr hlevel)

/-- The segment of a head's beacon. -/
def State.beaconSeg (s : State) : List Word :=
  let x := s.txLink 0x7F 0
  let body := beaconBytes s.headBeacon
  let mic := ccmMic (s.ml.group.getD 0) (mlNonce 0 0x7F 0 x.pn s.ml.epoch) body []
  segPlain (segHead x.pn 0 63 false) (body ++ wordsBytes (bigWords 2 mic))

/-- Its frame. -/
def State.beaconSent (s : State) : MlSent :=
  ⟨mlFc 0 0 0x7F 0 (s.robust true) true s.mlHfon ((s.robust true).symbols 1) 1 (BitVec.ofNat 8 (s.txLink 0x7F 0).pn), [s.beaconSeg]⟩

theorem State.sendBeacon_eq (s : State) : ∃ tx quiet, s.sendBeacon =
    s.modMl fun m => { m with tx := tx, sent := some s.beaconSent, quiet := quiet } := ⟨_, _, rfl⟩

theorem State.beaconSent_fc (s : State) : fcOk s.beaconSent.fc = true ∧ fcType s.beaconSent.fc = 0 ∧ fcSrc s.beaconSent.fc = 0 ∧
    fcDst s.beaconSent.fc = 0x7F ∧ fcBit67 s.beaconSent.fc = true ∧ fcHfon s.beaconSent.fc = s.mlHfon :=
  ⟨fcOk_mlFc .., fcType_mlFc .., fcSrc_mlFc .., fcDst_mlFc .., fcBit67_mlFc .., fcHfon_mlFc ..⟩

theorem State.beaconSeg_names (s : State) : segCrcOk s.beaconSeg = true ∧
    (beaconOf (segBody s.beaconSeg)).nid.toNat = bits (s.reg ML_CFG) 0 16 ∧ (beaconOf (segBody s.beaconSeg)).cycle = s.ml.cycle := by
  obtain ⟨hnid, hcycle⟩ := beaconOf_names s.headBeacon (segHead (s.txLink 0x7F 0).pn 0 63 false)
    (wordsBytes (bigWords 2 (ccmMic (s.ml.group.getD 0) (mlNonce 0 0x7F 0 (s.txLink 0x7F 0).pn s.ml.epoch)
      (beaconBytes s.headBeacon) [])))
  refine ⟨segCrcOk_segPlain _ _, (congrArg BitVec.toNat hnid).trans ?_, hcycle⟩
  show ((s.reg ML_CFG).setWidth 16).toNat = _
  rw [BitVec.toNat_setWidth, bits_low]

/-- What a head's cycle begins with: the schedule of `s.cycleOn`, whose beacon is sent. -/
theorem cycleStart_beacon (hruns : s.mlRuns = true) (hst : s.ml.st = 4) (hlevel : s.power.level < 4)
    (hpn : pnSpent (s.txLink 0x7F 0).pn = false) : exec .cycleStart s = .next s.cycleOn.scheduled.sendBeacon := by
  have hml := s.cycleOn_ml
  have hst' : s.cycleOn.ml.st = 4 := by rw [hml]; exact hst
  have hpn' : pnSpent (s.cycleOn.txLink 0x7F 0).pn = false := by
    rw [State.txLink, hml]
    exact hpn
  have hlevel' : s.cycleOn.power.level < 4 := by
    have hp : s.cycleOn.power = s.power := State.advanceTo_power s _
    rwa [hp]
  rw [cycleStart_exec hruns (by rw [hst]; decide), if_pos hst', State.headCycle_sends hpn' hlevel']

/-- The schedule in terms of the state before the cycle. -/
theorem State.scheduled_cycleOn (s : State) :
    let w := s.cycleOn.scheduled
    w = { s.advanceTo s.nextCycle with ml := w.ml } ∧ w.ml.cycle = s.ml.cycle + 1 ∧ w.ml.start = some w.ticks ∧
      w.ml.contLen = bits (s.reg ML_CONT) 0 16 ∧ w.ml.zcLostHead = s.ml.zcGone := by
  obtain ⟨honly, hml⟩ := s.cycleOn.scheduled_only
  have hcont : s.cycleOn.fld ML_CONT 0 16 = bits (s.reg ML_CONT) 0 16 := State.advanceTo_fld_acc s _ ML_CONT 0 16
  have hticks : s.cycleOn.scheduled.ticks = s.cycleOn.ticks :=
    (congrArg State.ticks honly :)
  refine ⟨honly, ?_, ?_, ?_, ?_⟩
  · rw [hml, s.cycleOn_ml]
  · rw [hml, s.cycleOn_ml, hticks]
  · rw [hml, hcont]
  · rw [hml, s.cycleOn_ml]

theorem cycleStart_head (hruns : s.mlRuns = true) (hst : s.ml.st = 4) (hlevel : s.power.level < 4)
    (hpn : pnSpent (s.txLink 0x7F 0).pn = false) :
    ∃ (t : State) (b : MlSent) (seg : List Word), exec .cycleStart s = .next t ∧
      t = { s.advanceTo s.nextCycle with ml := t.ml } ∧ t.ml.cycle = s.ml.cycle + 1 ∧ t.ml.start = some t.ticks ∧
      t.ml.sent = some b ∧ fcOk b.fc = true ∧ fcType b.fc = 0 ∧ fcSrc b.fc = 0 ∧ fcDst b.fc = 0x7F ∧ fcBit67 b.fc = true ∧
      fcHfon b.fc = s.hports.toList.any (·.field) ∧ b.segs = [seg] ∧ segCrcOk seg = true ∧
      (beaconOf (segBody seg)).nid.toNat = bits (s.reg ML_CFG) 0 16 ∧ (beaconOf (segBody seg)).cycle = t.ml.cycle ∧
      t.ml.contLen = bits (s.reg ML_CONT) 0 16 ∧ t.ml.zcLostHead = s.ml.zcGone := by
  have hexec := cycleStart_beacon hruns hst hlevel hpn
  obtain ⟨honly, hcycle, hstart, hcont, hgone⟩ := s.scheduled_cycleOn
  generalize s.cycleOn.scheduled = w at *
  obtain ⟨tx, quiet, hsend⟩ := w.sendBeacon_eq
  obtain ⟨hok, htype, hsrc, hdst, hnotch, hhfon⟩ := w.beaconSent_fc
  obtain ⟨hcrc, hnid, hnumber⟩ := w.beaconSeg_names
  have hreg : w.reg ML_CFG = s.reg ML_CFG := by
    rw [honly]
    exact State.advanceTo_reg_acc s _ _
  have hhports : w.hports = s.hports := by
    rw [honly]
    exact State.advanceTo_hports s _
  rw [hreg] at hnid
  rw [State.mlHfon, hhports] at hhfon
  rw [hsend] at hexec
  refine ⟨_, w.beaconSent, w.beaconSeg, hexec, ?_, hcycle, hstart, rfl, hok, htype, hsrc, hdst, hnotch, hhfon, rfl, hcrc, hnid,
    hnumber, hcont, hgone⟩
  exact (congrArg (fun v : State => v.modMl fun m => { m with tx := tx, sent := some w.beaconSent, quiet := quiet }) honly :)

end Sys2Proof.Machine
end

section
/-! PROOF. A beacon heard, missed and lost (R241, R249). -/

open Sys2Proof Sys2Proof.Machine

namespace Sys2Proof.Machine

variable {s s1 t : State} {dt : Nat} {f : MlFrame}

/-- Looking up a receiving link uses a free value at most. -/
theorem State.rxLink_only (s : State) (fc : BitVec 96) (link : BitVec 4) : ∃ n, (s.rxLink fc link).2 = { s with freeCtr := n } := by
  unfold State.rxLink
  dsimp only
  split
  · exact ⟨s.freeCtr, rfl⟩
  · split
    · exact ⟨s.freeCtr, rfl⟩
    · split
      · exact ⟨_, rfl⟩
      · exact ⟨s.freeCtr, rfl⟩

/-- A receiving link kept, or not, for a station without an id. -/
theorem State.setRxLink_eq (s : State) (x : MlRxLink) : ∃ rx, s.setRxLink x = s.modMl fun m => { m with rx := rx } := by
  unfold State.setRxLink
  split
  · exact ⟨s.ml.rx, rfl⟩
  · exact ⟨_, rfl⟩

/-- A group key signed a beacon in a segment (R241). -/
def beaconSigned (seg : List Word) (pn : Nat) (k : BitVec 128 × Byte) : Prop :=
  k.2 = (beaconOf (segBody seg)).epoch ∧
    ccmMic k.1 (mlNonce 0 0x7F 0 pn (beaconOf (segBody seg)).epoch) ((segBody seg).take 484) [] = seg.getD 122 0 ++ seg.getD 123 0

/-- The MIC of a beacon holds under one of some keys. -/
def beaconMicOk (seg : List Word) (pn : Nat) (keys : List (BitVec 128 × Byte)) : Bool :=
  (keys.filter (·.2 == (beaconOf (segBody seg)).epoch)).any fun k =>
    ccmMic k.1 (mlNonce 0 0x7F 0 pn (beaconOf (segBody seg)).epoch) ((segBody seg).take 484) [] == seg.getD 122 0 ++ seg.getD 123 0

theorem beaconMicOk_iff (seg : List Word) (pn : Nat) (keys : List (BitVec 128 × Byte)) :
    beaconMicOk seg pn keys = true ↔ ∃ k ∈ keys, beaconSigned seg pn k := by
  simp only [beaconMicOk, List.any_eq_true, List.mem_filter, beq_iff_eq, beaconSigned, and_assoc]

/-- What a beacon of its own network gives at a member whose link from the head is `x`. -/
def State.beaconHeard (s : State) (f : MlFrame) (x : MlRxLink) : State :=
  let seg := f.segs.headD []
  let pn := x.pnOf (segSeq seg)
  if s.ml.group.isSome && !beaconMicOk seg pn s.groupKeys then s.countFld ML_CNT0 0 16 1
  else if s.ml.group.isSome && x.placed pn then s
  else
    let v := (s.setRxLink { x with next := pn + 1 }).takeBeacon (beaconOf (segBody seg)) (s.frameStart f.fc)
    if v.ml.st = 1 then v.askAssoc else v

theorem beacon_exec (ha : s.accepts 0 dt f s1) (hrole : s1.mlRole = 1) (hsrc : fcSrc f.fc = 0)
    (hcrc : segCrcOk (f.segs.headD []) = true)
    (hnid : (beaconOf (segBody (f.segs.headD []))).nid.toNat = bits (s.reg ML_CFG) 0 16) :
    exec (.beacon dt f) s = .next ((s1.rxLink f.fc 0).2.beaconHeard f (s1.rxLink f.fc 0).1) := by
  refine congrArg Host.Outcome.next ((State.rxFrame_accepts ha _).trans ?_)
  have hfld : s1.fld ML_CFG 0 16 = bits (s.reg ML_CFG) 0 16 := State.fld_congr (State.accepts_reg ha (by decide) (by decide)) 0 16
  dsimp only
  rw [if_neg (by simp only [hrole, hsrc, hcrc, hnid, hfld]; simp)]
  rfl

section
variable {x : MlRxLink}

/-- A beacon that no group key signed is counted and dropped. -/
theorem State.beaconHeard_unsigned (hgroup : s.ml.group ≠ none)
    (hmic : ∀ k ∈ s.groupKeys, ¬ beaconSigned (f.segs.headD []) (x.pnOf (segSeq (f.segs.headD []))) k) :
    s.beaconHeard f x = s.countFld ML_CNT0 0 16 1 := by
  have hno : beaconMicOk (f.segs.headD []) (x.pnOf (segSeq (f.segs.headD []))) s.groupKeys = false := by
    rw [Bool.eq_false_iff]
    intro h
    obtain ⟨k, hk, hsigned⟩ := (beaconMicOk_iff _ _ _).mp h
    exact hmic k hk hsigned
  refine if_pos ?_
  rw [hno, Option.isSome_iff_ne_none.mpr hgroup]
  rfl

theorem State.askAssoc_eq (s : State) : ∃ c, s.askAssoc = s.modMl fun m => { m with
    st := 2, ephemeral := m.ephemeral + 1, reqOwn := m.ephemeral, reqAt := s.ticks, outMsgs := m.outMsgs ++ [(0, 0x01, c)] } :=
  ⟨_, rfl⟩

/-- A searching station takes a beacon's timing and asks to associate. -/
theorem State.beaconHeard_asks (hgroup : s.ml.group = none) (hst : s.ml.st = 1) :
    let b := beaconOf (segBody (f.segs.headD []))
    ∃ (ml : Mlink) (c : List Byte), s.beaconHeard f x = { s with ml := ml } ∧ ml.st = 2 ∧ ml.cycle = b.cycle ∧
      ml.length = b.lengthUs.toNat ∧ ml.outMsgs = s.ml.outMsgs ++ [(0, 0x01, c)] ∧ ml.start = some (s.frameStart f.fc) ∧
      ml.missed = 0 ∧ ml.noBeacon = false := by
  let b := beaconOf (segBody (f.segs.headD []))
  obtain ⟨rx, hrx⟩ := s.setRxLink_eq { x with next := x.pnOf (segSeq (f.segs.headD [])) + 1 }
  have htake : (s.setRxLink { x with next := x.pnOf (segSeq (f.segs.headD [])) + 1 }).takeBeacon b (s.frameStart f.fc) =
      s.modMl fun m => { m with
        rx := rx, cycle := b.cycle, length := b.lengthUs.toNat, start := some (s.frameStart f.fc), missed := 0, noBeacon := false
        beaconAt := s.ticks } := by
    rw [hrx, State.takeBeacon]
    refine if_pos ?_
    show s.ml.group.isNone = true
    rw [hgroup]
    rfl
  have hheard : s.beaconHeard f x = (s.modMl fun m => { m with
      rx := rx, cycle := b.cycle, length := b.lengthUs.toNat, start := some (s.frameStart f.fc), missed := 0, noBeacon := false
      beaconAt := s.ticks }).askAssoc := by
    rw [State.beaconHeard]
    dsimp only
    rw [hgroup, htake]
    exact if_pos hst
  obtain ⟨c, hask⟩ := (s.modMl fun m => { m with
    rx := rx, cycle := b.cycle, length := b.lengthUs.toNat, start := some (s.frameStart f.fc), missed := 0, noBeacon := false
    beaconAt := s.ticks }).askAssoc_eq
  exact ⟨_, c, hheard.trans hask, rfl, rfl, rfl, rfl, rfl, rfl, rfl⟩

/-- A member with the group key takes all of a beacon. -/
theorem State.takeBeacon_member (hgroup : s.ml.group.isNone = false) (b : MlBeacon) (start : Nat) :
    ∃ ml : Mlink, s.takeBeacon b start = ({ s with ml := ml } : State).setReg ML_REGION (b.regions.setWidth 32) ∧ ml.st = s.ml.st ∧
      ml.cycle = b.cycle ∧ ml.start = some start ∧ ml.silent = b.silent.toNat ∧ ml.members = b.members ∧
      ml.changing = b.epochChanging := by
  refine ⟨{ s.ml with
      cycle := b.cycle, length := b.lengthUs.toNat, start := some start, missed := 0, noBeacon := false, beaconAt := s.ticks
      silent := b.silent.toNat, contLen := b.contLen.toNat, zcLostHead := b.zcLost, changing := b.epochChanging
      allocs := b.allocs.map fun a => (a.1, a.2.1.toNat, a.2.2.toNat), members := b.members }, ?_, rfl, rfl, rfl, rfl, rfl, rfl⟩
  have hkeyed : ¬ s.ml.group.isNone = true := ne_true_of_eq_false hgroup
  rw [State.takeBeacon]
  exact (if_neg hkeyed).trans rfl

/-- A member takes the timing and the schedule of a new beacon that a group key signed. -/
theorem State.beaconHeard_takes (hgroup : s.ml.group ≠ none) (hst : s.ml.st = 3)
    (hmic : ∃ k ∈ s.groupKeys, beaconSigned (f.segs.headD []) (x.pnOf (segSeq (f.segs.headD []))) k)
    (hnew : x.placed (x.pnOf (segSeq (f.segs.headD []))) = false) :
    let b := beaconOf (segBody (f.segs.headD []))
    ∃ ml : Mlink, s.beaconHeard f x = ({ s with ml := ml } : State).setReg ML_REGION (b.regions.setWidth 32) ∧ ml.st = 3 ∧
      ml.cycle = b.cycle ∧ ml.start = some (s.frameStart f.fc) ∧ ml.silent = b.silent.toNat ∧ ml.members = b.members ∧
      ml.changing = b.epochChanging := by
  let b := beaconOf (segBody (f.segs.headD []))
  let y : MlRxLink := { x with next := x.pnOf (segSeq (f.segs.headD [])) + 1 }
  obtain ⟨rx, hrx⟩ := s.setRxLink_eq y
  have hsome : s.ml.group.isNone = false := by simpa using Option.isSome_iff_ne_none.mpr hgroup
  have hheard : s.beaconHeard f x = if ((s.setRxLink y).takeBeacon b (s.frameStart f.fc)).ml.st = 1
      then ((s.setRxLink y).takeBeacon b (s.frameStart f.fc)).askAssoc else (s.setRxLink y).takeBeacon b (s.frameStart f.fc) := by
    rw [State.beaconHeard]
    dsimp only
    rw [(beaconMicOk_iff _ _ _).mpr hmic, hnew, Bool.not_true, Bool.and_false]
    rfl
  obtain ⟨ml, heq, hml⟩ := State.takeBeacon_member (s := s.modMl fun m => { m with rx := rx }) hsome b (s.frameStart f.fc)
  have hst3 : ((s.modMl fun m => { m with rx := rx }).takeBeacon b (s.frameStart f.fc)).ml.st ≠ 1 := by
    rw [heq]
    show ml.st ≠ 1
    rw [hml.1]
    exact hst.trans_ne (by decide)
  rw [hrx, if_neg hst3, heq] at hheard
  exact ⟨ml, hheard, hml.1.trans hst, hml.2⟩

end

/-- A member without its head's beacon counts it, and after BCNLOSS of them stops transmitting. -/
theorem beaconMissed_counts (hruns : s.mlRuns = true) (hrole : s.mlRole = 1) (hst : 2 ≤ s.ml.st.toNat) :
    exec .beaconMissed s = .next { s with ml := { s.ml with
      missed := s.ml.missed + 1, noBeacon := s.ml.noBeacon || decide (max 1 (bits (s.reg ML_CFG) 20 4) ≤ s.ml.missed + 1) } } := by
  refine congrArg Host.Outcome.next ((if_pos ?_).trans rfl)
  rw [hruns, hrole, decide_eq_true hst]
  rfl

theorem State.mlFrame.peersDown (h : s.mlFrame t) (reason : Byte) : s.mlFrame (t.peersDown reason) :=
  .foldl (fun v id => ((State.mlFrame.refl v).dropPeer id).peerItem _ _ _) _ h

/-- Ten seconds without a beacon end the peers' links, and association starts again. -/
theorem beaconLoss_restarts (hruns : s.mlRuns = true) (hrole : s.mlRole = 1) (hst : 2 ≤ s.ml.st.toNat) :
    ∃ t : State, exec .beaconLoss10s s = .next t ∧ s.mlFrame t ∧ t.ml.st = 1 ∧ t.ml.peers = [] ∧ t.ml.group = none ∧
      t.ml.myId = 0 ∧ t.ml.pend = [] := by
  refine ⟨_, congrArg Host.Outcome.next (if_pos ?_), (((State.mlFrame.refl s).advanceTo _).peersDown 2).modMl _, rfl, rfl, rfl, rfl, rfl⟩
  rw [hruns, hrole, decide_eq_true hst]
  rfl

end Sys2Proof.Machine
end

section
/-! PROOF. Backoff, the line's faults and the silent window (R236, R238, R242, R326). -/

open Sys2Proof Sys2Proof.Machine

namespace Sys2Proof.Machine

variable {s t : State}

theorem backoffExpiry_draws (hsend : s.mlMaySend = true) (hcw : 0 < s.ml.cw) (draw : Nat) :
    ∃ t : State, exec (.backoffExpiry draw) s = .next t ∧
      t = { s.advanceTo (s.ml.drawnAt + ticksOf (50 * t.ml.backoff)) with ml := t.ml } ∧
      t.ml = { s.ml with backoff := t.ml.backoff, ready := true } ∧ t.ml.backoff < s.ml.cw := by
  let v := s.advanceTo (s.ml.drawnAt + usTicks (50 * (draw % s.ml.cw)))
  let w := v.modMl fun m => { m with backoff := draw % s.ml.cw, ready := true }
  have hml : v.ml = s.ml := State.advanceTo_ml s _
  have hexec : exec (.backoffExpiry draw) s = .next w := by
    refine congrArg Host.Outcome.next ((if_pos hsend).trans ?_)
    show (v.modMl fun m => { m with backoff := draw % m.cw, ready := true }) = w
    rw [State.modMl, hml]
    show ({ v with ml := _ } : State) = { v with ml := { v.ml with backoff := draw % s.ml.cw, ready := true } }
    rw [hml]
  refine ⟨w, hexec, ?_, ?_, Nat.mod_lt _ hcw⟩
  · rw [← usTicks_eq]
    rfl
  · show { v.ml with backoff := draw % s.ml.cw, ready := true } = { s.ml with backoff := draw % s.ml.cw, ready := true }
    rw [hml]

theorem lineShort_holds (hwf : s.regsWf) (hruns : s.mlRuns = true) :
    ∃ t : State, exec .lineShort s = .next t ∧ s.mlFrame t ∧ t.ml = { s.ml with shortAt := some s.ticks } ∧ t.mlMaySend = false ∧
      (t.reg FLT_STATUS).getLsbD 14 = true := by
  let v := s.modMl fun m => { m with shortAt := some s.ticks }
  have hml : (v.mline 5).ml = { s.ml with shortAt := some s.ticks } := State.mline_ml v 5
  have hticks : (v.mline 5).ticks = s.ticks := State.mline_ticks v 5
  refine ⟨v.mline 5, congrArg Host.Outcome.next (if_pos hruns), ((State.Reports.refl s).modMl _ |>.mline 5).mlFrame, hml, ?_,
    State.mline_bit (s := v) hwf 5⟩
  rw [State.mlMaySend, hml, hticks]
  dsimp only
  rw [decide_eq_false (show ¬ s.ticks + usTicks 1000000 ≤ s.ticks by unfold usTicks; omega), Bool.and_false]

theorem lineOpen_reports (hwf : s.regsWf) (hruns : s.mlRuns = true) (hunseen : 3 ≤ s.ml.unseen) (hopen : s.ml.openLine = false) :
    ∃ t : State, exec .lineOpen s = .next t ∧ s.mlFrame t ∧ t.ml = { s.ml with openLine := true } ∧
      (t.reg FLT_STATUS).getLsbD 14 = true := by
  let v := s.modMl fun m => { m with openLine := true }
  refine ⟨v.mline 6, congrArg Host.Outcome.next (if_pos ?_), ((State.Reports.refl s).modMl _ |>.mline 6).mlFrame,
    State.mline_ml v 6, State.mline_bit (s := v) hwf 6⟩
  rw [hruns, hopen, decide_eq_true hunseen]
  rfl

/-- A K.CAL MAG that waits runs from a tick on (R270). -/
def Op.magRuns (now : Nat) (op : Op) : Op :=
  match op.eng with
  | .cal c => if op.calCode = 8 ∧ c.stage = .waitSwitch then { op with eng := .cal { c with stage := .measuring, since := now } } else op
  | _ => op

theorem Op.magRuns_id (now : Nat) (op : Op) : (op.magRuns now).id = op.id := by
  unfold Op.magRuns
  split
  · split <;> rfl
  · rfl

/-- The operation of a ticket after a change of every operation that keeps the tickets. -/
theorem State.op?_mapOps {o : OpId} {op : Op} (h : s.op? o = some op) {g : Op → Op} (hid : ∀ x, (g x).id = x.id) :
    ({ s with ops := s.ops.map g } : State).op? o = some (g op) := by
  have hkeep : (fun x : Op => x.id == o) ∘ g = fun x => x.id == o := funext fun x => by rw [Function.comp, hid]
  show (s.ops.map g).find? (·.id == o) = some (g op)
  unfold State.op? at h
  rw [List.find?_map, hkeep, h, Option.map_some]

/-- The noise of a silent window kept for its region, newest first (R236). -/
def State.noiseKept (s : State) (noise : List Nat) : State :=
  let r := s.ml.cycle.toNat % 6
  s.modMl fun m => { m with noise := if noise.isEmpty then m.noise
    else (r, noise) :: ((m.noise.filter (·.1 == r)).take 7 ++ m.noise.filter (·.1 != r)) }

/-- The maps towards every peer that is up looked at again after a measurement in a region. -/
def State.mapsReviewed (s : State) (r : Nat) : State :=
  (s.ml.peers.filter (·.up)).foldl (fun s p => (s.reviewMap p.id r).reviewMap p.id 7) s

/-- Every K.CAL MAG that waits runs. -/
def State.magsRun (s : State) : State := { s with ops := s.ops.map (Op.magRuns s.ticks) }

theorem silentWindow_exec (noise : List Nat) {start : Nat} (hruns : s.mlRuns = true) (hstart : s.ml.start = some start) :
    exec (.silentWindow noise) s = .next (((s.advanceTo (start + usTicks s.ml.silent)).noiseKept noise).mapsReviewed
      ((s.advanceTo (start + usTicks s.ml.silent)).ml.cycle.toNat % 6)).magsRun := by
  refine congrArg Host.Outcome.next ?_
  rw [hstart]
  exact (if_pos hruns).trans rfl

theorem State.mapsReviewed_tells (s : State) (r : Nat) : s.Tells (s.mapsReviewed r) :=
  .foldl (fun v _ => ((State.Tells.refl v).reviewMap _ _).reviewMap _ _) _ (.refl s)

theorem State.magsRun_op? {o : OpId} {op : Op} {c : CalSt} (hop : s.op? o = some op) (heng : op.eng = .cal c)
    (hstage : c.stage = .waitSwitch) (hcode : op.calCode = 8) :
    s.magsRun.op? o = some { op with eng := .cal { c with stage := .measuring, since := s.ticks } } := by
  refine (State.op?_mapOps hop (Op.magRuns_id _)).trans (congrArg some ?_)
  rw [Op.magRuns, heng]
  exact if_pos ⟨hcode, hstage⟩

theorem State.noiseKept_head {noise : List Nat} (h : noise ≠ []) (s : State) :
    (s.noiseKept noise).ml.noise.head? = some (s.ml.cycle.toNat % 6, noise) := by
  have hsome : ¬ noise.isEmpty = true := by simpa using h
  rw [State.noiseKept, State.modMl_ml]
  dsimp only
  rw [if_neg hsome]
  rfl

/-- The silent window keeps its noise and lets a K.CAL MAG run. -/
theorem silentWindow_measures (noise : List Nat) {start : Nat} {o : OpId} {op : Op} {c : CalSt} (hruns : s.mlRuns = true)
    (hstart : s.ml.start = some start) (hop : s.op? o = some op) (heng : op.eng = .cal c) (hstage : c.stage = .waitSwitch)
    (hcode : op.calCode = 8) :
    ∃ t : State, exec (.silentWindow noise) s = .next t ∧
      t = { s.advanceTo (start + ticksOf s.ml.silent) with ops := t.ops, ml := t.ml } ∧
      t.op? o = some { op with eng := .cal { c with stage := .measuring, since := t.ticks } } ∧
      (noise ≠ [] → t.ml.noise.head? = some (s.ml.cycle.toNat % 6, noise)) := by
  have hexec := silentWindow_exec noise hruns hstart
  rw [usTicks_eq] at hexec
  have hcycle : (s.advanceTo (start + ticksOf s.ml.silent)).ml.cycle = s.ml.cycle := by rw [State.advanceTo_ml]
  have hop' := (State.advanceTo_op_acc s (start + ticksOf s.ml.silent) o).trans hop
  generalize s.advanceTo (start + ticksOf s.ml.silent) = v at *
  have htells := (v.noiseKept noise).mapsReviewed_tells (v.ml.cycle.toNat % 6)
  generalize (v.noiseKept noise).mapsReviewed (v.ml.cycle.toNat % 6) = u at *
  have honly : u = { v with ml := u.ml } := htells.only_ml
  have hopu : u.op? o = some op := by
    rw [honly]
    exact hop'
  have hnoise : u.ml.noise = (v.noiseKept noise).ml.noise := (congrArg (fun x : State => x.ml.noise) htells.eq :)
  refine ⟨_, hexec, ?_, State.magsRun_op? hopu heng hstage hcode, fun h => ?_⟩
  · exact (congrArg (fun x : State => { x with ops := u.magsRun.ops }) honly :)
  · refine (congrArg List.head? hnoise).trans ((v.noiseKept_head h).trans ?_)
    rw [hcycle]

end Sys2Proof.Machine

open Sys2Proof Sys2Proof.Machine

/-- Settles O42, one command at a time. The MIC counter is R247's, ASSOC_REQ R245's and R246's, the noise of the silent window
R238's, K.CAL MAG R271's, HFON and the notch of a beacon R239's and R235's; that a beacon missed is one cycle without it is
assumption 45. -/
theorem mainsCycleFollowsBeacons : Obligations.MainsCycleFollowsBeacons := by
  intro s hwf
  refine ⟨fun dt hrole => zcEdge_times hrole dt, fun dt start hrole hstart => zcEdge_offset hwf hrole hstart dt,
    fun hrole hgone => zcLost_reports hwf hrole hgone, fun hruns hst => cycleStart_member hruns hst,
    fun hruns hst hlevel hpn => cycleStart_head hruns hst hlevel hpn, fun dt f s1 ha hrole hsrc => ?_,
    fun hruns hrole hst => ⟨beaconMissed_counts hruns hrole hst, beaconLoss_restarts hruns hrole hst⟩,
    fun draw hsend hcw => backoffExpiry_draws hsend hcw draw, fun hruns => lineShort_holds hwf hruns,
    fun hruns hunseen hopen => lineOpen_reports hwf hruns hunseen hopen,
    fun noise start o op c hruns hstart hop heng hstage hcode => silentWindow_measures noise hruns hstart hop heng hstage hcode⟩
  intro seg b pn signed hcrc hnid
  have hexec := beacon_exec ha hrole hsrc hcrc hnid
  obtain ⟨n, honly⟩ := s1.rxLink_only f.fc 0
  rw [honly] at hexec
  let v : State := { s1 with freeCtr := n }
  have hs1wf : s1.regsWf := State.accepts_wf ha hwf
  have hvwf : v.regsWf := hs1wf
  refine ⟨fun hgroup hmic => ?_, fun hgroup hst => ?_, fun hgroup hmic hst hnew => ?_⟩
  · rw [State.beaconHeard_unsigned (s := v) hgroup hmic] at hexec
    refine ⟨_, hexec, rfl, ?_⟩
    have hcnt : s1.reg ML_CNT0 = s.reg ML_CNT0 := State.accepts_reg ha (by decide) (by decide)
    have hfld : v.fld ML_CNT0 0 16 = s.fld ML_CNT0 0 16 := State.fld_congr (t := v) (s := s) hcnt 0 16
    rw [State.fld_countFld_same hvwf _ (by omega), hfld]
    rfl
  · obtain ⟨ml, c, hkept, hfacts⟩ := State.beaconHeard_asks (s := v) (f := f) (x := (s1.rxLink f.fc 0).1) hgroup hst
    rw [hkept] at hexec
    exact ⟨_, c, hexec, rfl, hfacts⟩
  · obtain ⟨ml, hkept, hst', hcycle, hbegin, hsilent, hmembers, hchanging⟩ :=
      State.beaconHeard_takes (s := v) (f := f) (x := (s1.rxLink f.fc 0).1) hgroup hst hmic hnew
    rw [hkept] at hexec
    exact ⟨_, hexec, rfl, hst', hcycle, hbegin, hsilent, hmembers, hchanging, State.reg_setReg_same (s := { v with ml := ml }) hvwf _ _,
      fun a hne => State.reg_setReg_other (s := { v with ml := ml }) _ hne⟩

end

section
/-! PROOF. The frames this station sends (R234, R235, R238, R242, R243). -/

open Sys2Proof Sys2Proof.Machine

namespace Sys2Proof.Machine

variable {s t u : State} {dst : BitVec 7} {link : BitVec 4} {l : MlLoad} {n pos slotEnd : Nat}

/-! ### The opportunity -/

/-- The frame of a kind that a station starts in an interval open to it. -/
def State.sendIn (s : State) (kind : MlTxKind) (bad : List Nat) (pos slotEnd : Nat) : Option State :=
  match kind with
  | .data k => if s.mlCarries k && decide (3 ≤ s.ml.st.toNat) then s.sendData k bad pos slotEnd else none
  | .management => s.sendMsg pos slotEnd
  | .sounding => s.sendSounding pos slotEnd
  | .sack => none

theorem State.sendKind_opens {kind : MlTxKind} (bad : List Nat) (hk : kind ≠ .sack)
    (h : s.opens (kind == .management) pos slotEnd) : s.sendKind kind bad = s.sendIn kind bad pos slotEnd := by
  obtain ⟨-, hsack, hair, hquiet, hpos, contended, hslot, hready⟩ := h
  have hfree : ¬ (!s.ml.sackDue.isEmpty || s.ml.onAir.isSome || decide (s.ticks < s.ml.quiet)) = true := by
    rw [hsack, hair]
    simpa using hquiet
  have hopen : ¬ (contended && !s.ml.ready) = true := by
    rw [Bool.and_eq_true]
    rintro ⟨hc, hno⟩
    rw [hready hc] at hno
    exact Bool.noConfusion hno
  have hkind : s.sendKind kind bad = if !s.ml.sackDue.isEmpty || s.ml.onAir.isSome || decide (s.ticks < s.ml.quiet) then none
      else match s.cyclePos with
        | none => none
        | some pos => match s.mlSlot (kind == .management) pos with
          | none => none
          | some (contended, slotEnd) => if contended && !s.ml.ready then none else s.sendIn kind bad pos slotEnd := by
    cases kind with
    | sack => exact absurd rfl hk
    | data k => rfl
    | management => rfl
    | sounding => rfl
  rw [hkind, if_neg hfree, hpos]
  dsimp only
  rw [hslot]
  exact if_neg hopen

/-- What a transmission says of the line. -/
def txNotes (x : MlTx) (m : Mlink) : Mlink :=
  { m with shortAt := none, unseen := if x.seen then 0 else m.unseen + 1, openLine := m.openLine && !x.seen }

/-- The frame of an opportunity sent, when there is one. -/
def State.transmits (s : State) (x : MlTx) : State :=
  match s.sendKind x.kind x.bad with
  | none => s
  | some t => t.modMl (txNotes x)

/-- The link that a data frame's ring lacks is asked for. -/
def State.asksFor (s : State) (x : MlTx) : State :=
  match x.kind with
  | .data k => s.askLink k
  | _ => s

theorem transmit_exec (dt : Nat) (x : MlTx) (s : State) : exec (.mlFrameTransmit dt x) s =
    .next (if (s.advance dt).mlMaySend then ((s.advance dt).asksFor x).transmits x else s.advance dt) := rfl

theorem transmit_sends {dt : Nat} {x : MlTx} (hs1 : u = s.advance dt) (hsend : u.mlMaySend = true) (hask : u.asksFor x = u)
    (hkind : u.sendKind x.kind x.bad = some t) : exec (.mlFrameTransmit dt x) s = .next (t.modMl (txNotes x)) := by
  subst hs1
  rw [transmit_exec, if_pos hsend, hask, State.transmits, hkind]

theorem transmit_held {dt : Nat} (x : MlTx) (hsend : (s.advance dt).mlMaySend = false) :
    exec (.mlFrameTransmit dt x) s = .next (s.advance dt) := by
  rw [transmit_exec, if_neg (ne_true_of_eq_false hsend)]

/-! ### Sending links -/

theorem State.txLink_names (s : State) (dst : BitVec 7) (link : BitVec 4) :
    (s.txLink dst link).dst = dst ∧ (s.txLink dst link).link = link := by
  unfold State.txLink
  cases h : s.ml.tx.find? fun x => x.dst == dst && x.link == link with
  | none => exact ⟨rfl, rfl⟩
  | some x => simpa using List.find?_some h

theorem State.txLink_setTxLink (s : State) {x : MlTxLink} (hdst : x.dst = dst) (hlink : x.link = link) :
    (s.setTxLink x).txLink dst link = x := by
  subst hdst hlink
  simp [State.txLink, State.setTxLink, State.modMl]

/-! ### A loading -/

theorem ite_le_one (c : Prop) [Decidable c] : (if c then 1 else 0) ≤ 1 := by
  split <;> omega

theorem State.segsFit_one (s : State) (l : MlLoad) (pos slotEnd : Nat) (sack : Bool) : s.segsFit l pos slotEnd 1 sack ≤ 1 := by
  unfold State.segsFit
  dsimp only
  split
  · exact Nat.zero_le _
  · exact ite_le_one _

/-- Of one segment one is sent. -/
theorem State.pickLoad_one {sack : Bool} : ∀ {ls : List MlLoad}, s.pickLoad pos slotEnd 1 sack ls = some (l, n) → n = 1
  | [], h => by simp [State.pickLoad] at h
  | x :: ls, h => by
    rw [State.pickLoad] at h
    split at h
    · exact State.pickLoad_one h
    · next hfit =>
      have hle := s.segsFit_one x pos slotEnd sack
      obtain ⟨-, hn⟩ := Prod.mk.inj (Option.some.inj h)
      omega

/-! ### A frame of one segment -/

/-- `t` is `s` after a unicast frame of the one segment `g`, the first sending of it, on the link that `x` was. -/
structure State.SentOne (s t : State) (x : MlTxLink) (ftype : BitVec 4) (l : MlLoad) (g : MlOut) : Prop where
  only : t = { s with ml := t.ml }
  link : t.txLink x.dst x.link = { x with out := [{ g with tries := g.tries + 1 }] }
  msgs : t.ml.outMsgs = s.ml.outMsgs
  onAir : ∃ due, t.ml.onAir = some ⟨x.dst, x.link, [g.pn], due⟩
  sent : ∃ notch, t.ml.sent =
    some ⟨mlFc ftype s.mlSrc x.dst x.link l notch s.mlHfon (l.symbols 1) 1 (BitVec.ofNat 8 g.pn), [g.seg]⟩

theorem State.sendFrame_one {x : MlTxLink} {g : MlOut} (hout : x.out = [g]) (hdst : x.dst ≠ 0x7F) (s : State) (ftype : BitVec 4)
    (l : MlLoad) (notch : Bool) : s.SentOne (s.sendFrame x ftype l notch 1) x ftype l g := by
  have hbc : (x.dst == 0x7F) = false := by simpa using hdst
  have heq : ∃ ended, s.sendFrame x ftype l notch 1 =
      (s.setTxLink { x with out := [{ g with tries := g.tries + 1 }] }).modMl fun m => { m with
        sent := some ⟨mlFc ftype s.mlSrc x.dst x.link l notch s.mlHfon (l.symbols 1) 1 (BitVec.ofNat 8 g.pn), [g.seg]⟩
        onAir := some ⟨x.dst, x.link, [g.pn], ended⟩
        ready := false, drawnAt := ended, quiet := ended + gapTicks } := by
    rw [State.sendFrame, hbc, hout]
    exact ⟨_, rfl⟩
  obtain ⟨ended, heq⟩ := heq
  rw [heq]
  exact ⟨rfl, s.txLink_setTxLink rfl rfl, rfl, ⟨ended, rfl⟩, ⟨notch, rfl⟩⟩

/-- The notes of the line leave what was sent as it is. -/
theorem State.SentOne.notes {x : MlTxLink} {ftype : BitVec 4} {g : MlOut} (h : s.SentOne t x ftype l g) (y : MlTx) :
    s.SentOne (t.modMl (txNotes y)) x ftype l g :=
  ⟨(congrArg (fun v : State => v.modMl (txNotes y)) h.only :), h.link, h.msgs, h.onAir, h.sent⟩

/-! ### A data frame -/

/-- `t` is `s` after `j` words were taken from a ring. -/
structure State.WordsTaken (s t : State) (m : RingNo) (j : Nat) : Prop where
  only : t = { s with rings := t.rings }
  words : (t.ring m).words = (s.ring m).words.drop j
  others : ∀ k, k ≠ m → t.ring k = s.ring k

theorem State.takeWords_good (m : RingNo) : ∀ (j i : Nat) (s : State), j ≤ (s.ring m).words.length →
    ∃ t, s.takeWords m [] i j = (t, (s.ring m).words.take j) ∧ s.WordsTaken t m j
  | 0, _, s, _ => ⟨s, rfl, rfl, rfl, fun _ _ => rfl⟩
  | j + 1, i, s, hj => by
    cases hw : (s.ring m).words with
    | nil => simp [hw] at hj
    | cons w ws =>
      have htook : ((s.tookWord m w ws).ring m).words = ws := by rw [State.tookWord, State.ring_modRing_same]
      have hgood : s.ringTake m (([] : List Nat).contains i) = some (w, s.tookWord m w ws) := State.ringTake_good hw
      rw [hw, List.length_cons] at hj
      obtain ⟨t, htake, honly, hwords, hothers⟩ := State.takeWords_good m j (i + 1) (s.tookWord m w ws) (by rw [htook]; omega)
      refine ⟨t, ?_, honly, ?_, fun k hk => (hothers k hk).trans (State.ring_modRing_other s _ hk)⟩
      · rw [State.takeWords, hgood]
        dsimp only
        rw [htake, htook, List.take_succ_cons]
      · rw [hwords, htook, hw, List.drop_succ_cons]

theorem wholeWords_le : ∀ (ws : List RWord) (k best : Nat), best ≤ k → wholeWords ws k best ≤ k + ws.length
  | [], k, best, h => h
  | w :: ws, k, best, h => by
    have hstep := fun b (hb : b ≤ k + 1) => wholeWords_le ws (k + 1) b hb
    rw [wholeWords, List.length_cons]
    split
    · exact (hstep _ le_rfl).trans (by omega)
    · split
      · exact (hstep _ (by omega)).trans (by omega)
      · exact (hstep _ (by omega)).trans (by omega)

theorem State.mlReady_le (s : State) (m : RingNo) : s.mlReady m ≤ (s.ring m).words.length := by
  unfold State.mlReady
  dsimp only
  split
  · exact le_rfl
  · exact (wholeWords_le _ _ _ le_rfl).trans (by omega)

/-- One new segment of the words that are ready. -/
theorem State.newSegs_one {m : RingNo} {key : BitVec 128 × Byte} {y : MlTxLink} (hy : y.out = []) (hpn : pnSpent y.pn = false)
    (h0 : 0 < s.mlReady m) (h62 : s.mlReady m ≤ 62) :
    ∃ t, s.newSegs m key [] 0 y 1 =
      (t, { y with pn := y.pn + 1, out := [⟨y.pn, 0, s.dataSeg y key ((s.ring m).words.take (s.mlReady m))⟩] }) ∧
      s.WordsTaken t m (s.mlReady m) := by
  obtain ⟨t, htake, ht⟩ := State.takeWords_good m (s.mlReady m) 0 s (s.mlReady_le m)
  have hgo : ¬ (s.mlReady m = 0 ∨ 128 ≤ y.out.length ∨ pnSpent y.pn = true) := by
    rw [hy, hpn]
    simp
    omega
  have hseg : t.dataSeg y key ((s.ring m).words.take (s.mlReady m)) = s.dataSeg y key ((s.ring m).words.take (s.mlReady m)) := by
    rw [ht.only]
    rfl
  refine ⟨t, ?_, ht⟩
  rw [State.newSegs]
  dsimp only
  rw [Nat.min_eq_right h62, if_neg hgo, htake, hy]
  dsimp only
  rw [hseg]
  rfl

theorem State.sendData_new {k : Fin 16} {key : BitVec 128 × Byte} {keys : List (BitVec 128 × Byte)}
    (hd : (s.reg (ML_LINK k)).extractLsb' 8 7 = dst) (hl : (s.reg (ML_LINK k)).extractLsb' 0 4 = link)
    (hdst : dst ≠ 0x7F) (hkeys : s.mlKeys dst false = key :: keys) (hy : (s.txLink dst link).out = [])
    (hpn : pnSpent (s.txLink dst link).pn = false) (h0 : 0 < s.mlReady (egRing k)) (h62 : s.mlReady (egRing k) ≤ 62)
    (hpick : s.pickLoad pos slotEnd 1 true (s.loadsFor dst (s.mlNotch dst) pos) = some (l, n)) :
    let y := s.txLink dst link
    let g : MlOut := ⟨y.pn, 0, s.dataSeg y key ((s.ring (egRing k)).words.take (s.mlReady (egRing k)))⟩
    ∃ (u t : State), s.sendData k [] pos slotEnd = some t ∧ s.WordsTaken u (egRing k) (s.mlReady (egRing k)) ∧
      u.SentOne t { y with pn := y.pn + 1, out := [g] } 1 l g := by
  have hn : n = 1 := State.pickLoad_one hpick
  subst hn
  have hbc : (dst == 0x7F) = false := by simpa using hdst
  have hwant : (s.txLink dst link).out.length + (s.mlReady (egRing k) + 61) / 62 = 1 := by
    rw [hy, List.length_nil]
    omega
  have hcount : 1 - (s.txLink dst link).out.length = 1 := by rw [hy]; rfl
  obtain ⟨u, hnew, hu⟩ := State.newSegs_one (key := key) hy hpn h0 h62
  refine ⟨u, _, ?_, hu, State.sendFrame_one rfl ?_ _ 1 l (s.mlNotch dst)⟩
  · rw [State.sendData]
    dsimp only
    rw [hd, hl, hbc, hkeys]
    dsimp only
    rw [hwant, bne, hbc, Bool.not_false, hpick]
    dsimp only
    rw [hcount, hnew]
    rfl
  · exact fun h => hdst ((s.txLink_names dst link).1.symm.trans h)

end Sys2Proof.Machine
end

section
/-! PROOF. A data frame, a message, a SACK and a sounding frame at their opportunity (R237, R238, R242, R243). -/

open Sys2Proof Sys2Proof.Machine

namespace Sys2Proof.Machine

variable {s s1 t u : State} {dst : BitVec 7} {link : BitVec 4} {l : MlLoad} {dt n pos slotEnd : Nat} {x : MlTx}

/-! ### Data -/

/-- A link that is up and has numbers left is not asked for. -/
theorem State.askLink_up {k : Fin 16} (hd : (s.reg (ML_LINK k)).extractLsb' 8 7 = dst) (hl : (s.reg (ML_LINK k)).extractLsb' 0 4 = link)
    (hup : s.peerUp dst = true) (hpn : pnSpent (s.txLink dst link).pn = false) : s.askLink k = s := by
  rw [State.askLink, hd, hl, hup, hpn]
  simp

theorem data_sends {k : Fin 16} {key : BitVec 128 × Byte} {keys : List (BitVec 128 × Byte)} (hs1 : s1 = s.advance dt)
    (hkind : x.kind = .data k) (hbad : x.bad = []) (hopen : s1.opens false pos slotEnd)
    (hd : (s1.reg (ML_LINK k)).extractLsb' 8 7 = dst) (hl : (s1.reg (ML_LINK k)).extractLsb' 0 4 = link)
    (hcarries : s1.mlCarries k = true) (hdst : dst ≠ 0x7F) (hst : 3 ≤ s1.ml.st.toNat) (hup : s1.peerUp dst = true)
    (hkeys : s1.mlKeys dst false = key :: keys) (hy : (s1.txLink dst link).out = []) (hpn : pnSpent (s1.txLink dst link).pn = false)
    (h0 : 0 < s1.mlReady (egRing k)) (h62 : s1.mlReady (egRing k) ≤ 62)
    (hpick : s1.pickLoad pos slotEnd 1 true (s1.loadsFor dst (s1.mlNotch dst) pos) = some (l, n)) :
    let y := s1.txLink dst link
    let g : MlOut := ⟨y.pn, 0, s1.dataSeg y key ((s1.ring (egRing k)).words.take (s1.mlReady (egRing k)))⟩
    ∃ u t : State, exec (.mlFrameTransmit dt x) s = .next t ∧ s1.WordsTaken u (egRing k) (s1.mlReady (egRing k)) ∧
      u.SentOne t { y with pn := y.pn + 1, out := [g] } 1 l g := by
  intro y g
  obtain ⟨u, t, hsend, hu, ht⟩ := State.sendData_new hd hl hdst hkeys hy hpn h0 h62 hpick
  have hask : s1.asksFor x = s1 := by
    rw [State.asksFor, hkind]
    exact State.askLink_up hd hl hup hpn
  have hmay : (s1.mlCarries k && decide (3 ≤ s1.ml.st.toNat)) = true := by
    rw [hcarries, decide_eq_true hst]
    rfl
  have hgo : s1.sendKind x.kind x.bad = some t := by
    rw [hkind, hbad]
    exact (State.sendKind_opens (kind := .data k) [] nofun hopen).trans ((if_pos hmay).trans hsend)
  exact ⟨u, _, transmit_sends hs1 hopen.1 hask hgo, hu, ht.notes x⟩

/-! ### Messages -/

theorem halfBytes_length (h : BitVec 16) : (halfBytes h).length = 2 := rfl

/-- A message type in the clear that fits one segment is one segment on a link with none outstanding. -/
theorem State.formMsg_one {mt : Byte} {c : List Byte} (hopen : mtypeOpen mt = true) (hlen : c.length ≤ 500)
    (hout : (s.txLink dst 0).out = []) (hpn : pnSpent (s.txLink dst 0).pn = false) :
    s.formMsg dst mt c = s.setTxLink { s.txLink dst 0 with
      pn := (s.txLink dst 0).pn + 1
      out := [⟨(s.txLink dst 0).pn, 0, segPlain (segHead (s.txLink dst 0).pn ((c.length + 11) / 8) 63 false)
        ([mt, 0] ++ halfBytes (BitVec.ofNat 16 c.length) ++ c)⟩] } := by
  have hbytes : ([mt, 0] ++ halfBytes (BitVec.ofNat 16 c.length) ++ c).length = c.length + 4 := by
    simp [halfBytes_length]
    omega
  have hone : ([mt, 0] ++ halfBytes (BitVec.ofNat 16 c.length) ++ c).length + 503 = 504 * 1 + (c.length + 3) := by omega
  have hn : (([mt, 0] ++ halfBytes (BitVec.ofNat 16 c.length) ++ c).length + 503) / 504 = 1 := by omega
  have hseg : s.msgSeg (s.txLink dst 0) none ([mt, 0] ++ halfBytes (BitVec.ofNat 16 c.length) ++ c) 0 =
      ⟨(s.txLink dst 0).pn, 0, segPlain (segHead (s.txLink dst 0).pn ((c.length + 11) / 8) 63 false)
        ([mt, 0] ++ halfBytes (BitVec.ofNat 16 c.length) ++ c)⟩ := by
    have hbody : (([mt, 0] ++ halfBytes (BitVec.ofNat 16 c.length) ++ c).drop (504 * 0)).take 504 =
        [mt, 0] ++ halfBytes (BitVec.ofNat 16 c.length) ++ c := List.take_of_length_le (by rw [Nat.mul_zero, List.drop_zero]; omega)
    rw [State.msgSeg]
    simp only [Option.isSome_none, Bool.false_eq_true, if_false, hbody, hbytes, Nat.add_zero, Nat.add_assoc]
  rw [State.formMsg]
  simp only [hopen, if_true, Option.isSome_none, Bool.false_eq_true, if_false, hn, hpn, Bool.not_true, Bool.false_and, or_false,
    hout, List.nil_append]
  rw [if_neg (by omega)]
  simp only [List.range_one, List.map_cons, List.map_nil, hseg]

/-- A change of the links and messages alone leaves the loadings and their fit as they are. -/
theorem State.pickLoad_modMl (s : State) (tx : List MlTxLink) (ms : List (BitVec 7 × Byte × List Byte)) (pos slotEnd want : Nat)
    (sack : Bool) : ∀ ls : List MlLoad, (s.modMl fun m => { m with tx := tx, outMsgs := ms }).pickLoad pos slotEnd want sack ls =
      s.pickLoad pos slotEnd want sack ls
  | [] => rfl
  | l :: ls => by
    rw [State.pickLoad, State.pickLoad, State.pickLoad_modMl s tx ms pos slotEnd want sack ls]
    rfl

theorem State.sendMsg_first {mt : Byte} {c : List Byte} {rest : List (BitVec 7 × Byte × List Byte)}
    (hidle : ∀ y ∈ s.ml.tx, y.link = 0 → y.out = []) (hmsgs : s.ml.outMsgs = (dst, mt, c) :: rest) (hdst : dst ≠ 0x7F)
    (hopen : mtypeOpen mt = true) (hlen : c.length ≤ 500) (hpn : pnSpent (s.txLink dst 0).pn = false)
    (hpick : s.pickLoad pos slotEnd 1 true [s.robust (s.mlNotch dst)] = some (l, n)) :
    let y := s.txLink dst 0
    let g : MlOut := ⟨y.pn, 0, segPlain (segHead y.pn ((c.length + 11) / 8) 63 false)
      ([mt, 0] ++ halfBytes (BitVec.ofNat 16 c.length) ++ c)⟩
    ∃ u t : State, s.sendMsg pos slotEnd = some t ∧ u = { s with ml := u.ml } ∧ u.ml.outMsgs = rest ∧
      u.SentOne t { y with pn := y.pn + 1, out := [g] } 2 l g := by
  intro y g
  have hn : n = 1 := State.pickLoad_one hpick
  subst hn
  have hout : y.out = [] := by
    show (State.txLink s dst 0).out = []
    unfold State.txLink
    cases hfind : s.ml.tx.find? fun x => x.dst == dst && x.link == 0 with
    | none => rfl
    | some z =>
      have hz := List.find?_some hfind
      rw [Bool.and_eq_true, beq_iff_eq, beq_iff_eq] at hz
      exact hidle z (List.mem_of_find?_eq_some hfind) hz.2
  have hno : ¬ (s.ml.tx.any fun x => x.link == 0 && !x.out.isEmpty) = true := by
    rw [List.any_eq_true]
    rintro ⟨z, hz, hbusy⟩
    rw [Bool.and_eq_true, beq_iff_eq] at hbusy
    rw [hidle z hz hbusy.1] at hbusy
    exact Bool.noConfusion hbusy.2
  let y' : MlTxLink := { y with pn := y.pn + 1, out := [g] }
  let u : State := s.modMl fun m => { m with tx := y' :: m.tx.filter fun z => !(z.dst == y.dst && z.link == y.link), outMsgs := rest }
  have hload : s.loadMsg = u := by
    rw [State.loadMsg, if_neg hno, hmsgs]
    dsimp only
    exact State.formMsg_one (s := s.modMl fun m => { m with outMsgs := rest }) hopen hlen hout hpn
  have hfind : (u.ml.tx.find? fun x => x.link == 0 && !x.out.isEmpty) = some y' := by
    refine List.find?_cons_of_pos ?_
    show (y.link == 0 && !false) = true
    rw [(s.txLink_names dst 0).2]
    rfl
  have hyd : y.dst = dst := (s.txLink_names dst 0).1
  have hbc : (dst != 0x7F) = true := by simpa using hdst
  have hfit : u.pickLoad pos slotEnd 1 true [u.robust (u.mlNotch dst)] = some (l, 1) :=
    (s.pickLoad_modMl _ _ pos slotEnd 1 true _).trans hpick
  refine ⟨u, u.sendFrame y' 2 l (u.mlNotch dst) 1, ?_, rfl, rfl, State.sendFrame_one rfl (hyd ▸ hdst) _ _ _ _⟩
  rw [State.sendMsg, hload]
  dsimp only
  rw [hfind]
  dsimp only
  rw [show y'.dst = dst from hyd, show y'.out.length = 1 from rfl, hbc, hfit]
  rfl

/-! ### SACK and sounding -/

/-- A SACK with TMREQ asks once. -/
theorem State.mapAsked_only (s : State) (id : BitVec 7) (tm : Bool) :
    (if tm = true then s.modPeer id fun p => { p with tmreq := false } else s) =
      { s with ml := (if tm = true then s.modPeer id fun p => { p with tmreq := false } else s).ml } := by
  split
  · rw [State.modPeer_eq]
    rfl
  · rfl

theorem State.sendSack_due {k : MlSackDue} {ks : List MlSackDue} (hdue : s.ml.sackDue = k :: ks) :
    ∃ (t : State) (b : MlSent), s.sendSack = some t ∧ t = { s.advanceTo k.tick with ml := t.ml } ∧ t.ml.sackDue = ks ∧
      t.ml.sent = some b ∧ b.segs = [] ∧ fcOk b.fc = true ∧ fcType b.fc = 3 ∧ fcDst b.fc = k.dst ∧ fcSeq b.fc = k.base ∧
      fcBits b.fc = k.bits ∧ fcBit67 b.fc = k.negated := by
  rw [State.sendSack, hdue]
  dsimp only
  refine ⟨_, _, rfl, ?_, rfl, rfl, rfl, fcOk_sackFc _ _ _ _ _ _ _, fcType_sackFc _ _ _ _ _ _ _, fcDst_sackFc _ _ _ _ _ _ _,
    fcSeq_sackFc _ _ _ _ _ _ _, fcBits_sackFc _ _ _ _ _ _ _, fcBit67_sackFc _ _ _ _ _ _ _⟩
  exact State.only_modMl (State.mapAsked_only _ _ _) _

/-- A bit cleared is clear. -/
theorem getLsbD_clear {w : Nat} (x : BitVec w) (r : Nat) : (x &&& ~~~ BitVec.ofNat w (2 ^ r)).getLsbD r = false := by
  rw [BitVec.getLsbD_and, BitVec.getLsbD_not, BitVec.getLsbD_ofNat, Nat.testBit_two_pow_self, Bool.and_true]
  cases decide (r < w)
  · exact Bool.and_false _
  · exact Bool.and_false _

theorem State.sendSounding_first {p : MlPeer} {ps : List MlPeer} (hpeers : s.ml.peers = p :: ps)
    (hreq : p.soundReq.getLsbD (s.regionAt pos).1 = true) (hfit : pos + frameTicks false 4 ≤ min slotEnd (s.regionAt pos).2)
    (hclear : s.clearOf pos (frameTicks false 4) = true) :
    ∃ (t : State) (b : MlSent) (q : MlPeer), s.sendSounding pos slotEnd = some t ∧ t = { s with ml := t.ml } ∧ t.ml.sent = some b ∧
      fcType b.fc = 4 ∧ fcDst b.fc = p.id ∧ t.peer? p.id = some q ∧ q.soundReq.getLsbD (s.regionAt pos).1 = false := by
  have hp : s.peer? p.id = some p := by
    rw [State.peer?, hpeers]
    exact List.find?_cons_of_pos (beq_self_eq_true _)
  have hq := State.peer?_modPeer_of hp
    (f := fun p => { p with soundReq := p.soundReq &&& ~~~ BitVec.ofNat 6 (2 ^ (s.regionAt pos).1) }) fun _ => rfl
  have hfind : (s.ml.peers.find? fun p => p.soundReq.getLsbD (s.regionAt pos).1) = some p := by
    rw [hpeers]
    exact List.find?_cons_of_pos hreq
  have hgo : pos + frameTicks false 4 ≤ min slotEnd (s.regionAt pos).2 ∧ s.clearOf pos (frameTicks false 4) = true := ⟨hfit, hclear⟩
  rw [State.sendSounding]
  dsimp only
  rw [hfind]
  dsimp only
  rw [if_pos hgo]
  refine ⟨_, _, _, rfl, ?_, rfl, fcType_mlFc _ _ _ _ _ _ _ _ _ _, fcDst_mlFc _ _ _ _ _ _ _ _ _ _, hq, getLsbD_clear _ _⟩
  rw [State.modPeer_eq]
  rfl

/-! ### The commands -/

theorem message_sends {mt : Byte} {c : List Byte} {rest : List (BitVec 7 × Byte × List Byte)} (hs1 : s1 = s.advance dt)
    (hkind : x.kind = .management) (hopens : s1.opens true pos slotEnd) (hidle : ∀ y ∈ s1.ml.tx, y.link = 0 → y.out = [])
    (hmsgs : s1.ml.outMsgs = (dst, mt, c) :: rest) (hdst : dst ≠ 0x7F) (hopen : mtypeOpen mt = true) (hlen : c.length ≤ 500)
    (hpn : pnSpent (s1.txLink dst 0).pn = false)
    (hpick : s1.pickLoad pos slotEnd 1 true [s1.robust (s1.mlNotch dst)] = some (l, n)) :
    let y := s1.txLink dst 0
    let g : MlOut := ⟨y.pn, 0, segPlain (segHead y.pn ((c.length + 11) / 8) 63 false)
      ([mt, 0] ++ halfBytes (BitVec.ofNat 16 c.length) ++ c)⟩
    ∃ u t : State, exec (.mlFrameTransmit dt x) s = .next t ∧ u = { s1 with ml := u.ml } ∧ u.ml.outMsgs = rest ∧
      u.SentOne t { y with pn := y.pn + 1, out := [g] } 2 l g := by
  intro y g
  obtain ⟨u, t, hsend, honly, hrest, ht⟩ := State.sendMsg_first hidle hmsgs hdst hopen hlen hpn hpick
  have hgo : s1.sendKind x.kind x.bad = some t := by
    rw [hkind]
    exact (State.sendKind_opens (kind := .management) x.bad nofun hopens).trans hsend
  exact ⟨u, _, transmit_sends hs1 hopens.1 (by rw [State.asksFor, hkind]) hgo, honly, hrest, ht.notes x⟩

theorem sack_sends {k : MlSackDue} {ks : List MlSackDue} (hs1 : s1 = s.advance dt) (hkind : x.kind = .sack)
    (hsend : s1.mlMaySend = true) (hdue : s1.ml.sackDue = k :: ks) :
    ∃ (t : State) (b : MlSent), exec (.mlFrameTransmit dt x) s = .next t ∧ t = { s1.advanceTo k.tick with ml := t.ml } ∧
      t.ml.sackDue = ks ∧ t.ml.sent = some b ∧ b.segs = [] ∧ fcOk b.fc = true ∧ fcType b.fc = 3 ∧ fcDst b.fc = k.dst ∧
      fcSeq b.fc = k.base ∧ fcBits b.fc = k.bits ∧ fcBit67 b.fc = k.negated := by
  obtain ⟨t, b, hgo, honly, hks, hsent, hfacts⟩ := State.sendSack_due hdue
  have hkindgo : s1.sendKind x.kind x.bad = some t := by
    rw [hkind]
    exact hgo
  exact ⟨_, b, transmit_sends hs1 hsend (by rw [State.asksFor, hkind]) hkindgo, State.only_modMl honly _, hks, hsent, hfacts⟩

theorem sounding_sends {p : MlPeer} {ps : List MlPeer} (hs1 : s1 = s.advance dt) (hkind : x.kind = .sounding)
    (hopens : s1.opens false pos slotEnd) (hpeers : s1.ml.peers = p :: ps)
    (hreq : p.soundReq.getLsbD (s1.regionAt pos).1 = true) (hfit : pos + frameTicks false 4 ≤ min slotEnd (s1.regionAt pos).2)
    (hclear : s1.clearOf pos (frameTicks false 4) = true) :
    ∃ (t : State) (b : MlSent) (q : MlPeer), exec (.mlFrameTransmit dt x) s = .next t ∧ t = { s1 with ml := t.ml } ∧
      t.ml.sent = some b ∧ fcType b.fc = 4 ∧ fcDst b.fc = p.id ∧ t.peer? p.id = some q ∧
      q.soundReq.getLsbD (s1.regionAt pos).1 = false := by
  obtain ⟨t, b, q, hgo, honly, hsent, hfacts⟩ := State.sendSounding_first hpeers hreq hfit hclear
  have hkindgo : s1.sendKind x.kind x.bad = some t := by
    rw [hkind]
    exact (State.sendKind_opens (kind := .sounding) x.bad nofun hopens).trans hgo
  exact ⟨_, b, q, transmit_sends hs1 hopens.1 (by rw [State.asksFor, hkind]) hkindgo, State.only_modMl honly _, hsent, hfacts⟩

end Sys2Proof.Machine
end

section
/-! PROOF. Acknowledgement and repair: a SACK heard, and one that is missing (R242, R243). -/

open Sys2Proof Sys2Proof.Machine

namespace Sys2Proof.Machine

variable {s s1 t u : State} {dst : BitVec 7} {link : BitVec 4} {acked : Byte → Bool} {dt : Nat} {f : MlFrame} {a : MlOnAir}

/-- `t` is `s` after the segments of a frame on a link were acknowledged, or not. -/
structure State.Settled (s t : State) (dst : BitVec 7) (link : BitVec 4) (acked : Byte → Bool) : Prop where
  only : t = { s with regs := t.regs, ml := t.ml }
  cw : t.ml.cw = s.ml.cw
  onAir : t.ml.onAir = s.ml.onAir
  out : (t.txLink dst link).out = ((s.txLink dst link).out.filter fun g => !acked (BitVec.ofNat 8 g.pn)).filter
    fun g => decide (g.tries < max 1 (s.fld ML_ARQ 0 8))

theorem State.settleFrame_settled (s : State) (dst : BitVec 7) (link : BitVec 4) (acked : Byte → Bool) :
    s.Settled (s.settleFrame dst link acked) dst link acked := by
  obtain ⟨hdst, hlink⟩ := s.txLink_names dst link
  refine ⟨rfl, rfl, rfl, ?_⟩
  exact congrArg MlTxLink.out (s.txLink_setTxLink
    (x := { s.txLink dst link with
      out := ((s.txLink dst link).out.filter fun g => !acked (BitVec.ofNat 8 g.pn)).filter
        fun g => decide (g.tries < max 1 (s.fld ML_ARQ 0 8)) }) hdst hlink)

/-- What is learned of the peers does not touch the sending links. -/
theorem State.Settled.tells (h : s.Settled t dst link acked) (hu : t.Tells u) : s.Settled u dst link acked := by
  have hml : u.ml = { t.ml with peers := u.ml.peers, outMsgs := u.ml.outMsgs } := congrArg State.ml hu.eq
  have htx : u.txLink dst link = t.txLink dst link := by
    rw [State.txLink, hml]
    rfl
  refine ⟨hu.only_ml.trans ?_, (congrArg Mlink.cw hml).trans h.cw, (congrArg Mlink.onAir hml).trans h.onAir, ?_⟩
  · rw [hu.regs]
    exact (congrArg (fun v : State => { v with ml := u.ml }) h.only :)
  · rw [htx]
    exact h.out

theorem State.Settled.mlFrame (h : s.Settled t dst link acked) : s.mlFrame t := by
  rw [h.only]
  exact State.mlFrame_of rfl fun _ => rfl

theorem State.Tells.countFrame (h : s.Tells t) (id : BitVec 7) (sent failed : Nat) : s.Tells (t.countFrame id sent failed) :=
  h.modPeer _ _

theorem State.Tells.ite {c : Prop} [Decidable c] (ht : s.Tells t) (hu : s.Tells u) : s.Tells (if c then t else u) := by
  split
  · exact ht
  · exact hu

/-- How a peer sees this station leaves the sending links alone. -/
theorem State.seenBy_tx (s : State) (id : BitVec 7) (negated : Bool) : (s.seenBy id negated).ml.tx = s.ml.tx := by
  unfold State.seenBy
  extract_lets t1 _ _ t2
  have h2 : t2.ml.tx = s.ml.tx := by
    unfold t2 t1
    rw [State.modPeer_eq]
    rfl
  split
  · rw [State.mline_ml]
    exact h2
  · exact h2

/-- The SACK that a frame awaits has come. -/
def State.acknowledged (s : State) (a : MlOnAir) (negated : Bool) : State :=
  (s.seenBy a.dst negated).modMl fun m => { m with cw := 8, onAir := none, drawnAt := s.ticks }

/-- The segments of a frame settled, and counted unless it was a message. -/
def State.settles (s : State) (a : MlOnAir) (acked : Byte → Bool) : State :=
  if a.link = 0 then s.settleFrame a.dst a.link acked
  else (s.settleFrame a.dst a.link acked).countFrame a.dst a.pns.length (a.pns.filter fun n => !acked (BitVec.ofNat 8 n)).length

theorem State.settles_settled (s : State) (a : MlOnAir) (acked : Byte → Bool) : s.Settled (s.settles a acked) a.dst a.link acked :=
  (s.settleFrame_settled a.dst a.link acked).tells (.ite (.refl _) ((State.Tells.refl _).countFrame _ _ _))

theorem sack_exec (ha : s.accepts 3 dt f s1) (hair : s1.ml.onAir = some a) (hsrc : fcSrc f.fc = a.dst) (hme : s1.forMe f.fc = true) :
    exec (.sack dt f) s = .next (
      let t := (s1.acknowledged a (fcBit67 f.fc)).settles a (sackBit (fcSeq f.fc) (fcBits f.fc))
      if fcTmreq f.fc then t.sendMaps a.dst else t) := by
  refine congrArg Host.Outcome.next ((State.rxFrame_accepts ha _).trans ?_)
  dsimp only
  rw [hair]
  rw [State.settles, State.acknowledged]
  have hmine : ¬ (a.dst != fcSrc f.fc || !s1.forMe f.fc) = true := by
    rw [hsrc, hme]
    simp
  dsimp only
  rw [if_neg hmine]

theorem sack_settles (ha : s.accepts 3 dt f s1) (hair : s1.ml.onAir = some a) (hsrc : fcSrc f.fc = a.dst) (hme : s1.forMe f.fc = true) :
    ∃ t : State, exec (.sack dt f) s = .next t ∧ s1.mlFrame t ∧ t.ml.cw = 8 ∧ t.ml.onAir = none ∧
      ∀ g ∈ (t.txLink a.dst a.link).out, g ∈ (s1.txLink a.dst a.link).out ∧
        sackBit (fcSeq f.fc) (fcBits f.fc) (BitVec.ofNat 8 g.pn) = false ∧ g.tries < max 1 (bits (s.reg ML_ARQ) 0 8) := by
  have hrep : s1.Reports (s1.acknowledged a (fcBit67 f.fc)) := ((State.Reports.refl s1).seenBy _ _).modMl _
  have htx : (s1.acknowledged a (fcBit67 f.fc)).txLink a.dst a.link = s1.txLink a.dst a.link := by
    rw [State.txLink, show (s1.acknowledged a (fcBit67 f.fc)).ml.tx = s1.ml.tx from s1.seenBy_tx _ _]
    rfl
  have harq : (s1.acknowledged a (fcBit67 f.fc)).fld ML_ARQ 0 8 = bits (s.reg ML_ARQ) 0 8 :=
    (hrep.fld (by decide) (by decide) 0 8).trans (State.fld_congr (State.accepts_reg ha (by decide) (by decide)) 0 8)
  have hset := ((s1.acknowledged a (fcBit67 f.fc)).settles_settled a (sackBit (fcSeq f.fc) (fcBits f.fc))).tells
    (.ite (c := fcTmreq f.fc = true) ((State.Tells.refl _).sendMaps a.dst) (.refl _))
  refine ⟨_, sack_exec ha hair hsrc hme, hrep.mlFrame.trans hset.mlFrame, hset.cw, hset.onAir, fun g hg => ?_⟩
  dsimp only at hg
  rw [hset.out, htx, harq, List.mem_filter, List.mem_filter] at hg
  obtain ⟨⟨hmem, hack⟩, htries⟩ := hg
  exact ⟨hmem, by simpa using hack, by simpa using htries⟩

theorem sackMissing_exec (hruns : s.mlRuns = true) (hair : s.ml.onAir = some a) : exec .sackMissing s =
    .next (((s.advanceTo a.due).modMl fun m => { m with cw := min 64 (2 * m.cw), onAir := none }).settles a fun _ => false) := by
  refine congrArg Host.Outcome.next ?_
  rw [hair]
  dsimp only
  rw [if_pos hruns, State.settles, Bool.not_false, List.filter_true]

theorem sackMissing_settles (hruns : s.mlRuns = true) (hair : s.ml.onAir = some a) :
    ∃ t : State, exec .sackMissing s = .next t ∧ t = { s.advanceTo a.due with regs := t.regs, ml := t.ml } ∧
      t.ml.cw = min 64 (2 * s.ml.cw) ∧ t.ml.onAir = none ∧
      (t.txLink a.dst a.link).out =
        (s.txLink a.dst a.link).out.filter fun g => decide (g.tries < max 1 (bits (s.reg ML_ARQ) 0 8)) := by
  let v : State := (s.advanceTo a.due).modMl fun m => { m with cw := min 64 (2 * m.cw), onAir := none }
  have hset := v.settles_settled a fun _ => false
  have hml : (s.advanceTo a.due).ml = s.ml := State.advanceTo_ml s _
  have htx : (s.advanceTo a.due).ml.tx = s.ml.tx := congrArg Mlink.tx hml
  have hlink : v.txLink a.dst a.link = s.txLink a.dst a.link := by
    rw [State.txLink, show v.ml.tx = s.ml.tx from htx]
    rfl
  have harq : v.fld ML_ARQ 0 8 = bits (s.reg ML_ARQ) 0 8 :=
    State.fld_congr (t := v) (s := s) (State.advanceTo_reg_acc s _ ML_ARQ) 0 8
  refine ⟨_, sackMissing_exec hruns hair, hset.only, ?_, hset.onAir, ?_⟩
  · rw [hset.cw, ← hml]
    rfl
  · rw [hset.out, hlink, harq, Bool.not_false, List.filter_true]

end Sys2Proof.Machine
end

section
/-! PROOF. Tone maps built, reviewed and sent, soundings and demands (R236 to R238, R242). -/

open Sys2Proof Sys2Proof.Machine

namespace Sys2Proof.Machine

variable {s s1 t u : State} {id src : BitVec 7} {p q : MlPeer} {m : MlMap} {dt i r : Nat} {f : MlFrame} {c : List Byte}

/-! ### The map built (R236) -/

/-- The bits of one symbol that a rate and its codes carry. -/
def rateLoad (x : BitVec 2 × List (BitVec 3)) : Nat := codeSum x.2 * rateNum x.1.toNat

theorem bestRate_mem (best : BitVec 2 × List (BitVec 3)) : ∀ xs, bestRate best xs ∈ best :: xs
  | [] => List.mem_cons_self
  | x :: xs => by
    have hnext := bestRate_mem (if codeSum best.2 * rateNum best.1.toNat < codeSum x.2 * rateNum x.1.toNat then x else best) xs
    rw [bestRate]
    split at hnext
    · next h => exact List.mem_cons_of_mem _ (by rw [if_pos h]; exact hnext)
    · next h =>
      rw [if_neg h]
      rcases List.mem_cons.mp hnext with heq | hmem
      · exact List.mem_cons.mpr (.inl heq)
      · exact List.mem_cons_of_mem _ (List.mem_cons_of_mem _ hmem)

theorem rateLoad_le_bestRate (best : BitVec 2 × List (BitVec 3)) : ∀ xs, ∀ y ∈ best :: xs, rateLoad y ≤ rateLoad (bestRate best xs)
  | [], y, hy => by rw [List.mem_singleton.mp hy]; rfl
  | x :: xs, y, hy => by
    rw [bestRate]
    have hnext := rateLoad_le_bestRate (if codeSum best.2 * rateNum best.1.toNat < codeSum x.2 * rateNum x.1.toNat then x else best) xs
    have hhead := hnext _ List.mem_cons_self
    have hboth : rateLoad best ≤ rateLoad (if codeSum best.2 * rateNum best.1.toNat < codeSum x.2 * rateNum x.1.toNat then x else best) ∧
        rateLoad x ≤ rateLoad (if codeSum best.2 * rateNum best.1.toNat < codeSum x.2 * rateNum x.1.toNat then x else best) := by
      split
      · next h => exact ⟨le_of_lt h, le_rfl⟩
      · next h => exact ⟨le_rfl, not_lt.mp h⟩
    rcases List.mem_cons.mp hy with rfl | hy
    · exact hboth.1.trans hhead
    · rcases List.mem_cons.mp hy with rfl | hy
      · exact hboth.2.trans hhead
      · exact hnext y (List.mem_cons_of_mem _ hy)

/-- A rate and the codes that one region gives at it. -/
def State.atRate (s : State) (v : List Nat × List Nat × Nat) (cp : Bool) (cr : Nat) : BitVec 2 × List (BitVec 3) :=
  (BitVec.ofNat 2 cr, s.mapCodes [v] cp cr)

/-- The map of a region has the best of the four rates. -/
theorem State.buildMap_region {r : Fin 6} {v : List Nat × List Nat × Nat} (hv : s.snrOf p r.val = some v)
    (hm : s.buildMap p r.val = some m) : m.tmseq = p.tmSeq + 1 ∧ m.cp = (s.reg ML_TMCFG).getLsbD 31 ∧
      bestRate (s.atRate v m.cp 0) [s.atRate v m.cp 1, s.atRate v m.cp 2, s.atRate v m.cp 3] = (m.cr, m.codes) := by
  have hr : ¬ r.val = 7 := by omega
  have hone : [r.val].mapM (fun r => s.snrOf p r) = some [v] := by
    rw [List.mapM_cons, hv]
    rfl
  rw [State.buildMap, if_neg hr, hone] at hm
  obtain ⟨choice, hchoice⟩ : ∃ choice, choice = bestRate := ⟨_, rfl⟩
  rw [← hchoice] at hm ⊢
  dsimp only at hm
  obtain rfl := Option.some.inj hm
  exact ⟨rfl, rfl, rfl⟩

theorem State.atRate_codes (s : State) (v : List Nat × List Nat × Nat) (cp : Bool) {k : Nat} (hk : k < 4) :
    (s.atRate v cp k).1.toNat = k ∧ (s.atRate v cp k).2 = s.mapCodes [v] cp k := by
  unfold State.atRate
  dsimp only
  rw [BitVec.toNat_ofNat]
  exact ⟨by omega, rfl⟩

theorem buildMap_best {r : Fin 6} {v : List Nat × List Nat × Nat} (hm : s.buildMap p r.val = some m) (hv : s.snrOf p r.val = some v) :
    m.tmseq = p.tmSeq + 1 ∧ m.cp = (s.reg ML_TMCFG).getLsbD 31 ∧ m.codes = s.mapCodes [v] m.cp m.cr.toNat ∧
      ∀ cr : Fin 4, codeSum (s.mapCodes [v] m.cp cr.val) * rateNum cr.val ≤ m.sum := by
  obtain ⟨hseq, hcp, hbest⟩ := State.buildMap_region hv hm
  have hmem := bestRate_mem (s.atRate v m.cp 0) [s.atRate v m.cp 1, s.atRate v m.cp 2, s.atRate v m.cp 3]
  have hle := rateLoad_le_bestRate (s.atRate v m.cp 0) [s.atRate v m.cp 1, s.atRate v m.cp 2, s.atRate v m.cp 3]
  have hrates : s.atRate v m.cp 0 :: [s.atRate v m.cp 1, s.atRate v m.cp 2, s.atRate v m.cp 3] =
      [0, 1, 2, 3].map (s.atRate v m.cp) := rfl
  rw [hbest, hrates] at hmem hle
  refine ⟨hseq, hcp, ?_, fun cr => ?_⟩
  · obtain ⟨k, hk, hrate⟩ := List.mem_map.mp hmem
    have hk4 : k < 4 := by
      simp only [List.mem_cons, List.not_mem_nil, or_false] at hk
      omega
    obtain ⟨hcr, hcodes⟩ := s.atRate_codes v m.cp hk4
    rw [hrate] at hcr hcodes
    rw [hcr]
    exact hcodes
  · have hk : cr.val ∈ [0, 1, 2, 3] := by
      simp only [List.mem_cons, List.not_mem_nil, or_false]
      omega
    obtain ⟨hcr, hcodes⟩ := s.atRate_codes v m.cp cr.isLt
    have hthis := hle (s.atRate v m.cp cr.val) (List.mem_map_of_mem hk)
    rw [rateLoad, rateLoad, hcr, hcodes] at hthis
    exact hthis

/-- The map built of a peer depends on its signal and the version of the last map alone. -/
theorem State.buildMap_peer (s : State) (hsig : q.signal = p.signal) (hseq : q.tmSeq = p.tmSeq) (i : Nat) :
    s.buildMap q i = s.buildMap p i := by
  have hsnr : s.snrOf q = s.snrOf p := funext fun r => by rw [State.snrOf, State.snrOf, hsig]
  rw [State.buildMap, State.buildMap, hsnr, hseq]

/-- A map depends on the noise measured, the profile and ML_TMCFG. -/
theorem State.buildMap_congr (hnoise : t.ml.noise = s.ml.noise) (hprofile : t.profile = s.profile)
    (hreg : t.reg ML_TMCFG = s.reg ML_TMCFG) (p : MlPeer) (i : Nat) : t.buildMap p i = s.buildMap p i := by
  have hof : t.noiseOf = s.noiseOf := funext fun r => by rw [State.noiseOf, State.noiseOf, hnoise]
  have hsnr : t.snrOf = s.snrOf := funext fun p => funext fun r => by rw [State.snrOf, State.snrOf, hof]
  have hcarrier : t.dataCarrier = s.dataCarrier := funext fun k => by
    rw [State.dataCarrier, State.dataCarrier, State.lineNotch, State.lineNotch, hprofile]
  have hcodes : t.mapCodes = s.mapCodes := funext fun xs => funext fun cp => funext fun cr => by
    rw [State.mapCodes, State.mapCodes, hcarrier, hreg]
  rw [State.buildMap, State.buildMap, hsnr, hcodes, hreg]

/-- What a station learns of its peers does not change its measurements of noise. -/
theorem State.Tells.buildMap (h : s.Tells t) (p : MlPeer) (i : Nat) : t.buildMap p i = s.buildMap p i := by
  refine State.buildMap_congr ?_ ?_ ?_ p i
  all_goals
    rw [h.eq]
    rfl

theorem State.buildMap_advanceTo (s : State) (n : Nat) (p : MlPeer) (i : Nat) : (s.advanceTo n).buildMap p i = s.buildMap p i :=
  State.buildMap_congr (congrArg (fun m : Mlink => m.noise) (State.advanceTo_ml s n) :) (State.advanceTo_profile s n)
    (State.advanceTo_reg_acc s n _) p i

/-- A list with a step that fails fails. -/
theorem mapM_eq_none {α β : Type} {g : α → Option β} : ∀ {l : List α} {a : α}, a ∈ l → g a = none → l.mapM g = none
  | b :: l, a, ha, hg => by
    rw [List.mapM_cons]
    rcases List.mem_cons.mp ha with rfl | ha
    · rw [hg]
      rfl
    · cases g b with
      | none => rfl
      | some y =>
        rw [mapM_eq_none ha hg]
        rfl

/-- Without noise of a region there is no map for it, nor for all of them. -/
theorem State.buildMap_noiseless (hr : r < 6) (h : ∀ x ∈ s.ml.noise, x.1 ≠ r) (p : MlPeer) :
    s.buildMap p r = none ∧ s.buildMap p 7 = none := by
  have hnone : (s.ml.noise.filter (·.1 == r)) = [] := List.filter_eq_nil_iff.mpr fun x hx => by simpa using h x hx
  have hsnr : s.snrOf p r = none := by
    unfold State.snrOf State.noiseOf
    rw [hnone]
    cases p.signal.find? (·.1 == r)
    · rfl
    · rfl
  have hne : ¬ r = 7 := by omega
  constructor
  · rw [State.buildMap, if_neg hne, mapM_eq_none (List.mem_singleton.mpr rfl) hsnr]
  · rw [State.buildMap, if_pos rfl, mapM_eq_none (List.mem_range.mpr hr) hsnr]

/-! ### A map sent, and reviewed (R237) -/

/-- The map of a region sent, when there is one. -/
def State.sendMapOf (s : State) (id : BitVec 7) (r : Nat) : State :=
  match (s.peer? id).bind fun p => s.buildMap p r with
  | some m => s.sendMap id m
  | none => s

theorem State.sendMaps_eq (s : State) (id : BitVec 7) :
    s.sendMaps id = [0, 1, 2, 3, 4, 5, 7].foldl (fun s r => s.sendMapOf id r) s := rfl

theorem State.sendMapOf_some (hp : s.peer? id = some p) (hm : s.buildMap p i = some m) : s.sendMapOf id i = s.sendMap id m := by
  rw [State.sendMapOf, hp, Option.bind_some, hm]

theorem State.sendMap_outMsgs (s : State) (id : BitVec 7) (m : MlMap) :
    (s.sendMap id m).ml.outMsgs = s.ml.outMsgs ++ [(id, 0x04, m.bytes)] := by
  rw [State.sendMap, State.modPeer_eq]
  rfl

/-- The peer `id` of `t` has the signal that `p` had, and what was queued in `s` is queued still. -/
structure State.Reviewed (s t : State) (id : BitVec 7) (p : MlPeer) : Prop where
  tells : s.Tells t
  peer : ∃ q, t.peer? id = some q ∧ q.signal = p.signal ∧ (p.mapTick = s.ticks → q.mapTick = s.ticks)
  msgs : s.ml.outMsgs ⊆ t.ml.outMsgs

namespace State.Reviewed

theorem refl (h : s.peer? id = some p) : s.Reviewed s id p := ⟨.refl s, ⟨p, h, rfl, fun hm => hm⟩, fun _ hm => hm⟩

theorem sendMap (h : s.Reviewed t id p) (m : MlMap) : s.Reviewed (t.sendMap id m) id p := by
  obtain ⟨q, hq, hsig, hmap⟩ := h.peer
  have hpeer : (t.sendMap id m).peer? id = some _ := State.peer?_modPeer_of hq fun _ => rfl
  refine ⟨h.tells.sendMap id m, ⟨_, hpeer, hsig, fun _ => h.tells.ticks⟩, ?_⟩
  rw [State.sendMap_outMsgs]
  exact fun x hx => List.mem_append_left _ (h.msgs hx)

theorem reviewMap (h : s.Reviewed t id p) (i : Nat) : s.Reviewed (t.reviewMap id i) id p := by
  unfold State.reviewMap
  split
  · exact h
  · split
    · exact h
    · split
      · exact h.sendMap _
      · split
        · exact h.sendMap _
        · exact h

theorem sendMapOf (h : s.Reviewed t id p) (r : Nat) : s.Reviewed (t.sendMapOf id r) id p := by
  unfold State.sendMapOf
  split
  · exact h.sendMap _
  · exact h

theorem foldMaps (h : s.Reviewed t id p) (l : List Nat) : s.Reviewed (l.foldl (fun s r => s.sendMapOf id r) t) id p := by
  induction l generalizing t with
  | nil => exact h
  | cons r l ih => exact ih (h.sendMapOf r)

theorem sendMaps (h : s.Reviewed t id p) : s.Reviewed (t.sendMaps id) id p := by
  rw [State.sendMaps_eq]
  exact h.foldMaps _

end State.Reviewed

theorem State.reviewMap_none (hp : s.peer? id = some p) (hm : s.buildMap p i = none) : s.reviewMap id i = s := by
  rw [State.reviewMap, hp]
  dsimp only
  rw [hm]

/-- The first map of a region is sent. -/
theorem State.reviewMap_first (hp : s.peer? id = some p) (hown : p.own = []) (hm : s.buildMap p i = some m) :
    s.reviewMap id i = s.sendMap id m := by
  rw [State.reviewMap, hp]
  dsimp only
  rw [hm]
  dsimp only
  rw [hown]
  rfl

/-! ### Soundings -/

theorem State.regionAt_lt (s : State) (pos : Nat) : (s.regionAt pos).1 < 6 :=
  Nat.lt_succ_of_le (List.length_filter_le _ _)

/-- The signal power of a peer in a region, as measured. -/
def State.hearSignal (s : State) (id : BitVec 7) (r : Nat) (level : List Nat) : State :=
  s.modPeer id fun p => { p with signal := (r, level) :: p.signal.filter (·.1 != r) }

theorem State.hearLevel_measures {start : Nat} (hstart : s.ml.start = some start) (hlevel : f.level ≠ []) (hup : s.peerUp (fcSrc f.fc) = true) :
    s.hearLevel f = (((s.hearSignal (fcSrc f.fc) (s.regionAt (s.frameStart f.fc - start)).1 f.level).reviewMap (fcSrc f.fc)
      (s.regionAt (s.frameStart f.fc - start)).1).reviewMap (fcSrc f.fc) 7) := by
  have hgo : ¬ (f.level.isEmpty || !s.peerUp (fcSrc f.fc)) = true := by
    rw [hup]
    simpa using hlevel
  rw [State.hearLevel, hstart]
  dsimp only
  rw [if_neg hgo]
  rfl

theorem sounding_exec (ha : s.accepts 4 dt f s1) (hup : s1.mlUp = true) (hme : s1.forMe f.fc = true) :
    exec (.sounding dt f) s = .next (s1.hearLevel f) := by
  refine congrArg Host.Outcome.next ((State.rxFrame_accepts ha _).trans (if_pos ?_))
  rw [hup, hme]
  rfl

theorem sounding_measures {start : Nat} (ha : s.accepts 4 dt f s1) (hup : s1.mlUp = true) (hme : s1.forMe f.fc = true)
    (hp : s1.peer? (fcSrc f.fc) = some p) (hpup : p.up = true) (hstart : s1.ml.start = some start) (hlevel : f.level ≠ []) :
    let r := (s1.regionAt (s1.frameStart f.fc - start)).1
    ∃ (t : State) (q : MlPeer), exec (.sounding dt f) s = .next t ∧ t = { s1 with ml := t.ml } ∧ t.peer? (fcSrc f.fc) = some q ∧
      q.signal = (r, f.level) :: p.signal.filter (·.1 != r) ∧
      ((∀ x ∈ s1.ml.noise, x.1 ≠ r) → t.ml.outMsgs = s1.ml.outMsgs) ∧
      ∀ m, p.own = [] → s1.buildMap { p with signal := q.signal } r = some m → (fcSrc f.fc, 0x04, m.bytes) ∈ t.ml.outMsgs := by
  intro r
  let v := s1.hearSignal (fcSrc f.fc) r f.level
  have hv : s1.Tells v := (State.Tells.refl s1).modPeer _ _
  have hvp : v.peer? (fcSrc f.fc) = some { p with signal := (r, f.level) :: p.signal.filter (·.1 != r) } :=
    State.peer?_modPeer_of hp fun _ => rfl
  have hvmsgs : v.ml.outMsgs = s1.ml.outMsgs := by
    show (s1.modPeer _ _).ml.outMsgs = _
    rw [State.modPeer_eq]
    rfl
  have hnoise : v.ml.noise = s1.ml.noise := by
    show (s1.modPeer _ _).ml.noise = _
    rw [State.modPeer_eq]
    rfl
  obtain ⟨htells, ⟨q, hq, hsig, -⟩, -⟩ := ((State.Reviewed.refl hvp).reviewMap r).reviewMap 7
  refine ⟨(v.reviewMap (fcSrc f.fc) r).reviewMap (fcSrc f.fc) 7, q, ?_, (hv.trans htells).only_ml, hq, hsig, fun hquiet => ?_,
    fun m hown hm => ?_⟩
  · rw [sounding_exec ha hup hme, State.hearLevel_measures hstart hlevel (State.peerUp_of (hp.trans (congrArg some rfl)) |>.trans hpup)]
  · rw [← hnoise] at hquiet
    obtain ⟨hone, hall⟩ := State.buildMap_noiseless (s1.regionAt_lt _) hquiet
      { p with signal := (r, f.level) :: p.signal.filter (·.1 != r) }
    rw [State.reviewMap_none hvp hone, State.reviewMap_none hvp hall, hvmsgs]
  · rw [hsig] at hm
    rw [State.reviewMap_first hvp hown ((hv.buildMap _ r).trans hm)]
    have hsent : v.Reviewed (v.sendMap (fcSrc f.fc) m) (fcSrc f.fc) _ := (State.Reviewed.refl hvp).sendMap m
    obtain ⟨q', hq', -, -⟩ := hsent.peer
    refine ((State.Reviewed.refl hq').reviewMap 7).msgs ?_
    rw [State.sendMap_outMsgs]
    exact List.mem_append_right _ List.mem_cons_self

/-! ### The maps of a peer sent again -/

/-- The period of the maps of a peer begins anew. -/
def State.mapsDue (s : State) (id : BitVec 7) : State := s.modPeer id fun p => { p with asked := 0, mapTick := s.ticks }

/-- The maps of a peer sent again, and regions without a map asked for. -/
def State.mapsAgain (s : State) (id : BitVec 7) : State := ((s.mapsDue id).sendMaps id).askSounding id

/-- A new period does not change the map of a peer. -/
theorem State.mapsDue_buildMap (s : State) (id : BitVec 7) (p : MlPeer) (i : Nat) :
    (s.mapsDue id).buildMap { p with asked := 0, mapTick := s.ticks } i = s.buildMap p i :=
  (((State.Tells.refl s).modPeer id _).buildMap _ i).trans
    (State.buildMap_peer (q := { p with asked := 0, mapTick := s.ticks }) (p := p) s rfl rfl i)

theorem tmapPeriodExpiry_exec (hup : s.mlUp = true) (hp : s.peer? src = some p) (hpup : p.up = true) :
    exec (.tmapPeriodExpiry src) s = .next (if bits (s.reg ML_TMCFG) 16 8 ≠ 0
      then (s.advanceTo (p.mapTick + bits (s.reg ML_TMCFG) 16 8 * usTicks 1000000)).mapsAgain src else s) := by
  refine congrArg Host.Outcome.next ?_
  have hfld : s.fld ML_TMCFG 16 8 = bits (s.reg ML_TMCFG) 16 8 := rfl
  rw [hp]
  dsimp only
  rw [hup, hpup, Bool.true_and, Bool.true_and, hfld]
  generalize bits (s.reg ML_TMCFG) 16 8 = secs
  by_cases h : secs ≠ 0
  · rw [if_pos h, if_pos (bne_iff_ne.mpr h)]
    rfl
  · rw [if_neg h, if_neg fun hgo => h (bne_iff_ne.mp hgo)]

theorem State.mapsAgain_sends (hp : s.peer? id = some p) :
    s.Tells (s.mapsAgain id) ∧ (∃ q, (s.mapsAgain id).peer? id = some q ∧ q.mapTick = s.ticks) ∧
      ∀ m, s.buildMap p 0 = some m → (id, 0x04, m.bytes) ∈ (s.mapsAgain id).ml.outMsgs := by
  have hdue : s.Tells (s.mapsDue id) := (State.Tells.refl s).modPeer _ _
  have hduep : (s.mapsDue id).peer? id = some { p with asked := 0, mapTick := s.ticks } := State.peer?_modPeer_of hp fun _ => rfl
  have hmaps := (State.Reviewed.refl hduep).sendMaps
  obtain ⟨q, hq, -, htick⟩ := hmaps.peer
  obtain ⟨a, hasked⟩ := ((s.mapsDue id).sendMaps id).askSounding_peer? id
  have htells : s.Tells (s.mapsAgain id) := (hdue.trans hmaps.tells).askSounding id
  have hpeer : (s.mapsAgain id).peer? id = some { q with asked := a } := by
    rw [State.mapsAgain, hasked, hq]
    rfl
  refine ⟨htells, ⟨_, hpeer, ?_⟩, fun m hm => ?_⟩
  · rw [← hdue.ticks]
    exact htick hdue.ticks.symm
  · have hsent := (State.Reviewed.refl hduep).sendMap m
    obtain ⟨q', hq', -, -⟩ := hsent.peer
    have hfirst : (s.mapsDue id).sendMaps id =
        [1, 2, 3, 4, 5, 7].foldl (fun s r => s.sendMapOf id r) ((s.mapsDue id).sendMap id m) := by
      rw [State.sendMaps_eq, List.foldl_cons, State.sendMapOf_some hduep ((s.mapsDue_buildMap id p 0).trans hm)]
    have hmem : (id, 0x04, m.bytes) ∈ ((s.mapsDue id).sendMap id m).ml.outMsgs := by
      rw [State.sendMap_outMsgs]
      exact List.mem_append_right _ List.mem_cons_self
    have hmem' := ((State.Reviewed.refl hq').foldMaps [1, 2, 3, 4, 5, 7]).msgs hmem
    rw [← hfirst] at hmem'
    rw [State.mapsAgain]
    exact State.askSounding_outMsgs ((s.mapsDue id).sendMaps id) id hmem'

theorem tmapPeriodExpiry_sends (hup : s.mlUp = true) (hp : s.peer? src = some p) (hpup : p.up = true) :
    (bits (s.reg ML_TMCFG) 16 8 = 0 → exec (.tmapPeriodExpiry src) s = .next s) ∧
    (bits (s.reg ML_TMCFG) 16 8 ≠ 0 → ∃ (t : State) (q : MlPeer), exec (.tmapPeriodExpiry src) s = .next t ∧
      t = { s.advanceTo (p.mapTick + bits (s.reg ML_TMCFG) 16 8 * ticksOf 1000000) with ml := t.ml } ∧
      t.peer? src = some q ∧ q.mapTick = t.ticks ∧
      ∀ m, s.buildMap p 0 = some m → (src, 0x04, m.bytes) ∈ t.ml.outMsgs) := by
  have hexec := tmapPeriodExpiry_exec hup hp hpup
  refine ⟨fun h0 => hexec.trans (by rw [if_neg (not_not.mpr h0)]), fun hne => ?_⟩
  rw [if_pos hne, usTicks_eq] at hexec
  generalize p.mapTick + bits (s.reg ML_TMCFG) 16 8 * ticksOf 1000000 = due at hexec ⊢
  have hvp : (s.advanceTo due).peer? src = some p := by
    rw [State.peer?, State.advanceTo_ml]
    exact hp
  obtain ⟨htells, ⟨q, hq, htick⟩, hsent⟩ := State.mapsAgain_sends hvp
  exact ⟨_, q, hexec, htells.only_ml, hq, htick.trans htells.ticks.symm, fun m hm => hsent m ((s.buildMap_advanceTo due p 0).trans hm)⟩

/-! ### What a peer asks of this station -/

theorem State.modPeer_only (s : State) (id : BitVec 7) (g : MlPeer → MlPeer) :
    s.modPeer id g = { s with ml := (s.modPeer id g).ml } := by
  rw [State.modPeer_eq]
  rfl

theorem tmap_keeps (h : s.brings 0x04 dt f s1 src c) (hup : s1.mlUp = true) (hp : s1.peer? src = some p) (hpup : p.up = true) :
    ∃ t : State, exec (.tmap dt f) s = .next t ∧ t = { s1 with ml := t.ml } ∧ t.peer? src = some { p with
      maps := mapOfBytes c :: p.maps.filter (·.index != (mapOfBytes c).index), fallback := false } := by
  have hgo : (s1.mlUp && s1.peerUp src) = true := by rw [hup, State.peerUp, hp, Bool.true_and]; exact hpup
  exact ⟨_, congrArg Host.Outcome.next ((h _).trans (if_pos hgo)), s1.modPeer_only _ _, State.peer?_modPeer_of hp fun _ => rfl⟩

theorem soundReq_keeps (h : s.brings 0x05 dt f s1 src c) (hup : s1.mlUp = true) (hp : s1.peer? src = some p) (hpup : p.up = true) :
    ∃ t : State, exec (.soundReq dt f) s = .next t ∧ t = { s1 with ml := t.ml } ∧
      t.peer? src = some { p with soundReq := p.soundReq ||| (c.getD 0 0).setWidth 6 } := by
  have hgo : (s1.mlUp && s1.peerUp src) = true := by rw [hup, State.peerUp, hp, Bool.true_and]; exact hpup
  exact ⟨_, congrArg Host.Outcome.next ((h _).trans (if_pos hgo)), s1.modPeer_only _ _, State.peer?_modPeer_of hp fun _ => rfl⟩

theorem allocReq_keeps (h : s.brings 0x06 dt f s1 src c) (hup : s1.mlUp = true) (hst : s1.ml.st = 4) (hp : s1.peer? src = some p)
    (hpup : p.up = true) :
    ∃ t : State, exec (.allocReq dt f) s = .next t ∧ t = { s1 with ml := t.ml } ∧
      t.peer? src = some { p with demand := BitVec.ofNat 16 (bytesNat c 0 2) } := by
  have hgo : (s1.mlUp && s1.ml.st == 4 && s1.peerUp src) = true := by
    rw [hup, hst, State.peerUp, hp]
    exact hpup
  exact ⟨_, congrArg Host.Outcome.next ((h _).trans (if_pos hgo)), s1.modPeer_only _ _, State.peer?_modPeer_of hp fun _ => rfl⟩

end Sys2Proof.Machine
end

section
/-! PROOF. Receiving links: the next segment placed and delivered, and what it acknowledges (R243, R244). -/

open Sys2Proof Sys2Proof.Machine

namespace Sys2Proof.Machine

variable {s s1 t u : State} {dt : Nat} {f : MlFrame} {x y : MlRxLink} {src : BitVec 7} {link : BitVec 4} {bc : Bool} {b : BitVec 37}

/-! ### Links -/

/-- A link found is the one asked for. -/
theorem rxFind_names (h : s.ml.rx.find? (fun x => x.src == src && x.link == link && x.bc == bc) = some x) :
    x.src = src ∧ x.link = link ∧ x.bc = bc := by
  have hx := List.find?_some h
  simp only [Bool.and_eq_true, beq_iff_eq] at hx
  exact ⟨hx.1.1, hx.1.2, hx.2⟩

theorem State.rxLink_found {fc : BitVec 96}
    (h : s.ml.rx.find? (fun x => x.src == fcSrc fc && x.link == link && x.bc == (fcDst fc == 0x7F)) = some x) :
    s.rxLink fc link = (x, s) := by
  rw [State.rxLink]
  dsimp only
  rw [h]

theorem MlRxLink.pnOf_next {seq : Byte} (h : seq = BitVec.ofNat 8 x.next) : x.pnOf seq = x.next := by
  rw [MlRxLink.pnOf, h]
  simp

theorem State.setRxLink_kept (h : x.src ≠ 0x7F) (s : State) : s.setRxLink x =
    s.modMl fun m => { m with rx := x :: m.rx.filter fun y => !(y.src == x.src && y.link == x.link && y.bc == x.bc) } :=
  if_neg (by simpa using h)

theorem State.oweSack_unicast (h : fcDst f.fc ≠ 0x7F) (s : State) (b : BitVec 37) : s.oweSack f b = s.modMl fun m =>
    { m with sackDue := m.sackDue ++ [⟨fcSrc f.fc, fcSeq f.fc, b, f.negated, s.ticks + ticksOf 100⟩] } := by
  rw [← usTicks_eq]
  exact if_neg (by simpa using h)

/-- What a segment leaves: its link replaced, its SACK due. -/
def State.rxTaken (s : State) (f : MlFrame) (x : MlRxLink) (b : BitVec 37) : State := (s.setRxLink x).oweSack f b

/-- The link's own state after a segment. -/
theorem State.rxTaken_eq (hsrc : x.src ≠ 0x7F) (hdst : fcDst f.fc ≠ 0x7F) (s : State) (b : BitVec 37) : s.rxTaken f x b =
    s.modMl fun m => { m with
      rx := x :: m.rx.filter fun y => !(y.src == x.src && y.link == x.link && y.bc == x.bc)
      sackDue := m.sackDue ++ [⟨fcSrc f.fc, fcSeq f.fc, b, f.negated, s.ticks + ticksOf 100⟩] } := by
  rw [State.rxTaken, State.setRxLink_kept hsrc, State.oweSack_unicast hdst]
  rfl

/-! ### The bits of a SACK -/

theorem MlRxLink.sackBits_eq {base : Nat} {g : Nat → Bool} (h : ∀ i, x.placed (base + i) = g i) :
    x.sackBits base = BitVec.ofNat 37 ((List.range 37).foldl (fun n i => 2 * n + (g i).toNat) 0) := by
  rw [MlRxLink.sackBits]
  simp only [h]

/-- Nothing from the base on is placed. -/
theorem MlRxLink.sackBits_none {base : Nat} (h : ∀ i, x.placed (base + i) = false) : x.sackBits base = 0 := by
  rw [MlRxLink.sackBits_eq (g := fun _ => false) h]
  decide

/-- The base alone is placed. -/
theorem MlRxLink.sackBits_first {base : Nat} (h : ∀ i, x.placed (base + i) = decide (i = 0)) :
    x.sackBits base = BitVec.ofNat 37 (2 ^ 36) := by
  rw [MlRxLink.sackBits_eq h]
  decide

theorem MlRxLink.placed_empty (hahead : x.ahead = []) (hlost : x.lost = []) (pn : Nat) : x.placed pn = decide (pn < x.next) := by
  simp [MlRxLink.placed, hahead, hlost]

/-- With nothing placed ahead a segment placed next is the one there is. -/
theorem MlRxLink.placed_place (hahead : x.ahead = []) (hlost : x.lost = []) (first : BitVec 6) (ws : List RWord) (now i : Nat) :
    (x.place x.next first ws now).placed (x.next + i) = decide (i = 0) := by
  cases i
  · simp [MlRxLink.placed, MlRxLink.place, hahead, hlost]
  · simp [MlRxLink.placed, MlRxLink.place, hahead, hlost]

/-! ### Delivery -/

theorem State.rxFollow_end (h : x.ahead = []) (s : State) (k : Nat) : s.rxFollow x k = (s, x) := by
  cases k with
  | zero => rfl
  | succ k =>
    have hnone : s.rxNext x = none := by rw [State.rxNext, h]; rfl
    rw [State.rxFollow, hnone]

/-- Control frames and messages are delivered to nothing but their link. -/
theorem State.rxFollow_link0 (k : Nat) (h : x.link = 0) (s : State) : (s.rxFollow x k).1 = s ∧
    (s.rxFollow x k).2.src = x.src := by
  induction k generalizing x with
  | zero => exact ⟨rfl, rfl⟩
  | succ k ih =>
    rw [State.rxFollow, State.rxNext]
    cases x.ahead.find? (·.1 == x.next) with
    | none => exact ⟨rfl, rfl⟩
    | some a =>
      obtain ⟨pn, first, ws⟩ := a
      dsimp only
      rw [if_pos h]
      exact ih h

/-- The next segment of one word that is an item: the item is written, and the link is as before the next. -/
theorem State.rxFollow_word {w : RWord} (hahead : x.ahead = []) (hitem : x.item = []) (hgap : x.gap = none) (hlink : x.link ≠ 0)
    (hlen : itemLength w.data = 1) (s : State) (first : BitVec 6) (now : Nat) {k : Nat} (hk : k ≠ 0) :
    s.rxFollow (x.place x.next first [w] now) k =
      (s.mlItem (linkRing x.link) [{ w with data := mlHeader w.data x.src, s := true, v := true, e := true }],
        { x with next := x.next + 1, since := now }) := by
  obtain ⟨k, rfl⟩ := Nat.exists_eq_succ_of_ne_zero hk
  obtain ⟨src, bc, link, next, ahead, lost, item, gap, since⟩ := x
  dsimp only at hahead hitem hgap hlink
  subst hahead hitem hgap
  let z : MlRxLink := { src := src, bc := bc, link := link, next := next + 1, lost := lost, since := now }
  have hwrite : s.rxItem z w =
      (s.mlItem (linkRing link) [{ w with data := mlHeader w.data src, s := true, v := true, e := true }], z) :=
    if_neg (show ¬ 1 < itemLength w.data by omega)
  have hnext : s.rxNext { src := src, bc := bc, link := link, next := next, ahead := [(next, first, [w])], lost := lost, since := now } =
      some (s.mlItem (linkRing link) [{ w with data := mlHeader w.data src, s := true, v := true, e := true }], z) := by
    rw [State.rxNext]
    simp only [List.find?_cons, beq_self_eq_true, List.filter_cons, bne_self_eq_false, List.filter_nil, Bool.false_eq_true, if_false]
    rw [if_neg hlink, State.rxWords, State.rxWord1]
    dsimp only
    rw [hwrite]
    rfl
  show s.rxFollow { src := src, bc := bc, link := link, next := next, ahead := [(next, first, [w])], lost := lost, since := now } (k + 1) = _
  rw [State.rxFollow, hnext]
  exact State.rxFollow_end (x := z) rfl _ k

end Sys2Proof.Machine
end

section
/-! PROOF. Data frames (R232, R243, R244, R247). -/

open Sys2Proof Sys2Proof.Machine

namespace Sys2Proof.Machine

variable {s s1 t u : State} {dt : Nat} {f : MlFrame} {x : MlRxLink} {seg : List Word} {n : RingNo}

/-! ### What a frame heard leaves -/

theorem State.accepts_rings {ftype : BitVec 4} (ha : s.accepts ftype dt f s1) : s1.rings = s.rings := by
  obtain ⟨-, -, -, rfl⟩ := ha
  exact (State.Reports.heard (s.advance dt) f).rings.trans (s.advance_rings dt)

/-- The configuration and the words of a ring are those before the frame. -/
theorem State.accepts_ringCfg {ftype : BitVec 4} (ha : s.accepts ftype dt f s1) (n : RingNo) : s1.reg (RG_CFG n) = s.reg (RG_CFG n) :=
  State.accepts_reg ha (by have := n.isLt; unfold RG_CFG; omega) (by have := n.isLt; unfold RG_CFG ML_FLAGS; omega)

theorem State.mlWrites_congr (h : t.reg (RG_CFG n) = s.reg (RG_CFG n)) : t.mlWrites n = s.mlWrites n := by
  rw [State.mlWrites, State.ringOn, State.ringProd, State.fld_congr h, h]
  rfl

theorem State.ringRoom_congr (h : t.reg (RG_CFG n) = s.reg (RG_CFG n)) (hr : t.rings = s.rings) : t.ringRoom n = s.ringRoom n := by
  rw [State.ringRoom, State.ringCap, State.fld_congr h, State.ring, hr]
  rfl

theorem State.hearLevel_quiet (h : f.level = []) (s : State) : s.hearLevel f = s := by
  unfold State.hearLevel
  split
  · rfl
  · rw [h]
    rfl

/-- Asking for sounding leaves the keys of a link as they are. -/
theorem State.askSounding_mlKeys (s : State) (id peer : BitVec 7) (bc : Bool) (h : peer = id) :
    (s.askSounding id).mlKeys peer bc = s.mlKeys peer bc := by
  subst h
  have hgroup : (s.askSounding peer).groupKeys = s.groupKeys := by
    rw [State.askSounding_eq]
    rfl
  obtain ⟨r, hpeer⟩ := s.askSounding_peer? peer
  rw [State.mlKeys, State.mlKeys, hgroup, hpeer]
  cases s.peer? peer with
  | none => rfl
  | some p => rfl

/-! ### A ring the link does not write -/

theorem dataFrame_unwritten (hwf : s.regsWf) (ha : s.accepts 1 dt f s1) (hup : s1.mlUp = true) (hme : s1.forMe f.fc = true)
    (hlink : fcLink f.fc ≠ 0) (hdst : fcDst f.fc ≠ 0x7F) (hno : s.mlWrites (linkRing (fcLink f.fc)) = false) :
    ∃ t : State, exec (.dataFrame dt f) s = .next t ∧ t = { s1 with regs := t.regs, ml := t.ml } ∧
      t.ml.sackDue = s1.ml.sackDue ++
        [⟨fcSrc f.fc, fcSeq f.fc, crcBits (fcSeq f.fc) f.segs, f.negated, s1.ticks + ticksOf 100⟩] ∧
      t.fld ML_CNT1 8 8 = min (s.fld ML_CNT1 8 8 + 1) 255 := by
  have hgo : ¬ (!s1.mlUp || !s1.forMe f.fc || fcLink f.fc == 0) = true := by
    rw [hup, hme]
    simpa using hlink
  have hunwritten : (!s1.mlWrites (linkRing (fcLink f.fc))) = true := by
    rw [State.mlWrites_congr (State.accepts_ringCfg ha _), hno]
    rfl
  have hexec : exec (.dataFrame dt f) s = .next ((s1.countFld ML_CNT1 8 8 1).oweSack f (crcBits (fcSeq f.fc) f.segs)) :=
    congrArg Host.Outcome.next ((State.rxFrame_accepts ha _).trans ((if_neg hgo).trans (if_pos hunwritten)))
  rw [State.oweSack_unicast hdst] at hexec
  refine ⟨_, hexec, rfl, rfl, ?_⟩
  have hcnt : s1.fld ML_CNT1 8 8 = s.fld ML_CNT1 8 8 := State.fld_congr (State.accepts_reg ha (by decide) (by decide)) 8 8
  exact (State.fld_countFld_same (State.accepts_wf ha hwf) ML_CNT1 (by omega) 1).trans (by rw [hcnt]; rfl)

/-! ### The next segment of a link -/

theorem State.rxSegs_one (s : State) (x : MlRxLink) (dst : BitVec 7) (seg : List Word) :
    s.rxSegs x dst [seg] = s.rxSeg x dst seg := by
  rw [State.rxSegs]
  rcases s.rxSeg x dst seg with ⟨u, y⟩
  rfl

/-- A frame to this station brings the next segment of a link, with the robust map, from a peer that is up. -/
structure State.Brings1 (s s1 : State) (dt : Nat) (f : MlFrame) (seg : List Word) (x : MlRxLink) : Prop where
  heard : s.accepts 1 dt f s1
  up : s1.mlUp = true
  mine : s1.forMe f.fc = true
  link : fcLink f.fc ≠ 0
  unicast : fcDst f.fc ≠ 0x7F
  writes : s.mlWrites (linkRing (fcLink f.fc)) = true
  robust : fcTmi f.fc = 6
  level : f.level = []
  peer : s1.peerUp (fcSrc f.fc) = true
  segs : f.segs = [seg]
  crc : segCrcOk seg = true
  first : segSeq seg = fcSeq f.fc
  next : fcSeq f.fc = BitVec.ofNat 8 x.next
  found : s1.ml.rx.find? (fun x => x.src == fcSrc f.fc && x.link == fcLink f.fc && x.bc == false) = some x
  ahead : x.ahead = []
  lost : x.lost = []
  src : fcSrc f.fc ≠ 0x7F

namespace State.Brings1

/-- The state in which the segment is taken: sounding is asked for where a map is missing. -/
theorem exec (h : s.Brings1 s1 dt f seg x) : exec (.dataFrame dt f) s =
    .next (((s1.askSounding (fcSrc f.fc)).rxSeg x (fcDst f.fc) seg).1.rxTaken f
      ((s1.askSounding (fcSrc f.fc)).rxSeg x (fcDst f.fc) seg).2
      (((s1.askSounding (fcSrc f.fc)).rxSeg x (fcDst f.fc) seg).2.sackBits x.next)) := by
  have hgo : ¬ (!s1.mlUp || !s1.forMe f.fc || fcLink f.fc == 0) = true := by
    rw [h.up, h.mine]
    simpa using h.link
  have hwritten : ¬ (!s1.mlWrites (linkRing (fcLink f.fc))) = true := by
    rw [State.mlWrites_congr (State.accepts_ringCfg h.heard _), h.writes]
    decide
  obtain ⟨p, hp, -⟩ := State.peer?_of_peerUp h.peer
  have hkept : ¬ (!s1.mapKept p (fcTmi f.fc) (fcTmseq f.fc)) = true := by
    rw [State.mapKept, h.robust, beq_self_eq_true, Bool.true_or]
    decide
  have hask : (fcTmi f.fc == 6 && s1.peerUp (fcSrc f.fc)) = true := by
    rw [h.robust, h.peer]
    rfl
  have hbc : (fcDst f.fc == 0x7F) = false := by simpa using h.unicast
  have hfound : (s1.askSounding (fcSrc f.fc)).rxLink f.fc (fcLink f.fc) = (x, s1.askSounding (fcSrc f.fc)) := by
    refine State.rxLink_found ?_
    rw [hbc, State.askSounding_eq]
    exact h.found
  -- the receiving functions stay closed while the branches of the command are chosen
  obtain ⟨linkOf, hlinkOf⟩ : ∃ g, g = State.rxLink := ⟨_, rfl⟩
  obtain ⟨giveUp, hgiveUp⟩ : ∃ g, g = State.rxGiveUp := ⟨_, rfl⟩
  obtain ⟨segsOf, hsegsOf⟩ : ∃ g, g = State.rxSegs := ⟨_, rfl⟩
  rw [← hlinkOf] at hfound
  show execDataFrame dt f s = _
  rw [execDataFrame, ← hlinkOf, ← hgiveUp, ← hsegsOf, State.rxFrame_accepts h.heard]
  dsimp only
  rw [if_neg hgo, if_neg hwritten, hp]
  dsimp only
  rw [if_neg hkept, State.hearLevel_quiet h.level, if_pos hask, hfound]
  dsimp only
  rw [MlRxLink.pnOf_next h.next, hgiveUp, State.rxGiveUp_none, h.segs]
  dsimp only
  rw [hsegsOf, State.rxSegs_one]
  rcases (s1.askSounding (fcSrc f.fc)).rxSeg x (fcDst f.fc) seg with ⟨u, y⟩
  rfl

theorem pn (h : s.Brings1 s1 dt f seg x) : x.pnOf (segSeq seg) = x.next := MlRxLink.pnOf_next (h.first.trans h.next)

/-- The segment passes its check, and was not placed before. -/
theorem new (h : s.Brings1 s1 dt f seg x) :
    ¬ (!segCrcOk seg || decide (x.next < x.next) || x.placed x.next) = true := by
  rw [h.crc, MlRxLink.placed_empty h.ahead h.lost]
  simp

/-- A segment that no key opens is counted. -/
theorem unopened (h : s.Brings1 s1 dt f seg x)
    (hopen : mlOpen (fcSrc f.fc) (fcDst f.fc) (fcLink f.fc) x.next seg (s1.mlKeys (fcSrc f.fc) false) = none) :
    (s1.askSounding (fcSrc f.fc)).rxSeg x (fcDst f.fc) seg = ((s1.askSounding (fcSrc f.fc)).countFld ML_CNT0 0 16 1, x) := by
  obtain ⟨hsrc, hlink, hbc⟩ := rxFind_names h.found
  rw [State.rxSeg]
  dsimp only
  rw [h.pn, if_neg h.new, hsrc, hlink, hbc, State.askSounding_mlKeys _ _ _ _ rfl, hopen]

/-- A segment of one word that a key opens is placed, and delivered. -/
theorem opened (h : s.Brings1 s1 dt f seg x) {body : List Byte} {d : DWord}
    (hopen : mlOpen (fcSrc f.fc) (fcDst f.fc) (fcLink f.fc) x.next seg (s1.mlKeys (fcSrc f.fc) false) = some body)
    (hwords : segWords seg = 1) (hbody : bodyWords body 1 = [d]) (hpsn : segPsn seg = false) (hitem : x.item = [])
    (hroom : s.ringRoom (linkRing (fcLink f.fc)) ≠ 0) :
    (s1.askSounding (fcSrc f.fc)).rxSeg x (fcDst f.fc) seg =
      (s1.askSounding (fcSrc f.fc)).rxFollow (x.place x.next (segFirst seg) [rword d] s1.ticks) 128 := by
  obtain ⟨hsrc, hlink, hbc⟩ := rxFind_names h.found
  have htells : s1.Tells (s1.askSounding (fcSrc f.fc)) := (State.Tells.refl s1).askSounding _
  have hws : ((bodyWords body (min 62 (segWords seg))).map fun d => pword (segPsn seg) d) = [rword d] := by
    rw [hwords, hpsn, show min 62 1 = 1 from rfl, hbody]
    rfl
  have hsame : (s1.askSounding (fcSrc f.fc)).ringRoom (linkRing (fcLink f.fc)) = s.ringRoom (linkRing (fcLink f.fc)) :=
    State.ringRoom_congr ((htells.reg _).trans (State.accepts_ringCfg h.heard _))
      (htells.rings.trans (State.accepts_rings h.heard))
  have howed : x.owed = 0 := by rw [MlRxLink.owed, hitem, h.ahead]; rfl
  have hfits : ¬ (s1.askSounding (fcSrc f.fc)).ringRoom (linkRing (fcLink f.fc)) < x.owed + [rword d].length := by
    rw [hsame, howed, List.length_singleton]
    omega
  rw [State.rxSeg]
  dsimp only
  rw [h.pn, if_neg h.new, hsrc, hlink, hbc, State.askSounding_mlKeys _ _ _ _ rfl, hopen]
  dsimp only
  rw [hws, if_neg hfits, htells.ticks]

end State.Brings1

end Sys2Proof.Machine
end

section
/-! PROOF. What a data segment leaves: its MIC counted, or its item written (R243, R244, R247). -/

open Sys2Proof Sys2Proof.Machine

namespace Sys2Proof.Machine

variable {s s1 t u : State} {dt : Nat} {f : MlFrame} {x : MlRxLink} {seg : List Word} {n : RingNo}

theorem State.only_regsMl (h : t = { s with ml := t.ml }) (hu : u = { t with regs := u.regs, ml := u.ml }) :
    u = { s with regs := u.regs, ml := u.ml } :=
  hu.trans (congrArg (fun v : State => { v with regs := u.regs, ml := u.ml }) h :)

theorem dataFrame_unopened (hwf : s.regsWf) (h : s.Brings1 s1 dt f seg x)
    (hopen : mlOpen (fcSrc f.fc) (fcDst f.fc) (fcLink f.fc) x.next seg (s1.mlKeys (fcSrc f.fc) false) = none) :
    ∃ t : State, exec (.dataFrame dt f) s = .next t ∧ t = { s1 with regs := t.regs, ml := t.ml } ∧
      t.fld ML_CNT0 0 16 = min (s.fld ML_CNT0 0 16 + 1) 65535 ∧
      t.ml.sackDue = s1.ml.sackDue ++ [⟨fcSrc f.fc, fcSeq f.fc, 0, f.negated, s1.ticks + ticksOf 100⟩] := by
  have htells : s1.Tells (s1.askSounding (fcSrc f.fc)) := (State.Tells.refl s1).askSounding _
  have hexec := h.exec
  have hbits : x.sackBits x.next = 0 :=
    MlRxLink.sackBits_none fun i => (MlRxLink.placed_empty h.ahead h.lost _).trans (decide_eq_false (by omega))
  rw [h.unopened hopen, hbits, State.rxTaken_eq (by rw [(rxFind_names h.found).1]; exact h.src) h.unicast] at hexec
  refine ⟨_, hexec, ?_, ?_, ?_⟩
  · exact State.only_regsMl htells.only_ml rfl
  · have hwf1 : (s1.askSounding (fcSrc f.fc)).regsWf := by
      rw [State.regsWf, htells.regs]
      exact State.accepts_wf h.heard hwf
    have hcnt : (s1.askSounding (fcSrc f.fc)).fld ML_CNT0 0 16 = s.fld ML_CNT0 0 16 :=
      State.fld_congr ((htells.reg ML_CNT0).trans (State.accepts_reg h.heard (by decide) (by decide))) 0 16
    exact (State.fld_countFld_same hwf1 ML_CNT0 (by omega) 1).trans (by rw [hcnt]; rfl)
  · have hdue : (s1.askSounding (fcSrc f.fc)).ml.sackDue = s1.ml.sackDue :=
      (congrArg (fun v : State => v.ml.sackDue) htells.eq :)
    have hticks : (s1.askSounding (fcSrc f.fc)).ticks = s1.ticks := htells.ticks
    show (s1.askSounding (fcSrc f.fc)).ml.sackDue ++ [⟨fcSrc f.fc, fcSeq f.fc, 0, f.negated,
      (s1.askSounding (fcSrc f.fc)).ticks + ticksOf 100⟩] = _
    rw [hdue, hticks]

/-- An item of one word that the ring has room for stands last on it. -/
theorem State.mlItem_word {w : RWord} (hwrites : s.mlWrites n = true) (hroom : s.ringRoom n ≠ 0) (hs : w.s = true) :
    s.Stored (s.mlItem n [w]) n w := by
  have hgo : (s.mlWrites n && decide ([w].length ≤ s.ringRoom n)) = true := by
    rw [hwrites, List.length_singleton, Bool.true_and, decide_eq_true_eq]
    omega
  rw [State.mlItem, if_pos hgo, State.ringPutAll, State.ringPutAll, State.ringPut, if_pos hs]
  exact s.putFirst_stored n .mains w

theorem dataFrame_delivers {body : List Byte} {d : DWord} (h : s.Brings1 s1 dt f seg x)
    (hopen : mlOpen (fcSrc f.fc) (fcDst f.fc) (fcLink f.fc) x.next seg (s1.mlKeys (fcSrc f.fc) false) = some body)
    (hwords : segWords seg = 1) (hbody : bodyWords body 1 = [d]) (hpsn : segPsn seg = false) (hitem : x.item = [])
    (hgap : x.gap = none) (hlen : itemLength d = 1) (hroom : s.ringRoom (linkRing (fcLink f.fc)) ≠ 0) :
    ∃ (t : State) (w : RWord), exec (.dataFrame dt f) s = .next t ∧ s1.mlFrame t ∧
      (t.ring (linkRing (fcLink f.fc))).words = (s.ring (linkRing (fcLink f.fc))).words ++ [w] ∧
      w.data = mlHeader d (fcSrc f.fc) ∧ w.s = true ∧ w.e = true ∧ w.p = false ∧
      t.ml.sackDue = s1.ml.sackDue ++
        [⟨fcSrc f.fc, fcSeq f.fc, BitVec.ofNat 37 (2 ^ 36), f.negated, s1.ticks + ticksOf 100⟩] ∧
      t.ml.rx.head? = some { x with next := x.next + 1, since := s1.ticks } := by
  obtain ⟨hsrc, hlink, -⟩ := rxFind_names h.found
  let v := s1.askSounding (fcSrc f.fc)
  let y : MlRxLink := { x with next := x.next + 1, since := s1.ticks }
  let w : RWord := { rword d with data := mlHeader d x.src, s := true, v := true, e := true }
  have htells : s1.Tells v := (State.Tells.refl s1).askSounding _
  have hrings : v.rings = s.rings := htells.rings.trans (State.accepts_rings h.heard)
  have hcfg : v.reg (RG_CFG (linkRing (fcLink f.fc))) = s.reg (RG_CFG (linkRing (fcLink f.fc))) :=
    (htells.reg _).trans (State.accepts_ringCfg h.heard _)
  have hwrites : v.mlWrites (linkRing (fcLink f.fc)) = true := (State.mlWrites_congr hcfg).trans h.writes
  have hspace : v.ringRoom (linkRing (fcLink f.fc)) ≠ 0 := by
    rw [State.ringRoom_congr hcfg hrings]
    exact hroom
  have hstored : v.Stored (v.mlItem (linkRing (fcLink f.fc)) [w]) (linkRing (fcLink f.fc)) w :=
    State.mlItem_word hwrites hspace (show w.s = true from rfl)
  have hput : v.ItemsPut (v.mlItem (linkRing (fcLink f.fc)) [w]) := (State.ItemsPut.refl v).mlItem _ _
  have hword : v.rxFollow (x.place x.next (segFirst seg) [rword d] s1.ticks) 128 = (v.mlItem (linkRing x.link) [w], y) :=
    State.rxFollow_word (w := rword d) h.ahead hitem hgap (fun h0 => h.link (hlink.symm.trans h0)) hlen v _ _ (by decide)
  have hfollow : v.rxSeg x (fcDst f.fc) seg = (v.mlItem (linkRing (fcLink f.fc)) [w], y) := by
    rw [h.opened hopen hwords hbody hpsn hitem hroom, hword, hlink]
  have hbits : y.sackBits x.next = BitVec.ofNat 37 (2 ^ 36) :=
    MlRxLink.sackBits_first fun i => (MlRxLink.placed_empty (x := y) h.ahead h.lost _).trans (decide_eq_decide.mpr (by
      show x.next + i < x.next + 1 ↔ i = 0
      omega))
  have hexec := h.exec
  rw [hfollow, hbits] at hexec
  obtain ⟨u, hu⟩ : ∃ u, u = v.mlItem (linkRing (fcLink f.fc)) [w] := ⟨_, rfl⟩
  rw [← hu] at hexec hstored hput
  have hwords : (u.ring (linkRing (fcLink f.fc))).words =
      (s.ring (linkRing (fcLink f.fc))).words ++ [{ w with v := true, tick := v.ticks }] := by
    rw [hstored.words, State.ring, hrings]
    rfl
  have hdue : u.ml.sackDue = s1.ml.sackDue := by
    rw [hput.ml]
    exact (congrArg (fun v : State => v.ml.sackDue) htells.eq :)
  have hticks : u.ticks = s1.ticks := (congrArg State.ticks hput.only :).trans htells.ticks
  have htaken := State.rxTaken_eq (x := y) (show y.src ≠ 0x7F from hsrc ▸ h.src) h.unicast u (BitVec.ofNat 37 (2 ^ 36))
  rw [htaken, hticks] at hexec
  refine ⟨_, _, hexec, (htells.mlFrame.trans hput.mlFrame).modMl _, hwords, congrArg (mlHeader d) hsrc, rfl, rfl, rfl, ?_, rfl⟩
  rw [State.modMl_ml, hdue]

end Sys2Proof.Machine
end

section
/-! PROOF. A message in one segment, a segment given up, and a control frame (R234, R243 to R245, R248). -/

open Sys2Proof Sys2Proof.Machine

namespace Sys2Proof.Machine

variable {s s1 t u : State} {dt : Nat} {f : MlFrame} {x y : MlRxLink} {seg : List Word} {c : List Byte}

/-! ### Bytes and ring words -/

/-- The bytes of a ring word, the first in [63:56]. -/
theorem wordBytes_big (d : DWord) : wordsBytes (bigWords 2 d) =
    [d.extractLsb' 56 8, d.extractLsb' 48 8, d.extractLsb' 40 8, d.extractLsb' 32 8, d.extractLsb' 24 8, d.extractLsb' 16 8,
      d.extractLsb' 8 8, d.extractLsb' 0 8] := by
  have hsub : ∀ i k : Nat, k + 8 ≤ 32 → (d.extractLsb' i 32).extractLsb' k 8 = d.extractLsb' (i + k) 8 := fun i k hk => by
    ext j hj
    have hin : k + j < 32 := by omega
    rw [BitVec.getElem_extractLsb', BitVec.getElem_extractLsb', BitVec.getLsbD_extractLsb', decide_eq_true hin, Bool.true_and,
      Nat.add_assoc]
  show [(d.extractLsb' 32 32).extractLsb' 24 8, (d.extractLsb' 32 32).extractLsb' 16 8, (d.extractLsb' 32 32).extractLsb' 8 8,
    (d.extractLsb' 32 32).extractLsb' 0 8, (d.extractLsb' 0 32).extractLsb' 24 8, (d.extractLsb' 0 32).extractLsb' 16 8,
    (d.extractLsb' 0 32).extractLsb' 8 8, (d.extractLsb' 0 32).extractLsb' 0 8] = _
  simp only [hsub _ _ (by decide : 24 + 8 ≤ 32), hsub _ _ (by decide : 16 + 8 ≤ 32), hsub _ _ (by decide : 8 + 8 ≤ 32),
    hsub _ _ (by decide : 0 + 8 ≤ 32)]

/-- A byte shifted in stands lowest. -/
theorem shiftIn_low (w : DWord) (b : Byte) : ((w <<< 8) ||| b.setWidth 64).extractLsb' 0 8 = b := by
  ext i hi
  simp [hi]
  omega

/-- The bytes before it have moved up. -/
theorem shiftIn_high (w : DWord) (b : Byte) {k : Nat} (hlow : 8 ≤ k) (hk : k + 8 ≤ 64) :
    ((w <<< 8) ||| b.setWidth 64).extractLsb' k 8 = w.extractLsb' (k - 8) 8 := by
  ext i hi
  have hup : ¬ k + i < 8 := by omega
  have hin : k + i < 64 := by omega
  have hback : k + i - 8 = k - 8 + i := by omega
  have hbyte : b.getLsbD (k + i) = false := BitVec.getLsbD_of_ge _ _ (by omega)
  rw [BitVec.getElem_extractLsb', BitVec.getElem_extractLsb', BitVec.getLsbD_or, BitVec.getLsbD_shiftLeft, BitVec.getLsbD_setWidth,
    hbyte, decide_eq_false hup, decide_eq_true hin, hback]
  simp

theorem packBytes_bytes (a b c d e g h i : Byte) (r : List Byte) :
    wordsBytes (bigWords 2 (packBytes (a :: b :: c :: d :: e :: g :: h :: i :: r))) = [a, b, c, d, e, g, h, i] := by
  have hpack : packBytes (a :: b :: c :: d :: e :: g :: h :: i :: r) =
      [a, b, c, d, e, g, h, i].foldl (fun (w : DWord) (x : Byte) => (w <<< 8) ||| x.setWidth 64) 0 := rfl
  rw [wordBytes_big, hpack]
  simp (disch := decide) only [List.foldl_cons, List.foldl_nil, shiftIn_low, shiftIn_high, Nat.reduceSub]

/-- Whole ring words give their bytes back. -/
theorem ringBytes_pack : ∀ (n : Nat) (bs : List Byte), bs.length = 8 * n →
    ringBytes ((List.range n).map fun i => rword (packBytes (bs.drop (8 * i)))) = bs
  | 0, bs, h => (List.eq_nil_of_length_eq_zero h).symm
  | n + 1, bs, h => by
    match bs, h with
    | a :: b :: c :: d :: e :: g :: i :: j :: r, h =>
      have hr : r.length = 8 * n := by
        simp only [List.length_cons] at h
        omega
      have hrest := ringBytes_pack n r hr
      have hdrop : ∀ k, (a :: b :: c :: d :: e :: g :: i :: j :: r).drop (8 * (k + 1)) = r.drop (8 * k) := fun k => by
        rw [Nat.mul_add, Nat.add_comm, ← List.drop_drop]
        rfl
      rw [List.range_succ_eq_map, List.map_cons, List.map_map, Nat.mul_zero, List.drop_zero]
      have hmap : (List.range n).map ((fun k => rword (packBytes ((a :: b :: c :: d :: e :: g :: i :: j :: r).drop (8 * k)))) ∘ Nat.succ) =
          (List.range n).map fun k => rword (packBytes (r.drop (8 * k))) :=
        List.map_congr_left fun k _ => by rw [Function.comp, Nat.succ_eq_add_one, hdrop]
      have hcons : ∀ (w : RWord) (ws : List RWord), ringBytes (w :: ws) = wordsBytes (bigWords 2 w.data) ++ ringBytes ws := fun w ws => by
        rw [ringBytes, ringBytes, wordsBytes, wordsBytes, wordsBytes, List.flatMap_cons, List.flatMap_append]
      rw [hmap, hcons, hrest]
      exact congrArg (· ++ r) (packBytes_bytes a b c d e g i j r)

theorem segBody_length (h : segCrcOk seg = true) : (segBody seg).length = 504 := by
  rw [segCrcOk, Bool.and_eq_true, beq_iff_eq] at h
  have hbytes : ∀ ws : List Word, (wordsBytes ws).length = 4 * ws.length := fun ws => by
    induction ws with
    | nil => rfl
    | cons w ws ih =>
      rw [wordsBytes, List.flatMap_cons, List.length_append]
      rw [wordsBytes] at ih
      rw [ih, List.length_cons]
      show 4 + 4 * ws.length = _
      omega
  rw [segBody, hbytes, List.length_take, List.length_drop, h.1]
  decide

/-- The words that a segment says it holds give back the first bytes of its body. -/
theorem ringBytes_bodyWords {body : List Byte} (hlen : body.length = 504) {n : Nat} (hn : n ≤ 63) :
    ringBytes ((bodyWords body n).map rword) = body.take (8 * n) := by
  have htake : (body.take (8 * n)).length = 8 * n := by
    rw [List.length_take, hlen]
    omega
  have hcount : ((body.take (8 * n)).length + 7) / 8 = n := by omega
  have hwords : (bodyWords body n).map rword = (List.range n).map fun i => rword (packBytes ((body.take (8 * n)).drop (8 * i))) := by
    rw [bodyWords, bytesToWords, hcount, List.take_of_length_le (by rw [List.length_map, List.length_range]), List.map_map]
    rfl
  rw [hwords, ringBytes_pack n _ htake]

end Sys2Proof.Machine
end

section
/-! PROOF. A message in one segment, a segment given up, and a control frame (R234, R243 to R245, R248). -/

open Sys2Proof Sys2Proof.Machine

namespace Sys2Proof.Machine

variable {s s1 t u : State} {dt : Nat} {f : MlFrame} {x y : MlRxLink} {seg : List Word} {c : List Byte} {mt : Byte}

/-! ### A message (R245) -/

/-- Words that begin with a whole message hold it. -/
theorem msgDone_whole {item : List RWord} (hlen : c.length < 65536)
    (h : (ringBytes item).take (c.length + 4) = [mt, 0] ++ halfBytes (BitVec.ofNat 16 c.length) ++ c) : msgDone item = some (mt, c) := by
  obtain ⟨r, hr⟩ : ∃ r, ringBytes item = [mt, 0] ++ halfBytes (BitVec.ofNat 16 c.length) ++ c ++ r :=
    ⟨_, by rw [← h, List.take_append_drop]⟩
  have hcount : bytesNat (ringBytes item) 2 2 = c.length := by
    rw [hr]
    show (0 * 256 + ((BitVec.ofNat 16 c.length).extractLsb' 8 8).toNat) * 256 + ((BitVec.ofNat 16 c.length).extractLsb' 0 8).toNat = _
    rw [Nat.zero_mul, Nat.zero_add, halfBytes_join, BitVec.toNat_ofNat, Nat.mod_eq_of_lt hlen]
  have htotal : (ringBytes item).length = 4 + c.length + r.length := by
    rw [hr]
    simp [halfBytes_length]
    omega
  have hcontent : ((ringBytes item).drop 4).take c.length = c := by
    rw [hr]
    show (c ++ r).take c.length = c
    exact List.take_left' rfl
  have hhead : (ringBytes item).getD 0 0 = mt := by
    rw [hr]
    rfl
  rw [msgDone, hcount, hcontent, hhead, htotal, if_pos ⟨by omega, by omega⟩]

/-- A message that the next segment of a link holds whole is taken. -/
theorem State.takeMsg_whole {first : BitVec 6} {ws : List RWord} {now : Nat} (hitem : x.item = []) (hahead : x.ahead = [])
    (hlink : x.link = 0) (hmsg : msgDone ws = some (mt, c)) (s : State) :
    s.takeMsg (x.place x.next first ws now) 128 = ({ x with next := x.next + 1, since := now }, some (mt, c)) := by
  obtain ⟨src, bc, link, next, ahead, lost, item, gap, since⟩ := x
  dsimp only at hitem hahead hlink
  subst hitem hahead hlink
  have hnone : msgDone [] = none := rfl
  have hnext : s.rxNext { src := src, bc := bc, link := 0, next := next, ahead := [(next, first, ws)], lost := lost, gap := gap, since := now } =
      some (s, { src := src, bc := bc, link := 0, next := next + 1, lost := lost, item := ws, gap := gap, since := now }) := by
    rw [State.rxNext]
    simp only [List.find?_cons, beq_self_eq_true, List.filter_cons, bne_self_eq_false, List.filter_nil, Bool.false_eq_true, if_false]
    exact congrArg some (if_pos trivial)
  show s.takeMsg { src := src, bc := bc, link := 0, next := next, ahead := [(next, first, ws)], lost := lost, gap := gap, since := now }
    128 = _
  rw [State.takeMsg, hnone]
  dsimp only
  rw [hnext]
  dsimp only
  rw [State.takeMsg, hmsg]

theorem management_brings (ha : s.accepts 2 dt f s1) (hme : s1.forMe f.fc = true) (hdst : fcDst f.fc ≠ 0x7F) (hsrc : fcSrc f.fc ≠ 0x7F)
    (hsegs : f.segs = [seg]) (hcrc : segCrcOk seg = true) (hopen : mtypeOpen mt = true)
    (hfound : s1.ml.rx.find? (fun x => x.src == fcSrc f.fc && x.link == 0 && x.bc == false) = some x) (hitem : x.item = [])
    (hahead : x.ahead = []) (hlost : x.lost = []) (hfirst : segSeq seg = fcSeq f.fc) (hnext : fcSeq f.fc = BitVec.ofNat 8 x.next)
    (hfits : c.length + 4 ≤ 8 * segWords seg)
    (hbody : (segBody seg).take (c.length + 4) = [mt, 0] ++ halfBytes (BitVec.ofNat 16 c.length) ++ c) :
    ∃ s2 : State, s.brings mt dt f s2 (fcSrc f.fc) c ∧ s2 = { s1 with ml := s2.ml } ∧
      s2.ml.sackDue = s1.ml.sackDue ++
        [⟨fcSrc f.fc, fcSeq f.fc, BitVec.ofNat 37 (2 ^ 36), f.negated, s1.ticks + ticksOf 100⟩] := by
  obtain ⟨hxsrc, hxlink, -⟩ := rxFind_names hfound
  have hwords : segWords seg ≤ 63 := Nat.le_of_lt_succ (bits_lt _ _ 6)
  have hbc : (fcDst f.fc == 0x7F) = false := by simpa using hdst
  have hmsg : msgDone ((bodyWords (segBody seg) (segWords seg)).map rword) = some (mt, c) := by
    refine msgDone_whole (by omega) ?_
    rw [ringBytes_bodyWords (segBody_length hcrc) hwords, List.take_take, Nat.min_eq_left hfits, hbody]
  have hpn : x.pnOf (fcSeq f.fc) = x.next := MlRxLink.pnOf_next hnext
  have hnew : x.placed x.next = false := (MlRxLink.placed_empty hahead hlost _).trans (decide_eq_false (Nat.lt_irrefl _))
  have hbits : (x.place x.next 63 ((bodyWords (segBody seg) (segWords seg)).map rword) s1.ticks).sackBits x.next =
      BitVec.ofNat 37 (2 ^ 36) := MlRxLink.sackBits_first (MlRxLink.placed_place hahead hlost _ _ _)
  have htake := State.mgmtTake_one (s := s1) (clear := mtypeOpen mt) hsegs (State.rxLink_found (by rw [hbc]; exact hfound)) hfirst hpn
    hcrc hnew (if_pos hopen) rfl (State.takeMsg_whole hitem hahead hxlink hmsg s1)
  rw [hbits] at htake
  have htaken := State.rxTaken_eq (x := { x with next := x.next + 1, since := s1.ticks }) (hxsrc ▸ hsrc) hdst s1 (BitVec.ofNat 37 (2 ^ 36))
  have hbrings : s.brings mt dt f (s1.rxTaken f { x with next := x.next + 1, since := s1.ticks } (BitVec.ofNat 37 (2 ^ 36)))
      (fcSrc f.fc) c := fun k => by
    rw [State.mgmtFrame, State.rxFrame_accepts ha, if_pos hme, htake]
    exact if_pos rfl
  rw [htaken] at hbrings
  exact ⟨_, hbrings, rfl, rfl⟩

/-! ### A segment given up (R244) -/

/-- A link whose next segment, in the middle of an item, was given up. -/
def MlRxLink.givenUp (x : MlRxLink) (now : Nat) : MlRxLink :=
  { x with next := x.next + 1, lost := (x.next :: x.lost).take 128, item := [], since := now
           gap := some (true, itemLength ((x.item.headD {}).data) - x.item.length - 62) }

theorem State.rxLose_item (hitem : x.item ≠ []) (hgap : x.gap = none) (hlink : x.link ≠ 0) (s : State) (now : Nat) :
    s.rxLose { x with since := now } = (s.lostItem, x.givenUp now) := by
  obtain ⟨w, ws, hws⟩ := List.exists_cons_of_ne_nil hitem
  rw [State.rxLose]
  dsimp only
  rw [if_neg hlink, hgap, hws, MlRxLink.givenUp, hws]

/-- The segment given up is not placed. -/
theorem MlRxLink.givenUp_placed (hahead : x.ahead = []) (now : Nat) : (x.givenUp now).placed x.next = false := by
  simp [MlRxLink.placed, MlRxLink.givenUp, hahead]

theorem segmentGiveUp_exec {src : BitVec 7} {link : BitVec 4} {bc : Bool} (hup : s.mlUp = true)
    (hfound : s.ml.rx.find? (fun x => x.src == src && x.link == link && x.bc == bc) = some x) (hahead : x.ahead = [])
    (hitem : x.item ≠ []) (hgap : x.gap = none) (hlink : x.link ≠ 0) :
    exec (.segmentGiveUp src link bc) s = .next ((s.advanceTo (x.since + ticksOf 500000)).lostItem.setRxLink
      (x.givenUp (s.advanceTo (x.since + ticksOf 500000)).ticks)) := by
  have hgo : (s.mlUp && (!x.ahead.isEmpty || !x.item.isEmpty)) = true := by
    rw [hup, hahead]
    simpa using hitem
  refine congrArg Host.Outcome.next ?_
  rw [hfound]
  dsimp only
  rw [if_pos hgo, State.rxLose_item hitem hgap hlink, usTicks_eq]
  dsimp only
  rw [State.rxFollow_end (x := x.givenUp _) hahead]

theorem segmentGiveUp_counts {src : BitVec 7} {link : BitVec 4} {bc : Bool} (hwf : s.regsWf) (hup : s.mlUp = true)
    (hfound : s.ml.rx.find? (fun x => x.src == src && x.link == link && x.bc == bc) = some x) (hahead : x.ahead = [])
    (hitem : x.item ≠ []) (hgap : x.gap = none) (hlink : link ≠ 0) (hsrc : src ≠ 0x7F) :
    ∃ (t : State) (y : MlRxLink), exec (.segmentGiveUp src link bc) s = .next t ∧
      t = { s.advanceTo (x.since + ticksOf 500000) with regs := t.regs, ml := t.ml } ∧
      t.fld ML_CNT1 16 16 = min (s.fld ML_CNT1 16 16 + 1) 65535 ∧ t.ml.rx.head? = some y ∧ y.next = x.next + 1 ∧ y.item = [] ∧
      y.placed x.next = false := by
  obtain ⟨hxsrc, hxlink, -⟩ := rxFind_names hfound
  have hexec := segmentGiveUp_exec hup hfound hahead hitem hgap (hxlink ▸ hlink)
  generalize hdue : s.advanceTo (x.since + ticksOf 500000) = v at hexec
  rw [State.setRxLink_kept (x := x.givenUp v.ticks) (show x.src ≠ 0x7F from hxsrc ▸ hsrc)] at hexec
  have hvwf : v.regsWf := by
    rw [← hdue, State.regsWf, State.advanceTo_regs]
    exact hwf
  have hcnt : v.fld ML_CNT1 16 16 = s.fld ML_CNT1 16 16 := by
    rw [← hdue]
    exact State.fld_congr (State.advanceTo_reg_acc s _ ML_CNT1) 16 16
  refine ⟨_, x.givenUp v.ticks, hexec, rfl, ?_, rfl, rfl, rfl, MlRxLink.givenUp_placed hahead _⟩
  exact (State.fld_countFld_same hvwf ML_CNT1 (by omega) 1).trans (by rw [hcnt]; rfl)

/-! ### A control frame (R248) -/

/-- A frame of the head carries a STOP that `opened` gives on the link `x`. -/
structure State.Controls (s s1 : State) (dt : Nat) (f : MlFrame) (x : MlRxLink) : Prop where
  heard : s.accepts 5 dt f s1
  up : s1.mlUp = true
  mine : s1.forMe f.fc = true
  head : fcSrc f.fc = 0
  crc : segCrcOk (f.segs.headD []) = true
  found : s1.ml.rx.find? (fun x => x.src == 0 && x.link == 0 && x.bc == (fcDst f.fc == 0x7F)) = some x

namespace State.Controls

/-- The PN that the segment names. -/
def pn (f : MlFrame) (x : MlRxLink) : Nat := x.pnOf (segSeq (f.segs.headD []))

/-- The segment as the head's keys open it. -/
def opened (s1 : State) (f : MlFrame) (x : MlRxLink) : Option (List Byte) :=
  mlOpen 0 (fcDst f.fc) 0 (pn f x) (f.segs.headD []) (s1.mlKeys 0 (fcDst f.fc == 0x7F))

/-- The STOP that a new PN brings. -/
def stops (s1 : State) (f : MlFrame) (x : MlRxLink) (body : List Byte) : State :=
  ((s1.rxFollow (x.place (pn f x) 63 [] s1.ticks) 128).1.setRxLink (s1.rxFollow (x.place (pn f x) 63 [] s1.ticks) 128).2).stopAll 3
    (BitVec.ofNat 32 (bytesNat body 0 4)) ((body.getD 4 0).getLsbD 0) ((body.getD 4 0).getLsbD 1)

theorem exec (h : s.Controls s1 dt f x) :
    (opened s1 f x = none → Machine.exec (.controlFrame dt f) s = .next (s1.countFld ML_CNT0 0 16 1)) ∧
    ∀ body, opened s1 f x = some body → Machine.exec (.controlFrame dt f) s =
      .next (if pn f x < x.next ∨ x.placed (pn f x) = true then s1 else stops s1 f x body) := by
  have hgo : ¬ (!s1.mlUp || !s1.forMe f.fc || !(fcSrc f.fc == 0 || (bit (s1.reg ML_CFG) 27 && s1.admitted (fcSrc f.fc))) ||
      !segCrcOk (f.segs.headD [])) = true := by
    rw [h.up, h.mine, h.head, h.crc]
    simp
  have hlink : s1.rxLink f.fc 0 = (x, s1) := State.rxLink_found (by rw [h.head]; exact h.found)
  obtain ⟨-, -, hbc⟩ := rxFind_names h.found
  constructor
  · intro hopen
    rw [opened, pn] at hopen
    refine congrArg Host.Outcome.next ((State.rxFrame_accepts h.heard _).trans ((if_neg hgo).trans ?_))
    rw [hlink]
    dsimp only
    rw [h.head, hbc, hopen]
  · intro body hopen
    rw [opened, pn] at hopen
    refine congrArg Host.Outcome.next ((State.rxFrame_accepts h.heard _).trans ((if_neg hgo).trans ?_))
    rw [hlink]
    dsimp only
    rw [h.head, hbc, hopen]
    rfl

theorem stops_only (hwf : s1.regsWf) (h : s.Controls s1 dt f x) {body : List Byte} (hmute : (body.getD 4 0).getLsbD 0 = false)
    (hhold : (body.getD 4 0).getLsbD 1 = true) :
    stops s1 f x body = { s1 with
      regs := (stops s1 f x body).regs, threads := (stops s1 f x body).threads, ml := (stops s1 f x body).ml } ∧
    ((stops s1 f x body).reg AIR_CTRL).getLsbD 0 = true ∧
    ∀ k : Tid, (stops s1 f x body).th k = if (bytesNat body 0 4).testBit k.val then (s1.th k).halt 3 else s1.th k := by
  obtain ⟨hsrc, hlink, -⟩ := rxFind_names h.found
  obtain ⟨hkept, hnames⟩ := State.rxFollow_link0 128 (x := x.place (pn f x) 63 [] s1.ticks) hlink s1
  rw [stops, hkept, State.setRxLink_kept (by rw [hnames]; exact hsrc.trans_ne (by decide)), hmute, hhold]
  generalize (s1.rxFollow (x.place (pn f x) 63 [] s1.ticks) 128).2 = z
  obtain ⟨v, hv⟩ : ∃ v, v = s1.modMl fun m => { m with
    rx := z :: m.rx.filter fun y => !(y.src == z.src && y.link == z.link && y.bc == z.bc) } := ⟨_, rfl⟩
  rw [← hv]
  obtain ⟨hhalts, hth⟩ := State.foldl_haltMasked 3 (BitVec.ofNat 32 (bytesNat body 0 4)) (List.finRange 32) v (List.nodup_finRange 32)
  have hstop : v.stopAll 3 (BitVec.ofNat 32 (bytesNat body 0 4)) false true =
      ((List.finRange 32).foldl (fun s t => if (BitVec.ofNat 32 (bytesNat body 0 4)).getLsbD t.val then s.haltTh t 3 else s) v).setFld
        AIR_CTRL 0 1 1 := rfl
  rw [hstop]
  generalize (List.finRange 32).foldl (fun s t => if (BitVec.ofNat 32 (bytesNat body 0 4)).getLsbD t.val then s.haltTh t 3 else s) v = u
    at hhalts hth
  have huwf : u.regsWf := by
    rw [hhalts, hv]
    exact hwf
  refine ⟨?_, ?_, fun k => ?_⟩
  · rw [hhalts, hv]
    rfl
  · rw [State.reg_setFld_same huwf, getLsbD_withBits _ _ _ _ _ (by decide)]
    rfl
  · have hmask : (BitVec.ofNat 32 (bytesNat body 0 4)).getLsbD k.val = (bytesNat body 0 4).testBit k.val := by
      rw [BitVec.getLsbD_ofNat, decide_eq_true k.isLt, Bool.true_and]
    have hsame : v.th k = s1.th k := by rw [hv]; rfl
    have hk := hth k
    rw [hmask, hsame] at hk
    refine hk.trans ?_
    simp

theorem unopened (hwf : s.regsWf) (h : s.Controls s1 dt f x) (hopen : opened s1 f x = none) :
    ∃ t : State, Machine.exec (.controlFrame dt f) s = .next t ∧ t = { s1 with regs := t.regs } ∧
      t.fld ML_CNT0 0 16 = min (s.fld ML_CNT0 0 16 + 1) 65535 := by
  have hcnt : s1.fld ML_CNT0 0 16 = s.fld ML_CNT0 0 16 := State.fld_congr (State.accepts_reg h.heard (by decide) (by decide)) 0 16
  exact ⟨_, h.exec.1 hopen, rfl,
    (State.fld_countFld_same (State.accepts_wf h.heard hwf) ML_CNT0 (by omega) 1).trans (by rw [hcnt]; rfl)⟩

end State.Controls

end Sys2Proof.Machine
end

section
/-! PROOF. The frames of the mains link together (R232 to R238, R242 to R244, R248). -/

open Sys2Proof Sys2Proof.Machine

namespace Sys2Proof.Machine

variable {s s1 t u : State} {dt pos slotEnd n : Nat} {x : MlTx} {l : MlLoad} {f : MlFrame}

/-- A frame whose FCCRC fails does nothing, whatever its type (R235). -/
theorem frames_ignored (hbad : fcOk f.fc = false) : ∀ c ∈ [Instr.beacon dt f, .dataFrame dt f, .sack dt f, .sounding dt f,
    .controlFrame dt f, .tmap dt f, .soundReq dt f, .allocReq dt f, .key dt f, .leave dt f, .assocReq dt f, .assocRsp dt f,
    .assocConf dt f, .pairReq dt f, .pairRsp dt f, .pairConf dt f], exec c s = .next (s.advance dt) := by
  simp only [List.forall_mem_cons, List.not_mem_nil, false_imp_iff, implies_true, and_true]
  refine ⟨?_, ?_, ?_, ?_, ?_, ?_, ?_, ?_, ?_, ?_, ?_, ?_, ?_, ?_, ?_, ?_⟩
  all_goals exact congrArg Host.Outcome.next (State.rxFrame_bad hbad s _ dt _)

/-- A data frame at its opportunity: what it carries, and what stands after it. -/
theorem data_sent {k : Fin 16} {key : BitVec 128 × Byte} {keys : List (BitVec 128 × Byte)} {dst : BitVec 7} {link : BitVec 4}
    (hs1 : s1 = s.advance dt) (hkind : x.kind = .data k) (hbad : x.bad = []) (hopen : s1.opens false pos slotEnd)
    (hd : (s1.reg (ML_LINK k)).extractLsb' 8 7 = dst) (hl : (s1.reg (ML_LINK k)).extractLsb' 0 4 = link)
    (hcarries : s1.mlCarries k = true) (hdst : dst ≠ 0x7F) (hst : 3 ≤ s1.ml.st.toNat) (hup : s1.peerUp dst = true)
    (hkeys : s1.mlKeys dst false = key :: keys) (hy : (s1.txLink dst link).out = []) (hpn : pnSpent (s1.txLink dst link).pn = false)
    (h0 : 0 < s1.mlReady (egRing k)) (h62 : s1.mlReady (egRing k) ≤ 62)
    (hpick : s1.pickLoad pos slotEnd 1 true (s1.loadsFor dst (s1.mlNotch dst) pos) = some (l, n)) :
    ∃ (t : State) (b : MlSent) (g : MlOut) (due : Nat), exec (.mlFrameTransmit dt x) s = .next t ∧
      t = { s1 with rings := t.rings, ml := t.ml } ∧
      (t.ring (egRing k)).words = (s1.ring (egRing k)).words.drop (s1.mlReady (egRing k)) ∧
      (∀ m, m ≠ egRing k → t.ring m = s1.ring m) ∧ (t.txLink dst link).out = [g] ∧ g.tries = 1 ∧ g.pn = (s1.txLink dst link).pn ∧
      g.seg = s1.dataSeg (s1.txLink dst link) key ((s1.ring (egRing k)).words.take (s1.mlReady (egRing k))) ∧
      (t.txLink dst link).pn = (s1.txLink dst link).pn + 1 ∧ t.ml.onAir = some ⟨dst, link, [(s1.txLink dst link).pn], due⟩ ∧
      t.ml.sent = some b ∧ b.segs = [g.seg] ∧ fcOk b.fc = true ∧ fcType b.fc = 1 ∧ fcSrc b.fc = s1.mlSrc ∧ fcDst b.fc = dst ∧
      fcLink b.fc = link ∧ fcTmi b.fc = l.tmi ∧ fcSeq b.fc = BitVec.ofNat 8 (s1.txLink dst link).pn ∧
      fcNsym b.fc = l.symbols 1 % 1024 := by
  obtain ⟨u, t, hexec, hu, ht⟩ := data_sends hs1 hkind hbad hopen hd hl hcarries hdst hst hup hkeys hy hpn h0 h62 hpick
  generalize s1.dataSeg (s1.txLink dst link) key ((s1.ring (egRing k)).words.take (s1.mlReady (egRing k))) = seg at ht
  obtain ⟨hyd, hyl⟩ := s1.txLink_names dst link
  generalize s1.txLink dst link = y at *
  obtain ⟨ydst, ylink, ypn, yout⟩ := y
  dsimp only at hyd hyl ht
  subst hyd hyl
  obtain ⟨honly, hlink, -, ⟨due, hair⟩, ⟨notch, hsent⟩⟩ := ht
  have hring : ∀ m, t.ring m = u.ring m := fun m => by rw [honly]; rfl
  have hsrc : u.mlSrc = s1.mlSrc := by rw [hu.only]; rfl
  have htonly : t = { s1 with rings := t.rings, ml := t.ml } := by
    rw [honly]
    exact (congrArg (fun v : State => { v with ml := t.ml }) hu.only :)
  refine ⟨t, _, ⟨ypn, 0 + 1, seg⟩, due, hexec, htonly, (hring _).symm ▸ hu.words, fun m hm => (hring m).trans (hu.others m hm),
    congrArg MlTxLink.out hlink, rfl, rfl, rfl, congrArg MlTxLink.pn hlink, hair, hsent, rfl, fcOk_mlFc _ _ _ _ _ _ _ _ _ _,
    fcType_mlFc _ _ _ _ _ _ _ _ _ _, (fcSrc_mlFc _ _ _ _ _ _ _ _ _ _).trans hsrc, fcDst_mlFc _ _ _ _ _ _ _ _ _ _,
    fcLink_mlFc _ _ _ _ _ _ _ _ _ _, fcTmi_mlFc _ _ _ _ _ _ _ _ _ _, fcSeq_mlFc _ _ _ _ _ _ _ _ _ _,
    fcNsym_mlFc _ _ _ _ _ _ _ _ _ _⟩

/-- A message at its opportunity. -/
theorem message_sent {mt : Byte} {c : List Byte} {rest : List (BitVec 7 × Byte × List Byte)} {dst : BitVec 7} (hs1 : s1 = s.advance dt)
    (hkind : x.kind = .management) (hopens : s1.opens true pos slotEnd) (hidle : ∀ y ∈ s1.ml.tx, y.link = 0 → y.out = [])
    (hmsgs : s1.ml.outMsgs = (dst, mt, c) :: rest) (hdst : dst ≠ 0x7F) (hopen : mtypeOpen mt = true) (hlen : c.length ≤ 500)
    (hpn : pnSpent (s1.txLink dst 0).pn = false)
    (hpick : s1.pickLoad pos slotEnd 1 true [s1.robust (s1.mlNotch dst)] = some (l, n)) :
    ∃ (t : State) (b : MlSent) (g : MlOut) (due : Nat), exec (.mlFrameTransmit dt x) s = .next t ∧ t = { s1 with ml := t.ml } ∧
      t.ml.outMsgs = rest ∧ (t.txLink dst 0).out = [g] ∧ g.pn = (s1.txLink dst 0).pn ∧
      g.seg = segPlain (segHead g.pn ((c.length + 11) / 8) 63 false) ([mt, 0] ++ halfBytes (BitVec.ofNat 16 c.length) ++ c) ∧
      t.ml.onAir = some ⟨dst, 0, [g.pn], due⟩ ∧ t.ml.sent = some b ∧ b.segs = [g.seg] ∧ fcType b.fc = 2 ∧ fcDst b.fc = dst := by
  obtain ⟨u, t, hexec, hu, hrest, ht⟩ := message_sends hs1 hkind hopens hidle hmsgs hdst hopen hlen hpn hpick
  obtain ⟨hyd, hyl⟩ := s1.txLink_names dst 0
  generalize s1.txLink dst 0 = y at *
  generalize hseg : segPlain (segHead y.pn ((c.length + 11) / 8) 63 false) ([mt, 0] ++ halfBytes (BitVec.ofNat 16 c.length) ++ c) = seg
    at ht
  obtain ⟨ydst, ylink, ypn, yout⟩ := y
  dsimp only at hyd hyl ht hseg
  subst hyd hyl
  obtain ⟨honly, hlink, hmsgs', ⟨due, hair⟩, ⟨notch, hsent⟩⟩ := ht
  have htonly : t = { s1 with ml := t.ml } := by
    rw [honly]
    exact (congrArg (fun v : State => { v with ml := t.ml }) hu :)
  exact ⟨t, _, ⟨ypn, 0 + 1, seg⟩, due, hexec, htonly, hmsgs'.trans hrest, congrArg MlTxLink.out hlink, rfl, hseg.symm, hair, hsent, rfl,
    fcType_mlFc _ _ _ _ _ _ _ _ _ _, fcDst_mlFc _ _ _ _ _ _ _ _ _ _⟩

end Sys2Proof.Machine

open Sys2Proof Sys2Proof.Machine

/-- Settles O43, one command at a time. That a message starts a segment of its own is assumption 46; the robust map, the byte
of flags in a control frame and the layout of TMAP are assumption 47; the MIC counter is R245's and R247's. -/
theorem mainsFramesAreSentAndAcknowledged : Obligations.MainsFramesAreSentAndAcknowledged := by
  intro s hwf
  refine ⟨fun dt f hbad => frames_ignored hbad, fun dt x hsend => transmit_held x hsend,
    fun dt x s1 pos slotEnd hs1 => ⟨fun k key keys l n hkind hbad hopens => ?_,
      fun dst mt c rest l n hkind hopens hidle hmsgs hdst hopen hlen hpn hpick => ?_, fun k ks hkind hsend hdue => ?_,
      fun p ps hkind hopens => ?_⟩,
    fun dt f s1 a ha hair hsrc hme => sack_settles ha hair hsrc hme, fun a hruns hair => sackMissing_settles hruns hair,
    fun dt f s1 ha hup hme hlink hdst => ⟨fun hno => dataFrame_unwritten hwf ha hup hme hlink hdst hno, ?_⟩,
    fun mt dt f s1 seg x c ha hme hdst hsrc hsegs hcrc hopen hfound hitem hahead hlost hfirst hnext hfits hbody =>
      management_brings ha hme hdst hsrc hsegs hcrc hopen hfound hitem hahead hlost hfirst hnext hfits hbody,
    fun src link bc x hup hfound hahead hitem hgap hlink hsrc => segmentGiveUp_counts hwf hup hfound hahead hitem hgap hlink hsrc,
    fun p r m v hm hv => buildMap_best hm hv,
    fun dt f s1 p start ha hup hme hp hpup hstart hlevel => sounding_measures ha hup hme hp hpup hstart hlevel,
    fun src p hup hp hpup => tmapPeriodExpiry_sends hup hp hpup,
    fun dt f s1 src c p hup hp hpup => ⟨fun h => tmap_keeps h hup hp hpup, fun h => soundReq_keeps h hup hp hpup,
      fun h hst => allocReq_keeps h hup hst hp hpup⟩,
    fun dt f s1 x ha hup hme hhead => ?_⟩
  · intro w dst link y q j hcarries hdst hst hup hkeys hy hpn h0 h62 hpick
    obtain ⟨tk, tb, hv⟩ : ∃ tk tb, s.advance dt = { s with ticks := tk, tb := tb } := ⟨_, _, s.advance_only dt⟩
    rw [hv] at hs1
    subst hs1
    exact data_sent hv.symm hkind hbad hopens rfl rfl hcarries hdst hst hup hkeys hy hpn h0 h62 hpick
  · obtain ⟨tk, tb, hv⟩ : ∃ tk tb, s.advance dt = { s with ticks := tk, tb := tb } := ⟨_, _, s.advance_only dt⟩
    rw [hv] at hs1
    subst hs1
    exact message_sent hv.symm hkind hopens hidle hmsgs hdst hopen hlen hpn hpick
  · have hdue' : s1.ml.sackDue = k :: ks := by
      rw [hs1, State.advance_ml]
      exact hdue
    exact sack_sends hs1 hkind hsend hdue'
  · intro r hpeers hreq hfit hclear
    have hpeers' : s1.ml.peers = p :: ps := by
      rw [hs1, State.advance_ml]
      exact hpeers
    exact sounding_sends hs1 hkind hopens hpeers' hreq hfit hclear
  · intro seg x d hwrites hrobust hlevel hpeer hsegs hcrc hfirst hnext hfound hahead hlost hitem hgap hsrc
    have h : s.Brings1 s1 dt f seg x :=
      ⟨ha, hup, hme, hlink, hdst, hwrites, hrobust, hlevel, hpeer, hsegs, hcrc, hfirst, hnext, hfound, hahead, hlost, hsrc⟩
    exact ⟨fun hopen => dataFrame_unopened hwf h hopen, fun body hopen hwords hbody _ hpsn hlen hroom _ =>
      dataFrame_delivers h hopen hwords hbody hpsn hitem hgap hlen hroom⟩
  · intro seg bc pn opened hcrc hfound
    have h : s.Controls s1 dt f x := ⟨ha, hup, hme, hhead, hcrc, hfound⟩
    refine ⟨fun hopen => h.unopened hwf hopen, fun body hopen hold => (h.exec.2 body hopen).trans (by rw [State.Controls.pn, if_pos hold]),
      fun body hopen hnew hplaced hmute hhold => ?_⟩
    have hfresh : ¬ (pn < x.next ∨ x.placed pn = true) := by
      rw [hplaced]
      simpa using hnew
    exact ⟨_, (h.exec.2 body hopen).trans (congrArg _ (if_neg hfresh)), h.stops_only (State.accepts_wf ha hwf) hmute hhold⟩

end
